-- ==== Sys2Proof/Word.lean ====
section
/-! DEFINITION. The 52-bit tagged word of 02 R33–R34 and the words the model is written in. -/

namespace Sys2Proof

/-- A 48-bit payload, R10. -/
abbrev Payload := BitVec 48

/-- A 4-bit tag, R34. -/
abbrev Tag := BitVec 4

/-- A 64-bit container of a word with its check symbols, R53. -/
abbrev Container := BitVec 64

/-- A 42-bit physical sample address, R12 and R13. -/
abbrev PAddr := BitVec 42

/-- The architectural word: a tag in bits [51:48] and a payload in bits [47:0], R10. -/
structure Word where
  tag : Tag
  pay : Payload
  deriving DecidableEq, Repr

namespace Tags
/-- The tags of R34. -/
def uni : Tag := 0x0
def int : Tag := 0x1
def quad : Tag := 0x2
def trio : Tag := 0x3
def pair : Tag := 0x4
def fp : Tag := 0x5
def dec : Tag := 0x6
def bear : Tag := 0x7
def addr : Tag := 0x8
def code : Tag := 0x9
def pte : Tag := 0xA
def desc : Tag := 0xB
def sealT : Tag := 0xC
def raw : Tag := 0xF
end Tags

/-- UNI:0, the word a failed read delivers, R56 and R343. -/
def Word.uni0 : Word := ⟨Tags.uni, 0⟩
/-- A word of tag INT. -/
def Word.int (p : Payload) : Word := ⟨Tags.int, p⟩
/-- A word of tag RAW. -/
def Word.raw (p : Payload) : Word := ⟨Tags.raw, p⟩
/-- A word of tag ADDR. -/
def Word.addr (p : Payload) : Word := ⟨Tags.addr, p⟩
/-- A word of tag BEAR. -/
def Word.bear (p : Payload) : Word := ⟨Tags.bear, p⟩
/-- A word of tag QUAD. -/
def Word.quad (p : Payload) : Word := ⟨Tags.quad, p⟩

/-- Tags that fail every operand check: UNI, 0xD and 0xE, R36. -/
def Tag.poisoned (t : Tag) : Bool := t == 0x0 || t == 0xD || t == 0xE

/-- Tags 0xD and 0xE, reserved by R34. -/
def Tag.reserved (t : Tag) : Bool := t == 0xD || t == 0xE

end Sys2Proof
end

