-- ==== Sys2Proof/Syntax.lean ====
section
/-! DEFINITION. The commands of the block: one constructor per row of spec/opcode_table.json, in the table's
order, with the operands each step needs from outside (a value written, a master, a pin level, a frame). -/

namespace Sys2Proof

/-- A 5-bit register number of a Lantern core, R379. -/
abbrev RegNo := BitVec 5

/-- Privilege levels, R455; their codes are 0, 1 and 2. -/
inductive Level where
  | u | s | m
  deriving DecidableEq, Repr

/-- The two encodings of ADDI, R391 and R392. -/
inductive AddiForm where
  | short (d : RegNo) (imm : BitVec 10)
  | long (d a : RegNo) (imm : BitVec 24)
  deriving DecidableEq, Repr

/-- The two encodings of LW and SW, R391 and R392. -/
inductive MemForm where
  | short (d a : RegNo) (disp : BitVec 5)
  | long (d a : RegNo) (disp : BitVec 24)
  deriving DecidableEq, Repr

/-- The two encodings of JAL, R391 and R392. -/
inductive JalForm where
  | short (disp : BitVec 15)
  | long (disp : BitVec 29)
  deriving DecidableEq, Repr

/-- A PCIe request, R599 to R605: a read of a number of bytes, or a write of bytes, each with its enable. -/
inductive PciOp where
  | rd (n : Nat)
  | wr (bs : List (Option (BitVec 8)))
  deriving DecidableEq, Repr

/-- The claimable resources of the measure-and-drive block, R581. -/
inductive PinRes where
  | adc (c : Fin 32)
  | enc (e : Fin 16)
  | po (o : Fin 64)
  | gpio (g : Fin 48)
  deriving DecidableEq, Repr

/-- Where a trap is taken, R266: at an instruction boundary; inside a microcoded routine, with its micro-address and
micro-temporaries; or at a micro-fetch that fails, R255 (`check` says that a word failed its check). -/
inductive TrapAt where
  | boundary
  | micro (mpc : BitVec 13) (mt0 mt1 : Word)
  | microFault (check : Bool) (mpc : BitVec 13)
  deriving DecidableEq, Repr

/-- The accesses that an A and D update is made for, R505. -/
inductive AdAcc where
  | fetch | load | store | rmw | sealWr | sealRd
  deriving DecidableEq, Repr

/-- The straps sampled on leaving reset: the boot sources BOOTSEL (R617) and the SMBus address SMBA (R634). -/
structure Straps where
  bootsel : BitVec 2
  smba : BitVec 2
  deriving DecidableEq, Repr

/-- The level of an input pin, and for how many GCLK it has been stable, 255 or more counting as 255. -/
structure PinLevel where
  lvl : Bool
  stable : BitVec 8
  deriving DecidableEq, Repr

/-- What a site link trained to, R373: width and rate by their codes. -/
structure SiteLink where
  width : BitVec 2
  rate : BitVec 3
  deriving DecidableEq, Repr

/-- The commands, one per row of the table. -/
inductive Instr where
  /-- TICK_AXIS_UPDATE, R112. -/
  | tickAxisUpdate
  /-- QUAD_COUNT_EDGE, R108. -/
  | quadCountEdge (e : Fin 16) (a b : PinLevel) (ph : Fin 16)
  /-- SSI_POLL, R714. -/
  | ssiPoll (n : Fin 16) (alt : Bool)
  /-- SSI_FRAME_COMPLETE, R714. -/
  | ssiFrameComplete (n : Fin 16) (alt : Bool) (raw : BitVec 48) (low : Bool)
  /-- MAINS_CROSSING, R109. -/
  | mainsCrossing (n : Fin 16) (alt rise : Bool)
  /-- SOURCE_FAULT, R117. -/
  | sourceFault (n : Fin 16)
  /-- COAST_TIMEOUT, R119. -/
  | coastTimeout (n : Fin 16)
  /-- Z_EDGE, R589. -/
  | zEdge (e : Fin 16) (z : PinLevel)
  /-- AXIS_ENABLE, R119. -/
  | axisEnable (n : Fin 16) (v : Payload)
  /-- AXIS_DISABLE, R119. -/
  | axisDisable (n : Fin 16) (v : Payload)
  /-- SETPOS, R120. -/
  | setpos (n : Fin 16) (v : Payload)
  /-- GAZ_ARM, R125. -/
  | gazArm (ix : Fin 65536) (v : Payload)
  /-- GAZ_DISARM, R125. -/
  | gazDisarm (ix : Fin 65536) (v : Payload)
  /-- GAZ_ENTRY_WRITE, R126. -/
  | gazEntryWrite (ix : Fin 65536) (k : Fin 4) (v : Payload)
  /-- GAZ_FIRE, R131. -/
  | gazFire
  /-- COMPARATOR_PULSE_END, R137. -/
  | comparatorPulseEnd (c : Fin 256)
  /-- DEADLINE_MISS, R147. -/
  | deadlineMiss
  /-- GISS, R417. -/
  | giss (n : Fin 16) (d : RegNo) (a : RegNo) (g : Fin 16)
  /-- GISSR, R416. -/
  | gissr (n : Fin 16) (d : RegNo) (a : RegNo) (b : RegNo)
  /-- GISS_JUDGEMENT, R209. -/
  | gissJudgement (g : Fin 16)
  /-- LINKED_DESCRIPTOR_ISSUE, R211. -/
  | linkedDescriptorIssue (g : Fin 16)
  /-- GRESUME, R237. -/
  | gresume (n : Fin 16) (d : RegNo) (g : Fin 16) (sl : RegNo)
  /-- GTLBW, R420. -/
  | gtlbw (n : Fin 16) (g : Fin 16) (a : RegNo) (b : RegNo) (c : RegNo)
  /-- GTLBI, R420. -/
  | gtlbi (n : Fin 16) (g : Fin 16) (a : RegNo)
  /-- GTLBIA, R420. -/
  | gtlbia (n : Fin 16) (g : Fin 16)
  /-- START_BEARING_MET, R220. -/
  | startBearingMet (g : Fin 16) (sl : Fin 32)
  /-- TOKEN_SET_PROPAGATE, R216. -/
  | tokenSetPropagate
  /-- TOKPOST, R215. -/
  | tokpost (g : Fin 16) (v : Payload)
  /-- TOKCLR, R215. -/
  | tokclr (g : Fin 16) (v : Payload)
  /-- SLOT_SELECT, R221. -/
  | slotSelect (g : Fin 16)
  /-- PREEMPT, R222. -/
  | preempt (g : Fin 16)
  /-- RELAY_WORD_RECEIVE, R188. -/
  | relayWordReceive (g : Fin 16) (x : Fin 3)
  /-- ELEMENT_COMMIT, R231. -/
  | elementCommit (g : Fin 16)
  /-- ELEMENT_FAULT, R232. -/
  | elementFault (g : Fin 16) (mt : Option (BitVec 14 × Word × Word))
  /-- INSTRUCTION_COMPLETE, R225. -/
  | instructionComplete (g : Fin 16)
  /-- RETIRE_RECORD_WRITE, R229. -/
  | retireRecordWrite (g : Fin 16) (sl : Fin 32)
  /-- CRTAIL_WRITE, R228. -/
  | crtailWrite (g : Fin 16) (v : Payload)
  /-- CR_RING_CONFIG_WRITE, R228. -/
  | crRingConfigWrite (g : Fin 16) (ctl : Bool) (v : Payload)
  /-- ABORT, R238. -/
  | abort (g : Fin 16) (sl : Fin 32)
  /-- GAL_OWNER_WRITE, R207. -/
  | galOwnerWrite (g : Fin 16) (o : Fin 16)
  /-- QUARANTINE_ENTER, R244. -/
  | quarantineEnter (g : Fin 16) (why : Fin 4) (ma : Bool) (mpc : BitVec 14)
  /-- QUARANTINE_LEAVE, R246. -/
  | quarantineLeave (g : Fin 16)
  /-- QUARANTINE_RESET_DONE, R246. -/
  | quarantineResetDone (g : Fin 16)
  /-- UC_LANTERN_PATCH_WRITE, R260. -/
  | ucLanternPatchWrite (m : Fin 48) (lv : Level) (n : Fin 16) (isMatch : Bool) (x : Fin 512) (v : Payload)
  /-- UC_GALLERY_PATCH_WRITE, R261. -/
  | ucGalleryPatchWrite (m : Fin 48) (lv : Level) (isMatch : Bool) (x : Fin 1024) (v : Payload)
  /-- HBM_TRAINED, R285. -/
  | hbmTrained (st : Fin 6)
  /-- WORD_READ, R56. -/
  | wordRead (m : Fin 48) (a : PAddr)
  /-- WORD_WRITE, R283. -/
  | wordWrite (m : Fin 48) (a : PAddr) (w : Word)
  /-- SAMPLE_STORE, R62. -/
  | sampleStore (m : Fin 48) (a : PAddr) (v : BitVec 12)
  /-- FIELD_WRITE, R196. -/
  | fieldWrite (m : Fin 48) (a : PAddr) (w : Word) (mask : BitVec 4) (et : BitVec 3)
  /-- HBM_SCRUB_VISIT, R288. -/
  | hbmScrubVisit (st : Fin 6)
  /-- CHAMBER_SCRUB_VISIT, R309. -/
  | chamberScrubVisit (n : Fin 16)
  /-- SOFT_REPAIR, R290. -/
  | softRepair (st : Fin 6) (lv : Level) (v : Payload)
  /-- HARD_REPAIR, R291. -/
  | hardRepair (st : Fin 6) (lv : Level) (v : Payload)
  /-- REPAIR_DONE, R291. -/
  | repairDone (st : Fin 6) (good : Bool)
  /-- QUIESCE_WRITE, R291. -/
  | quiesceWrite (st : Fin 6) (lv : Level) (v : Payload)
  /-- HBM_TEMPERATURE_HIGH, R292. -/
  | hbmTemperatureHigh (st : Fin 6) (temp : BitVec 8)
  /-- MARCH_GO, R315. -/
  | marchGo (k : Fin 4) (lv : Level) (v : Payload)
  /-- MARCH_ABORT, R318. -/
  | marchAbort (k : Fin 4) (lv : Level) (v : Payload)
  /-- MARCH_END, R317. -/
  | marchEnd (k : Fin 4) (mode tgt bg : BitVec 2)
  /-- JUNCTION_GRANT, R334. -/
  | junctionGrant (t : Fin 38)
  /-- JUNCTION_RESPONSE, R343. -/
  | junctionResponse (m : Fin 48)
  /-- DEFAULT_TARGET_ACCESS, R344. -/
  | defaultTargetAccess (m : Fin 48) (a : PAddr) (wr : Bool)
  /-- JUNCTION_ENABLE, R339. -/
  | junctionEnable (v : Payload)
  /-- JUNCTION_FULL_RATE, R339. -/
  | junctionFullRate
  /-- SLICE_WRITE, R340. -/
  | sliceWrite (m : Fin 48) (lv : Level) (v : Payload)
  /-- PRI_PARK_WRITE, R337. -/
  | priParkWrite (park : Bool) (m : Fin 48) (g : Fin 4) (lv : Level) (v : Payload)
  /-- RD, R353. -/
  | rd (x : Fin 2) (hdr : BitVec 192)
  /-- WR, R353. -/
  | wr (x : Fin 2) (hdr : BitVec 192) (data : List Container)
  /-- WRP, R353. -/
  | wrp (x : Fin 2) (hdr : BitVec 192) (data : List Container)
  /-- SAMPST, R355. -/
  | sampst (x : Fin 2) (hdr : BitVec 192) (d : Container)
  /-- FLDWR, R355. -/
  | fldwr (x : Fin 2) (hdr : BitVec 192) (d : Container)
  /-- ATOM_FADD, R355. -/
  | atomFadd (x : Fin 2) (hdr : BitVec 192) (d : Container)
  /-- ATOM_SWAP, R355. -/
  | atomSwap (x : Fin 2) (hdr : BitVec 192) (d : Container)
  /-- ATOM_CAS, R355. -/
  | atomCas (x : Fin 2) (hdr : BitVec 192) (d : Container) (e : Container)
  /-- PTEUPD, R509. -/
  | pteupd (x : Fin 2) (hdr : BitVec 192) (d : Container) (e : Container)
  /-- STREAM, R357. -/
  | stream (x : Fin 2) (hdr : BitVec 192) (data : List Container)
  /-- RSP, R353. -/
  | rsp (x : Fin 2) (hdr : BitVec 192) (data : List Container)
  /-- RSPN, R353. -/
  | rspn (x : Fin 2) (hdr : BitVec 192)
  /-- CREDIT, R358. -/
  | credit (x : Fin 2) (c : BitVec 192)
  /-- INIT, R359. -/
  | init (x : Fin 2) (c : BitVec 192)
  /-- FLIT_REPLAY, R363. -/
  | flitReplay (u : Fin 13)
  /-- LINK_RETRAIN, R364. -/
  | linkRetrain (u : Fin 13) (good : Bool) (rep : Bool)
  /-- INTERNAL_LINK_DOWN, R364. -/
  | internalLinkDown (l : Fin 11)
  /-- SITE_LINK_DOWN, R365. -/
  | siteLinkDown (x : Fin 2) (unack : BitVec 16)
  /-- SITE_REQUEST_TIMEOUT, R366. -/
  | siteRequestTimeout (x : Fin 2)
  /-- SITE_RESET_RELEASE, R373. -/
  | siteResetRelease (x : Fin 2) (lv : Level) (v : Payload)
  /-- SITE_TRAINED, R373. -/
  | siteTrained (x : Fin 2) (nmod : BitVec 2) (link : SiteLink) (active : Bool)
  /-- SITE_BRINGUP_TIMEOUT, R373. -/
  | siteBringupTimeout (x : Fin 2)
  /-- SITE_RESET_ASSERT, R374. -/
  | siteResetAssert (x : Fin 2) (lv : Level) (v : Payload)
  /-- VNOM_WRITE, R711. -/
  | vnomWrite (x : Fin 2) (lv : Level) (v : Payload) (win : Bool)
  /-- SITE_RAIL_FAULT, R711. -/
  | siteRailFault (x : Fin 2) (aux : Bool)
  /-- NOP, R391. -/
  | nop (n : Fin 16)
  /-- MOV, R391. -/
  | mov (n : Fin 16) (d : RegNo) (a : RegNo)
  /-- ADD, R393. -/
  | add (n : Fin 16) (d : RegNo) (a : RegNo) (b : RegNo)
  /-- SUB, R393. -/
  | sub (n : Fin 16) (d : RegNo) (a : RegNo) (b : RegNo)
  /-- AND, R393. -/
  | and (n : Fin 16) (d : RegNo) (a : RegNo) (b : RegNo)
  /-- OR, R393. -/
  | or (n : Fin 16) (d : RegNo) (a : RegNo) (b : RegNo)
  /-- XOR, R393. -/
  | xor (n : Fin 16) (d : RegNo) (a : RegNo) (b : RegNo)
  /-- SHL, R393. -/
  | shl (n : Fin 16) (d : RegNo) (a : RegNo) (b : RegNo)
  /-- SHR, R393. -/
  | shr (n : Fin 16) (d : RegNo) (a : RegNo) (b : RegNo)
  /-- SRA, R393. -/
  | sra (n : Fin 16) (d : RegNo) (a : RegNo) (b : RegNo)
  /-- MUL, R391. -/
  | mul (n : Fin 16) (d : RegNo) (a : RegNo) (b : RegNo)
  /-- CMPEQ, R393. -/
  | cmpeq (n : Fin 16) (d : RegNo) (a : RegNo) (b : RegNo)
  /-- CMPLT, R393. -/
  | cmplt (n : Fin 16) (d : RegNo) (a : RegNo) (b : RegNo)
  /-- CMPLTU, R393. -/
  | cmpltu (n : Fin 16) (d : RegNo) (a : RegNo) (b : RegNo)
  /-- TAGGET, R391. -/
  | tagget (n : Fin 16) (d : RegNo) (a : RegNo)
  /-- ADDI, R393. -/
  | addi (n : Fin 16) (f : AddiForm)
  /-- LIS, R391. -/
  | lis (n : Fin 16) (d : RegNo) (imm : BitVec 10)
  /-- LW, R396. -/
  | lw (n : Fin 16) (f : MemForm)
  /-- SW, R396. -/
  | sw (n : Fin 16) (f : MemForm)
  /-- DCLEAN, R397. -/
  | dclean (n : Fin 16) (a : RegNo)
  /-- DINV, R397. -/
  | dinv (n : Fin 16) (a : RegNo)
  /-- DCLINV, R397. -/
  | dclinv (n : Fin 16) (a : RegNo)
  /-- B, R399. -/
  | b (n : Fin 16) (disp : BitVec 15)
  /-- JAL, R399. -/
  | jal (n : Fin 16) (f : JalForm) (slot48 : Bool)
  /-- BZ, R399. -/
  | bz (n : Fin 16) (a : RegNo) (disp : BitVec 10)
  /-- BZ_A, R399. -/
  | bzA (n : Fin 16) (a : RegNo) (disp : BitVec 10)
  /-- BNZ, R399. -/
  | bnz (n : Fin 16) (a : RegNo) (disp : BitVec 10)
  /-- BNZ_A, R399. -/
  | bnzA (n : Fin 16) (a : RegNo) (disp : BitVec 10)
  /-- BLTZ, R399. -/
  | bltz (n : Fin 16) (a : RegNo) (disp : BitVec 10)
  /-- BLTZ_A, R399. -/
  | bltzA (n : Fin 16) (a : RegNo) (disp : BitVec 10)
  /-- BGEZ, R399. -/
  | bgez (n : Fin 16) (a : RegNo) (disp : BitVec 10)
  /-- BGEZ_A, R399. -/
  | bgezA (n : Fin 16) (a : RegNo) (disp : BitVec 10)
  /-- JR, R399. -/
  | jr (n : Fin 16) (a : RegNo)
  /-- JALR, R399. -/
  | jalr (n : Fin 16) (a : RegNo) (slot48 : Bool)
  /-- RET, R402. -/
  | ret (n : Fin 16)
  /-- SCALL, R475. -/
  | scall (n : Fin 16) (k : BitVec 3)
  /-- SRET, R476. -/
  | sret (n : Fin 16)
  /-- ERET, R472. -/
  | eret (n : Fin 16)
  /-- IBAR, R447. -/
  | ibar (n : Fin 16)
  /-- MBAR, R398. -/
  | mbar (n : Fin 16)
  /-- PFLUSH, R438. -/
  | pflush (n : Fin 16)
  /-- PBAR, R439. -/
  | pbar (n : Fin 16) (k : RegNo)
  /-- WAIT, R398. -/
  | wait (n : Fin 16)
  /-- LPOP, R409. -/
  | lpop (n : Fin 16)
  /-- MFSR, R383. -/
  | mfsr (n : Fin 16) (d : RegNo) (sr : BitVec 6)
  /-- MTSR, R385. -/
  | mtsr (n : Fin 16) (a : RegNo) (sr : BitVec 6)
  /-- DADD, R395. -/
  | dadd (n : Fin 16) (d : RegNo) (a : RegNo) (b : RegNo)
  /-- DSUB, R395. -/
  | dsub (n : Fin 16) (d : RegNo) (a : RegNo) (b : RegNo)
  /-- BCMP, R394. -/
  | bcmp (n : Fin 16) (d : RegNo) (a : RegNo) (b : RegNo)
  /-- BADD, R394. -/
  | badd (n : Fin 16) (d : RegNo) (a : RegNo) (b : RegNo)
  /-- FADD, R411. -/
  | fadd (n : Fin 16) (d : RegNo) (a : RegNo) (b : RegNo)
  /-- FSUB, R411. -/
  | fsub (n : Fin 16) (d : RegNo) (a : RegNo) (b : RegNo)
  /-- FMUL, R411. -/
  | fmul (n : Fin 16) (d : RegNo) (a : RegNo) (b : RegNo)
  /-- FDIV, R411. -/
  | fdiv (n : Fin 16) (d : RegNo) (a : RegNo) (b : RegNo)
  /-- FSQRT, R411. -/
  | fsqrt (n : Fin 16) (d : RegNo) (a : RegNo)
  /-- FMIN, R411. -/
  | fmin (n : Fin 16) (d : RegNo) (a : RegNo) (b : RegNo)
  /-- FMAX, R411. -/
  | fmax (n : Fin 16) (d : RegNo) (a : RegNo) (b : RegNo)
  /-- FABS, R411. -/
  | fabs (n : Fin 16) (d : RegNo) (a : RegNo)
  /-- FNEG, R411. -/
  | fneg (n : Fin 16) (d : RegNo) (a : RegNo)
  /-- FCMPEQ, R411. -/
  | fcmpeq (n : Fin 16) (d : RegNo) (a : RegNo) (b : RegNo)
  /-- FCMPLT, R411. -/
  | fcmplt (n : Fin 16) (d : RegNo) (a : RegNo) (b : RegNo)
  /-- FCMPLE, R411. -/
  | fcmple (n : Fin 16) (d : RegNo) (a : RegNo) (b : RegNo)
  /-- FCVTWI, R97. -/
  | fcvtwi (n : Fin 16) (d : RegNo) (a : RegNo)
  /-- FCVTIW, R101. -/
  | fcvtiw (n : Fin 16) (d : RegNo) (a : RegNo)
  /-- FMVWF, R391. -/
  | fmvwf (n : Fin 16) (d : RegNo) (a : RegNo)
  /-- FMVFW, R391. -/
  | fmvfw (n : Fin 16) (d : RegNo) (a : RegNo)
  /-- LI, R392. -/
  | li (n : Fin 16) (d : RegNo) (imm : BitVec 34)
  /-- LEA, R392. -/
  | lea (n : Fin 16) (d : RegNo) (imm : BitVec 34)
  /-- LIH, R392. -/
  | lih (n : Fin 16) (d : RegNo) (a : RegNo) (imm : BitVec 24)
  /-- ANDI, R392. -/
  | andi (n : Fin 16) (d : RegNo) (a : RegNo) (imm : BitVec 24)
  /-- ORI, R392. -/
  | ori (n : Fin 16) (d : RegNo) (a : RegNo) (imm : BitVec 24)
  /-- XORI, R392. -/
  | xori (n : Fin 16) (d : RegNo) (a : RegNo) (imm : BitVec 24)
  /-- SHLI, R392. -/
  | shli (n : Fin 16) (d : RegNo) (a : RegNo) (k : BitVec 6)
  /-- SHRI, R392. -/
  | shri (n : Fin 16) (d : RegNo) (a : RegNo) (k : BitVec 6)
  /-- SRAI, R392. -/
  | srai (n : Fin 16) (d : RegNo) (a : RegNo) (k : BitVec 6)
  /-- MULH, R392. -/
  | mulh (n : Fin 16) (d : RegNo) (a : RegNo) (b : RegNo)
  /-- MULHU, R392. -/
  | mulhu (n : Fin 16) (d : RegNo) (a : RegNo) (b : RegNo)
  /-- DIV, R393. -/
  | div (n : Fin 16) (d : RegNo) (a : RegNo) (b : RegNo)
  /-- DIVU, R393. -/
  | divu (n : Fin 16) (d : RegNo) (a : RegNo) (b : RegNo)
  /-- REM, R393. -/
  | rem (n : Fin 16) (d : RegNo) (a : RegNo) (b : RegNo)
  /-- REMU, R393. -/
  | remu (n : Fin 16) (d : RegNo) (a : RegNo) (b : RegNo)
  /-- TAGSET, R403. -/
  | tagset (n : Fin 16) (d : RegNo) (a : RegNo) (t : Tag)
  /-- SEL, R393. -/
  | sel (n : Fin 16) (d : RegNo) (a : RegNo) (b : RegNo) (c : RegNo)
  /-- LSU, R61. -/
  | lsu (n : Fin 16) (d : RegNo) (a : RegNo) (imm : BitVec 24)
  /-- LSS, R61. -/
  | lss (n : Fin 16) (d : RegNo) (a : RegNo) (imm : BitVec 24)
  /-- SS, R63. -/
  | ss (n : Fin 16) (d : RegNo) (a : RegNo) (imm : BitVec 24)
  /-- LWX, R396. -/
  | lwx (n : Fin 16) (d : RegNo) (a : RegNo) (b : RegNo)
  /-- SWX, R396. -/
  | swx (n : Fin 16) (d : RegNo) (a : RegNo) (b : RegNo)
  /-- VLD, R396. -/
  | vld (n : Fin 16) (d : RegNo) (a : RegNo) (imm : BitVec 24)
  /-- VST, R396. -/
  | vst (n : Fin 16) (d : RegNo) (a : RegNo) (imm : BitVec 24)
  /-- AMOADD, R396. -/
  | amoadd (n : Fin 16) (d : RegNo) (a : RegNo) (b : RegNo)
  /-- AMOSWP, R396. -/
  | amoswp (n : Fin 16) (d : RegNo) (a : RegNo) (b : RegNo)
  /-- AMOCAS, R396. -/
  | amocas (n : Fin 16) (d : RegNo) (a : RegNo) (b : RegNo) (c : RegNo)
  /-- LWB, R382. -/
  | lwb (n : Fin 16) (d : RegNo) (bk : BitVec 3) (ad : BitVec 16)
  /-- SWB, R382. -/
  | swb (n : Fin 16) (d : RegNo) (bk : BitVec 3) (ad : BitVec 16)
  /-- LSUB, R382. -/
  | lsub (n : Fin 16) (d : RegNo) (bk : BitVec 3) (ad : BitVec 16)
  /-- SSB, R382. -/
  | ssb (n : Fin 16) (d : RegNo) (bk : BitVec 3) (ad : BitVec 16)
  /-- MTB, R381. -/
  | mtb (n : Fin 16) (bk : BitVec 3) (a : RegNo)
  /-- MFB, R381. -/
  | mfb (n : Fin 16) (d : RegNo) (bk : BitVec 3)
  /-- BEQ, R399. -/
  | beq (n : Fin 16) (a : RegNo) (b : RegNo) (disp : BitVec 29)
  /-- BEQ_A, R399. -/
  | beqA (n : Fin 16) (a : RegNo) (b : RegNo) (disp : BitVec 29)
  /-- BNE, R399. -/
  | bne (n : Fin 16) (a : RegNo) (b : RegNo) (disp : BitVec 29)
  /-- BNE_A, R399. -/
  | bneA (n : Fin 16) (a : RegNo) (b : RegNo) (disp : BitVec 29)
  /-- BLT, R399. -/
  | blt (n : Fin 16) (a : RegNo) (b : RegNo) (disp : BitVec 29)
  /-- BLT_A, R399. -/
  | bltA (n : Fin 16) (a : RegNo) (b : RegNo) (disp : BitVec 29)
  /-- BGE, R399. -/
  | bge (n : Fin 16) (a : RegNo) (b : RegNo) (disp : BitVec 29)
  /-- BGE_A, R399. -/
  | bgeA (n : Fin 16) (a : RegNo) (b : RegNo) (disp : BitVec 29)
  /-- BLTU, R399. -/
  | bltu (n : Fin 16) (a : RegNo) (b : RegNo) (disp : BitVec 29)
  /-- BLTU_A, R399. -/
  | bltuA (n : Fin 16) (a : RegNo) (b : RegNo) (disp : BitVec 29)
  /-- BGEU, R399. -/
  | bgeu (n : Fin 16) (a : RegNo) (b : RegNo) (disp : BitVec 29)
  /-- BGEU_A, R399. -/
  | bgeuA (n : Fin 16) (a : RegNo) (b : RegNo) (disp : BitVec 29)
  /-- J, R399. -/
  | j (n : Fin 16) (disp : BitVec 29)
  /-- CALL, R401. -/
  | call (n : Fin 16) (mask : BitVec 16) (disp : BitVec 23)
  /-- CALLR, R401. -/
  | callr (n : Fin 16) (a : RegNo) (mask : BitVec 16)
  /-- LOOP, R404. -/
  | loop (n : Fin 16) (a : RegNo) (disp : BitVec 18)
  /-- LOOPI, R404. -/
  | loopi (n : Fin 16) (k : BitVec 16) (disp : BitVec 18)
  /-- TLBW, R495. -/
  | tlbw (n : Fin 16) (d : RegNo) (a : RegNo) (b : RegNo) (c : RegNo)
  /-- TLBI, R497. -/
  | tlbi (n : Fin 16) (a : RegNo)
  /-- TLBIA, R497. -/
  | tlbia (n : Fin 16)
  /-- FMA, R415. -/
  | fma (n : Fin 16) (d : RegNo) (a : RegNo) (b : RegNo) (c : RegNo)
  /-- VOP, R414. -/
  | vop (n : Fin 16) (d : RegNo) (a : RegNo) (b : RegNo) (op : BitVec 6) (et : BitVec 3) (sat : Bool) (side : Bool)
  /-- VBCAST, R392. -/
  | vbcast (n : Fin 16) (d : RegNo) (a : RegNo)
  /-- VEXT, R392. -/
  | vext (n : Fin 16) (d : RegNo) (a : RegNo) (k : BitVec 2)
  /-- VINS, R392. -/
  | vins (n : Fin 16) (d : RegNo) (a : RegNo) (k : BitVec 2)
  /-- VMOV, R392. -/
  | vmov (n : Fin 16) (d : RegNo) (a : RegNo)
  /-- VFMA, R415. -/
  | vfma (n : Fin 16) (d : RegNo) (a : RegNo) (b : RegNo)
  /-- RESULT_WRITEBACK, R425. -/
  | resultWriteback (n : Fin 16)
  /-- BRANCH_RESOLVE, R435. -/
  | branchResolve (n : Fin 16)
  /-- STAT_CHANGE_EFFECTIVE, R442. -/
  | statChangeEffective (n : Fin 16)
  /-- DIVIDE_UNIT_FREE, R431. -/
  | divideUnitFree (n : Fin 16)
  /-- STORE_BUFFER_DRAIN, R423. -/
  | storeBufferDrain (n : Fin 16)
  /-- DETERMINISTIC_ENTRY, R451. -/
  | deterministicEntry (n : Fin 16)
  /-- EVENT_RAISE, R463. -/
  | eventRaise (src : Fin 1024)
  /-- SWSET, R463. -/
  | swset (m : Fin 48) (v : Payload)
  /-- ROUTE_WRITE, R464. -/
  | routeWrite (src : Fin 1024) (lv : Level) (v : Payload)
  /-- TRAP_ENTRY, R467. -/
  | trapEntry (n : Fin 16) (at_ : TrapAt)
  /-- AD_UPDATE, R506. -/
  | adUpdate (n : Fin 16) (va : Payload) (k : AdAcc)
  /-- AD_UPDATE_OUTCOME, R508. -/
  | adUpdateOutcome (n : Fin 16)
  /-- LANE_ENABLE, R517. -/
  | laneEnable (l : Fin 256) (m : Fin 48) (v : Payload)
  /-- LANE_DISABLE, R519. -/
  | laneDisable (l : Fin 256) (m : Fin 48) (v : Payload)
  /-- LANE_LOCK, R518. -/
  | laneLock (l : Fin 256)
  /-- LANE_FAULT, R518. -/
  | laneFault (l : Fin 256)
  /-- LANE_RECOVER, R518. -/
  | laneRecover (l : Fin 256)
  /-- LANE_CLAIM, R521. -/
  | laneClaim (l : Fin 256) (m : Fin 48)
  /-- LANE_RELEASE, R521. -/
  | laneRelease (l : Fin 256) (m : Fin 48)
  /-- FRAME_TRANSMIT, R546. -/
  | frameTransmit (l : Fin 256)
  /-- DATA_RX, R556. -/
  | dataRx (l : Fin 256) (bs : List (BitVec 8))
  /-- POS_RX, R563. -/
  | posRx (l : Fin 256) (bs : List (BitVec 8))
  /-- ACK, R542. -/
  | ack (l : Fin 256) (bs : List (BitVec 8))
  /-- NAK, R542. -/
  | nak (l : Fin 256) (bs : List (BitVec 8))
  /-- ACK_DELAY_EXPIRY, R541. -/
  | ackDelayExpiry (l : Fin 256) (e : Fin 16)
  /-- RTO_EXPIRY, R542. -/
  | rtoExpiry (l : Fin 256) (e : Fin 16)
  /-- DISC, R536. -/
  | disc (l : Fin 256) (m : Fin 48)
  /-- DISCOVERY_COLLECT_END, R536. -/
  | discoveryCollectEnd (l : Fin 256)
  /-- REPORT, R535. -/
  | report (l : Fin 256) (bs : List (BitVec 8))
  /-- REVERSAL_COMPLETE, R561. -/
  | reversalComplete (l : Fin 256)
  /-- UNREV, R562. -/
  | unrev (l : Fin 256) (m : Fin 48)
  /-- MSGQ, R549. -/
  | msgq (l : Fin 256) (m : Fin 48) (v : Payload)
  /-- POS_PERIOD, R554. -/
  | posPeriod (l : Fin 256)
  /-- TIME_PERIOD, R555. -/
  | timePeriod (l : Fin 256)
  /-- TXQW_WRITE, R553. -/
  | txqwWrite (l : Fin 256) (m : Fin 48) (v : Payload)
  /-- QUEUE_TAIL_WRITE, R559. -/
  | queueTailWrite (k : Fin 2) (q : Fin 32) (v : Payload)
  /-- ETH_RX, R566. -/
  | ethRx (p : Fin 64) (ph : Fin 16) (bs : List (BitVec 8))
  /-- TXPROD, R568. -/
  | txprod (p : Fin 64) (m : Fin 48) (v : Payload)
  /-- ETH_TX, R568. -/
  | ethTx (p : Fin 64) (ph : Fin 16)
  /-- ETH_LINK_CHANGE, R575. -/
  | ethLinkChange (p : Fin 64)
  /-- PTPADJ, R569. -/
  | ptpadj (p : Fin 64) (m : Fin 48) (v : Payload)
  /-- PTPSEC_READ, R569. -/
  | ptpsecRead (p : Fin 64)
  /-- RESOURCE_CLAIM, R578. -/
  | resourceClaim (r : PinRes) (m : Fin 48) (v : Payload)
  /-- RESOURCE_RELEASE, R579. -/
  | resourceRelease (r : PinRes) (m : Fin 48)
  /-- ADC_GO, R584. -/
  | adcGo (c : Fin 32) (m : Fin 48) (ph : Fin 16)
  /-- ADC_SAMPLE, R583. -/
  | adcSample (c : Fin 32) (ph : Fin 16) (code : BitVec 12)
  /-- ADC_CONVERSION_DONE, R587. -/
  | adcConversionDone (c : Fin 32)
  /-- ENCODER_LOSS_OF_SIGNAL, R589. -/
  | encoderLossOfSignal (e : Fin 16) (los : BitVec 3)
  /-- SWLVL_WRITE, R590. -/
  | swlvlWrite (o : Fin 64) (m : Fin 48) (v : Payload)
  /-- GPIO_EDGE, R593. -/
  | gpioEdge (g : Fin 48) (lvl : Bool)
  /-- BAR0_ACCESS, R600. -/
  | bar0Access (f : Fin 16) (a : BitVec 33) (op : PciOp)
  /-- BAR2_ACCESS, R603. -/
  | bar2Access (f : Fin 16) (a : BitVec 33) (op : PciOp)
  /-- FLR, R607. -/
  | flr (f : Fin 16)
  /-- PERST, R688. -/
  | perst
  /-- FN_CFG_ENABLE, R609. -/
  | fnCfgEnable (f : Fin 16) (v : Payload)
  /-- SQDB, R610. -/
  | sqdb (f : Fin 16) (v : Payload)
  /-- CQDB, R610. -/
  | cqdb (f : Fin 16) (v : Payload)
  /-- COMMAND_NOP, R612. -/
  | commandNop (f : Fin 16)
  /-- COMMAND_COPY, R612. -/
  | commandCopy (f : Fin 16)
  /-- COMMAND_FILL, R612. -/
  | commandFill (f : Fin 16)
  /-- COMMAND_ATTEST, R612. -/
  | commandAttest (f : Fin 16)
  /-- COMMAND_RESERVED, R612. -/
  | commandReserved (f : Fin 16)
  /-- MBDB, R608. -/
  | mbdb (f : Fin 16)
  /-- MSIGEN, R608. -/
  | msigen (f : Fin 16) (v : Payload)
  /-- BOOT_ROM, R621. -/
  | bootRom (test : Bool) (trained : BitVec 6) (flash : Bool) (fm : BitVec 16) (sram : BitVec 4) (good : Bool)
  /-- HOST_BOOT_GO, R617. -/
  | hostBootGo
  /-- MLOCK_SET, R626. -/
  | mlockSet (m : Fin 48) (lv : Level)
  /-- CSGO, R628. -/
  | csgo (m : Fin 48) (lv : Level) (v : Payload)
  /-- ATT_GO, R630. -/
  | attGo (m : Fin 48) (lv : Level)
  /-- ATTEST_DONE, R631. -/
  | attestDone
  /-- DEBUG_SESSION_OPEN, R632. -/
  | debugSessionOpen (ins : BitVec 16)
  /-- IDCODE, R633. -/
  | idcode
  /-- BYPASS, R633. -/
  | bypass
  /-- SAMPLE_PRELOAD, R633. -/
  | samplePreload
  /-- SMBUS_READ_BOOT, R634. -/
  | smbusReadBoot
  /-- SMBUS_READ_TEMP, R634. -/
  | smbusReadTemp
  /-- SMBUS_READ_IDPUB, R634. -/
  | smbusReadIdpub
  /-- CAIRN_ENTRY_ACCEPT, R643. -/
  | cairnEntryAccept
  /-- RDAT3_READ, R645. -/
  | rdat3Read (m : Fin 48)
  /-- SWENT, R646. -/
  | swent (v : Payload)
  /-- PFAIL_ASSERT, R649: the consecutive ticks, 255 or more counting as 255, for which the comparator has reported the
  rail below its threshold. -/
  | pfailAssert
  /-- PFAIL_HALT, R650. -/
  | pfailHalt
  /-- SAVE_DOMAIN_ISOLATE, R650. -/
  | saveDomainIsolate
  /-- SAVE_WINDOW_END, R650. -/
  | saveWindowEnd
  /-- CORE_CAPTURE_TIMEOUT, R651. -/
  | coreCaptureTimeout (n : Fin 16)
  /-- IMAGE_SAVE_COMPLETE, R662. -/
  | imageSaveComplete (bad : List (BitVec 19))
  /-- VHOLD_LOW, R655. -/
  | vholdLow
  /-- RESTORE, R664. -/
  | restore (m : Fin 48) (lv : Level)
  /-- RESTORE_DONE, R664. -/
  | restoreDone
  /-- INVAL, R664. -/
  | inval (m : Fin 48) (lv : Level)
  /-- HEARTBEAT_TIMEOUT, R667. -/
  | heartbeatTimeout
  /-- CASC_CONFIG_WRITE, R672. -/
  | cascConfigWrite (lv : Level) (off : BitVec 12) (v : Payload)
  /-- RESET_ASSERT, R699. -/
  | resetAssert
  /-- RESET_RELEASE, R699. -/
  | resetRelease (straps : Straps) (por : Bool)
  /-- CLOCK_MONITOR_FAULT, R703. -/
  | clockMonitorFault
  /-- THERMAL_TRIP, R709. -/
  | thermalTrip
  /-- REGISTER_WRITE, R17. -/
  | registerWrite (m : Fin 48) (lv : Level) (off : BitVec 26) (w : Word)
  /-- SITE_RAIL_RESTORED, R711. -/
  | siteRailRestored (x : Fin 2) (aux : Bool)
  /-- ATOM_RESERVED, R355. -/
  | atomReserved (x : Fin 2) (hdr : BitVec 192) (data : List Container)
  /-- PCIE_LINK_CHANGE, R636. -/
  | pcieLinkChange (up : Bool) (rate : BitVec 3) (width : BitVec 5)
  /-- DEBUG_SESSION_CLOSE, R637. -/
  | debugSessionClose
  deriving DecidableEq, Repr

end Sys2Proof
end

