-- ==== Sys2Proof/WellFormed.lean ====
section
/-! DEFINITION. Well-formed commands: what the operands of a command must be for it to be one that the outside can
send (09 R352–R354, 14 R525, 16 R597, R600, R636, 17 R657). Operands of fixed width need no check. -/

namespace Sys2Proof

/-- Why a command is none. -/
inductive IllFormed where
  /-- The header's TYPE is not the command's, R353. -/
  | dataType
  /-- The data words are not as many as LENM1 says, R352 and R353. -/
  | dataCount
  /-- A frame is shorter than its header and CRC, or longer than with 4,096 payload bytes, R525. -/
  | frameLength
  /-- An offset lies outside the image, R657. -/
  | saveOffset
  /-- A PCIe request has no byte, or more than R597 allows. -/
  | pciLength
  /-- A PCIe request leaves the window of its BAR, R600. -/
  | pciRange
  /-- A rate or width that the port does not train to, R597 and R636. -/
  | linkMode
  deriving DecidableEq, Repr

/-- Header and data of a Passage transaction. -/
def checkData (ty : Nat) (hdr : BitVec 192) (data : List Container) : Option IllFormed :=
  if hdr.toNat % 16 ≠ ty then some .dataType
  else if data.length ≠ hdr.toNat / 2 ^ 26 % 64 + 1 then some .dataCount
  else none

/-- The length of a Yonis frame. -/
def checkFrame (bs : List (BitVec 8)) : Option IllFormed :=
  if bs.length < 20 ∨ 4116 < bs.length then some .frameLength else none

/-- The length and the range of a PCIe request in a window of `size` bytes. -/
def checkPci (size a : Nat) (op : PciOp) : Option IllFormed :=
  let n := match op with
    | .rd n => n
    | .wr bs => bs.length
  let most := match op with
    | .rd _ => 4096
    | .wr _ => 512
  if n = 0 ∨ most < n then some .pciLength else if size < a + n then some .pciRange else none

/-- Rates and widths of the port. -/
def linkGood (rate width : Nat) : Bool :=
  decide (1 ≤ rate) && decide (rate ≤ 5) && (width == 1 || width == 2 || width == 4 || width == 8 || width == 16)

/-- What is wrong with a command, if anything. -/
def Instr.check (i : Instr) : Option IllFormed :=
  match i with
  | .tickAxisUpdate => none
  | .quadCountEdge .. => none
  | .ssiPoll .. => none
  | .ssiFrameComplete .. => none
  | .mainsCrossing .. => none
  | .sourceFault .. => none
  | .coastTimeout .. => none
  | .zEdge .. => none
  | .axisEnable .. => none
  | .axisDisable .. => none
  | .setpos .. => none
  | .gazArm .. => none
  | .gazDisarm .. => none
  | .gazEntryWrite .. => none
  | .gazFire => none
  | .comparatorPulseEnd .. => none
  | .deadlineMiss => none
  | .giss .. => none
  | .gissr .. => none
  | .gissJudgement .. => none
  | .linkedDescriptorIssue .. => none
  | .gresume .. => none
  | .gtlbw .. => none
  | .gtlbi .. => none
  | .gtlbia .. => none
  | .startBearingMet .. => none
  | .tokenSetPropagate => none
  | .tokpost .. => none
  | .tokclr .. => none
  | .slotSelect .. => none
  | .preempt .. => none
  | .relayWordReceive .. => none
  | .elementCommit .. => none
  | .elementFault .. => none
  | .instructionComplete .. => none
  | .retireRecordWrite .. => none
  | .crtailWrite .. => none
  | .crRingConfigWrite .. => none
  | .abort .. => none
  | .galOwnerWrite .. => none
  | .quarantineEnter .. => none
  | .quarantineLeave .. => none
  | .quarantineResetDone .. => none
  | .ucLanternPatchWrite .. => none
  | .ucGalleryPatchWrite .. => none
  | .hbmTrained .. => none
  | .wordRead .. => none
  | .wordWrite .. => none
  | .sampleStore .. => none
  | .fieldWrite .. => none
  | .hbmScrubVisit .. => none
  | .chamberScrubVisit .. => none
  | .softRepair .. => none
  | .hardRepair .. => none
  | .repairDone .. => none
  | .quiesceWrite .. => none
  | .hbmTemperatureHigh .. => none
  | .marchGo .. => none
  | .marchAbort .. => none
  | .marchEnd .. => none
  | .junctionGrant .. => none
  | .junctionResponse .. => none
  | .defaultTargetAccess .. => none
  | .junctionEnable .. => none
  | .junctionFullRate => none
  | .sliceWrite .. => none
  | .priParkWrite .. => none
  | .rd .. => none
  | .wr _ hdr data => checkData 2 hdr data
  | .wrp _ hdr data => checkData 3 hdr data
  | .sampst .. => none
  | .fldwr .. => none
  | .atomFadd .. => none
  | .atomSwap .. => none
  | .atomCas .. => none
  | .pteupd .. => none
  | .stream _ hdr data => checkData 5 hdr data
  | .rsp _ hdr data => checkData 6 hdr data
  | .rspn .. => none
  | .credit .. => none
  | .init .. => none
  | .flitReplay .. => none
  | .linkRetrain .. => none
  | .internalLinkDown .. => none
  | .siteLinkDown .. => none
  | .siteRequestTimeout .. => none
  | .siteResetRelease .. => none
  | .siteTrained .. => none
  | .siteBringupTimeout .. => none
  | .siteResetAssert .. => none
  | .vnomWrite .. => none
  | .siteRailFault .. => none
  | .nop .. => none
  | .mov .. => none
  | .add .. => none
  | .sub .. => none
  | .and .. => none
  | .or .. => none
  | .xor .. => none
  | .shl .. => none
  | .shr .. => none
  | .sra .. => none
  | .mul .. => none
  | .cmpeq .. => none
  | .cmplt .. => none
  | .cmpltu .. => none
  | .tagget .. => none
  | .addi .. => none
  | .lis .. => none
  | .lw .. => none
  | .sw .. => none
  | .dclean .. => none
  | .dinv .. => none
  | .dclinv .. => none
  | .b .. => none
  | .jal .. => none
  | .bz .. => none
  | .bzA .. => none
  | .bnz .. => none
  | .bnzA .. => none
  | .bltz .. => none
  | .bltzA .. => none
  | .bgez .. => none
  | .bgezA .. => none
  | .jr .. => none
  | .jalr .. => none
  | .ret .. => none
  | .scall .. => none
  | .sret .. => none
  | .eret .. => none
  | .ibar .. => none
  | .mbar .. => none
  | .pflush .. => none
  | .pbar .. => none
  | .wait .. => none
  | .lpop .. => none
  | .mfsr .. => none
  | .mtsr .. => none
  | .dadd .. => none
  | .dsub .. => none
  | .bcmp .. => none
  | .badd .. => none
  | .fadd .. => none
  | .fsub .. => none
  | .fmul .. => none
  | .fdiv .. => none
  | .fsqrt .. => none
  | .fmin .. => none
  | .fmax .. => none
  | .fabs .. => none
  | .fneg .. => none
  | .fcmpeq .. => none
  | .fcmplt .. => none
  | .fcmple .. => none
  | .fcvtwi .. => none
  | .fcvtiw .. => none
  | .fmvwf .. => none
  | .fmvfw .. => none
  | .li .. => none
  | .lea .. => none
  | .lih .. => none
  | .andi .. => none
  | .ori .. => none
  | .xori .. => none
  | .shli .. => none
  | .shri .. => none
  | .srai .. => none
  | .mulh .. => none
  | .mulhu .. => none
  | .div .. => none
  | .divu .. => none
  | .rem .. => none
  | .remu .. => none
  | .tagset .. => none
  | .sel .. => none
  | .lsu .. => none
  | .lss .. => none
  | .ss .. => none
  | .lwx .. => none
  | .swx .. => none
  | .vld .. => none
  | .vst .. => none
  | .amoadd .. => none
  | .amoswp .. => none
  | .amocas .. => none
  | .lwb .. => none
  | .swb .. => none
  | .lsub .. => none
  | .ssb .. => none
  | .mtb .. => none
  | .mfb .. => none
  | .beq .. => none
  | .beqA .. => none
  | .bne .. => none
  | .bneA .. => none
  | .blt .. => none
  | .bltA .. => none
  | .bge .. => none
  | .bgeA .. => none
  | .bltu .. => none
  | .bltuA .. => none
  | .bgeu .. => none
  | .bgeuA .. => none
  | .j .. => none
  | .call .. => none
  | .callr .. => none
  | .loop .. => none
  | .loopi .. => none
  | .tlbw .. => none
  | .tlbi .. => none
  | .tlbia .. => none
  | .fma .. => none
  | .vop .. => none
  | .vbcast .. => none
  | .vext .. => none
  | .vins .. => none
  | .vmov .. => none
  | .vfma .. => none
  | .resultWriteback .. => none
  | .branchResolve .. => none
  | .statChangeEffective .. => none
  | .divideUnitFree .. => none
  | .storeBufferDrain .. => none
  | .deterministicEntry .. => none
  | .eventRaise .. => none
  | .swset .. => none
  | .routeWrite .. => none
  | .trapEntry .. => none
  | .adUpdate .. => none
  | .adUpdateOutcome .. => none
  | .laneEnable .. => none
  | .laneDisable .. => none
  | .laneLock .. => none
  | .laneFault .. => none
  | .laneRecover .. => none
  | .laneClaim .. => none
  | .laneRelease .. => none
  | .frameTransmit .. => none
  | .dataRx _ bs => checkFrame bs
  | .posRx _ bs => checkFrame bs
  | .ack _ bs => checkFrame bs
  | .nak _ bs => checkFrame bs
  | .ackDelayExpiry .. => none
  | .rtoExpiry .. => none
  | .disc .. => none
  | .discoveryCollectEnd .. => none
  | .report _ bs => checkFrame bs
  | .reversalComplete .. => none
  | .unrev .. => none
  | .msgq .. => none
  | .posPeriod .. => none
  | .timePeriod .. => none
  | .txqwWrite .. => none
  | .queueTailWrite .. => none
  | .ethRx _ _ bs => if bs = [] then some .frameLength else none
  | .txprod .. => none
  | .ethTx .. => none
  | .ethLinkChange .. => none
  | .ptpadj .. => none
  | .ptpsecRead .. => none
  | .resourceClaim .. => none
  | .resourceRelease .. => none
  | .adcGo .. => none
  | .adcSample .. => none
  | .adcConversionDone .. => none
  | .encoderLossOfSignal .. => none
  | .swlvlWrite .. => none
  | .gpioEdge .. => none
  | .bar0Access f a op => checkPci (if f.val = 0 then 2 ^ 28 else 2 ^ 16) a.toNat op
  | .bar2Access _ a op => checkPci (2 ^ 33) a.toNat op
  | .flr .. => none
  | .perst => none
  | .fnCfgEnable .. => none
  | .sqdb .. => none
  | .cqdb .. => none
  | .commandNop .. => none
  | .commandCopy .. => none
  | .commandFill .. => none
  | .commandAttest .. => none
  | .commandReserved .. => none
  | .mbdb .. => none
  | .msigen .. => none
  | .bootRom .. => none
  | .hostBootGo => none
  | .mlockSet .. => none
  | .csgo .. => none
  | .attGo .. => none
  | .attestDone => none
  | .debugSessionOpen .. => none
  | .idcode => none
  | .bypass => none
  | .samplePreload => none
  | .smbusReadBoot => none
  | .smbusReadTemp => none
  | .smbusReadIdpub => none
  | .cairnEntryAccept => none
  | .rdat3Read .. => none
  | .swent .. => none
  | .pfailAssert .. => none
  | .pfailHalt => none
  | .saveDomainIsolate => none
  | .saveWindowEnd => none
  | .coreCaptureTimeout .. => none
  | .imageSaveComplete bad => if bad.all (·.toNat < 0x44E40) then none else some .saveOffset
  | .vholdLow => none
  | .restore .. => none
  | .restoreDone => none
  | .inval .. => none
  | .heartbeatTimeout => none
  | .cascConfigWrite .. => none
  | .resetAssert => none
  | .resetRelease .. => none
  | .clockMonitorFault => none
  | .thermalTrip => none
  | .registerWrite .. => none
  | .siteRailRestored .. => none
  | .atomReserved .. => none
  | .pcieLinkChange up rate width => if up && !(linkGood rate.toNat width.toNat) then some .linkMode else none
  | .debugSessionClose => none

/-- A command is well formed. -/
def Instr.wf (i : Instr) : Bool := i.check.isNone

end Sys2Proof
end

