-- ==== Sys2Proof/Decode.lean ====
section
/-! DEFINITION. The command that a word spells by the bits of spec/opcode_table.json. The table gives no row any bits:
commands come as events, register writes and frames, whose own layouts the rows' operands carry. The 24-bit and 48-bit
encodings of the Lantern instructions (10 R391, R392) are in Machine/LanternCode.lean. -/

namespace Sys2Proof

/-- No row of the table gives bits, so no word spells a command. (DESIGN CHOICE, log entry 3.) -/
def decodeTableWord (_nbits _w : Nat) : Option Instr := none

end Sys2Proof
end

