-- ==== Sys2Proof/Config.lean ====
section
/-! DEFINITION. The free values: what the spec leaves open and no statement may rest on. Each is a constant
without a body, applied to the model's counter `State.fresh` or to the operands it depends on. -/

namespace Sys2Proof.Config

/-- A number that the spec does not state, fresh at each use. (DESIGN CHOICE, log entry 1.) -/
opaque freeNat : Nat → Nat

/-- The boot ROM's container at word index w of the target, whose contents the spec does not print.
(DESIGN CHOICE, log entry 15.) -/
opaque bootRom : Nat → BitVec 64

/-- The microword at a ROM micro-address of the cores' (false) or the sequencers' (true) control store, which belongs
to the stepping, R255. (DESIGN CHOICE, log entry 15.) -/
opaque microRom : Bool → Nat → BitVec 24

/-- The ROM micro-address at which a routine begins, R254. (DESIGN CHOICE, log entry 15.) -/
opaque microStart : Bool → Nat → BitVec 13

/-- The ROM micro-addresses that a routine fetches after a micro-address, by counter, while none matches.
(DESIGN CHOICE, log entry 15.) -/
opaque microWay : Bool → Nat → Nat → Nat → List (BitVec 13)

/-- Whether a microword of a patched run is its last one, by counter. (DESIGN CHOICE, log entry 15.) -/
opaque microLast : BitVec 24 → Nat → Bool

/-- Where a microword of a patched run jumps, if it does, by counter. (DESIGN CHOICE, log entry 15.) -/
opaque microJump : BitVec 24 → Nat → Option Nat

/-- Registers that a patched routine writes, by counter: a register's number and its word.
(DESIGN CHOICE, log entry 15.) -/
opaque microRegs : Nat → List (Nat × BitVec 52)

/-- Words that a patched routine stores, by counter: a virtual address and the word. (DESIGN CHOICE, log entry 15.) -/
opaque microStores : Nat → List (BitVec 48 × BitVec 52)

/-- The line that a cache gives up when it must make room: the number of the victim among those held, by
cache and counter. (DESIGN CHOICE, log entry 37.) -/
opaque victim : Nat → Nat → Nat

/-- The container at a word index of a row after a repair replaced it, R290. (DESIGN CHOICE, log entry 39.) -/
opaque repairedRow : Nat → Nat → BitVec 64

/-- The spare rows a stack reports at training, by pseudo-channel number 32 · s + q, R322.
(DESIGN CHOICE, log entry 39.) -/
opaque spareRows : Nat → BitVec 8

/-- What the failing cells of a region return to a march, by counter: the word within the region, the step of its
element (R311, R313) and the container read. (DESIGN CHOICE, log entry 40.) -/
opaque marchReads : Nat → List (Nat × Nat × BitVec 64)

/-- What a word with failing cells holds after a march, by counter and word index. (DESIGN CHOICE, log entry 40.) -/
opaque badCell : Nat → Nat → BitVec 64

/-- The words of each SRAM of a gallery die, by the numbers of R310. (DESIGN CHOICE, log entry 40.) -/
opaque sramWords : Nat → Nat

/-- Words that an aborted march leaves in the SRAMs of a gallery, by counter and index. (DESIGN CHOICE, log entry 40.) -/
opaque sramMixture : Nat → Nat → BitVec 48

/-- Words of a chamber, beside its first failing one, that fail the start-up march, by counter and chamber.
(DESIGN CHOICE, log entry 40.) -/
opaque startupBad : Nat → Nat → List Nat

/-- NMASTER of the device's own INIT slot. (DESIGN CHOICE, log entry 44.) -/
opaque deviceMasters : BitVec 3

/-- NMOD and WIDTH that the entry for an internal link that is up shows, by link. (DESIGN CHOICE, log entry 44.) -/
opaque linkCodes : Nat → BitVec 4

/-- The binary32 pattern that an FMA step adds for an element of stream C of another type, by element type code and
value, R173. (DESIGN CHOICE, log entry 28.) -/
opaque mixedAddend : Nat → Int → Nat

/-- The tag of an image word for which R659 states none: the axis words 8, 9, 12 and 13 by number.
(DEDUCED, log entry 75.) -/
opaque imageTag : Nat → BitVec 4

end Sys2Proof.Config
end

