-- ==== Sys2Proof/Machine/Bits.lean ====
section
/-! DEFINITION. Bit fields, sign extension and wrapped comparisons over naturals (R10, R24, R25, R70). -/

namespace Sys2Proof.Machine

/-- Bits `[lo+w-1:lo]` of a number, R10. -/
def bits (x lo w : Nat) : Nat := x / 2 ^ lo % 2 ^ w

/-- Bit `i` of a number. -/
def bit (x i : Nat) : Bool := x / 2 ^ i % 2 == 1

/-- A Bool as 0 or 1. -/
def b2n (b : Bool) : Nat := if b then 1 else 0

/-- Bits `[lo+w-1:lo]` of a number replaced by the low `w` bits of `v`. -/
def setBits (x lo w v : Nat) : Nat :=
  x % 2 ^ lo + (v % 2 ^ w) * 2 ^ lo + x / 2 ^ (lo + w) * 2 ^ (lo + w)

/-- A `w`-bit pattern read as two's complement, R49. -/
def signedOf (w x : Nat) : Int :=
  if x % 2 ^ w < 2 ^ (w - 1) then ((x % 2 ^ w : Nat) : Int) else ((x % 2 ^ w : Nat) : Int) - (2 : Int) ^ w

/-- An integer as a `w`-bit two's complement pattern. -/
def patternOf (w : Nat) (x : Int) : Nat := (x % (2 : Int) ^ w).toNat

/-- Clamp to the signed `w`-bit range (the `sat48` of R112 for `w = 48`). -/
def satSigned (w : Nat) (x : Int) : Int := max (-(2 : Int) ^ (w - 1)) (min x ((2 : Int) ^ (w - 1) - 1))

/-- The outcome of the wrapped comparison of R70: how X lies to Y. -/
inductive Side where
  | equal | ahead | behind
  deriving DecidableEq, Repr

/-- The wrapped comparison of R70 for `w`-bit values (`w = 48` for bearings, 68 under R129). -/
def sideOf (w x y : Nat) : Side :=
  let d := (x + 2 ^ w - y % 2 ^ w) % 2 ^ w
  if d = 0 then .equal else if d < 2 ^ (w - 1) then .ahead else .behind

/-- Exclusive or of numbers, used where a field is a set of bits. -/
def xorN (a b : Nat) : Nat := a ^^^ b

end Sys2Proof.Machine
end

