-- ==== Sys2Proof/Machine/RsCode.lean ====
section
/-! DEFINITION. Containers and their check symbols (02 R53–R56). -/

namespace Sys2Proof.Machine

/-- Powers of α in GF(16) on x^4 + x + 1, R54. -/
def gfExpTable : List Nat := [1, 2, 4, 8, 3, 6, 12, 11, 5, 10, 7, 14, 15, 13, 9]

/-- α^i, R54. -/
def gfExp (i : Nat) : Nat := gfExpTable.getD (i % 15) 0

/-- The discrete logarithms of 1 to 15; the entry of 0 is not used. -/
def gfLogTable : List Nat := [0, 0, 1, 4, 2, 8, 5, 10, 3, 14, 9, 7, 6, 13, 11, 12]

/-- The discrete logarithm of a non-zero symbol. -/
def gfLog (a : Nat) : Nat := gfLogTable.getD a 0

/-- Multiplication in GF(16), R54. -/
def gfMul (a b : Nat) : Nat := if a = 0 ∨ b = 0 then 0 else gfExp (gfLog a + gfLog b)

/-- Division by a non-zero symbol. -/
def gfDiv (a b : Nat) : Nat := if a = 0 then 0 else gfExp (gfLog a + 15 - gfLog b)

/-- Symbol j of a container, R53. -/
def symAt (c j : Nat) : Nat := bits c (4 * j) 4

/-- The sum of s_j · α^(m·j) over symbols 0 to n − 1, R54. -/
def symSum (c m : Nat) : Nat → Nat
  | 0 => 0
  | n + 1 => xorN (symSum c m n) (gfMul (symAt c n) (gfExp (m * n)))

/-- The container of a word: the unique s13, s14, s15 that make it a codeword, R55. -/
def encodeWord (w : Word) : Container :=
  let d := w.pay.toNat + w.tag.toNat * 2 ^ 48
  let a0 := symSum d 0 13
  let a1 := symSum d 1 13
  let a2 := symSum d 2 13
  let s14 := gfDiv (xorN a1 (gfMul (gfExp 13) a0)) (xorN (gfExp 13) (gfExp 14))
  let s13 := xorN a0 s14
  let s15 := xorN a2 (xorN (gfMul s13 (gfExp 26)) (gfMul s14 (gfExp 28)))
  BitVec.ofNat 64 (d + s13 * 2 ^ 52 + s14 * 2 ^ 56 + s15 * 2 ^ 60)

/-- The word in the low 52 bits of a container, R53. -/
def containerWord (c : Container) : Word :=
  ⟨BitVec.ofNat 4 (bits c.toNat 48 4), BitVec.ofNat 48 c.toNat⟩

/-- The outcome of a read, R56. -/
inductive Decoded where
  | clean (w : Word)
  | corrected (w : Word)
  | uncorrectable
  deriving DecidableEq, Repr

/-- The decoder of R56: the syndromes of R54, one symbol in error corrected. -/
def decodeContainer (c : Container) : Decoded :=
  let x := c.toNat
  let s0 := symSum x 0 15
  let s1 := symSum x 1 15
  let s2 := xorN (symSum x 2 15) (symAt x 15)
  if s0 = 0 ∧ s1 = 0 ∧ s2 = 0 then .clean (containerWord c)
  else if s0 = 0 ∧ s1 = 0 then .corrected (containerWord c)
  else if s0 = 0 ∨ s1 = 0 ∨ s2 = 0 then .uncorrectable
  else
    let j := (gfLog s1 + 15 - gfLog s0) % 15
    if gfMul s1 (gfExp j) = s2 then
      .corrected (containerWord (BitVec.ofNat 64 (setBits x (4 * j) 4 (xorN (symAt x j) s0))))
    else .uncorrectable

/-- The word a decoded read delivers, R56. -/
def Decoded.word : Decoded → Word
  | .clean w => w
  | .corrected w => w
  | .uncorrectable => Word.uni0

end Sys2Proof.Machine
end

