-- ==== Sys2Proof/Machine/Regs.lean ====
section
/-! DEFINITION. The register-space map of 18 R677–R690: every register's offset, its fields, their access
codes (R17) and reset values, as the field tables of the chapters give them. -/

namespace Sys2Proof.Machine

/-- The access codes of R17. -/
inductive Access where
  | rw | ro | wo | w1c | rwm | rwl
  deriving DecidableEq, Repr

/-- A named bit field of a register: lowest bit and width, R10. -/
structure Fld where
  lo : Nat
  w : Nat
  deriving DecidableEq, Repr

/-- One line of a field table, R16. -/
structure FieldRow where
  lo : Nat
  w : Nat
  acc : Access
  reset : Nat
  deriving DecidableEq, Repr

/-- A register or register array: offset of its first element, its (count, stride) dimensions from the
largest stride down, and its fields, R677 and R678. -/
structure RegRow where
  base : Nat
  dims : List (Nat × Nat)
  fields : List FieldRow
  deriving DecidableEq, Repr

/-! ### Offsets, R678 -/
namespace R

/-- R72. -/
def FPCFG (n : Nat) : Nat := 0x80004c + n * 65536
/-- R123. -/
def ENT_W0 (i : Nat) : Nat := 0x300000 + i * 16
/-- R124. -/
def ENT_W2 (i : Nat) : Nat := 0x300008 + i * 16
/-- R123. -/
def ENT_W1 (i : Nat) : Nat := 0x300004 + i * 16
/-- R123. -/
def ENT_W3 (i : Nat) : Nat := 0x30000c + i * 16
/-- R149. -/
def AXIS_CFG (n : Nat) : Nat := 0x200000 + n * 64
/-- R149. -/
def AXIS_GAIN (n : Nat) : Nat := 0x200004 + n * 64
/-- R149. -/
def AXIS_GATE (n : Nat) : Nat := 0x200008 + n * 64
/-- R149. -/
def AXIS_TIME (n : Nat) : Nat := 0x20000c + n * 64
/-- R149. -/
def AXIS_SRCP (n : Nat) : Nat := 0x200010 + n * 64
/-- R149. -/
def AXIS_SYNV (n : Nat) : Nat := 0x200014 + n * 64
/-- R149. -/
def AXIS_SYNR (n : Nat) : Nat := 0x200018 + n * 64
/-- R149. -/
def AXIS_POS (n : Nat) : Nat := 0x200020 + n * 64
/-- R149. -/
def AXIS_VEL (n : Nat) : Nat := 0x200024 + n * 64
/-- R149. -/
def AXIS_ACC (n : Nat) : Nat := 0x200028 + n * 64
/-- R149. -/
def AXIS_CNT (n : Nat) : Nat := 0x20002c + n * 64
/-- R149. -/
def AXIS_SETPOS (n : Nat) : Nat := 0x200034 + n * 64
/-- R149. -/
def AXIS_ZCAP (n : Nat) : Nat := 0x200038 + n * 64
/-- R149. -/
def AXIS_FRONT (n : Nat) : Nat := 0x20003c + n * 64
/-- R149. -/
def AXIS_STAT (n : Nat) : Nat := 0x200030 + n * 64
/-- R150. -/
def TRAV_TICK : Nat := 0x201000
/-- R150. -/
def GAZ_STATUS : Nat := 0x201004
/-- R150. -/
def GAZ_LATECNT : Nat := 0x201008
/-- R150. -/
def GAZ_FIRECNT : Nat := 0x20100c
/-- R150. -/
def DLM_STATUS : Nat := 0x201010
/-- R150. -/
def DLM_MISSCNT : Nat := 0x201014
/-- R150. -/
def GAZ_LASTFIRE : Nat := 0x201018
/-- R249. -/
def GAL_CFG (n : Nat) : Nat := 0x1000000 + n * 262144
/-- R249. -/
def GAL_STAT (n : Nat) : Nat := 0x1000004 + n * 262144
/-- R249. -/
def GAL_FBBASE (n : Nat) : Nat := 0x1000008 + n * 262144
/-- R249. -/
def GAL_CRBASE (n : Nat) : Nat := 0x100000c + n * 262144
/-- R249. -/
def GAL_CRCTL (n : Nat) : Nat := 0x1000010 + n * 262144
/-- R249. -/
def GAL_CRHEAD (n : Nat) : Nat := 0x1000014 + n * 262144
/-- R249. -/
def GAL_CRTAIL (n : Nat) : Nat := 0x1000018 + n * 262144
/-- R249. -/
def GAL_TOKPOST (n : Nat) : Nat := 0x100001c + n * 262144
/-- R249. -/
def GAL_TOKCLR (n : Nat) : Nat := 0x1000020 + n * 262144
/-- R249. -/
def GAL_FULLCNT (n : Nat) : Nat := 0x1000024 + n * 262144
/-- R249. -/
def GAL_ENDCNT (n : Nat) : Nat := 0x1000028 + n * 262144
/-- R249. -/
def GAL_ERR (n : Nat) : Nat := 0x100002c + n * 262144
/-- R250. -/
def SLOT_STATE (n : Nat) (s : Nat) : Nat := 0x1001000 + n * 262144 + s * 64
/-- R250. -/
def SLOT_PROG (n : Nat) (s : Nat) : Nat := 0x1001004 + n * 262144 + s * 64
/-- R250. -/
def SLOT_FAULT (n : Nat) (s : Nat) : Nat := 0x1001008 + n * 262144 + s * 64
/-- R250. -/
def SLOT_FADDR (n : Nat) (s : Nat) : Nat := 0x100100c + n * 262144 + s * 64
/-- R250. -/
def SLOT_DADDR (n : Nat) (s : Nat) : Nat := 0x1001010 + n * 262144 + s * 64
/-- R250. -/
def SLOT_TOK (n : Nat) (s : Nat) : Nat := 0x1001014 + n * 262144 + s * 64
/-- R250. -/
def SLOT_CMD (n : Nat) (s : Nat) : Nat := 0x1001018 + n * 262144 + s * 64
/-- R271. -/
def EMSTATE0 (n : Nat) : Nat := 0x800040 + n * 65536
/-- R271. -/
def EMSTATE12 (n : Nat) (k : Nat) : Nat := 0x800044 + n * 65536 + k * 4
/-- R274. -/
def UC_LPATCH (n : Nat) (e : Nat) : Nat := 0x3f80000 + n * 2048 + e * 4
/-- R274. -/
def UC_LMATCH (n : Nat) (m : Nat) : Nat := 0x3f88000 + n * 64 + m * 4
/-- R274. -/
def UC_GPATCH (e : Nat) : Nat := 0x3f89000 + e * 4
/-- R274. -/
def UC_GMATCH (m : Nat) : Nat := 0x3f8a000 + m * 4
/-- R274. -/
def UC_STAT : Nat := 0x3f8a100
/-- R274. -/
def UC_PDIG (j : Nat) : Nat := 0x3f8a104 + j * 4
/-- R321. -/
def HBM_CFG (s : Nat) : Nat := 0x2000000 + s * 65536
/-- R321. -/
def HBM_STAT (s : Nat) : Nat := 0x2000004 + s * 65536
/-- R321. -/
def HBM_PPR (s : Nat) : Nat := 0x2000008 + s * 65536
/-- R321. -/
def HBM_QUIESCE (s : Nat) : Nat := 0x200000c + s * 65536
/-- R322. -/
def PC_CECNT (s : Nat) (q : Nat) : Nat := 0x2001000 + s * 65536 + q * 32
/-- R322. -/
def PC_UECNT (s : Nat) (q : Nat) : Nat := 0x2001004 + s * 65536 + q * 32
/-- R322. -/
def PC_LASTCE (s : Nat) (q : Nat) : Nat := 0x2001008 + s * 65536 + q * 32
/-- R322. -/
def PC_LASTUE (s : Nat) (q : Nat) : Nat := 0x200100c + s * 65536 + q * 32
/-- R322. -/
def PC_SPARE (s : Nat) (q : Nat) : Nat := 0x2001010 + s * 65536 + q * 32
/-- R322. -/
def PC_CESTAT (s : Nat) (q : Nat) : Nat := 0x2001014 + s * 65536 + q * 32
/-- R323. -/
def CHAM_CFG (n : Nat) : Nat := 0x2800000 + n * 256
/-- R323. -/
def CHAM_CECNT (n : Nat) : Nat := 0x2800004 + n * 256
/-- R323. -/
def CHAM_UECNT (n : Nat) : Nat := 0x2800008 + n * 256
/-- R323. -/
def CHAM_LASTCE (n : Nat) : Nat := 0x280000c + n * 256
/-- R323. -/
def CHAM_LASTUE (n : Nat) : Nat := 0x2800010 + n * 256
/-- R323. -/
def CHAM_STAT (n : Nat) : Nat := 0x2800014 + n * 256
/-- R324. -/
def MARCH_CMD (k : Nat) : Nat := 0x2810000 + k * 256
/-- R324. -/
def MARCH_BASE (k : Nat) : Nat := 0x2810004 + k * 256
/-- R324. -/
def MARCH_LEN (k : Nat) : Nat := 0x2810008 + k * 256
/-- R324. -/
def MARCH_STAT (k : Nat) : Nat := 0x281000c + k * 256
/-- R324. -/
def MARCH_PROG (k : Nat) : Nat := 0x2810010 + k * 256
/-- R324. -/
def MARCH_PCT (k : Nat) : Nat := 0x2810014 + k * 256
/-- R324. -/
def MARCH_FADDR (k : Nat) : Nat := 0x2810018 + k * 256
/-- R324. -/
def MARCH_FXLO (k : Nat) : Nat := 0x281001c + k * 256
/-- R324. -/
def MARCH_FXHI (k : Nat) : Nat := 0x2810020 + k * 256
/-- R324. -/
def MARCH_FAILCNT (k : Nat) : Nat := 0x2810024 + k * 256
/-- R324. -/
def MARCH_REFCNT (k : Nat) : Nat := 0x2810028 + k * 256
/-- R324. -/
def MARCH_TOTAL (k : Nat) : Nat := 0x281002c + k * 256
/-- R375. -/
def JUNC_CTL : Nat := 0x100000
/-- R375. -/
def JUNC_STAT : Nat := 0x100004
/-- R375. -/
def JUNC_ERRADDR : Nat := 0x100008
/-- R375. -/
def JUNC_ERRINFO : Nat := 0x10000c
/-- R375. -/
def JUNC_ERRCNT : Nat := 0x100010
/-- R375. -/
def JUNC_STARVCNT : Nat := 0x100014
/-- R375. -/
def JUNC_PRI (m : Nat) (g : Nat) : Nat := 0x101000 + m * 16 + g * 4
/-- R375. -/
def JUNC_PRI3 (m : Nat) : Nat := 0x10100c + m * 16
/-- R375. -/
def JUNC_SLICE (m : Nat) : Nat := 0x102000 + m * 4
/-- R375. -/
def JUNC_PARK (t : Nat) : Nat := 0x103000 + t * 4
/-- R376. -/
def SITE_CTL (x : Nat) : Nat := 0x3800000 + x * 4096
/-- R376. -/
def SITE_STAT (x : Nat) : Nat := 0x3800004 + x * 4096
/-- R376. -/
def SITE_CAP (x : Nat) : Nat := 0x3800008 + x * 4096
/-- R376. -/
def SITE_CREDQ (x : Nat) : Nat := 0x380000c + x * 4096
/-- R376. -/
def SITE_CREDS (x : Nat) : Nat := 0x3800010 + x * 4096
/-- R376. -/
def SITE_CRCERR (x : Nat) : Nat := 0x3800014 + x * 4096
/-- R376. -/
def SITE_RETRAIN (x : Nat) : Nat := 0x3800018 + x * 4096
/-- R376. -/
def SITE_TMOCNT (x : Nat) : Nat := 0x380001c + x * 4096
/-- R376. -/
def SITE_LATECNT (x : Nat) : Nat := 0x3800020 + x * 4096
/-- R376. -/
def SITE_CECNT (x : Nat) : Nat := 0x3800024 + x * 4096
/-- R376. -/
def SITE_UECNT (x : Nat) : Nat := 0x3800028 + x * 4096
/-- R376. -/
def SITE_UNACK (x : Nat) : Nat := 0x380002c + x * 4096
/-- R376. -/
def SITE_MISSADDR (x : Nat) : Nat := 0x3800030 + x * 4096
/-- R376. -/
def SITE_MISSCNT (x : Nat) : Nat := 0x3800034 + x * 4096
/-- R376. -/
def SITE_VMON (x : Nat) : Nat := 0x3800038 + x * 4096
/-- R376. -/
def IOTLB_IOVA (x : Nat) (e : Nat) : Nat := 0x3800800 + x * 4096 + e * 8
/-- R376. -/
def IOTLB_PHYS (x : Nat) (e : Nat) : Nat := 0x3800804 + x * 4096 + e * 8
/-- R377. -/
def PLINK_STAT (l : Nat) : Nat := 0x3802000 + l * 32
/-- R377. -/
def PLINK_CRCERR (l : Nat) : Nat := 0x3802004 + l * 32
/-- R377. -/
def PLINK_RETRAIN (l : Nat) : Nat := 0x3802008 + l * 32
/-- R386. -/
def SSP (n : Nat) : Nat := 0x800050 + n * 65536
/-- R386. -/
def LOOPST (n : Nat) : Nat := 0x800054 + n * 65536
/-- R386. -/
def CYCLE (n : Nat) : Nat := 0x800058 + n * 65536
/-- R386. -/
def COREID (n : Nat) : Nat := 0x80005c + n * 65536
/-- R386. -/
def LS (n : Nat) (k : Nat) : Nat := 0x800060 + n * 65536 + k * 4
/-- R386. -/
def LE (n : Nat) (k : Nat) : Nat := 0x800070 + n * 65536 + k * 4
/-- R386. -/
def LC (n : Nat) (k : Nat) : Nat := 0x800080 + n * 65536 + k * 4
/-- R454. -/
def LANTERN_ISSCNT (n : Nat) : Nat := 0x800200 + n * 65536
/-- R454. -/
def LANTERN_PAIRCNT (n : Nat) : Nat := 0x800204 + n * 65536
/-- R454. -/
def LANTERN_FETCHCNT (n : Nat) : Nat := 0x800208 + n * 65536
/-- R454. -/
def LANTERN_MISPCNT (n : Nat) : Nat := 0x80020c + n * 65536
/-- R454. -/
def LANTERN_FRZCNT (n : Nat) : Nat := 0x800210 + n * 65536
/-- R454. -/
def LANTERN_HOLDCNT (n : Nat) : Nat := 0x800214 + n * 65536
/-- R456. -/
def STAT (n : Nat) : Nat := 0x800000 + n * 65536
/-- R470. -/
def ESTAT (n : Nat) : Nat := 0x800008 + n * 65536
/-- R470. -/
def ECAUSE (n : Nat) : Nat := 0x80000c + n * 65536
/-- R470. -/
def EVAL (n : Nat) : Nat := 0x800010 + n * 65536
/-- R470. -/
def EPC (n : Nat) : Nat := 0x800004 + n * 65536
/-- R470. -/
def TBASE (n : Nat) : Nat := 0x800014 + n * 65536
/-- R470. -/
def SEPC (n : Nat) : Nat := 0x800018 + n * 65536
/-- R470. -/
def SSTAT (n : Nat) : Nat := 0x80001c + n * 65536
/-- R470. -/
def SENT (n : Nat) (k : Nat) : Nat := 0x800020 + n * 65536 + k * 4
/-- R487. -/
def EVC_ROUTE (s : Nat) : Nat := 0x400000 + s * 4
/-- R487. -/
def EVC_PEND (g : Nat) : Nat := 0x401000 + g * 4
/-- R487. -/
def EVC_SWSET : Nat := 0x401080
/-- R487. -/
def EVC_HIGH (n : Nat) : Nat := 0x401100 + n * 4
/-- R488. -/
def LANTERN_XDELEG (n : Nat) : Nat := 0x800300 + n * 65536
/-- R488. -/
def LANTERN_W31U (n : Nat) : Nat := 0x800304 + n * 65536
/-- R488. -/
def LANTERN_W31S (n : Nat) : Nat := 0x800308 + n * 65536
/-- R488. -/
def LANTERN_W31M (n : Nat) : Nat := 0x80030c + n * 65536
/-- R488. -/
def LANTERN_CSTAT (n : Nat) : Nat := 0x800310 + n * 65536
/-- R513. -/
def LANTERN_TLBCFG (n : Nat) : Nat := 0x800400 + n * 65536
/-- R513. -/
def LANTERN_PWLO (n : Nat) : Nat := 0x800404 + n * 65536
/-- R513. -/
def LANTERN_PWHI (n : Nat) : Nat := 0x800408 + n * 65536
/-- R513. -/
def LANTERN_TLBSTAT (n : Nat) : Nat := 0x80040c + n * 65536
/-- R513. -/
def LTLB_VA (n : Nat) (e : Nat) : Nat := 0x801000 + n * 65536 + e * 16
/-- R513. -/
def LTLB_PTE (n : Nat) (e : Nat) : Nat := 0x801004 + n * 65536 + e * 16
/-- R513. -/
def LTLB_PTEA (n : Nat) (e : Nat) : Nat := 0x801008 + n * 65536 + e * 16
/-- R514. -/
def GAL_TLBCFG (n : Nat) : Nat := 0x1000040 + n * 262144
/-- R514. -/
def GTLB_VA (n : Nat) (e : Nat) : Nat := 0x1002000 + n * 262144 + e * 16
/-- R514. -/
def GTLB_PTE (n : Nat) (e : Nat) : Nat := 0x1002004 + n * 262144 + e * 16
/-- R514. -/
def GTLB_PTEA (n : Nat) (e : Nat) : Nat := 0x1002008 + n * 262144 + e * 16
/-- R572. -/
def LANE_CFG (l : Nat) : Nat := 0x3000000 + l * 16384
/-- R572. -/
def LANE_STAT (l : Nat) : Nat := 0x3000004 + l * 16384
/-- R572. -/
def LANE_CLAIM (l : Nat) : Nat := 0x3000008 + l * 16384
/-- R572. -/
def LANE_TIMING (l : Nat) : Nat := 0x300000c + l * 16384
/-- R572. -/
def LANE_POSCFG (l : Nat) : Nat := 0x3000010 + l * 16384
/-- R572. -/
def LANE_TXCFG (l : Nat) : Nat := 0x3000014 + l * 16384
/-- R572. -/
def LANE_MSGQ (l : Nat) : Nat := 0x3000018 + l * 16384
/-- R572. -/
def LANE_CMD (l : Nat) : Nat := 0x300001c + l * 16384
/-- R572. -/
def LANE_DISCST (l : Nat) : Nat := 0x3000020 + l * 16384
/-- R572. -/
def LANE_EVT (l : Nat) : Nat := 0x3000024 + l * 16384
/-- R572. -/
def LANE_CNTRS (l : Nat) (k : Nat) : Nat := 0x3000028 + l * 16384 + k * 4
/-- R573. -/
def EP_CFG (l : Nat) (e : Nat) : Nat := 0x3000100 + l * 16384 + e * 4
/-- R573. -/
def EP_STAT (l : Nat) (e : Nat) : Nat := 0x3000140 + l * 16384 + e * 4
/-- R573. -/
def EP_UID (l : Nat) (e : Nat) : Nat := 0x3000180 + l * 16384 + e * 4
/-- R573. -/
def EP_CAP (l : Nat) (e : Nat) : Nat := 0x30001c0 + l * 16384 + e * 4
/-- R573. -/
def EP_SEQ (l : Nat) (e : Nat) : Nat := 0x3000200 + l * 16384 + e * 4
/-- R574. -/
def LINK_MSGBASE : Nat := 0x3440000
/-- R574. -/
def Q_CFG (k : Nat) (q : Nat) : Nat := 0x3441000 + k * 2048 + q * 64
/-- R574. -/
def Q_BASE (k : Nat) (q : Nat) : Nat := 0x3441004 + k * 2048 + q * 64
/-- R574. -/
def Q_SIZE (k : Nat) (q : Nat) : Nat := 0x3441008 + k * 2048 + q * 64
/-- R574. -/
def Q_SBASE (k : Nat) (q : Nat) : Nat := 0x344100c + k * 2048 + q * 64
/-- R574. -/
def Q_HEAD (k : Nat) (q : Nat) : Nat := 0x3441010 + k * 2048 + q * 64
/-- R574. -/
def Q_TAIL (k : Nat) (q : Nat) : Nat := 0x3441014 + k * 2048 + q * 64
/-- R574. -/
def Q_STAT (k : Nat) (q : Nat) : Nat := 0x3441018 + k * 2048 + q * 64
/-- R574. -/
def Q_DROP (k : Nat) (q : Nat) : Nat := 0x344101c + k * 2048 + q * 64
/-- R574. -/
def Q_OVR (k : Nat) (q : Nat) : Nat := 0x3441020 + k * 2048 + q * 64
/-- R574. -/
def MSG_STAT (m : Nat) : Nat := 0x3444000 + m * 4
/-- R575. -/
def ETH_CFG (p : Nat) : Nat := 0x3400000 + p * 4096
/-- R575. -/
def ETH_STAT (p : Nat) : Nat := 0x3400004 + p * 4096
/-- R575. -/
def ETH_MAC (p : Nat) : Nat := 0x3400008 + p * 4096
/-- R575. -/
def RULE_MATCH (p : Nat) (i : Nat) : Nat := 0x3400040 + p * 4096 + i * 8
/-- R575. -/
def RULE_ACT (p : Nat) (i : Nat) : Nat := 0x3400044 + p * 4096 + i * 8
/-- R575. -/
def ETH_TXBASE (p : Nat) : Nat := 0x3400100 + p * 4096
/-- R575. -/
def ETH_TXLEN (p : Nat) : Nat := 0x3400104 + p * 4096
/-- R575. -/
def ETH_TXPROD (p : Nat) : Nat := 0x3400108 + p * 4096
/-- R575. -/
def ETH_TXCONS (p : Nat) : Nat := 0x340010c + p * 4096
/-- R575. -/
def ETH_PTPSEC (p : Nat) : Nat := 0x3400200 + p * 4096
/-- R575. -/
def ETH_PTPNS (p : Nat) : Nat := 0x3400204 + p * 4096
/-- R575. -/
def ETH_PTPINC (p : Nat) : Nat := 0x3400208 + p * 4096
/-- R575. -/
def ETH_PTPADJ (p : Nat) : Nat := 0x340020c + p * 4096
/-- R575. -/
def ETH_PTPCTL (p : Nat) : Nat := 0x3400210 + p * 4096
/-- R575. -/
def ETH_SYNCCNT (p : Nat) : Nat := 0x3400214 + p * 4096
/-- R575. -/
def ETH_TSLAT (p : Nat) : Nat := 0x3400218 + p * 4096
/-- R575. -/
def ETH_CNTRS (p : Nat) (k : Nat) : Nat := 0x3400220 + p * 4096 + k * 4
/-- R577/R595. -/
def ADC_CLAIM (c : Nat) : Nat := 0x3a00000 + c * 32
/-- R595. -/
def ADC_CFG (c : Nat) : Nat := 0x3a00004 + c * 32
/-- R595. -/
def ADC_CMD (c : Nat) : Nat := 0x3a00008 + c * 32
/-- R595. -/
def ADC_STAT (c : Nat) : Nat := 0x3a0000c + c * 32
/-- R595. -/
def ADC_DATA (c : Nat) : Nat := 0x3a00010 + c * 32
/-- R595. -/
def ADC_STAMP (c : Nat) : Nat := 0x3a00014 + c * 32
/-- R595. -/
def ADC_MISSCNT (c : Nat) : Nat := 0x3a00018 + c * 32
/-- R577/R595. -/
def ENC_CLAIM (e : Nat) : Nat := 0x3a01000 + e * 16
/-- R595. -/
def ENC_CFG (e : Nat) : Nat := 0x3a01004 + e * 16
/-- R595. -/
def ENC_STAT (e : Nat) : Nat := 0x3a01008 + e * 16
/-- R577/R595. -/
def PO_CLAIM (o : Nat) : Nat := 0x3a02000 + o * 16
/-- R595. -/
def PO_CFG (o : Nat) : Nat := 0x3a02004 + o * 16
/-- R595. -/
def PO_SWLVL (o : Nat) : Nat := 0x3a02008 + o * 16
/-- R595. -/
def PO_STAT (o : Nat) : Nat := 0x3a0200c + o * 16
/-- R577/R595. -/
def GPIO_CLAIM (g : Nat) : Nat := 0x3a03000 + g * 16
/-- R595. -/
def GPIO_CFG (g : Nat) : Nat := 0x3a03004 + g * 16
/-- R595. -/
def GPIO_STAT (g : Nat) : Nat := 0x3a03008 + g * 16
/-- R635. -/
def FN_CFG (f : Nat) : Nat := 0x3c00000 + f * 16384
/-- R635. -/
def FN_SQBASE (f : Nat) : Nat := 0x3c00004 + f * 16384
/-- R635. -/
def FN_CQBASE (f : Nat) : Nat := 0x3c00008 + f * 16384
/-- R635. -/
def FN_SQDB (f : Nat) : Nat := 0x3c0000c + f * 16384
/-- R635. -/
def FN_CQDB (f : Nat) : Nat := 0x3c00010 + f * 16384
/-- R635. -/
def FN_SQIDX (f : Nat) : Nat := 0x3c00014 + f * 16384
/-- R635. -/
def FN_CQIDX (f : Nat) : Nat := 0x3c00018 + f * 16384
/-- R635. -/
def FN_STAT (f : Nat) : Nat := 0x3c0001c + f * 16384
/-- R635. -/
def FN_MBOX (f : Nat) : Nat := 0x3c00020 + f * 16384
/-- R635. -/
def FN_MBDB (f : Nat) : Nat := 0x3c00024 + f * 16384
/-- R635. -/
def FN_MSIGEN (f : Nat) : Nat := 0x3c00028 + f * 16384
/-- R635. -/
def FN_ERRADDR (f : Nat) : Nat := 0x3c0002c + f * 16384
/-- R635. -/
def FN_SEG (f : Nat) (i : Nat) : Nat := 0x3c00040 + f * 16384 + i * 4
/-- R636. -/
def HOST_CTL : Nat := 0x3c40000
/-- R636. -/
def HOST_LINK : Nat := 0x3c40004
/-- R636. -/
def HOST_BOOT : Nat := 0x3c40008
/-- R636. -/
def HOST_SUBID : Nat := 0x3c4000c
/-- R636. -/
def HOST_ERRCNT : Nat := 0x3c40010
/-- R637. -/
def SEC_LOCK : Nat := 0x3d00000
/-- R637. -/
def SEC_BOOT : Nat := 0x3d00004
/-- R637. -/
def SEC_SVN : Nat := 0x3d00008
/-- R637. -/
def SEC_DBG : Nat := 0x3d0000c
/-- R637. -/
def SEC_CSPC : Nat := 0x3d00010
/-- R637. -/
def SEC_CSGO : Nat := 0x3d00014
/-- R637. -/
def SEC_ATT : Nat := 0x3d00018
/-- R637. -/
def SEC_ATTDST : Nat := 0x3d0001c
/-- R637. -/
def SEC_NONCE (j : Nat) : Nat := 0x3d00020 + j * 4
/-- R637. -/
def SEC_IDIG (j : Nat) : Nat := 0x3d00040 + j * 4
/-- R637. -/
def SEC_IDPUB (j : Nat) : Nat := 0x3d00080 + j * 4
/-- R673. -/
def CAIRN_SEQ : Nat := 0x3e00000
/-- R673. -/
def CAIRN_ACK : Nat := 0x3e00004
/-- R673. -/
def CAIRN_CFG : Nat := 0x3e00008
/-- R673. -/
def CAIRN_STAT : Nat := 0x3e0000c
/-- R673. -/
def CAIRN_DROPCNT : Nat := 0x3e00010
/-- R673. -/
def CAIRN_OVRCNT : Nat := 0x3e00014
/-- R673. -/
def CAIRN_RIDX : Nat := 0x3e00018
/-- R673. -/
def CAIRN_RDAT (k : Nat) : Nat := 0x3e0001c + k * 4
/-- R673. -/
def CAIRN_SWENT : Nat := 0x3e0002c
/-- R673. -/
def PF_CFG : Nat := 0x3e01000
/-- R673. -/
def PF_STAT : Nat := 0x3e01004
/-- R673. -/
def PF_IMGSEQ : Nat := 0x3e01008
/-- R673. -/
def PF_CMD : Nat := 0x3e0100c
/-- R674. -/
def CASC_CFG : Nat := 0x3f00000
/-- R674. -/
def CASC_EPOCH : Nat := 0x3f00004
/-- R674. -/
def CASC_TAKEAX : Nat := 0x3f00008
/-- R674. -/
def CASC_STAT : Nat := 0x3f0000c
/-- R674. -/
def CASC_HBAGE : Nat := 0x3f00010
/-- R674. -/
def CASC_ALT (n : Nat) : Nat := 0x3f00020 + n * 8
/-- R674. -/
def CASC_ALTOFS (n : Nat) : Nat := 0x3f00024 + n * 8
/-- R689. -/
def LEG0 : Nat := 0x0
/-- R689. -/
def LEG1 : Nat := 0x4
/-- R689. -/
def LEG2 : Nat := 0x8
/-- R689. -/
def LEG3 : Nat := 0xc
/-- R689. -/
def LEG4 : Nat := 0x10
/-- R689. -/
def LEG5 : Nat := 0x14
/-- R689. -/
def LEG6 : Nat := 0x18
/-- R689. -/
def LEG7 : Nat := 0x1c
/-- R689. -/
def LEG8 : Nat := 0x20
/-- R689. -/
def LEG9_15 (k : Nat) : Nat := 0x24 + k * 4
/-- R689. -/
def ID0 : Nat := 0x100
/-- R689. -/
def ID1 : Nat := 0x104
/-- R689. -/
def ID2 : Nat := 0x108
/-- R689. -/
def ID3 : Nat := 0x10c
end R

/-! ### Fields -/
namespace F

def FPCFG_FTZ : Fld := ⟨0, 1⟩
def FPCFG_FRM : Fld := ⟨1, 2⟩
def FPCFG_XRM : Fld := ⟨3, 2⟩
def FPCFG_IV : Fld := ⟨8, 1⟩
def FPCFG_DZ : Fld := ⟨9, 1⟩
def FPCFG_OF : Fld := ⟨10, 1⟩
def FPCFG_UF : Fld := ⟨11, 1⟩
def FPCFG_NX : Fld := ⟨12, 1⟩
def FPCFG_SAT : Fld := ⟨13, 1⟩
def FPCFG_DOV : Fld := ⟨14, 1⟩
def ENT_W0_BEARING : Fld := ⟨0, 48⟩
def ENT_W2_PARAM : Fld := ⟨0, 46⟩
def ENT_W2_STATE : Fld := ⟨46, 2⟩
def ENT_W1_AXIS : Fld := ⟨0, 4⟩
def ENT_W1_DIR : Fld := ⟨4, 2⟩
def ENT_W1_ACTION : Fld := ⟨6, 3⟩
def ENT_W1_LSKIP : Fld := ⟨9, 1⟩
def ENT_W1_DPOL : Fld := ⟨10, 2⟩
def ENT_W1_DAXIS : Fld := ⟨12, 4⟩
def ENT_W1_TOL : Fld := ⟨16, 12⟩
def ENT_W1_LEAD : Fld := ⟨28, 20⟩
def ENT_W3_DLB : Fld := ⟨0, 48⟩
def AXIS_CFG_EN : Fld := ⟨0, 1⟩
def AXIS_CFG_SRC : Fld := ⟨1, 3⟩
def AXIS_CFG_INST : Fld := ⟨4, 8⟩
def AXIS_CFG_DDIR : Fld := ⟨12, 1⟩
def AXIS_CFG_INV : Fld := ⟨13, 1⟩
def AXIS_CFG_ZMODE : Fld := ⟨14, 2⟩
def AXIS_CFG_STEPN : Fld := ⟨16, 4⟩
def AXIS_GAIN_GP : Fld := ⟨0, 16⟩
def AXIS_GAIN_GV : Fld := ⟨16, 16⟩
def AXIS_GAIN_GA : Fld := ⟨32, 16⟩
def AXIS_GATE_GATE : Fld := ⟨0, 48⟩
def AXIS_TIME_LOSSTO : Fld := ⟨0, 24⟩
def AXIS_TIME_COASTMAX : Fld := ⟨24, 24⟩
def AXIS_SRCP_QIFILT : Fld := ⟨0, 8⟩
def AXIS_SRCP_QGLMAX : Fld := ⟨8, 8⟩
def AXIS_SRCP_QZPOL : Fld := ⟨16, 1⟩
def AXIS_SRCP_PTPS : Fld := ⟨20, 4⟩
def AXIS_SRCP_SSIPOLL : Fld := ⟨24, 12⟩
def AXIS_SRCP_SSIDLY : Fld := ⟨36, 8⟩
def AXIS_SYNV_SYNV : Fld := ⟨0, 48⟩
def AXIS_SYNR_SYNR : Fld := ⟨0, 48⟩
def AXIS_POS_POS : Fld := ⟨0, 48⟩
def AXIS_VEL_VEL : Fld := ⟨0, 48⟩
def AXIS_ACC_ACC : Fld := ⟨0, 48⟩
def AXIS_CNT_CNT : Fld := ⟨0, 36⟩
def AXIS_SETPOS_SETPOS : Fld := ⟨0, 48⟩
def AXIS_ZCAP_ZCAP : Fld := ⟨0, 48⟩
def AXIS_FRONT_FRONT : Fld := ⟨0, 48⟩
def AXIS_STAT_STATE : Fld := ⟨0, 3⟩
def AXIS_STAT_GLITCH : Fld := ⟨3, 1⟩
def AXIS_STAT_STEP : Fld := ⟨4, 1⟩
def AXIS_STAT_REJ : Fld := ⟨5, 1⟩
def AXIS_STAT_LOSS : Fld := ⟨6, 1⟩
def AXIS_STAT_REV : Fld := ⟨7, 1⟩
def AXIS_STAT_ERRCFG : Fld := ⟨8, 1⟩
def AXIS_STAT_REJCNT : Fld := ⟨16, 8⟩
def AXIS_STAT_GLCNT : Fld := ⟨24, 24⟩
def TRAV_TICK_TICK : Fld := ⟨0, 48⟩
def GAZ_STATUS_NARM : Fld := ⟨0, 17⟩
def GAZ_STATUS_NPEND : Fld := ⟨24, 17⟩
def GAZ_STATUS_REJ : Fld := ⟨41, 1⟩
def GAZ_STATUS_CPERR : Fld := ⟨42, 1⟩
def GAZ_STATUS_COLL : Fld := ⟨43, 1⟩
def GAZ_STATUS_LATE : Fld := ⟨44, 1⟩
def GAZ_LATECNT_LATECNT : Fld := ⟨0, 48⟩
def GAZ_FIRECNT_FIRECNT : Fld := ⟨0, 48⟩
def DLM_STATUS_NGAL : Fld := ⟨0, 10⟩
def DLM_STATUS_NLINK : Fld := ⟨10, 13⟩
def DLM_STATUS_MISS : Fld := ⟨23, 1⟩
def DLM_MISSCNT_MISSCNT : Fld := ⟨0, 48⟩
def GAZ_LASTFIRE_IDX : Fld := ⟨0, 16⟩
def GAZ_LASTFIRE_LATENESS : Fld := ⟨16, 16⟩
def GAZ_LASTFIRE_LATE : Fld := ⟨32, 1⟩
def GAL_CFG_OWNER : Fld := ⟨0, 4⟩
def GAL_CFG_QUAR : Fld := ⟨4, 1⟩
def GAL_CFG_PREN : Fld := ⟨5, 1⟩
def GAL_STAT_SUSP : Fld := ⟨0, 32⟩
def GAL_STAT_RUNSLOT : Fld := ⟨32, 5⟩
def GAL_STAT_RUNV : Fld := ⟨37, 1⟩
def GAL_STAT_NOCC : Fld := ⟨38, 6⟩
def GAL_STAT_CRFULL : Fld := ⟨44, 1⟩
def GAL_STAT_CRERR : Fld := ⟨45, 1⟩
def GAL_STAT_INSERV : Fld := ⟨46, 1⟩
def GAL_STAT_IERR : Fld := ⟨47, 1⟩
def GAL_FBBASE_FBBASE : Fld := ⟨0, 48⟩
def GAL_CRBASE_CRBASE : Fld := ⟨0, 42⟩
def GAL_CRCTL_CRLEN : Fld := ⟨0, 16⟩
def GAL_CRHEAD_HEAD : Fld := ⟨0, 16⟩
def GAL_CRHEAD_PH : Fld := ⟨16, 1⟩
def GAL_CRTAIL_TAIL : Fld := ⟨0, 16⟩
def GAL_TOKPOST_TOKPOST : Fld := ⟨0, 16⟩
def GAL_TOKCLR_TOKCLR : Fld := ⟨0, 16⟩
def GAL_FULLCNT_FULLCNT : Fld := ⟨0, 48⟩
def GAL_ENDCNT_ENDCNT : Fld := ⟨0, 48⟩
def GAL_ERR_STERR : Fld := ⟨0, 1⟩
def SLOT_STATE_STATE : Fld := ⟨0, 3⟩
def SLOT_STATE_PRIO : Fld := ⟨3, 3⟩
def SLOT_STATE_FB : Fld := ⟨6, 1⟩
def SLOT_STATE_LATE : Fld := ⟨7, 1⟩
def SLOT_STATE_AW0 : Fld := ⟨8, 1⟩
def SLOT_STATE_AW1 : Fld := ⟨9, 1⟩
def SLOT_STATE_SBW : Fld := ⟨10, 1⟩
def SLOT_STATE_LVL : Fld := ⟨11, 2⟩
def SLOT_PROG_DONE : Fld := ⟨0, 24⟩
def SLOT_PROG_PCT : Fld := ⟨24, 14⟩
def SLOT_FAULT_CAUSE : Fld := ⟨0, 8⟩
def SLOT_FAULT_ELEM : Fld := ⟨8, 24⟩
def SLOT_FAULT_STREAM : Fld := ⟨32, 3⟩
def SLOT_FAULT_STEP : Fld := ⟨35, 3⟩
def SLOT_FADDR_FADDR : Fld := ⟨0, 48⟩
def SLOT_DADDR_DADDR : Fld := ⟨0, 48⟩
def SLOT_TOK_OWN : Fld := ⟨0, 16⟩
def SLOT_TOK_AWAIT0 : Fld := ⟨16, 16⟩
def SLOT_TOK_AWAIT1 : Fld := ⟨32, 16⟩
def SLOT_CMD_ABORT : Fld := ⟨0, 1⟩
def EMSTATE0_MPC : Fld := ⟨0, 13⟩
def EMSTATE0_MV : Fld := ⟨13, 1⟩
def EMSTATE12_MT0 : Fld := ⟨0, 48⟩
def UC_LPATCH_UWORD : Fld := ⟨0, 24⟩
def UC_LMATCH_ROMA : Fld := ⟨0, 13⟩
def UC_LMATCH_PADDR : Fld := ⟨13, 10⟩
def UC_LMATCH_EN : Fld := ⟨23, 1⟩
def UC_GPATCH_UWORD : Fld := ⟨0, 24⟩
def UC_GMATCH_ROMA : Fld := ⟨0, 13⟩
def UC_GMATCH_PADDR : Fld := ⟨13, 10⟩
def UC_GMATCH_EN : Fld := ⟨23, 1⟩
def UC_STAT_LOCKED : Fld := ⟨0, 1⟩
def UC_STAT_WREJ : Fld := ⟨1, 1⟩
def UC_STAT_WLOCK : Fld := ⟨2, 1⟩
def UC_PDIG_DIG : Fld := ⟨0, 48⟩
def HBM_CFG_SCREN : Fld := ⟨0, 1⟩
def HBM_CFG_SCRINT : Fld := ⟨1, 24⟩
def HBM_CFG_CETHR : Fld := ⟨25, 16⟩
def HBM_STAT_TRAINED : Fld := ⟨0, 1⟩
def HBM_STAT_TEMP : Fld := ⟨1, 8⟩
def HBM_STAT_TEMPHI : Fld := ⟨9, 1⟩
def HBM_STAT_PPRBUSY : Fld := ⟨10, 1⟩
def HBM_PPR_PCQ : Fld := ⟨0, 5⟩
def HBM_PPR_BANK : Fld := ⟨5, 5⟩
def HBM_PPR_ROW : Fld := ⟨10, 15⟩
def HBM_PPR_HARD : Fld := ⟨25, 1⟩
def HBM_PPR_GO : Fld := ⟨26, 1⟩
def HBM_PPR_RES : Fld := ⟨27, 3⟩
def HBM_QUIESCE_Q : Fld := ⟨0, 1⟩
def PC_CECNT_CECNT : Fld := ⟨0, 32⟩
def PC_UECNT_UECNT : Fld := ⟨0, 32⟩
def PC_LASTCE_ADDR : Fld := ⟨0, 42⟩
def PC_LASTUE_ADDR : Fld := ⟨0, 42⟩
def PC_SPARE_SPARE : Fld := ⟨0, 8⟩
def PC_CESTAT_THR : Fld := ⟨0, 1⟩
def CHAM_CFG_SCREN : Fld := ⟨0, 1⟩
def CHAM_CFG_SCRINT : Fld := ⟨1, 16⟩
def CHAM_CFG_CETHR : Fld := ⟨17, 16⟩
def CHAM_CECNT_CECNT : Fld := ⟨0, 32⟩
def CHAM_UECNT_UECNT : Fld := ⟨0, 32⟩
def CHAM_LASTCE_OFF : Fld := ⟨0, 23⟩
def CHAM_LASTUE_OFF : Fld := ⟨0, 23⟩
def CHAM_STAT_LOCKED : Fld := ⟨0, 1⟩
def CHAM_STAT_MFAIL : Fld := ⟨1, 1⟩
def CHAM_STAT_THR : Fld := ⟨2, 1⟩
def MARCH_CMD_GO : Fld := ⟨0, 1⟩
def MARCH_CMD_ABORT : Fld := ⟨1, 1⟩
def MARCH_CMD_MODE : Fld := ⟨2, 2⟩
def MARCH_CMD_TGT : Fld := ⟨4, 2⟩
def MARCH_CMD_CSEL : Fld := ⟨6, 2⟩
def MARCH_CMD_BG : Fld := ⟨8, 2⟩
def MARCH_CMD_STOPF : Fld := ⟨10, 1⟩
def MARCH_BASE_BASE : Fld := ⟨0, 42⟩
def MARCH_LEN_LEN : Fld := ⟨0, 35⟩
def MARCH_STAT_BUSY : Fld := ⟨0, 1⟩
def MARCH_STAT_DONE : Fld := ⟨1, 1⟩
def MARCH_STAT_FAIL : Fld := ⟨2, 1⟩
def MARCH_STAT_ABORTED : Fld := ⟨3, 1⟩
def MARCH_STAT_REJ : Fld := ⟨4, 3⟩
def MARCH_STAT_REJV : Fld := ⟨7, 1⟩
def MARCH_STAT_FAILMAP : Fld := ⟨8, 4⟩
def MARCH_STAT_SRAMFAIL : Fld := ⟨12, 1⟩
def MARCH_PROG_DONE : Fld := ⟨0, 37⟩
def MARCH_PCT_PCT : Fld := ⟨0, 14⟩
def MARCH_FADDR_FADDR : Fld := ⟨0, 42⟩
def MARCH_FXLO_FXLO : Fld := ⟨0, 32⟩
def MARCH_FXHI_FXHI : Fld := ⟨0, 32⟩
def MARCH_FAILCNT_FAILCNT : Fld := ⟨0, 36⟩
def MARCH_REFCNT_REFCNT : Fld := ⟨0, 32⟩
def MARCH_TOTAL_TOTAL : Fld := ⟨0, 37⟩
def JUNC_CTL_EN : Fld := ⟨0, 1⟩
def JUNC_STAT_ACTIVE : Fld := ⟨0, 1⟩
def JUNC_STAT_STERR : Fld := ⟨1, 1⟩
def JUNC_ERRADDR_ADDR : Fld := ⟨0, 42⟩
def JUNC_ERRINFO_MASTER : Fld := ⟨0, 6⟩
def JUNC_ERRINFO_WR : Fld := ⟨6, 1⟩
def JUNC_ERRINFO_NOPATH : Fld := ⟨7, 1⟩
def JUNC_ERRINFO_TGT : Fld := ⟨8, 6⟩
def JUNC_ERRCNT_ERRCNT : Fld := ⟨0, 48⟩
def JUNC_STARVCNT_STARVCNT : Fld := ⟨0, 48⟩
def JUNC_PRI_PRI : Fld := ⟨0, 48⟩
def JUNC_PRI3_PRI : Fld := ⟨0, 8⟩
def JUNC_SLICE_SLICE : Fld := ⟨0, 38⟩
def JUNC_PARK_MODE : Fld := ⟨0, 3⟩
def JUNC_PARK_DM : Fld := ⟨3, 6⟩
def SITE_CTL_RSTN : Fld := ⟨0, 1⟩
def SITE_CTL_EN : Fld := ⟨1, 1⟩
def SITE_CTL_TMO : Fld := ⟨2, 24⟩
def SITE_STAT_UP : Fld := ⟨0, 1⟩
def SITE_STAT_FAIL : Fld := ⟨1, 1⟩
def SITE_STAT_DOWN : Fld := ⟨2, 1⟩
def SITE_STAT_NMOD : Fld := ⟨3, 2⟩
def SITE_STAT_WIDTH : Fld := ⟨5, 2⟩
def SITE_STAT_RATE : Fld := ⟨7, 3⟩
def SITE_STAT_MISS : Fld := ⟨10, 1⟩
def SITE_STAT_PERM : Fld := ⟨11, 1⟩
def SITE_CAP_PVER : Fld := ⟨0, 4⟩
def SITE_CAP_NMASTER : Fld := ⟨4, 3⟩
def SITE_CAP_STRT : Fld := ⟨7, 1⟩
def SITE_CAP_ATOMT : Fld := ⟨8, 1⟩
def SITE_CREDQ_CREDQ : Fld := ⟨0, 36⟩
def SITE_CREDS_CREDS : Fld := ⟨0, 18⟩
def SITE_CRCERR_CRCERR : Fld := ⟨0, 32⟩
def SITE_RETRAIN_RETRAIN : Fld := ⟨0, 16⟩
def SITE_TMOCNT_TMOCNT : Fld := ⟨0, 32⟩
def SITE_LATECNT_LATECNT : Fld := ⟨0, 32⟩
def SITE_CECNT_CECNT : Fld := ⟨0, 32⟩
def SITE_UECNT_UECNT : Fld := ⟨0, 32⟩
def SITE_UNACK_UNACK : Fld := ⟨0, 16⟩
def SITE_MISSADDR_ADDR : Fld := ⟨0, 42⟩
def SITE_MISSCNT_MISSCNT : Fld := ⟨0, 32⟩
def SITE_VMON_VNOM : Fld := ⟨0, 10⟩
def SITE_VMON_VOK : Fld := ⟨10, 1⟩
def SITE_VMON_VAOK : Fld := ⟨11, 1⟩
def IOTLB_IOVA_IOPN : Fld := ⟨16, 26⟩
def IOTLB_IOVA_SZ : Fld := ⟨42, 1⟩
def IOTLB_IOVA_V : Fld := ⟨43, 1⟩
def IOTLB_PHYS_PFN : Fld := ⟨16, 26⟩
def IOTLB_PHYS_RD : Fld := ⟨42, 1⟩
def IOTLB_PHYS_WR : Fld := ⟨43, 1⟩
def IOTLB_PHYS_TAGP : Fld := ⟨44, 1⟩
def PLINK_STAT_UP : Fld := ⟨0, 1⟩
def PLINK_STAT_REPAIRED : Fld := ⟨1, 1⟩
def PLINK_CRCERR_CRCERR : Fld := ⟨0, 32⟩
def PLINK_RETRAIN_RETRAIN : Fld := ⟨0, 16⟩
def SSP_SSP : Fld := ⟨0, 48⟩
def LOOPST_DEPTH : Fld := ⟨0, 3⟩
def CYCLE_CYCLE : Fld := ⟨0, 48⟩
def COREID_CORE : Fld := ⟨0, 4⟩
def COREID_CLUSTER : Fld := ⟨4, 2⟩
def LS_START : Fld := ⟨0, 48⟩
def LE_END : Fld := ⟨0, 48⟩
def LC_COUNT : Fld := ⟨0, 48⟩
def LANTERN_ISSCNT_ISSCNT : Fld := ⟨0, 48⟩
def LANTERN_PAIRCNT_PAIRCNT : Fld := ⟨0, 48⟩
def LANTERN_FETCHCNT_FETCHCNT : Fld := ⟨0, 48⟩
def LANTERN_MISPCNT_MISPCNT : Fld := ⟨0, 48⟩
def LANTERN_FRZCNT_FRZCNT : Fld := ⟨0, 48⟩
def LANTERN_HOLDCNT_HOLDCNT : Fld := ⟨0, 48⟩
def STAT_PL : Fld := ⟨0, 2⟩
def STAT_TE : Fld := ⟨2, 1⟩
def STAT_IE : Fld := ⟨3, 1⟩
def STAT_DET : Fld := ⟨4, 1⟩
def STAT_SG : Fld := ⟨5, 1⟩
def STAT_CPRI : Fld := ⟨6, 6⟩
def ESTAT_PPL : Fld := ⟨0, 2⟩
def ESTAT_DS : Fld := ⟨2, 1⟩
def ESTAT_EVT : Fld := ⟨3, 1⟩
def ESTAT_SRC : Fld := ⟨4, 10⟩
def ESTAT_ELVL : Fld := ⟨14, 2⟩
def ESTAT_PCPRI : Fld := ⟨16, 6⟩
def ESTAT_PIE : Fld := ⟨22, 1⟩
def ECAUSE_HIDX : Fld := ⟨0, 11⟩
def ECAUSE_SUB : Fld := ⟨11, 16⟩
def EVAL_VAL : Fld := ⟨0, 48⟩
def EPC_PC : Fld := ⟨0, 48⟩
def TBASE_BASE : Fld := ⟨14, 28⟩
def SEPC_PC : Fld := ⟨0, 48⟩
def SSTAT_STAT : Fld := ⟨0, 12⟩
def SSTAT_SDEPTH : Fld := ⟨12, 3⟩
def SENT_ENTRY : Fld := ⟨0, 48⟩
def EVC_ROUTE_CORE : Fld := ⟨0, 4⟩
def EVC_ROUTE_PRIO : Fld := ⟨4, 6⟩
def EVC_ROUTE_LVL : Fld := ⟨10, 1⟩
def EVC_ROUTE_EN : Fld := ⟨11, 1⟩
def EVC_PEND_PEND : Fld := ⟨0, 32⟩
def EVC_SWSET_SRC : Fld := ⟨0, 10⟩
def EVC_HIGH_SRC : Fld := ⟨0, 10⟩
def EVC_HIGH_PRIO : Fld := ⟨10, 6⟩
def EVC_HIGH_V : Fld := ⟨16, 1⟩
def LANTERN_XDELEG_DELEG : Fld := ⟨0, 19⟩
def LANTERN_W31U_W31U : Fld := ⟨0, 48⟩
def LANTERN_W31S_W31S : Fld := ⟨0, 48⟩
def LANTERN_W31M_W31M : Fld := ⟨0, 48⟩
def LANTERN_CSTAT_HALT : Fld := ⟨0, 1⟩
def LANTERN_CSTAT_HIDX : Fld := ⟨1, 11⟩
def LANTERN_TLBCFG_WIRED : Fld := ⟨0, 7⟩
def LANTERN_TLBCFG_NEXT : Fld := ⟨8, 7⟩
def LANTERN_TLBCFG_PCP : Fld := ⟨15, 2⟩
def LANTERN_PWLO_LO : Fld := ⟨16, 26⟩
def LANTERN_PWHI_HI : Fld := ⟨16, 26⟩
def LANTERN_TLBSTAT_RFL : Fld := ⟨0, 1⟩
def LTLB_VA_VPN : Fld := ⟨16, 32⟩
def LTLB_PTE_PTE : Fld := ⟨0, 48⟩
def LTLB_PTEA_PTEA : Fld := ⟨0, 42⟩
def GAL_TLBCFG_WIRED : Fld := ⟨0, 9⟩
def GAL_TLBCFG_NEXT : Fld := ⟨16, 9⟩
def GTLB_VA_VPN : Fld := ⟨16, 32⟩
def GTLB_PTE_PTE : Fld := ⟨0, 48⟩
def GTLB_PTEA_PTEA : Fld := ⟨0, 42⟩
def LANE_CFG_EN : Fld := ⟨0, 1⟩
def LANE_CFG_MODE : Fld := ⟨1, 3⟩
def LANE_CFG_RATE : Fld := ⟨4, 15⟩
def LANE_CFG_RING : Fld := ⟨19, 1⟩
def LANE_CFG_RLANE : Fld := ⟨20, 8⟩
def LANE_CFG_RET : Fld := ⟨28, 1⟩
def LANE_CFG_TAGP : Fld := ⟨29, 1⟩
def LANE_STAT_STATE : Fld := ⟨0, 3⟩
def LANE_STAT_ERRCFG : Fld := ⟨3, 1⟩
def LANE_STAT_STERR : Fld := ⟨4, 1⟩
def LANE_STAT_CLERR : Fld := ⟨5, 1⟩
def LANE_CLAIM_OWNER : Fld := ⟨0, 6⟩
def LANE_CLAIM_OWNED : Fld := ⟨6, 1⟩
def LANE_CLAIM_REQ : Fld := ⟨7, 1⟩
def LANE_CLAIM_REL : Fld := ⟨8, 1⟩
def LANE_CLAIM_RES : Fld := ⟨9, 2⟩
def LANE_TIMING_RTO : Fld := ⟨0, 16⟩
def LANE_TIMING_RETRYMAX : Fld := ⟨16, 4⟩
def LANE_TIMING_ACKDLY : Fld := ⟨20, 8⟩
def LANE_TIMING_TIMEN : Fld := ⟨28, 1⟩
def LANE_POSCFG_AXMASK : Fld := ⟨0, 16⟩
def LANE_POSCFG_PERIOD : Fld := ⟨16, 16⟩
def LANE_TXCFG_CQ : Fld := ⟨0, 5⟩
def LANE_TXCFG_CQEN : Fld := ⟨5, 1⟩
def LANE_TXCFG_TXQW : Fld := ⟨6, 20⟩
def LANE_TXCFG_STREP : Fld := ⟨26, 4⟩
def LANE_TXCFG_GAL : Fld := ⟨30, 1⟩
def LANE_TXCFG_MSG : Fld := ⟨31, 1⟩
def LANE_TXCFG_STR : Fld := ⟨32, 1⟩
def LANE_MSGQ_MSG : Fld := ⟨0, 12⟩
def LANE_CMD_DISC : Fld := ⟨0, 1⟩
def LANE_CMD_UNREV : Fld := ⟨1, 1⟩
def LANE_DISCST_BUSY : Fld := ⟨0, 1⟩
def LANE_DISCST_DONE : Fld := ⟨1, 1⟩
def LANE_DISCST_NFOUND : Fld := ⟨2, 5⟩
def LANE_DISCST_OVF : Fld := ⟨7, 1⟩
def LANE_DISCST_DUPUID : Fld := ⟨8, 1⟩
def LANE_EVT_STCHG : Fld := ⟨0, 1⟩
def LANE_EVT_EPCHG : Fld := ⟨1, 1⟩
def LANE_EVT_REV : Fld := ⟨2, 1⟩
def LANE_EVT_DISC : Fld := ⟨3, 1⟩
def LANE_CNTRS_CNT : Fld := ⟨0, 32⟩
def EP_CFG_Q : Fld := ⟨0, 5⟩
def EP_CFG_QEN : Fld := ⟨5, 1⟩
def EP_STAT_STATE : Fld := ⟨0, 2⟩
def EP_STAT_REV : Fld := ⟨2, 1⟩
def EP_STAT_FLAGS : Fld := ⟨3, 3⟩
def EP_UID_UID : Fld := ⟨0, 48⟩
def EP_CAP_VENDOR : Fld := ⟨0, 16⟩
def EP_CAP_MODEL : Fld := ⟨16, 16⟩
def EP_CAP_VERSION : Fld := ⟨32, 8⟩
def EP_CAP_FIREDEPTH : Fld := ⟨40, 8⟩
def EP_SEQ_TXNEXT : Fld := ⟨0, 16⟩
def EP_SEQ_TXUNACK : Fld := ⟨16, 16⟩
def EP_SEQ_RXEXP : Fld := ⟨32, 16⟩
def LINK_MSGBASE_BASE : Fld := ⟨0, 42⟩
def Q_CFG_EN : Fld := ⟨0, 1⟩
def Q_CFG_MODE : Fld := ⟨1, 1⟩
def Q_CFG_CEV : Fld := ⟨2, 1⟩
def Q_CFG_UNPACK : Fld := ⟨3, 2⟩
def Q_CFG_TSEN : Fld := ⟨5, 1⟩
def Q_CFG_SDST : Fld := ⟨6, 1⟩
def Q_CFG_SITE : Fld := ⟨7, 1⟩
def Q_BASE_BASE : Fld := ⟨0, 42⟩
def Q_SIZE_SLOTW : Fld := ⟨0, 16⟩
def Q_SIZE_NSLOT : Fld := ⟨16, 16⟩
def Q_SBASE_SBASE : Fld := ⟨0, 42⟩
def Q_HEAD_HEAD : Fld := ⟨0, 16⟩
def Q_HEAD_PH : Fld := ⟨16, 1⟩
def Q_TAIL_TAIL : Fld := ⟨0, 16⟩
def Q_STAT_STERR : Fld := ⟨0, 1⟩
def Q_DROP_DROP : Fld := ⟨0, 32⟩
def Q_OVR_OVR : Fld := ⟨0, 32⟩
def MSG_STAT_STATE : Fld := ⟨0, 2⟩
def MSG_STAT_LANE : Fld := ⟨2, 8⟩
def MSG_STAT_LATE : Fld := ⟨10, 1⟩
def ETH_CFG_FEC : Fld := ⟨0, 1⟩
def ETH_CFG_PAUSE : Fld := ⟨1, 1⟩
def ETH_CFG_MTU : Fld := ⟨2, 14⟩
def ETH_CFG_DQ : Fld := ⟨16, 5⟩
def ETH_CFG_DQEN : Fld := ⟨21, 1⟩
def ETH_CFG_PROM : Fld := ⟨22, 1⟩
def ETH_CFG_MCALL : Fld := ⟨23, 1⟩
def ETH_STAT_LINK : Fld := ⟨0, 1⟩
def ETH_STAT_LCHG : Fld := ⟨1, 1⟩
def ETH_MAC_MAC : Fld := ⟨0, 48⟩
def RULE_MATCH_EN : Fld := ⟨0, 1⟩
def RULE_MATCH_KIND : Fld := ⟨1, 1⟩
def RULE_MATCH_VALUE : Fld := ⟨2, 16⟩
def RULE_ACT_Q : Fld := ⟨0, 5⟩
def RULE_ACT_UNPACK : Fld := ⟨5, 2⟩
def RULE_ACT_DROP : Fld := ⟨7, 1⟩
def ETH_TXBASE_BASE : Fld := ⟨0, 42⟩
def ETH_TXLEN_LEN : Fld := ⟨0, 16⟩
def ETH_TXPROD_PROD : Fld := ⟨0, 16⟩
def ETH_TXCONS_CONS : Fld := ⟨0, 16⟩
def ETH_PTPSEC_SEC : Fld := ⟨0, 48⟩
def ETH_PTPNS_NS : Fld := ⟨0, 30⟩
def ETH_PTPINC_INC : Fld := ⟨0, 48⟩
def ETH_PTPADJ_ADJ : Fld := ⟨0, 48⟩
def ETH_PTPCTL_LOCK : Fld := ⟨0, 1⟩
def ETH_PTPCTL_DOMAIN : Fld := ⟨1, 8⟩
def ETH_PTPCTL_SYNCSEEN : Fld := ⟨9, 1⟩
def ETH_SYNCCNT_SYNCCNT : Fld := ⟨0, 32⟩
def ETH_TSLAT_RXLAT : Fld := ⟨0, 16⟩
def ETH_TSLAT_TXLAT : Fld := ⟨16, 16⟩
def ETH_CNTRS_CNT : Fld := ⟨0, 32⟩
def ADC_CLAIM_OWNER : Fld := ⟨0, 6⟩
def ADC_CLAIM_OWNED : Fld := ⟨6, 1⟩
def ADC_CLAIM_REQ : Fld := ⟨7, 1⟩
def ADC_CLAIM_REL : Fld := ⟨8, 1⟩
def ADC_CLAIM_RES : Fld := ⟨9, 2⟩
def ADC_CLAIM_USE : Fld := ⟨11, 3⟩
def ADC_CFG_CEV : Fld := ⟨0, 1⟩
def ADC_CMD_GO : Fld := ⟨0, 1⟩
def ADC_STAT_BUSY : Fld := ⟨0, 1⟩
def ADC_STAT_MISS : Fld := ⟨1, 1⟩
def ADC_STAT_STERR : Fld := ⟨2, 1⟩
def ADC_STAT_CLERR : Fld := ⟨3, 1⟩
def ADC_DATA_CODE : Fld := ⟨0, 12⟩
def ADC_DATA_TRIG : Fld := ⟨12, 1⟩
def ADC_DATA_PHASE : Fld := ⟨13, 4⟩
def ADC_STAMP_TICK : Fld := ⟨0, 48⟩
def ADC_MISSCNT_MISSCNT : Fld := ⟨0, 32⟩
def ENC_CLAIM_OWNER : Fld := ⟨0, 6⟩
def ENC_CLAIM_OWNED : Fld := ⟨6, 1⟩
def ENC_CLAIM_REQ : Fld := ⟨7, 1⟩
def ENC_CLAIM_REL : Fld := ⟨8, 1⟩
def ENC_CLAIM_RES : Fld := ⟨9, 2⟩
def ENC_CLAIM_USE : Fld := ⟨11, 3⟩
def ENC_CFG_TERM : Fld := ⟨0, 1⟩
def ENC_CFG_EVZ : Fld := ⟨1, 1⟩
def ENC_CFG_EVLOS : Fld := ⟨2, 1⟩
def ENC_STAT_LVL : Fld := ⟨0, 3⟩
def ENC_STAT_LOS : Fld := ⟨3, 3⟩
def ENC_STAT_LOSEV : Fld := ⟨6, 1⟩
def ENC_STAT_CLERR : Fld := ⟨7, 1⟩
def PO_CLAIM_OWNER : Fld := ⟨0, 6⟩
def PO_CLAIM_OWNED : Fld := ⟨6, 1⟩
def PO_CLAIM_REQ : Fld := ⟨7, 1⟩
def PO_CLAIM_REL : Fld := ⟨8, 1⟩
def PO_CLAIM_RES : Fld := ⟨9, 2⟩
def PO_CLAIM_USE : Fld := ⟨11, 3⟩
def PO_CFG_INV : Fld := ⟨0, 1⟩
def PO_CFG_EVR : Fld := ⟨1, 1⟩
def PO_CFG_PFS : Fld := ⟨2, 2⟩
def PO_SWLVL_LVL : Fld := ⟨0, 1⟩
def PO_STAT_LVL : Fld := ⟨0, 1⟩
def PO_STAT_CLERR : Fld := ⟨1, 1⟩
def GPIO_CLAIM_OWNER : Fld := ⟨0, 6⟩
def GPIO_CLAIM_OWNED : Fld := ⟨6, 1⟩
def GPIO_CLAIM_REQ : Fld := ⟨7, 1⟩
def GPIO_CLAIM_REL : Fld := ⟨8, 1⟩
def GPIO_CLAIM_RES : Fld := ⟨9, 2⟩
def GPIO_CLAIM_USE : Fld := ⟨11, 3⟩
def GPIO_CFG_OUT : Fld := ⟨0, 1⟩
def GPIO_CFG_EDGE : Fld := ⟨1, 2⟩
def GPIO_CFG_PFS : Fld := ⟨3, 2⟩
def GPIO_STAT_IN : Fld := ⟨0, 1⟩
def GPIO_STAT_EDG : Fld := ⟨1, 1⟩
def GPIO_STAT_CLERR : Fld := ⟨2, 1⟩
def FN_CFG_EN : Fld := ⟨0, 1⟩
def FN_CFG_SQLOG2 : Fld := ⟨1, 4⟩
def FN_CFG_CQLOG2 : Fld := ⟨5, 4⟩
def FN_SQBASE_BASE : Fld := ⟨0, 42⟩
def FN_CQBASE_BASE : Fld := ⟨0, 42⟩
def FN_SQDB_P : Fld := ⟨0, 16⟩
def FN_CQDB_P : Fld := ⟨0, 16⟩
def FN_SQIDX_PROD : Fld := ⟨0, 16⟩
def FN_SQIDX_CONS : Fld := ⟨16, 16⟩
def FN_CQIDX_PROD : Fld := ⟨0, 16⟩
def FN_CQIDX_CONS : Fld := ⟨16, 16⟩
def FN_STAT_BUSY : Fld := ⟨0, 1⟩
def FN_STAT_DBERR : Fld := ⟨1, 1⟩
def FN_STAT_PARTW : Fld := ⟨2, 1⟩
def FN_STAT_STERR : Fld := ⟨3, 1⟩
def FN_STAT_FLR : Fld := ⟨4, 1⟩
def FN_STAT_BADACC : Fld := ⟨5, 1⟩
def FN_MBOX_MBOX : Fld := ⟨0, 48⟩
def FN_MBDB_RING : Fld := ⟨0, 1⟩
def FN_MSIGEN_VEC : Fld := ⟨0, 4⟩
def FN_ERRADDR_ADDR : Fld := ⟨0, 42⟩
def FN_SEG_BASE : Fld := ⟨28, 14⟩
def FN_SEG_V : Fld := ⟨42, 1⟩
def FN_SEG_RD : Fld := ⟨43, 1⟩
def FN_SEG_WR : Fld := ⟨44, 1⟩
def FN_SEG_TAGP : Fld := ⟨45, 1⟩
def HOST_CTL_PFLVL : Fld := ⟨0, 2⟩
def HOST_CTL_TOTVF : Fld := ⟨2, 4⟩
def HOST_CTL_OPEN : Fld := ⟨6, 1⟩
def HOST_LINK_UP : Fld := ⟨0, 1⟩
def HOST_LINK_RATE : Fld := ⟨1, 3⟩
def HOST_LINK_WIDTH : Fld := ⟨4, 5⟩
def HOST_BOOT_GO : Fld := ⟨0, 1⟩
def HOST_BOOT_WAITING : Fld := ⟨1, 1⟩
def HOST_BOOT_CODE : Fld := ⟨2, 8⟩
def HOST_SUBID_SVID : Fld := ⟨0, 16⟩
def HOST_SUBID_SSID : Fld := ⟨16, 16⟩
def HOST_ERRCNT_ERRCNT : Fld := ⟨0, 32⟩
def SEC_LOCK_MLOCK : Fld := ⟨0, 1⟩
def SEC_LOCK_SET : Fld := ⟨1, 1⟩
def SEC_BOOT_SRC : Fld := ⟨0, 2⟩
def SEC_BOOT_OK : Fld := ⟨2, 1⟩
def SEC_BOOT_CODE : Fld := ⟨3, 8⟩
def SEC_BOOT_QMASK : Fld := ⟨11, 16⟩
def SEC_SVN_SVN : Fld := ⟨0, 7⟩
def SEC_SVN_SVNMIN : Fld := ⟨7, 7⟩
def SEC_DBG_EN : Fld := ⟨0, 1⟩
def SEC_DBG_DBGDIS : Fld := ⟨1, 1⟩
def SEC_DBG_ACTIVE : Fld := ⟨2, 1⟩
def SEC_CSPC_PC : Fld := ⟨0, 42⟩
def SEC_CSGO_GO : Fld := ⟨0, 16⟩
def SEC_ATT_GO : Fld := ⟨0, 1⟩
def SEC_ATT_BUSY : Fld := ⟨1, 1⟩
def SEC_ATT_DONE : Fld := ⟨2, 1⟩
def SEC_ATT_ERR : Fld := ⟨3, 1⟩
def SEC_ATTDST_DST : Fld := ⟨0, 42⟩
def SEC_NONCE_NONCE : Fld := ⟨0, 48⟩
def SEC_IDIG_DIG : Fld := ⟨0, 48⟩
def SEC_IDPUB_KEY : Fld := ⟨0, 48⟩
def CAIRN_SEQ_NEXT : Fld := ⟨0, 32⟩
def CAIRN_ACK_ACK : Fld := ⟨0, 32⟩
def CAIRN_CFG_WMTHR : Fld := ⟨0, 16⟩
def CAIRN_CFG_MSRC : Fld := ⟨16, 5⟩
def CAIRN_CFG_MCODE : Fld := ⟨21, 8⟩
def CAIRN_CFG_MEN : Fld := ⟨29, 1⟩
def CAIRN_STAT_WMARK : Fld := ⟨0, 1⟩
def CAIRN_STAT_OVR : Fld := ⟨1, 1⟩
def CAIRN_STAT_MATCH : Fld := ⟨2, 1⟩
def CAIRN_DROPCNT_DROPCNT : Fld := ⟨0, 32⟩
def CAIRN_OVRCNT_OVRCNT : Fld := ⟨0, 32⟩
def CAIRN_RIDX_RIDX : Fld := ⟨0, 16⟩
def CAIRN_RDAT_EK : Fld := ⟨0, 48⟩
def CAIRN_SWENT_SWENT : Fld := ⟨0, 48⟩
def PF_CFG_PFWIN : Fld := ⟨0, 18⟩
def PF_CFG_PFFILT : Fld := ⟨18, 4⟩
def PF_CFG_SAVEN : Fld := ⟨22, 1⟩
def PF_STAT_PFAIL : Fld := ⟨0, 1⟩
def PF_STAT_IMGV : Fld := ⟨1, 1⟩
def PF_STAT_SLOT : Fld := ⟨2, 1⟩
def PF_STAT_RESTORED : Fld := ⟨3, 1⟩
def PF_STAT_VHOK : Fld := ⟨4, 1⟩
def PF_STAT_VHLOW : Fld := ⟨5, 1⟩
def PF_STAT_STERR : Fld := ⟨6, 1⟩
def PF_IMGSEQ_SEQ : Fld := ⟨0, 32⟩
def PF_CMD_RESTORE : Fld := ⟨0, 1⟩
def PF_CMD_INVAL : Fld := ⟨1, 1⟩
def CASC_CFG_ID : Fld := ⟨0, 3⟩
def CASC_CFG_ROLE : Fld := ⟨3, 2⟩
def CASC_CFG_DLANE : Fld := ⟨5, 8⟩
def CASC_CFG_ALANE : Fld := ⟨13, 8⟩
def CASC_CFG_ALTEN : Fld := ⟨21, 1⟩
def CASC_CFG_HBTO : Fld := ⟨22, 20⟩
def CASC_EPOCH_EPOCH : Fld := ⟨0, 16⟩
def CASC_TAKEAX_TAKEAX : Fld := ⟨0, 16⟩
def CASC_STAT_HBOK : Fld := ⟨0, 1⟩
def CASC_STAT_CURLANE : Fld := ⟨1, 8⟩
def CASC_STAT_TOOK : Fld := ⟨9, 1⟩
def CASC_STAT_DEPOSED : Fld := ⟨10, 1⟩
def CASC_STAT_DUPID : Fld := ⟨11, 1⟩
def CASC_STAT_STERR : Fld := ⟨12, 1⟩
def CASC_HBAGE_HBAGE : Fld := ⟨0, 32⟩
def CASC_ALT_SRC : Fld := ⟨0, 3⟩
def CASC_ALT_INST : Fld := ⟨3, 8⟩
def CASC_ALTOFS_OFS : Fld := ⟨0, 48⟩
def LEG0_LANCORE : Fld := ⟨0, 4⟩
def LEG0_LANFP : Fld := ⟨4, 4⟩
def LEG0_LANSV : Fld := ⟨8, 4⟩
def LEG0_LANDEC : Fld := ⟨12, 4⟩
def LEG0_LANBEAR : Fld := ⟨16, 4⟩
def LEG0_LANAMO : Fld := ⟨20, 4⟩
def LEG0_LANGAL : Fld := ⟨24, 4⟩
def LEG0_CORES : Fld := ⟨32, 16⟩
def LEG1_GAL : Fld := ⟨0, 4⟩
def LEG1_RELAY : Fld := ⟨4, 4⟩
def LEG1_LANETGT : Fld := ⟨8, 4⟩
def LEG1_GALS : Fld := ⟨16, 16⟩
def LEG1_CHAMS : Fld := ⟨32, 16⟩
def LEG2_TRAV : Fld := ⟨0, 4⟩
def LEG2_GAZ : Fld := ⟨4, 4⟩
def LEG2_DLM : Fld := ⟨8, 4⟩
def LEG2_SSI : Fld := ⟨12, 4⟩
def LEG2_MAINS : Fld := ⟨16, 4⟩
def LEG2_PTPSRC : Fld := ⟨20, 4⟩
def LEG2_CASCSRC : Fld := ⟨24, 4⟩
def LEG2_AXES : Fld := ⟨32, 16⟩
def LEG3_HBM : Fld := ⟨0, 4⟩
def LEG3_SCRUB : Fld := ⟨4, 4⟩
def LEG3_PPR : Fld := ⟨8, 4⟩
def LEG3_MARCH : Fld := ⟨12, 4⟩
def LEG3_STACKS : Fld := ⟨16, 8⟩
def LEG3_GIBPS : Fld := ⟨24, 12⟩
def LEG4_JUNC : Fld := ⟨0, 4⟩
def LEG4_PASSAGE : Fld := ⟨4, 4⟩
def LEG4_SITES : Fld := ⟨8, 4⟩
def LEG4_IOTLB : Fld := ⟨12, 4⟩
def LEG5_YL : Fld := ⟨0, 4⟩
def LEG5_ETH : Fld := ⟨4, 4⟩
def LEG5_ETH100 : Fld := ⟨8, 4⟩
def LEG5_PTP : Fld := ⟨12, 4⟩
def LEG5_RING : Fld := ⟨16, 4⟩
def LEG5_CASCLANE : Fld := ⟨20, 4⟩
def LEG5_NLANEM1 : Fld := ⟨32, 8⟩
def LEG5_NETHM1 : Fld := ⟨40, 8⟩
def LEG6_ADC : Fld := ⟨0, 4⟩
def LEG6_ENC : Fld := ⟨4, 4⟩
def LEG6_PO : Fld := ⟨8, 4⟩
def LEG6_GPIO : Fld := ⟨12, 4⟩
def LEG6_NADC : Fld := ⟨16, 8⟩
def LEG6_NENC : Fld := ⟨24, 8⟩
def LEG6_NPO : Fld := ⟨32, 8⟩
def LEG6_NGPIO : Fld := ⟨40, 8⟩
def LEG7_PCIE : Fld := ⟨0, 4⟩
def LEG7_SRIOV : Fld := ⟨4, 4⟩
def LEG7_ATTEST : Fld := ⟨8, 4⟩
def LEG7_SMBUS : Fld := ⟨12, 4⟩
def LEG7_JTAGDBG : Fld := ⟨16, 4⟩
def LEG8_CAIRN : Fld := ⟨0, 4⟩
def LEG8_PFSAVE : Fld := ⟨4, 4⟩
def LEG8_CASCADE : Fld := ⟨8, 4⟩
def LEG8_UCPATCH : Fld := ⟨12, 4⟩
def LEG9_15_CNT : Fld := ⟨0, 48⟩
def ID0_PCIVID : Fld := ⟨0, 16⟩
def ID0_JMFR : Fld := ⟨16, 11⟩
def ID1_PART : Fld := ⟨0, 16⟩
def ID1_STEPD : Fld := ⟨16, 4⟩
def ID1_STEPL : Fld := ⟨20, 4⟩
def ID1_GRADE : Fld := ⟨24, 1⟩
def ID1_NSTACK : Fld := ⟨25, 3⟩
def ID2_UID : Fld := ⟨0, 48⟩
def ID3_ROMVER : Fld := ⟨0, 16⟩
end F

/-! ### The rows of each block of R678 -/

def rows_legend0 : List RegRow :=
  [⟨0x0, [], [⟨0, 4, .ro, 1⟩, ⟨4, 4, .ro, 1⟩, ⟨8, 4, .ro, 1⟩, ⟨12, 4, .ro, 1⟩, ⟨16, 4, .ro, 1⟩, ⟨20, 4, .ro, 1⟩, ⟨24, 4, .ro, 1⟩, ⟨32, 16, .ro, 0xffff⟩]⟩,
   ⟨0x4, [], [⟨0, 4, .ro, 1⟩, ⟨4, 4, .ro, 1⟩, ⟨8, 4, .ro, 1⟩, ⟨16, 16, .ro, 0xffff⟩, ⟨32, 16, .ro, 0xffff⟩]⟩,
   ⟨0x8, [], [⟨0, 4, .ro, 1⟩, ⟨4, 4, .ro, 1⟩, ⟨8, 4, .ro, 1⟩, ⟨12, 4, .ro, 1⟩, ⟨16, 4, .ro, 1⟩, ⟨20, 4, .ro, 1⟩, ⟨24, 4, .ro, 1⟩, ⟨32, 16, .ro, 0xffff⟩]⟩,
   ⟨0xc, [], [⟨0, 4, .ro, 1⟩, ⟨4, 4, .ro, 1⟩, ⟨8, 4, .ro, 1⟩, ⟨12, 4, .ro, 1⟩, ⟨16, 8, .ro, 0x3f⟩, ⟨24, 12, .ro, 0x18⟩]⟩,
   ⟨0x10, [], [⟨0, 4, .ro, 1⟩, ⟨4, 4, .ro, 1⟩, ⟨8, 4, .ro, 3⟩, ⟨12, 4, .ro, 1⟩]⟩,
   ⟨0x14, [], [⟨0, 4, .ro, 1⟩, ⟨4, 4, .ro, 1⟩, ⟨8, 4, .ro, 1⟩, ⟨12, 4, .ro, 1⟩, ⟨16, 4, .ro, 1⟩, ⟨20, 4, .ro, 1⟩, ⟨32, 8, .ro, 0xff⟩, ⟨40, 8, .ro, 0x3f⟩]⟩,
   ⟨0x18, [], [⟨0, 4, .ro, 1⟩, ⟨4, 4, .ro, 1⟩, ⟨8, 4, .ro, 1⟩, ⟨12, 4, .ro, 1⟩, ⟨16, 8, .ro, 0x20⟩, ⟨24, 8, .ro, 0x10⟩, ⟨32, 8, .ro, 0x40⟩, ⟨40, 8, .ro, 0x30⟩]⟩,
   ⟨0x1c, [], [⟨0, 4, .ro, 1⟩, ⟨4, 4, .ro, 1⟩, ⟨8, 4, .ro, 1⟩, ⟨12, 4, .ro, 1⟩, ⟨16, 4, .ro, 1⟩]⟩,
   ⟨0x20, [], [⟨0, 4, .ro, 1⟩, ⟨4, 4, .ro, 1⟩, ⟨8, 4, .ro, 1⟩, ⟨12, 4, .ro, 1⟩]⟩,
   ⟨0x24, [(7, 4)], [⟨0, 48, .ro, 0⟩]⟩,
   ⟨0x100, [], [⟨0, 16, .ro, 0x1fd7⟩, ⟨16, 11, .ro, 0x2d5⟩]⟩,
   ⟨0x104, [], [⟨0, 16, .ro, 0x4806⟩, ⟨16, 4, .ro, 0⟩, ⟨20, 4, .ro, 0⟩, ⟨24, 1, .ro, 0⟩, ⟨25, 3, .ro, 6⟩]⟩]

def rows_legend1 : List RegRow :=
  [⟨0x108, [], [⟨0, 48, .ro, 0⟩]⟩,
   ⟨0x10c, [], [⟨0, 16, .ro, 0x100⟩]⟩]

/-- The registers of one block of R678. -/
def rows_legend : List RegRow := rows_legend0 ++ rows_legend1

def rows_junction0 : List RegRow :=
  [⟨0x100000, [], [⟨0, 1, .rwl, 0⟩]⟩,
   ⟨0x100004, [], [⟨0, 1, .ro, 0⟩, ⟨1, 1, .w1c, 0⟩]⟩,
   ⟨0x100008, [], [⟨0, 42, .ro, 0⟩]⟩,
   ⟨0x10000c, [], [⟨0, 6, .ro, 0⟩, ⟨6, 1, .ro, 0⟩, ⟨7, 1, .ro, 0⟩, ⟨8, 6, .ro, 0⟩]⟩,
   ⟨0x100010, [], [⟨0, 48, .ro, 0⟩]⟩,
   ⟨0x100014, [], [⟨0, 48, .ro, 0⟩]⟩,
   ⟨0x101000, [(48, 16), (3, 4)], [⟨0, 48, .rwm, 0x888888888888⟩]⟩,
   ⟨0x10100c, [(48, 16)], [⟨0, 8, .rwm, 0x88⟩]⟩,
   ⟨0x102000, [(48, 4)], [⟨0, 38, .rwl, 0⟩]⟩,
   ⟨0x103000, [(38, 4)], [⟨0, 3, .rwl, 0⟩, ⟨3, 6, .rwl, 0⟩]⟩]

/-- The registers of one block of R678. -/
def rows_junction : List RegRow := rows_junction0

def rows_traverse0 : List RegRow :=
  [⟨0x200000, [(16, 64)], [⟨0, 1, .rw, 0⟩, ⟨1, 3, .rw, 0⟩, ⟨4, 8, .rw, 0⟩, ⟨12, 1, .rw, 0⟩, ⟨13, 1, .rw, 0⟩, ⟨14, 2, .rw, 0⟩, ⟨16, 4, .rw, 3⟩]⟩,
   ⟨0x200004, [(16, 64)], [⟨0, 16, .rw, 0x4000⟩, ⟨16, 16, .rw, 0x400⟩, ⟨32, 16, .rw, 0x1000⟩]⟩,
   ⟨0x200008, [(16, 64)], [⟨0, 48, .rw, 0⟩]⟩,
   ⟨0x20000c, [(16, 64)], [⟨0, 24, .rw, 0x186a0⟩, ⟨24, 24, .rw, 0x2710⟩]⟩,
   ⟨0x200010, [(16, 64)], [⟨0, 8, .rw, 4⟩, ⟨8, 8, .rw, 8⟩, ⟨16, 1, .rw, 0⟩, ⟨20, 4, .rw, 0⟩, ⟨24, 12, .rw, 0x64⟩, ⟨36, 8, .rw, 0⟩]⟩,
   ⟨0x200014, [(16, 64)], [⟨0, 48, .rw, 0⟩]⟩,
   ⟨0x200018, [(16, 64)], [⟨0, 48, .rw, 0⟩]⟩,
   ⟨0x200020, [(16, 64)], [⟨0, 48, .ro, 0⟩]⟩,
   ⟨0x200024, [(16, 64)], [⟨0, 48, .ro, 0⟩]⟩,
   ⟨0x200028, [(16, 64)], [⟨0, 48, .ro, 0⟩]⟩,
   ⟨0x20002c, [(16, 64)], [⟨0, 36, .ro, 0⟩]⟩,
   ⟨0x200034, [(16, 64)], [⟨0, 48, .wo, 0⟩]⟩]

def rows_traverse1 : List RegRow :=
  [⟨0x200038, [(16, 64)], [⟨0, 48, .ro, 0⟩]⟩,
   ⟨0x20003c, [(16, 64)], [⟨0, 48, .ro, 0⟩]⟩,
   ⟨0x200030, [(16, 64)], [⟨0, 3, .ro, 0⟩, ⟨3, 1, .w1c, 0⟩, ⟨4, 1, .w1c, 0⟩, ⟨5, 1, .w1c, 0⟩, ⟨6, 1, .w1c, 0⟩, ⟨7, 1, .w1c, 0⟩, ⟨8, 1, .w1c, 0⟩, ⟨16, 8, .ro, 0⟩, ⟨24, 24, .ro, 0⟩]⟩,
   ⟨0x201000, [], [⟨0, 48, .ro, 0⟩]⟩,
   ⟨0x201004, [], [⟨0, 17, .ro, 0⟩, ⟨24, 17, .ro, 0⟩, ⟨41, 1, .w1c, 0⟩, ⟨42, 1, .w1c, 0⟩, ⟨43, 1, .w1c, 0⟩, ⟨44, 1, .w1c, 0⟩]⟩,
   ⟨0x201008, [], [⟨0, 48, .ro, 0⟩]⟩,
   ⟨0x20100c, [], [⟨0, 48, .ro, 0⟩]⟩,
   ⟨0x201010, [], [⟨0, 10, .ro, 0⟩, ⟨10, 13, .ro, 0⟩, ⟨23, 1, .w1c, 0⟩]⟩,
   ⟨0x201014, [], [⟨0, 48, .ro, 0⟩]⟩,
   ⟨0x201018, [], [⟨0, 16, .ro, 0⟩, ⟨16, 16, .ro, 0⟩, ⟨32, 1, .ro, 0⟩]⟩]

/-- The registers of one block of R678. -/
def rows_traverse : List RegRow := rows_traverse0 ++ rows_traverse1

def rows_gaz0 : List RegRow :=
  [⟨0x300000, [(65536, 16)], [⟨0, 48, .rw, 0⟩]⟩,
   ⟨0x300008, [(65536, 16)], [⟨0, 46, .rw, 0⟩, ⟨46, 2, .rw, 0⟩]⟩,
   ⟨0x300004, [(65536, 16)], [⟨0, 4, .rw, 0⟩, ⟨4, 2, .rw, 0⟩, ⟨6, 3, .rw, 0⟩, ⟨9, 1, .rw, 0⟩, ⟨10, 2, .rw, 0⟩, ⟨12, 4, .rw, 0⟩, ⟨16, 12, .rw, 0⟩, ⟨28, 20, .rw, 0⟩]⟩,
   ⟨0x30000c, [(65536, 16)], [⟨0, 48, .rw, 0⟩]⟩]

/-- The registers of one block of R678. -/
def rows_gaz : List RegRow := rows_gaz0

def rows_evc0 : List RegRow :=
  [⟨0x400000, [(1024, 4)], [⟨0, 4, .rw, 0⟩, ⟨4, 6, .rw, 0⟩, ⟨10, 1, .rw, 1⟩, ⟨11, 1, .rw, 0⟩]⟩,
   ⟨0x401000, [(32, 4)], [⟨0, 32, .w1c, 0⟩]⟩,
   ⟨0x401080, [], [⟨0, 10, .wo, 0⟩]⟩,
   ⟨0x401100, [(16, 4)], [⟨0, 10, .ro, 0⟩, ⟨10, 6, .ro, 0⟩, ⟨16, 1, .ro, 0⟩]⟩]

/-- The registers of one block of R678. -/
def rows_evc : List RegRow := rows_evc0

def rows_lantern0 : List RegRow :=
  [⟨0x80004c, [(16, 65536)], [⟨0, 1, .rw, 0⟩, ⟨1, 2, .rw, 0⟩, ⟨3, 2, .rw, 2⟩, ⟨8, 1, .rw, 0⟩, ⟨9, 1, .rw, 0⟩, ⟨10, 1, .rw, 0⟩, ⟨11, 1, .rw, 0⟩, ⟨12, 1, .rw, 0⟩, ⟨13, 1, .rw, 0⟩, ⟨14, 1, .rw, 0⟩]⟩,
   ⟨0x800040, [(16, 65536)], [⟨0, 13, .rwm, 0⟩, ⟨13, 1, .rwm, 0⟩]⟩,
   ⟨0x800044, [(16, 65536), (2, 4)], [⟨0, 48, .rwm, 0⟩]⟩,
   ⟨0x800050, [(16, 65536)], [⟨0, 48, .rw, 0⟩]⟩,
   ⟨0x800054, [(16, 65536)], [⟨0, 3, .rw, 0⟩]⟩,
   ⟨0x800058, [(16, 65536)], [⟨0, 48, .ro, 0⟩]⟩,
   ⟨0x80005c, [(16, 65536)], [⟨0, 4, .ro, 0⟩, ⟨4, 2, .ro, 0⟩]⟩,
   ⟨0x800060, [(16, 65536), (4, 4)], [⟨0, 48, .rw, 0⟩]⟩,
   ⟨0x800070, [(16, 65536), (4, 4)], [⟨0, 48, .rw, 0⟩]⟩,
   ⟨0x800080, [(16, 65536), (4, 4)], [⟨0, 48, .rw, 0⟩]⟩,
   ⟨0x800200, [(16, 65536)], [⟨0, 48, .rw, 0⟩]⟩,
   ⟨0x800204, [(16, 65536)], [⟨0, 48, .rw, 0⟩]⟩]

def rows_lantern1 : List RegRow :=
  [⟨0x800208, [(16, 65536)], [⟨0, 48, .rw, 0⟩]⟩,
   ⟨0x80020c, [(16, 65536)], [⟨0, 48, .rw, 0⟩]⟩,
   ⟨0x800210, [(16, 65536)], [⟨0, 48, .rw, 0⟩]⟩,
   ⟨0x800214, [(16, 65536)], [⟨0, 48, .rw, 0⟩]⟩,
   ⟨0x800000, [(16, 65536)], [⟨0, 2, .rw, 2⟩, ⟨2, 1, .rw, 0⟩, ⟨3, 1, .rw, 0⟩, ⟨4, 1, .rw, 0⟩, ⟨5, 1, .rw, 0⟩, ⟨6, 6, .rw, 0⟩]⟩,
   ⟨0x800008, [(16, 65536)], [⟨0, 2, .rw, 0⟩, ⟨2, 1, .rw, 0⟩, ⟨3, 1, .rw, 0⟩, ⟨4, 10, .rw, 0⟩, ⟨14, 2, .rw, 0⟩, ⟨16, 6, .rw, 0⟩, ⟨22, 1, .rw, 0⟩]⟩,
   ⟨0x80000c, [(16, 65536)], [⟨0, 11, .rw, 0⟩, ⟨11, 16, .rw, 0⟩]⟩,
   ⟨0x800010, [(16, 65536)], [⟨0, 48, .rw, 0⟩]⟩,
   ⟨0x800004, [(16, 65536)], [⟨0, 48, .rw, 0⟩]⟩,
   ⟨0x800014, [(16, 65536)], [⟨14, 28, .rw, 0xc080000⟩]⟩,
   ⟨0x800018, [(16, 65536)], [⟨0, 48, .rw, 0⟩]⟩,
   ⟨0x80001c, [(16, 65536)], [⟨0, 12, .rw, 0⟩, ⟨12, 3, .rw, 0⟩]⟩]

def rows_lantern2 : List RegRow :=
  [⟨0x800020, [(16, 65536), (8, 4)], [⟨0, 48, .rw, 0⟩]⟩,
   ⟨0x800300, [(16, 65536)], [⟨0, 19, .rwm, 0⟩]⟩,
   ⟨0x800304, [(16, 65536)], [⟨0, 48, .rwm, 0⟩]⟩,
   ⟨0x800308, [(16, 65536)], [⟨0, 48, .rwm, 0⟩]⟩,
   ⟨0x80030c, [(16, 65536)], [⟨0, 48, .rwm, 0⟩]⟩,
   ⟨0x800310, [(16, 65536)], [⟨0, 1, .ro, 0⟩, ⟨1, 11, .ro, 0⟩]⟩,
   ⟨0x800400, [(16, 65536)], [⟨0, 7, .rw, 0⟩, ⟨8, 7, .ro, 0⟩, ⟨15, 2, .rwm, 0⟩]⟩,
   ⟨0x800404, [(16, 65536)], [⟨16, 26, .rwm, 0x3ffffff⟩]⟩,
   ⟨0x800408, [(16, 65536)], [⟨16, 26, .rwm, 0⟩]⟩,
   ⟨0x80040c, [(16, 65536)], [⟨0, 1, .ro, 0⟩]⟩,
   ⟨0x801000, [(16, 65536), (128, 16)], [⟨16, 32, .ro, 0⟩]⟩,
   ⟨0x801004, [(16, 65536), (128, 16)], [⟨0, 48, .ro, 0⟩]⟩]

def rows_lantern3 : List RegRow :=
  [⟨0x801008, [(16, 65536), (128, 16)], [⟨0, 42, .ro, 0⟩]⟩]

/-- The registers of one block of R678. -/
def rows_lantern : List RegRow := rows_lantern0 ++ rows_lantern1 ++ rows_lantern2 ++ rows_lantern3

def rows_gallery0 : List RegRow :=
  [⟨0x1000000, [(16, 262144)], [⟨0, 4, .rwm, 0⟩, ⟨4, 1, .rwm, 0⟩, ⟨5, 1, .rw, 1⟩]⟩,
   ⟨0x1000004, [(16, 262144)], [⟨0, 32, .ro, 0⟩, ⟨32, 5, .ro, 0⟩, ⟨37, 1, .ro, 0⟩, ⟨38, 6, .ro, 0⟩, ⟨44, 1, .w1c, 0⟩, ⟨45, 1, .w1c, 0⟩, ⟨46, 1, .ro, 1⟩, ⟨47, 1, .ro, 0⟩]⟩,
   ⟨0x1000008, [(16, 262144)], [⟨0, 48, .rw, 0⟩]⟩,
   ⟨0x100000c, [(16, 262144)], [⟨0, 42, .rw, 0⟩]⟩,
   ⟨0x1000010, [(16, 262144)], [⟨0, 16, .rw, 0⟩]⟩,
   ⟨0x1000014, [(16, 262144)], [⟨0, 16, .ro, 0⟩, ⟨16, 1, .ro, 1⟩]⟩,
   ⟨0x1000018, [(16, 262144)], [⟨0, 16, .rw, 0⟩]⟩,
   ⟨0x100001c, [(16, 262144)], [⟨0, 16, .wo, 0⟩]⟩,
   ⟨0x1000020, [(16, 262144)], [⟨0, 16, .wo, 0⟩]⟩,
   ⟨0x1000024, [(16, 262144)], [⟨0, 48, .ro, 0⟩]⟩,
   ⟨0x1000028, [(16, 262144)], [⟨0, 48, .ro, 0⟩]⟩,
   ⟨0x100002c, [(16, 262144)], [⟨0, 1, .w1c, 0⟩]⟩]

def rows_gallery1 : List RegRow :=
  [⟨0x1001000, [(16, 262144), (32, 64)], [⟨0, 3, .ro, 0⟩, ⟨3, 3, .ro, 0⟩, ⟨6, 1, .ro, 0⟩, ⟨7, 1, .ro, 0⟩, ⟨8, 1, .ro, 0⟩, ⟨9, 1, .ro, 0⟩, ⟨10, 1, .ro, 0⟩, ⟨11, 2, .ro, 0⟩]⟩,
   ⟨0x1001004, [(16, 262144), (32, 64)], [⟨0, 24, .ro, 0⟩, ⟨24, 14, .ro, 0⟩]⟩,
   ⟨0x1001008, [(16, 262144), (32, 64)], [⟨0, 8, .ro, 0⟩, ⟨8, 24, .ro, 0⟩, ⟨32, 3, .ro, 0⟩, ⟨35, 3, .ro, 0⟩]⟩,
   ⟨0x100100c, [(16, 262144), (32, 64)], [⟨0, 48, .ro, 0⟩]⟩,
   ⟨0x1001010, [(16, 262144), (32, 64)], [⟨0, 48, .ro, 0⟩]⟩,
   ⟨0x1001014, [(16, 262144), (32, 64)], [⟨0, 16, .ro, 0⟩, ⟨16, 16, .ro, 0⟩, ⟨32, 16, .ro, 0⟩]⟩,
   ⟨0x1001018, [(16, 262144), (32, 64)], [⟨0, 1, .wo, 0⟩]⟩,
   ⟨0x1000040, [(16, 262144)], [⟨0, 9, .rw, 0⟩, ⟨16, 9, .ro, 0⟩]⟩,
   ⟨0x1002000, [(16, 262144), (512, 16)], [⟨16, 32, .ro, 0⟩]⟩,
   ⟨0x1002004, [(16, 262144), (512, 16)], [⟨0, 48, .ro, 0⟩]⟩,
   ⟨0x1002008, [(16, 262144), (512, 16)], [⟨0, 42, .ro, 0⟩]⟩]

/-- The registers of one block of R678. -/
def rows_gallery : List RegRow := rows_gallery0 ++ rows_gallery1

def rows_hbm0 : List RegRow :=
  [⟨0x2000000, [(6, 65536)], [⟨0, 1, .rw, 0⟩, ⟨1, 24, .rw, 0xa0000⟩, ⟨25, 16, .rw, 0x100⟩]⟩,
   ⟨0x2000004, [(6, 65536)], [⟨0, 1, .ro, 0⟩, ⟨1, 8, .ro, 0⟩, ⟨9, 1, .w1c, 0⟩, ⟨10, 1, .ro, 0⟩]⟩,
   ⟨0x2000008, [(6, 65536)], [⟨0, 5, .rw, 0⟩, ⟨5, 5, .rw, 0⟩, ⟨10, 15, .rw, 0⟩, ⟨25, 1, .rw, 0⟩, ⟨26, 1, .wo, 0⟩, ⟨27, 3, .ro, 0⟩]⟩,
   ⟨0x200000c, [(6, 65536)], [⟨0, 1, .rwm, 0⟩]⟩,
   ⟨0x2001000, [(6, 65536), (32, 32)], [⟨0, 32, .rw, 0⟩]⟩,
   ⟨0x2001004, [(6, 65536), (32, 32)], [⟨0, 32, .rw, 0⟩]⟩,
   ⟨0x2001008, [(6, 65536), (32, 32)], [⟨0, 42, .ro, 0⟩]⟩,
   ⟨0x200100c, [(6, 65536), (32, 32)], [⟨0, 42, .ro, 0⟩]⟩,
   ⟨0x2001010, [(6, 65536), (32, 32)], [⟨0, 8, .ro, 0⟩]⟩,
   ⟨0x2001014, [(6, 65536), (32, 32)], [⟨0, 1, .w1c, 0⟩]⟩]

/-- The registers of one block of R678. -/
def rows_hbm : List RegRow := rows_hbm0

def rows_chamber0 : List RegRow :=
  [⟨0x2800000, [(16, 256)], [⟨0, 1, .rw, 0⟩, ⟨1, 16, .rw, 0x400⟩, ⟨17, 16, .rw, 0x100⟩]⟩,
   ⟨0x2800004, [(16, 256)], [⟨0, 32, .rw, 0⟩]⟩,
   ⟨0x2800008, [(16, 256)], [⟨0, 32, .rw, 0⟩]⟩,
   ⟨0x280000c, [(16, 256)], [⟨0, 23, .ro, 0⟩]⟩,
   ⟨0x2800010, [(16, 256)], [⟨0, 23, .ro, 0⟩]⟩,
   ⟨0x2800014, [(16, 256)], [⟨0, 1, .ro, 0⟩, ⟨1, 1, .ro, 0⟩, ⟨2, 1, .w1c, 0⟩]⟩,
   ⟨0x2810000, [(4, 256)], [⟨0, 1, .wo, 0⟩, ⟨1, 1, .wo, 0⟩, ⟨2, 2, .rw, 0⟩, ⟨4, 2, .rw, 0⟩, ⟨6, 2, .rw, 0⟩, ⟨8, 2, .rw, 0⟩, ⟨10, 1, .rw, 0⟩]⟩,
   ⟨0x2810004, [(4, 256)], [⟨0, 42, .rw, 0⟩]⟩,
   ⟨0x2810008, [(4, 256)], [⟨0, 35, .rw, 0⟩]⟩,
   ⟨0x281000c, [(4, 256)], [⟨0, 1, .ro, 0⟩, ⟨1, 1, .w1c, 0⟩, ⟨2, 1, .w1c, 0⟩, ⟨3, 1, .w1c, 0⟩, ⟨4, 3, .ro, 0⟩, ⟨7, 1, .w1c, 0⟩, ⟨8, 4, .ro, 0⟩, ⟨12, 1, .ro, 0⟩]⟩,
   ⟨0x2810010, [(4, 256)], [⟨0, 37, .ro, 0⟩]⟩,
   ⟨0x2810014, [(4, 256)], [⟨0, 14, .ro, 0⟩]⟩]

def rows_chamber1 : List RegRow :=
  [⟨0x2810018, [(4, 256)], [⟨0, 42, .ro, 0⟩]⟩,
   ⟨0x281001c, [(4, 256)], [⟨0, 32, .ro, 0⟩]⟩,
   ⟨0x2810020, [(4, 256)], [⟨0, 32, .ro, 0⟩]⟩,
   ⟨0x2810024, [(4, 256)], [⟨0, 36, .ro, 0⟩]⟩,
   ⟨0x2810028, [(4, 256)], [⟨0, 32, .ro, 0⟩]⟩,
   ⟨0x281002c, [(4, 256)], [⟨0, 37, .ro, 0⟩]⟩]

/-- The registers of one block of R678. -/
def rows_chamber : List RegRow := rows_chamber0 ++ rows_chamber1

def rows_lane0 : List RegRow :=
  [⟨0x3000000, [(256, 16384)], [⟨0, 1, .rw, 0⟩, ⟨1, 3, .rw, 0⟩, ⟨4, 15, .rw, 0⟩, ⟨19, 1, .rw, 0⟩, ⟨20, 8, .rw, 0⟩, ⟨28, 1, .rw, 0⟩, ⟨29, 1, .rw, 0⟩]⟩,
   ⟨0x3000004, [(256, 16384)], [⟨0, 3, .ro, 0⟩, ⟨3, 1, .w1c, 0⟩, ⟨4, 1, .w1c, 0⟩, ⟨5, 1, .w1c, 0⟩]⟩,
   ⟨0x3000008, [(256, 16384)], [⟨0, 6, .ro, 0⟩, ⟨6, 1, .ro, 0⟩, ⟨7, 1, .wo, 0⟩, ⟨8, 1, .wo, 0⟩, ⟨9, 2, .ro, 0⟩]⟩,
   ⟨0x300000c, [(256, 16384)], [⟨0, 16, .rw, 0x7d0⟩, ⟨16, 4, .rw, 4⟩, ⟨20, 8, .rw, 0x64⟩, ⟨28, 1, .rw, 0⟩]⟩,
   ⟨0x3000010, [(256, 16384)], [⟨0, 16, .rw, 0⟩, ⟨16, 16, .rw, 0⟩]⟩,
   ⟨0x3000014, [(256, 16384)], [⟨0, 5, .rw, 0⟩, ⟨5, 1, .rw, 0⟩, ⟨6, 20, .rw, 0x800⟩, ⟨26, 4, .rw, 0⟩, ⟨30, 1, .rw, 0⟩, ⟨31, 1, .rw, 0⟩, ⟨32, 1, .rw, 0⟩]⟩,
   ⟨0x3000018, [(256, 16384)], [⟨0, 12, .wo, 0⟩]⟩,
   ⟨0x300001c, [(256, 16384)], [⟨0, 1, .wo, 0⟩, ⟨1, 1, .wo, 0⟩]⟩,
   ⟨0x3000020, [(256, 16384)], [⟨0, 1, .ro, 0⟩, ⟨1, 1, .w1c, 0⟩, ⟨2, 5, .ro, 0⟩, ⟨7, 1, .w1c, 0⟩, ⟨8, 1, .w1c, 0⟩]⟩,
   ⟨0x3000024, [(256, 16384)], [⟨0, 1, .w1c, 0⟩, ⟨1, 1, .w1c, 0⟩, ⟨2, 1, .w1c, 0⟩, ⟨3, 1, .w1c, 0⟩]⟩,
   ⟨0x3000028, [(256, 16384), (8, 4)], [⟨0, 32, .ro, 0⟩]⟩,
   ⟨0x3000100, [(256, 16384), (16, 4)], [⟨0, 5, .rw, 0⟩, ⟨5, 1, .rw, 0⟩]⟩]

def rows_lane1 : List RegRow :=
  [⟨0x3000140, [(256, 16384), (16, 4)], [⟨0, 2, .ro, 0⟩, ⟨2, 1, .ro, 0⟩, ⟨3, 3, .ro, 0⟩]⟩,
   ⟨0x3000180, [(256, 16384), (16, 4)], [⟨0, 48, .ro, 0⟩]⟩,
   ⟨0x30001c0, [(256, 16384), (16, 4)], [⟨0, 16, .ro, 0⟩, ⟨16, 16, .ro, 0⟩, ⟨32, 8, .ro, 0⟩, ⟨40, 8, .ro, 0⟩]⟩,
   ⟨0x3000200, [(256, 16384), (16, 4)], [⟨0, 16, .ro, 0⟩, ⟨16, 16, .ro, 0⟩, ⟨32, 16, .ro, 0⟩]⟩]

/-- The registers of one block of R678. -/
def rows_lane : List RegRow := rows_lane0 ++ rows_lane1

def rows_ether0 : List RegRow :=
  [⟨0x3440000, [], [⟨0, 42, .rw, 0⟩]⟩,
   ⟨0x3441000, [(2, 2048), (32, 64)], [⟨0, 1, .rw, 0⟩, ⟨1, 1, .rw, 0⟩, ⟨2, 1, .rw, 0⟩, ⟨3, 2, .rw, 0⟩, ⟨5, 1, .rw, 0⟩, ⟨6, 1, .rw, 0⟩, ⟨7, 1, .rw, 0⟩]⟩,
   ⟨0x3441004, [(2, 2048), (32, 64)], [⟨0, 42, .rw, 0⟩]⟩,
   ⟨0x3441008, [(2, 2048), (32, 64)], [⟨0, 16, .rw, 0⟩, ⟨16, 16, .rw, 0⟩]⟩,
   ⟨0x344100c, [(2, 2048), (32, 64)], [⟨0, 42, .rw, 0⟩]⟩,
   ⟨0x3441010, [(2, 2048), (32, 64)], [⟨0, 16, .ro, 0⟩, ⟨16, 1, .ro, 1⟩]⟩,
   ⟨0x3441014, [(2, 2048), (32, 64)], [⟨0, 16, .rw, 0⟩]⟩,
   ⟨0x3441018, [(2, 2048), (32, 64)], [⟨0, 1, .w1c, 0⟩]⟩,
   ⟨0x344101c, [(2, 2048), (32, 64)], [⟨0, 32, .ro, 0⟩]⟩,
   ⟨0x3441020, [(2, 2048), (32, 64)], [⟨0, 32, .ro, 0⟩]⟩,
   ⟨0x3444000, [(4096, 4)], [⟨0, 2, .ro, 0⟩, ⟨2, 8, .ro, 0⟩, ⟨10, 1, .ro, 0⟩]⟩,
   ⟨0x3400000, [(64, 4096)], [⟨0, 1, .rw, 0⟩, ⟨1, 1, .rw, 0⟩, ⟨2, 14, .rw, 0x5ee⟩, ⟨16, 5, .rw, 0⟩, ⟨21, 1, .rw, 0⟩, ⟨22, 1, .rw, 0⟩, ⟨23, 1, .rw, 0⟩]⟩]

def rows_ether1 : List RegRow :=
  [⟨0x3400004, [(64, 4096)], [⟨0, 1, .ro, 0⟩, ⟨1, 1, .w1c, 0⟩]⟩,
   ⟨0x3400008, [(64, 4096)], [⟨0, 48, .rw, 0⟩]⟩,
   ⟨0x3400040, [(64, 4096), (16, 8)], [⟨0, 1, .rw, 0⟩, ⟨1, 1, .rw, 0⟩, ⟨2, 16, .rw, 0⟩]⟩,
   ⟨0x3400044, [(64, 4096), (16, 8)], [⟨0, 5, .rw, 0⟩, ⟨5, 2, .rw, 0⟩, ⟨7, 1, .rw, 0⟩]⟩,
   ⟨0x3400100, [(64, 4096)], [⟨0, 42, .rw, 0⟩]⟩,
   ⟨0x3400104, [(64, 4096)], [⟨0, 16, .rw, 0⟩]⟩,
   ⟨0x3400108, [(64, 4096)], [⟨0, 16, .rw, 0⟩]⟩,
   ⟨0x340010c, [(64, 4096)], [⟨0, 16, .ro, 0⟩]⟩,
   ⟨0x3400200, [(64, 4096)], [⟨0, 48, .rw, 0⟩]⟩,
   ⟨0x3400204, [(64, 4096)], [⟨0, 30, .rw, 0⟩]⟩,
   ⟨0x3400208, [(64, 4096)], [⟨0, 48, .rw, 0xa0000000⟩]⟩,
   ⟨0x340020c, [(64, 4096)], [⟨0, 48, .wo, 0⟩]⟩]

def rows_ether2 : List RegRow :=
  [⟨0x3400210, [(64, 4096)], [⟨0, 1, .rw, 0⟩, ⟨1, 8, .rw, 0⟩, ⟨9, 1, .w1c, 0⟩]⟩,
   ⟨0x3400214, [(64, 4096)], [⟨0, 32, .ro, 0⟩]⟩,
   ⟨0x3400218, [(64, 4096)], [⟨0, 16, .rw, 0⟩, ⟨16, 16, .rw, 0⟩]⟩,
   ⟨0x3400220, [(64, 4096), (4, 4)], [⟨0, 32, .ro, 0⟩]⟩]

/-- The registers of one block of R678. -/
def rows_ether : List RegRow := rows_ether0 ++ rows_ether1 ++ rows_ether2

def rows_passage0 : List RegRow :=
  [⟨0x3800000, [(2, 4096)], [⟨0, 1, .rwm, 0⟩, ⟨1, 1, .rwm, 0⟩, ⟨2, 24, .rwm, 0x186a0⟩]⟩,
   ⟨0x3800004, [(2, 4096)], [⟨0, 1, .ro, 0⟩, ⟨1, 1, .w1c, 0⟩, ⟨2, 1, .w1c, 0⟩, ⟨3, 2, .ro, 0⟩, ⟨5, 2, .ro, 0⟩, ⟨7, 3, .ro, 0⟩, ⟨10, 1, .w1c, 0⟩, ⟨11, 1, .w1c, 0⟩]⟩,
   ⟨0x3800008, [(2, 4096)], [⟨0, 4, .ro, 0⟩, ⟨4, 3, .ro, 0⟩, ⟨7, 1, .ro, 0⟩, ⟨8, 1, .ro, 0⟩]⟩,
   ⟨0x380000c, [(2, 4096)], [⟨0, 36, .ro, 0⟩]⟩,
   ⟨0x3800010, [(2, 4096)], [⟨0, 18, .ro, 0⟩]⟩,
   ⟨0x3800014, [(2, 4096)], [⟨0, 32, .ro, 0⟩]⟩,
   ⟨0x3800018, [(2, 4096)], [⟨0, 16, .ro, 0⟩]⟩,
   ⟨0x380001c, [(2, 4096)], [⟨0, 32, .ro, 0⟩]⟩,
   ⟨0x3800020, [(2, 4096)], [⟨0, 32, .ro, 0⟩]⟩,
   ⟨0x3800024, [(2, 4096)], [⟨0, 32, .rw, 0⟩]⟩,
   ⟨0x3800028, [(2, 4096)], [⟨0, 32, .rw, 0⟩]⟩,
   ⟨0x380002c, [(2, 4096)], [⟨0, 16, .ro, 0⟩]⟩]

def rows_passage1 : List RegRow :=
  [⟨0x3800030, [(2, 4096)], [⟨0, 42, .ro, 0⟩]⟩,
   ⟨0x3800034, [(2, 4096)], [⟨0, 32, .ro, 0⟩]⟩,
   ⟨0x3800038, [(2, 4096)], [⟨0, 10, .rwm, 0⟩, ⟨10, 1, .ro, 0⟩, ⟨11, 1, .ro, 0⟩]⟩,
   ⟨0x3800800, [(2, 4096), (256, 8)], [⟨16, 26, .rwm, 0⟩, ⟨42, 1, .rwm, 0⟩, ⟨43, 1, .rwm, 0⟩]⟩,
   ⟨0x3800804, [(2, 4096), (256, 8)], [⟨16, 26, .rwm, 0⟩, ⟨42, 1, .rwm, 0⟩, ⟨43, 1, .rwm, 0⟩, ⟨44, 1, .rwm, 0⟩]⟩,
   ⟨0x3802000, [(11, 32)], [⟨0, 1, .ro, 0⟩, ⟨1, 1, .ro, 0⟩]⟩,
   ⟨0x3802004, [(11, 32)], [⟨0, 32, .ro, 0⟩]⟩,
   ⟨0x3802008, [(11, 32)], [⟨0, 16, .ro, 0⟩]⟩]

/-- The registers of one block of R678. -/
def rows_passage : List RegRow := rows_passage0 ++ rows_passage1

def rows_measure0 : List RegRow :=
  [⟨0x3a00000, [(32, 32)], [⟨0, 6, .ro, 0⟩, ⟨6, 1, .ro, 0⟩, ⟨7, 1, .wo, 0⟩, ⟨8, 1, .wo, 0⟩, ⟨9, 2, .ro, 0⟩, ⟨11, 3, .ro, 0⟩]⟩,
   ⟨0x3a00004, [(32, 32)], [⟨0, 1, .rw, 0⟩]⟩,
   ⟨0x3a00008, [(32, 32)], [⟨0, 1, .wo, 0⟩]⟩,
   ⟨0x3a0000c, [(32, 32)], [⟨0, 1, .ro, 0⟩, ⟨1, 1, .w1c, 0⟩, ⟨2, 1, .w1c, 0⟩, ⟨3, 1, .w1c, 0⟩]⟩,
   ⟨0x3a00010, [(32, 32)], [⟨0, 12, .ro, 0⟩, ⟨12, 1, .ro, 0⟩, ⟨13, 4, .ro, 0⟩]⟩,
   ⟨0x3a00014, [(32, 32)], [⟨0, 48, .ro, 0⟩]⟩,
   ⟨0x3a00018, [(32, 32)], [⟨0, 32, .ro, 0⟩]⟩,
   ⟨0x3a01000, [(16, 16)], [⟨0, 6, .ro, 0⟩, ⟨6, 1, .ro, 0⟩, ⟨7, 1, .wo, 0⟩, ⟨8, 1, .wo, 0⟩, ⟨9, 2, .ro, 0⟩, ⟨11, 3, .ro, 0⟩]⟩,
   ⟨0x3a01004, [(16, 16)], [⟨0, 1, .rw, 0⟩, ⟨1, 1, .rw, 0⟩, ⟨2, 1, .rw, 0⟩]⟩,
   ⟨0x3a01008, [(16, 16)], [⟨0, 3, .ro, 0⟩, ⟨3, 3, .ro, 0⟩, ⟨6, 1, .w1c, 0⟩, ⟨7, 1, .w1c, 0⟩]⟩,
   ⟨0x3a02000, [(64, 16)], [⟨0, 6, .ro, 0⟩, ⟨6, 1, .ro, 0⟩, ⟨7, 1, .wo, 0⟩, ⟨8, 1, .wo, 0⟩, ⟨9, 2, .ro, 0⟩, ⟨11, 3, .ro, 0⟩]⟩,
   ⟨0x3a02004, [(64, 16)], [⟨0, 1, .rw, 0⟩, ⟨1, 1, .rw, 0⟩, ⟨2, 2, .rw, 2⟩]⟩]

def rows_measure1 : List RegRow :=
  [⟨0x3a02008, [(64, 16)], [⟨0, 1, .rw, 0⟩]⟩,
   ⟨0x3a0200c, [(64, 16)], [⟨0, 1, .ro, 0⟩, ⟨1, 1, .w1c, 0⟩]⟩,
   ⟨0x3a03000, [(48, 16)], [⟨0, 6, .ro, 0⟩, ⟨6, 1, .ro, 0⟩, ⟨7, 1, .wo, 0⟩, ⟨8, 1, .wo, 0⟩, ⟨9, 2, .ro, 0⟩, ⟨11, 3, .ro, 0⟩]⟩,
   ⟨0x3a03004, [(48, 16)], [⟨0, 1, .rw, 0⟩, ⟨1, 2, .rw, 0⟩, ⟨3, 2, .rw, 2⟩]⟩,
   ⟨0x3a03008, [(48, 16)], [⟨0, 1, .ro, 0⟩, ⟨1, 1, .w1c, 0⟩, ⟨2, 1, .w1c, 0⟩]⟩]

/-- The registers of one block of R678. -/
def rows_measure : List RegRow := rows_measure0 ++ rows_measure1

def rows_host0 : List RegRow :=
  [⟨0x3c00000, [(16, 16384)], [⟨0, 1, .rw, 0⟩, ⟨1, 4, .rw, 0⟩, ⟨5, 4, .rw, 0⟩]⟩,
   ⟨0x3c00004, [(16, 16384)], [⟨0, 42, .rw, 0⟩]⟩,
   ⟨0x3c00008, [(16, 16384)], [⟨0, 42, .rw, 0⟩]⟩,
   ⟨0x3c0000c, [(16, 16384)], [⟨0, 16, .wo, 0⟩]⟩,
   ⟨0x3c00010, [(16, 16384)], [⟨0, 16, .wo, 0⟩]⟩,
   ⟨0x3c00014, [(16, 16384)], [⟨0, 16, .ro, 0⟩, ⟨16, 16, .ro, 0⟩]⟩,
   ⟨0x3c00018, [(16, 16384)], [⟨0, 16, .ro, 0⟩, ⟨16, 16, .ro, 0⟩]⟩,
   ⟨0x3c0001c, [(16, 16384)], [⟨0, 1, .ro, 0⟩, ⟨1, 1, .w1c, 0⟩, ⟨2, 1, .w1c, 0⟩, ⟨3, 1, .w1c, 0⟩, ⟨4, 1, .w1c, 0⟩, ⟨5, 1, .w1c, 0⟩]⟩,
   ⟨0x3c00020, [(16, 16384)], [⟨0, 48, .rw, 0⟩]⟩,
   ⟨0x3c00024, [(16, 16384)], [⟨0, 1, .wo, 0⟩]⟩,
   ⟨0x3c00028, [(16, 16384)], [⟨0, 4, .wo, 0⟩]⟩,
   ⟨0x3c0002c, [(16, 16384)], [⟨0, 42, .ro, 0⟩]⟩]

def rows_host1 : List RegRow :=
  [⟨0x3c00040, [(16, 16384), (16, 4)], [⟨28, 14, .rwm, 0⟩, ⟨42, 1, .rwm, 0⟩, ⟨43, 1, .rwm, 0⟩, ⟨44, 1, .rwm, 0⟩, ⟨45, 1, .rwm, 0⟩]⟩,
   ⟨0x3c40000, [], [⟨0, 2, .rwl, 2⟩, ⟨2, 4, .rwl, 0xf⟩, ⟨6, 1, .ro, 0⟩]⟩,
   ⟨0x3c40004, [], [⟨0, 1, .ro, 0⟩, ⟨1, 3, .ro, 0⟩, ⟨4, 5, .ro, 0⟩]⟩,
   ⟨0x3c40008, [], [⟨0, 1, .wo, 0⟩, ⟨1, 1, .ro, 0⟩, ⟨2, 8, .ro, 0⟩]⟩,
   ⟨0x3c4000c, [], [⟨0, 16, .rwl, 0⟩, ⟨16, 16, .rwl, 0⟩]⟩,
   ⟨0x3c40010, [], [⟨0, 32, .ro, 0⟩]⟩]

/-- The registers of one block of R678. -/
def rows_host : List RegRow := rows_host0 ++ rows_host1

def rows_security0 : List RegRow :=
  [⟨0x3d00000, [], [⟨0, 1, .ro, 0⟩, ⟨1, 1, .wo, 0⟩]⟩,
   ⟨0x3d00004, [], [⟨0, 2, .ro, 0⟩, ⟨2, 1, .ro, 0⟩, ⟨3, 8, .ro, 0⟩, ⟨11, 16, .ro, 0⟩]⟩,
   ⟨0x3d00008, [], [⟨0, 7, .ro, 0⟩, ⟨7, 7, .ro, 0⟩]⟩,
   ⟨0x3d0000c, [], [⟨0, 1, .rwl, 0⟩, ⟨1, 1, .ro, 0⟩, ⟨2, 1, .ro, 0⟩]⟩,
   ⟨0x3d00010, [], [⟨0, 42, .rwm, 0⟩]⟩,
   ⟨0x3d00014, [], [⟨0, 16, .wo, 0⟩]⟩,
   ⟨0x3d00018, [], [⟨0, 1, .wo, 0⟩, ⟨1, 1, .ro, 0⟩, ⟨2, 1, .w1c, 0⟩, ⟨3, 1, .w1c, 0⟩]⟩,
   ⟨0x3d0001c, [], [⟨0, 42, .rw, 0⟩]⟩,
   ⟨0x3d00020, [(2, 4)], [⟨0, 48, .rw, 0⟩]⟩,
   ⟨0x3d00040, [(11, 4)], [⟨0, 48, .ro, 0⟩]⟩,
   ⟨0x3d00080, [(10, 4)], [⟨0, 48, .ro, 0⟩]⟩]

/-- The registers of one block of R678. -/
def rows_security : List RegRow := rows_security0

def rows_cairnpf0 : List RegRow :=
  [⟨0x3e00000, [], [⟨0, 32, .ro, 0⟩]⟩,
   ⟨0x3e00004, [], [⟨0, 32, .rw, 0⟩]⟩,
   ⟨0x3e00008, [], [⟨0, 16, .rw, 0x8000⟩, ⟨16, 5, .rw, 0⟩, ⟨21, 8, .rw, 0⟩, ⟨29, 1, .rw, 0⟩]⟩,
   ⟨0x3e0000c, [], [⟨0, 1, .w1c, 0⟩, ⟨1, 1, .w1c, 0⟩, ⟨2, 1, .w1c, 0⟩]⟩,
   ⟨0x3e00010, [], [⟨0, 32, .ro, 0⟩]⟩,
   ⟨0x3e00014, [], [⟨0, 32, .ro, 0⟩]⟩,
   ⟨0x3e00018, [], [⟨0, 16, .rw, 0⟩]⟩,
   ⟨0x3e0001c, [(4, 4)], [⟨0, 48, .ro, 0⟩]⟩,
   ⟨0x3e0002c, [], [⟨0, 48, .wo, 0⟩]⟩,
   ⟨0x3e01000, [], [⟨0, 18, .rwl, 0x4e20⟩, ⟨18, 4, .rwl, 4⟩, ⟨22, 1, .rwl, 1⟩]⟩,
   ⟨0x3e01004, [], [⟨0, 1, .ro, 0⟩, ⟨1, 1, .ro, 0⟩, ⟨2, 1, .ro, 0⟩, ⟨3, 1, .ro, 0⟩, ⟨4, 1, .ro, 0⟩, ⟨5, 1, .w1c, 0⟩, ⟨6, 1, .w1c, 0⟩]⟩,
   ⟨0x3e01008, [], [⟨0, 32, .ro, 0⟩]⟩]

def rows_cairnpf1 : List RegRow :=
  [⟨0x3e0100c, [], [⟨0, 1, .wo, 0⟩, ⟨1, 1, .wo, 0⟩]⟩]

/-- The registers of one block of R678. -/
def rows_cairnpf : List RegRow := rows_cairnpf0 ++ rows_cairnpf1

def rows_casc0 : List RegRow :=
  [⟨0x3f80000, [(16, 2048), (512, 4)], [⟨0, 24, .rwl, 0⟩]⟩,
   ⟨0x3f88000, [(16, 64), (16, 4)], [⟨0, 13, .rwl, 0⟩, ⟨13, 10, .rwl, 0⟩, ⟨23, 1, .rwl, 0⟩]⟩,
   ⟨0x3f89000, [(1024, 4)], [⟨0, 24, .rwl, 0⟩]⟩,
   ⟨0x3f8a000, [(16, 4)], [⟨0, 13, .rwl, 0⟩, ⟨13, 10, .rwl, 0⟩, ⟨23, 1, .rwl, 0⟩]⟩,
   ⟨0x3f8a100, [], [⟨0, 1, .ro, 0⟩, ⟨1, 1, .w1c, 0⟩, ⟨2, 1, .w1c, 0⟩]⟩,
   ⟨0x3f8a104, [(11, 4)], [⟨0, 48, .ro, 0⟩]⟩,
   ⟨0x3f00000, [], [⟨0, 3, .rwm, 0⟩, ⟨3, 2, .rwm, 0⟩, ⟨5, 8, .rwm, 0⟩, ⟨13, 8, .rwm, 0⟩, ⟨21, 1, .rwm, 0⟩, ⟨22, 20, .rwm, 0x4e20⟩]⟩,
   ⟨0x3f00004, [], [⟨0, 16, .rwm, 0⟩]⟩,
   ⟨0x3f00008, [], [⟨0, 16, .rwm, 0⟩]⟩,
   ⟨0x3f0000c, [], [⟨0, 1, .ro, 0⟩, ⟨1, 8, .ro, 0⟩, ⟨9, 1, .w1c, 0⟩, ⟨10, 1, .w1c, 0⟩, ⟨11, 1, .w1c, 0⟩, ⟨12, 1, .w1c, 0⟩]⟩,
   ⟨0x3f00010, [], [⟨0, 32, .ro, 0⟩]⟩,
   ⟨0x3f00020, [(16, 8)], [⟨0, 3, .rwm, 0⟩, ⟨3, 8, .rwm, 0⟩]⟩]

def rows_casc1 : List RegRow :=
  [⟨0x3f00024, [(16, 8)], [⟨0, 48, .ro, 0⟩]⟩]

/-- The registers of one block of R678. -/
def rows_casc : List RegRow := rows_casc0 ++ rows_casc1

/-- The block of R678 that an offset lies in. -/
def rowsAt (off : Nat) : List RegRow :=
  if off < 0x100000 then rows_legend
  else if off < 0x200000 then rows_junction
  else if off < 0x300000 then rows_traverse
  else if off < 0x400000 then rows_gaz
  else if off < 0x800000 then rows_evc
  else if off < 0x1000000 then rows_lantern
  else if off < 0x2000000 then rows_gallery
  else if off < 0x2800000 then rows_hbm
  else if off < 0x3000000 then rows_chamber
  else if off < 0x3400000 then rows_lane
  else if off < 0x3800000 then rows_ether
  else if off < 0x3a00000 then rows_passage
  else if off < 0x3c00000 then rows_measure
  else if off < 0x3d00000 then rows_host
  else if off < 0x3e00000 then rows_security
  else if off < 0x3f00000 then rows_cairnpf
  else if off < 0x4000000 then rows_casc
  else []

/-- Whether a displacement is a sum of whole strides within the counts; the element's indices. -/
def dimIndex : List (Nat × Nat) → Nat → Option (List Nat)
  | [], d => if d = 0 then some [] else none
  | (c, st) :: ds, d => if d / st < c then (dimIndex ds (d % st)).map (d / st :: ·) else none

/-- The row of a register and its indices, none for an offset that no register occupies (R680). -/
def findRow : List RegRow → Nat → Option (RegRow × List Nat)
  | [], _ => none
  | r :: rs, off =>
    if off < r.base then findRow rs off
    else match dimIndex r.dims (off - r.base) with
      | some ix => some (r, ix)
      | none => findRow rs off

/-- The register at an offset. -/
def regAt (off : Nat) : Option (RegRow × List Nat) := findRow (rowsAt off) off

/-- The sum of the reset values of a row's fields, each at its place. -/
def resetOf : List FieldRow → Nat
  | [] => 0
  | f :: fs => f.reset * 2 ^ f.lo + resetOf fs

/-- The parking settings after reset, R336. -/
def parkReset (t : Nat) : Nat :=
  if t < 2 then 2 else if t = 2 then 2 + 8 * 1 else if t = 3 then 2 + 8 * 2 else if t < 6 then 2 + 8 * 3
  else if t < 22 then 3 else if t = 22 ∨ t = 24 then 1 else if t = 23 then 1 + 8 * 38
  else if t = 25 then 1 + 8 * 32 else if t = 26 then 1 + 8 * 33 else if t < 33 then 0
  else if t < 37 then 4 else 0

/-- The reset value of the register at an offset: the Reset columns, with R336 for JUNC.PARK and R386 for
COREID, whose values depend on the index. -/
def regReset (off : Nat) : BitVec 48 :=
  match regAt off with
  | none => 0
  | some (r, ix) =>
    if r.base = 0x103000 then BitVec.ofNat 48 (parkReset (ix.headD 0))
    else if r.base = 0x80005c then BitVec.ofNat 48 (ix.headD 0 + ix.headD 0 / 4 * 16)
    else BitVec.ofNat 48 (resetOf r.fields)

end Sys2Proof.Machine
end

