-- ==== Sys2Proof/Machine/StateFabric.lean ====
section
/-! DEFINITION. The state of the Junction and of Passage that is no register (09 R326–R378). -/

namespace Sys2Proof.Machine

/-- The statuses of R342. -/
inductive Status where
  | ok | jerr | tref | locked | align | iomiss | ioperm | linkdown | timeout | uncor
  deriving DecidableEq, Repr

/-- The values of R342. -/
def Status.code : Status → Nat
  | .ok => 0 | .jerr => 1 | .tref => 2 | .locked => 3 | .align => 4 | .iomiss => 5 | .ioperm => 6
  | .linkdown => 7 | .timeout => 8 | .uncor => 9

/-- The status of a value; a reserved one counts as TREF, R342. -/
def Status.decode (x : Nat) : Status :=
  match x with
  | 0 => .ok | 1 => .jerr | 3 => .locked | 4 => .align | 5 => .iomiss | 6 => .ioperm
  | 7 => .linkdown | 8 => .timeout | 9 => .uncor | _ => .tref

/-- The accesses a Junction request can carry. -/
inductive JOp where
  | rd
  | wr (w : Word)
  | samp (v : BitVec 12)
  | field (w : Word) (mask et : Nat)
  | fadd (p : Payload)
  | swap (w : Word)
  | cas (expect new : Word)
  | pteupd (expect new : Word)
  deriving DecidableEq, Repr

/-- Whether the access is a write, for the direction of R344. -/
def JOp.writes : JOp → Bool
  | .rd => false | _ => true

/-- A request waiting at a target port, R334. -/
structure JReq where
  m : Nat
  lv : Level
  a : Nat
  op : JOp
  /-- The tick of its arrival. -/
  arr : Nat
  /-- A core's virtual address for ASTORE, R485. -/
  va : Nat := 0
  /-- An access to an SE page, R352. -/
  se : Bool := false
  /-- It has arrived in this GCLK, R335. -/
  fresh : Bool := true
  deriving DecidableEq, Repr

/-- A target port: the master that it granted last, none after reset (R334), whether it granted in the previous GCLK
(R335), and the GCLK of boot mode before it may grant again (R339). -/
structure Port where
  last : Option Nat := none
  busy : Bool := false
  gap : Nat := 0
  deriving DecidableEq, Repr

/-- A response on its way to a master, R343. -/
structure JRsp where
  m : Nat
  a : Nat
  st : Status
  w : Word
  wr : Bool
  va : Nat := 0
  deriving DecidableEq, Repr

/-- The Junction beside its registers. -/
structure Junc where
  waiting : List JReq := []
  rsps : List JRsp := []
  /-- The last response delivered to each master. -/
  delivered : Tab (Option JRsp) := []
  /-- The target ports by their IDs. -/
  ports : Tab Port := []
  /-- EN was written and the Junction waits for outstanding transactions, R339. -/
  draining : Bool := false
  /-- The slices applied when EN took effect, R339. -/
  slices : Tab (BitVec 48) := []
  /-- Internal links that are down until reset, R364. -/
  linksDown : List Nat := []
  /-- Targets outside the save domain are absent, R650. -/
  isolated : Bool := false
  deriving DecidableEq, Repr

/-- Credits of the three channels REQ, RSP and STR, R358. -/
structure Credits where
  reqH : Nat := 0
  reqD : Nat := 0
  rspH : Nat := 0
  rspD : Nat := 0
  strH : Nat := 0
  strD : Nat := 0
  deriving DecidableEq, Repr

/-- A Passage transaction as the device sends it: header bits and data containers, R352 and R354. -/
structure PTx where
  hdr : BitVec 192
  data : List Container
  deriving DecidableEq, Repr

/-- A flit: its 10 slots, the control slot first, R346 and R347. -/
abbrev Flit := List (BitVec 192)

/-- A request or STREAM received from a site and not yet performed: its header, the words of its containers (R351), the
data slots it holds, whether a container was uncorrectable, and for a request the status that refuses it, or OK with the
translated address and the TAGP bit of its IOTLB entry (R369). -/
structure PIn where
  hdr : BitVec 192
  ws : List Word
  slots : Nat
  bad : Bool := false
  st : Status := .ok
  pa : Nat := 0
  tagp : Bool := false
  deriving DecidableEq, Repr

/-- A device request to a site that waits for its response, R366 and R372, with the words that the response brings. -/
structure PReq where
  tag : Nat
  m : Nat
  a : Nat
  wr : Bool
  sentAt : Nat
  n : Nat := 1
  deriving DecidableEq, Repr

/-- The result that a site gave a device request: status and words, kept until its master takes it. -/
structure PDone where
  m : Nat
  a : Nat
  wr : Bool
  st : Status
  ws : List Word
  deriving DecidableEq, Repr

/-- A customer site beside its registers, R365–R374. -/
structure Site where
  /-- The site reset is released. -/
  released : Bool := false
  /-- The tick in which bring-up began, R373. -/
  since : Option Nat := none
  /-- How far bring-up has come, R373: 2 once the site reset is released, 3 once the modules are trained, 4 once the
adapters are active, 0 when the link is down. -/
  stage : Nat := 0
  /-- The step of R373 that bring-up has to complete next. -/
  step : Nat := 0
  /-- Bring-up has failed since RSTN was last 0, R373. -/
  failed : Bool := false
  /-- The chiplet's first flit was received. -/
  gotInit : Bool := false
  /-- Credits the chiplet holds on the device's channels. -/
  theirs : Credits := {}
  /-- Credits the device holds on the chiplet's channels. -/
  ours : Credits := {}
  /-- The chiplet's initial grant, which returned credits must not exceed. -/
  grant : Credits := {}
  /-- Requests received and not yet performed, because an access waits. -/
  rxq : List PIn := []
  /-- STREAM transactions received that wait for space, R361. -/
  strq : List PIn := []
  /-- Credits of freed buffer space not yet returned, R358. -/
  owed : Credits := {}
  /-- Transactions waiting for credits or for the adapter. -/
  txq : List PTx := []
  /-- Transactions sent. -/
  sent : List PTx := []
  /-- Flits sent, R346. -/
  wire : List Flit := []
  /-- Outstanding device requests. -/
  reqs : List PReq := []
  /-- Tags retired by a timeout. -/
  retired : List PReq := []
  /-- Finished device requests. -/
  dones : List PDone := []
  deriving DecidableEq, Repr

end Sys2Proof.Machine
end

