-- ==== Sys2Proof/Machine/Fixed.lean ====
section
/-! DEFINITION. Fixed-point element arithmetic (03 R72–R84) and the sticky flags. -/

namespace Sys2Proof.Machine

/-- The sticky flags, in the order of FPCFG [14:8] and of CW1.FLAGS (R72, R227). -/
structure Flg where
  iv : Bool := false
  dz : Bool := false
  of : Bool := false
  uf : Bool := false
  nx : Bool := false
  sat : Bool := false
  dov : Bool := false
  deriving DecidableEq, Repr

/-- The union of two flag sets, R75 and R76. -/
def Flg.or (a b : Flg) : Flg :=
  ⟨a.iv || b.iv, a.dz || b.dz, a.of || b.of, a.uf || b.uf, a.nx || b.nx, a.sat || b.sat, a.dov || b.dov⟩

/-- The flags as a number, IV in bit 0 to DOV in bit 6. -/
def Flg.toNat (a : Flg) : Nat :=
  b2n a.iv + 2 * b2n a.dz + 4 * b2n a.of + 8 * b2n a.uf + 16 * b2n a.nx + 32 * b2n a.sat + 64 * b2n a.dov

/-- The flags of a number, IV in bit 0 to DOV in bit 6. -/
def Flg.ofNat (x : Nat) : Flg :=
  ⟨bit x 0, bit x 1, bit x 2, bit x 3, bit x 4, bit x 5, bit x 6⟩

/-- Rounding modes of fixed-point results, R74. -/
inductive XRound where
  | trunc | rhu | rhe | rto
  deriving DecidableEq, Repr

/-- The encoding of R74. -/
def XRound.decode (x : Nat) : XRound :=
  match x % 4 with
  | 0 => .trunc
  | 1 => .rhu
  | 2 => .rhe
  | _ => .rto

/-- `round` of R81 on the rational `num / den`, `den > 0`. -/
def roundQ (mode : XRound) (num : Int) (den : Nat) : Int :=
  let f := num / (den : Int)
  if num % (den : Int) = 0 then f
  else match mode with
    | .trunc => f
    | .rhu => (2 * num + den) / (2 * (den : Int))
    | .rhe =>
      let r := (2 * num + den) / (2 * (den : Int))
      if (2 * num + den) % (2 * (den : Int)) = 0 ∧ r % 2 = 1 then r - 1 else r
    | .rto => if f % 2 = 0 then f + 1 else f

/-- Element types, R157; their encoding is ETYPE. -/
inductive EType where
  | s12u | s12s | h16s | p24s | i48 | fp | dec
  deriving DecidableEq, Repr

/-- ETYPE of R157; 0b111 is reserved. -/
def EType.decode (x : Nat) : Option EType :=
  match x % 8 with
  | 0 => some .s12u
  | 1 => some .s12s
  | 2 => some .h16s
  | 3 => some .p24s
  | 4 => some .i48
  | 5 => some .fp
  | 6 => some .dec
  | _ => none

/-- Elements per word, R157. -/
def EType.perWord : EType → Nat
  | .s12u => 4 | .s12s => 4 | .h16s => 3 | .p24s => 2 | .i48 => 1 | .fp => 1 | .dec => 1

/-- Field width in bits, R80 (48 for the one-element types). -/
def EType.width : EType → Nat
  | .s12u => 12 | .s12s => 12 | .h16s => 16 | .p24s => 24 | .i48 => 48 | .fp => 48 | .dec => 48

/-- The word tag of an element type, R44. -/
def EType.tag : EType → Tag
  | .s12u => Tags.quad | .s12s => Tags.quad | .h16s => Tags.trio | .p24s => Tags.pair
  | .i48 => Tags.int | .fp => Tags.fp | .dec => Tags.dec

/-- Fixed-point types, R166. -/
def EType.fixed : EType → Bool
  | .fp => false | .dec => false | _ => true

/-- MINT of R80. -/
def EType.mint : EType → Int
  | .s12u => 0
  | t => -(2 : Int) ^ (t.width - 1)

/-- MAXT of R80. -/
def EType.maxt : EType → Int
  | .s12u => 4095
  | t => (2 : Int) ^ (t.width - 1) - 1

/-- Field k of a payload under a type, as a bit pattern, R49. -/
def fieldOf (t : EType) (p : Nat) (k : Nat) : Nat := bits p (t.width * k) t.width

/-- A field pattern read as a value of a fixed-point type, R49 and R51. -/
def valueOf (t : EType) (x : Nat) : Int :=
  match t with
  | .s12u => ((x % 4096 : Nat) : Int)
  | t => signedOf t.width x

/-- `fit` of R81: the value fitted to the element type, and whether SAT is set. -/
def fitTo (t : EType) (saturate : Bool) (r : Int) : Int × Bool :=
  if saturate then
    if r > t.maxt then (t.maxt, true) else if r < t.mint then (t.mint, true) else (r, false)
  else ((r - t.mint) % (2 : Int) ^ t.width + t.mint, false)

/-- A fixed-point result: rounded, fitted, with its SAT flag, R81. -/
def fixResult (t : EType) (mode : XRound) (saturate : Bool) (num : Int) (den : Nat) : Int × Flg :=
  let r := fitTo t saturate (roundQ mode num den)
  (r.1, { sat := r.2 })

/-- A shift count, bits [5:0] of the count operand, at most w, R83. -/
def shiftCount (t : EType) (s : Int) : Nat := min (patternOf 6 s) t.width

/-- The 96-bit accumulator after adding a product, R84. -/
def accFit (saturate : Bool) (x : Int) : Int × Bool :=
  if saturate then
    if x > (2 : Int) ^ 95 - 1 then ((2 : Int) ^ 95 - 1, true)
    else if x < -(2 : Int) ^ 95 then (-(2 : Int) ^ 95, true) else (x, false)
  else ((x + (2 : Int) ^ 95) % (2 : Int) ^ 96 - (2 : Int) ^ 95, false)

end Sys2Proof.Machine
end

