-- ==== Sys2Proof/Machine/StateGallery.lean ====
section
/-! DEFINITION. The state of the galleries: slots, token scoreboards, TLBs and relay inputs
(05 R187–R189, 06 R206–R250, 13 R493–R496). -/

namespace Sys2Proof.Machine

/-- The 16 payloads of a descriptor, w0 to w15, R152. -/
abbrev Desc := List Payload

/-- An entry of a core's or a gallery's TLB, R493 and R513; its valid bit is PTE bit 0. -/
structure TlbE where
  vpn : BitVec 32 := 0
  pte : Payload := 0
  ptea : PAddr := 0
  deriving DecidableEq, Repr

/-- Slot states, R212. -/
inductive SlotSt where
  | free | wait | ready | run | susp | retire
  deriving DecidableEq, Repr

/-- The values of R212. -/
def SlotSt.code : SlotSt → Nat
  | .free => 0 | .wait => 1 | .ready => 2 | .run => 3 | .susp => 4 | .retire => 5

/-- Ending statuses, R227. -/
inductive EndSt where
  | complete | late | cancelled | substituted | aborted | quarantined
  deriving DecidableEq, Repr

/-- The values of R227. -/
def EndSt.code : EndSt → Nat
  | .complete => 0 | .late => 1 | .cancelled => 2 | .substituted => 3 | .aborted => 4 | .quarantined => 5

/-- The fault report of a slot, R250 and R715. -/
structure SlotFault where
  cause : Nat := 0
  elem : Nat := 0
  stream : Nat := 0
  step : Nat := 0
  faddr : Payload := 0
  deriving DecidableEq, Repr

/-- A result word under construction: its address key, the fields written with their bits, and the element, the
stream A tag and the sample of its lowest-numbered element (R195, R196). -/
structure WRec where
  key : Int
  mask : Nat
  pay : Nat
  lo : Option (Nat × Tag × Nat)
  deriving DecidableEq, Repr

/-- A completion record that waits to be written, R227. -/
structure CRec where
  token : Nat
  st : EndSt
  fb : Bool
  done : Nat
  flags : Nat
  tick : Payload
  desc : Payload
  cev : Bool
  deriving DecidableEq, Repr

/-- A fallback whose descriptor fetch waits, R144 and R202: its virtual address, the priority it runs at and the record
of the instruction it replaces. -/
structure FbWait where
  va : Payload
  prio : Nat
  entry : CRec
  deriving DecidableEq, Repr

/-- One of the 32 slots. -/
structure Slot where
  st : SlotSt := .free
  /-- The descriptor copy w0 to w15, R153. -/
  desc : Desc := []
  daddr : Payload := 0
  lvl : Level := .u
  core : Nat := 0
  ftz : Bool := false
  /-- AWAIT0, AWAIT1 and the start condition not yet met, R250. -/
  aw0 : Bool := false
  aw1 : Bool := false
  sbw : Bool := false
  /-- The start bearing was reached at an evaluation, R220. -/
  sbmet : Bool := false
  fb : Bool := false
  /-- The priority in force: a fallback runs at the cancelled instruction's, R144. -/
  prio : Nat := 0
  late : Bool := false
  /-- The deadline monitor watches the slot, R210 and R147. -/
  watched : Bool := false
  done : Nat := 0
  /-- LEN = 0 and the instruction has completed, R230. -/
  zeroDone : Bool := false
  fault : SlotFault := {}
  /-- The 96-bit accumulators by lane, R168. -/
  acc : Tab Int := []
  /-- The partial reduction, R175. -/
  red : Option Int := none
  flags : Flg := {}
  /-- The copied LUT table; true marks a word held as UNI for an uncorrectable read, R170. -/
  lut : List (Word × Bool) := []
  /-- Side-effect words already read for element `done`, R241. -/
  seWords : List Word := []
  /-- Side-effect words already read for elements above `done`, R240 and R241. -/
  seHeld : List (Nat × List Word) := []
  /-- The last word read per stream (0 A, 1 B, 2 C, 3 D, 4 index B, 5 index C), R163. -/
  cache : Tab (Option (Nat × Word × Bool)) := []
  /-- The order of entry into READY, R221. -/
  since : Nat := 0
  /-- The slot goes on from micro-state that an element fault saved inside a routine, R272. -/
  mv : Bool := false
  /-- The micro-state with which the routine goes on while `mv`, R237 and R272. -/
  mpc : BitVec 14 := 0
  mt0 : Word := Word.raw 0
  mt1 : Word := Word.raw 0
  /-- Words of the lane segment not yet queued, and the number of the next segment, R191. -/
  seg : List Word := []
  segNo : Nat := 0
  /-- Committed fields of a relay or lane word that is not yet whole, or of a packed sample that is not yet whole
(R197), kept across a suspension. -/
  part : Option WRec := none
  /-- OWN of a substituted instruction, posted when its fallback ends, R226; 0 when none. -/
  owes : Nat := 0
  /-- Records of earlier endings that wait for ring space, R213. -/
  recs : List CRec := []
  /-- Whether the state was saved and is to be restored at the next selection, R222 and R237. -/
  saved : Bool := false
  /-- The instruction was substituted and the fetch of its fallback waits, R144. -/
  fbWait : Option FbWait := none
  deriving DecidableEq, Repr

/-- A GISS that has reached its gallery, R417, or a link to be fetched, R211. -/
structure GReq where
  core : Nat
  lv : Level
  ftz : Bool
  va : Payload
  pa : Nat
  deriving DecidableEq, Repr

/-- A relay pair of R187 at one input: its k-th receiver from `src`. -/
structure RPair where
  src : Nat
  k : Nat
  snd : Option Nat := none
  rcv : Option Nat := none
  sDone : Bool := false
  rDone : Bool := false
  /-- The number of the first word in `buf`. -/
  head : Nat := 0
  buf : List Word := []
  /-- Words sent and not yet arrived. -/
  flight : List Word := []
  deriving DecidableEq, Repr

/-- The relay input of one stream of one gallery, R188 and R223: its pairs, and the receivers in the order
in which they were issued. -/
structure RelayIn where
  pairs : List RPair := []
  order : List (Nat × Nat) := []
  deriving DecidableEq, Repr

/-- A gallery. -/
structure Gallery where
  slots : Tab Slot := []
  /-- The token scoreboard: every bit set but the listed ones, R214. -/
  sb : Tab Bool := []
  tlb : Tab TlbE := []
  next : Nat := 0
  /-- GISS requests waiting for judgement. -/
  reqs : List GReq := []
  /-- Links to be fetched, R211. -/
  links : List GReq := []
  /-- The link that has passed its checks and waits for a slot, R211. -/
  linkWait : Option (GReq × Desc) := none
  quar : Bool := false
  /-- The 64-GCLK reset of R246 is running. -/
  resetting : Bool := false
  ierr : Bool := false
  /-- Count of entries into READY. -/
  readies : Nat := 0
  /-- Slots with records waiting for ring space, in ending order, R229. -/
  retiring : List Nat := []
  /-- A period with slots in RETIRE has written its Cairn entry, R229. -/
  fullNoted : Bool := false
  /-- Relay inputs by stream: 0 A, 1 B, 2 C. -/
  relay : Tab RelayIn := []
  deriving DecidableEq, Repr

/-- A token set on its way to the other scoreboards, R216. -/
structure TokenMove where
  token : Nat
  src : Nat
  deriving DecidableEq, Repr

end Sys2Proof.Machine
end

