-- ==== Sys2Proof/Machine/StateHost.lean ====
section
/-! DEFINITION. The state of the host port, the security engine, the fuses and the debug port that is no
register (16 R597–R638). -/

namespace Sys2Proof.Machine

/-- An entry of a function's identifier history, R615. -/
structure HistEnt where
  id : BitVec 64
  st : Nat
  jst : Nat
  done : Nat
  deriving DecidableEq, Repr

/-- A PCIe function beside its registers. -/
structure HostFn where
  /-- Newest first, at most 4,096 entries. -/
  hist : List HistEnt := []
  /-- The MSI-X table by dword, 16 vectors of 4, and the pending bits. -/
  msix : Tab (BitVec 32) := []
  pba : BitVec 16 := 0
  deriving DecidableEq, Repr

/-- What a completion of a command says, R614. -/
structure Compl where
  id : BitVec 64 := 0
  st : Nat := 0
  jst : Nat := 0
  done : Nat := 0
  replay : Bool := false
  cev : Bool := false
  deriving DecidableEq, Repr

/-- A command in progress, R607 and R613: its function and OP, its words, the words written so far, and its completion
once its work is done. -/
structure HostRun where
  f : Nat
  op : Nat
  ws : List Word := []
  done : Nat := 0
  compl : Option Compl := none
  deriving DecidableEq, Repr

/-- A completion of a PCIe request, R605. -/
inductive PcieCpl where
  | data (bytes : List (BitVec 8))
  | posted
  | unsupported
  | abort
  deriving DecidableEq, Repr

/-- An MSI-X message sent to the host. -/
structure MsiMsg where
  f : Nat
  v : Nat
  addr : BitVec 64
  data : BitVec 32
  deriving DecidableEq, Repr

/-- The host port. -/
structure HostPort where
  fns : Tab HostFn := []
  /-- The function that the command processor served last, R613. -/
  lastFn : Nat := 15
  /-- The command in progress whose next access waits. -/
  run : Option HostRun := none
  /-- The completion of the last PCIe request and the last MSI-X message. -/
  cpl : Option PcieCpl := none
  msi : Option MsiMsg := none
  deriving DecidableEq, Repr

/-- How far boot has come, R621 and R627. -/
inductive BootSt where
  | notRun | waitGo | halted | released
  deriving DecidableEq, Repr

/-- Why an attestation runs, R630: SEC.ATT.GO, or a host command of a function. -/
inductive AttBy where
  | reg
  | cmd (f : Nat)
  deriving DecidableEq, Repr

/-- A running attestation, R630. -/
structure Attest where
  who : AttBy
  dst : PAddr
  n0 : Payload
  n1 : Payload
  /-- The identifier of the command and its CEV, R611. -/
  id : BitVec 64 := 0
  cev : Bool := false
  deriving DecidableEq, Repr

/-- What survives every reset: the fuses of R620, R629 and R632 and the flash of R617. -/
structure Fuses where
  /-- KEYHASH[k], 32 bytes each. -/
  keyHash : List (List (BitVec 8)) := [[], [], [], []]
  /-- KREV[k] blown. -/
  revoked : List Bool := [false, false, false, false]
  svnMin : Nat := 0
  dbgDis : Bool := false
  seed : List (BitVec 8) := []
  deriving DecidableEq, Repr

/-- The security engine and the boot ROM. -/
structure Sec where
  boot : BootSt := .notRun
  /-- HOST.BOOT.GO was written and the ROM has not yet taken the staged image, R617. -/
  go : Bool := false
  /-- The boot source being tried, as A25 codes it. -/
  src : Nat := 0
  att : Option Attest := none
  /-- The image digest computed at Verify, by byte. -/
  digest : List (BitVec 8) := []
  /-- The image of `src` passed Verify. -/
  verified : Bool := false
  kslot : Nat := 0
  svn : Nat := 0
  /-- BOOTSEL and SMBA straps as sampled, R617 and R634. -/
  bootsel : Nat := 0
  smba : Nat := 0
  deriving DecidableEq, Repr

/-- The IEEE 1149.1 instruction selected, R633. -/
inductive JtagIns where
  | idcode | bypass | sample
  deriving DecidableEq, Repr

/-- JTAG and SMBus: the instruction selected and what its data register captured, and the data last read over
SMBus, R633 and R634. -/
structure Dbg where
  ins : JtagIns := .idcode
  tdo : Nat := 0
  smbus : List (BitVec 8) := []
  /-- The last debug instruction was answered LOCKED, R632. -/
  locked : Bool := false
  deriving DecidableEq, Repr

end Sys2Proof.Machine
end

