-- ==== Sys2Proof/Machine/StateLantern.lean ====
section
/-! DEFINITION. The state of the Lantern cores and of the cluster caches
(08 R293–R302, 10 R379–R386, 11 R422–R451, 12 R455–R488, 13 R513). -/

namespace Sys2Proof.Machine

/-- A register that a result lands in: a general word (1 to 30; 31, 32 and 33 are w31.U, w31.S and w31.M) or
word `i % 4` of v register `i / 4`; bank registers and special registers land in the same way. -/
inductive RegWr where
  | w (i : Nat) (x : Word)
  | v (i : Nat) (x : Word)
  /-- A bank register, R381. -/
  | b (i : Nat) (x : BitVec 32)
  /-- A special register, R383. -/
  | sr (i : Nat) (x : Word)
  deriving DecidableEq, Repr

/-- A result that has issued and not landed, R425: `left` advancing cycles end before it stands. -/
structure InFlight where
  left : Nat
  writes : List RegWr
  flags : Flg := {}
  deriving DecidableEq, Repr

/-- Execution units of R426. -/
inductive UnitKind where
  | alu | mul | div | mem | fpv | branch
  deriving DecidableEq, Repr

/-- What is remembered of the instruction in slot 0 of the open advancing cycle, R433. -/
structure Slot0 where
  kind : UnitKind
  /-- It is in the table of R432. -/
  alone : Bool
  /-- Its sequential successor. -/
  seq : Payload
  /-- It is the delay slot of a taken or mispredicted transfer. -/
  endsTransfer : Bool
  deriving DecidableEq, Repr

/-- A transfer whose delay slot comes next, R399. -/
structure DelaySlot where
  branch : Payload
  target : Payload
  taken : Bool
  /-- The slot is annulled, R399. -/
  annul : Bool
  /-- The transfer is followed by the penalty of R434. -/
  penalty : Bool
  /-- w30 before the link was written, for a slot that may not stand there, R400. -/
  old : Option Word := none
  deriving DecidableEq, Repr

/-- A checkpoint of R437: the history, and the return stack's pointer with the entry at it. -/
structure Check where
  gh : Nat
  depth : Nat
  top : Option Payload
  deriving DecidableEq, Repr

/-- A transfer that has not resolved, R435 and R437. -/
structure Branch where
  left : Nat
  /-- The counter it read, none where it read none. -/
  ctr : Option Nat
  /-- A conditional branch: its true direction goes into the history. -/
  cond : Bool
  taken : Bool
  wrong : Bool
  check : Check
  deriving DecidableEq, Repr

/-- An entry of the store buffer, R295 and R423: a physical address with its word. -/
structure StoreEnt where
  pa : Nat
  va : Payload
  lv : Level
  w : Word
  /-- The page bypasses both cache levels. -/
  direct : Bool
  /-- Write-through policy. -/
  through : Bool
  /-- A side-effect page, R504. -/
  se : Bool
  deriving DecidableEq, Repr

/-- A cache line: its words with dirty bits, R293 to R296. -/
structure Line where
  words : List Word
  dirty : List Bool
  deriving DecidableEq, Repr

/-- A reply the core waits for while frozen, R417 and R423: the destination register of a GISS. -/
structure Frozen where
  dst : Nat
  pc : Payload
  descVa : Payload
  gallery : Nat
  deriving DecidableEq, Repr

/-- What an A and D update came to, R506 and R508. -/
inductive AdRes where
  | done | stale | loc
  | bad (st : Nat)
  deriving DecidableEq, Repr

/-- An A and D update whose outcome has not been applied: the entry, the address and the access it is for. -/
structure AdPend where
  idx : Nat
  va : Payload
  acc : AdAcc
  res : AdRes
  deriving DecidableEq, Repr

/-- A machine check that is pending, R486. -/
structure MCheck where
  sub : Nat
  eval : Payload
  deriving DecidableEq, Repr

/-- The reset values of the special registers, R72, R383, R386, R456 and R470, with the tags MFSR gives. -/
def srReset (n : Nat) : Word :=
  if n = 0 then Word.int 2
  else if n = 19 then Word.int 0x10
  else if n = 5 then Word.addr 0x302_0000_0000
  else if n = 1 ∨ n = 6 ∨ (8 ≤ n ∧ n ≤ 15) ∨ n = 20 ∨ (24 ≤ n ∧ n ≤ 31) then Word.addr 0
  else Word.int 0

/-- A Lantern core. -/
structure Core where
  /-- No reset value is stated; the boot ROM's base, where R468 has TBASE point after reset. -/
  pc : Payload := 0x302_0000_0000
  w : Tab Word := []
  v : Tab Word := []
  b : Tab (BitVec 32) := []
  sr : Tab Word := []
  /-- STAT writes not yet effective: instructions still to issue before each, and its value, R442. -/
  statPend : List (Nat × Payload) := []
  /-- Results in flight, in program order. -/
  inflight : List InFlight := []
  /-- The instruction in slot 0 of an open cycle that may still be paired, R433. -/
  slot0 : Option Slot0 := none
  delay : Option DelaySlot := none
  /-- Advancing cycles until the divide unit is free, R431. -/
  divLeft : Nat := 0
  /-- The predictor, R435 and R436: counters by index, global history, return stack with its top first. -/
  ctr : Tab Nat := []
  gh : Nat := 0
  ras : List Payload := []
  branches : List Branch := []
  pbar : Nat := 0
  /-- CODE words fetched ahead of issue, R445 to R449: word address, instructions still to issue before the one that the
  copy is for, and the word. -/
  fbuf : List (Nat × Nat × Word) := []
  /-- MPC, MT0 and MT1 at which the instruction returned to resumes its routine, R268. -/
  resume : Option (Nat × Word × Word) := none
  /-- Patch entries and match registers whose written value is not yet in effect, by register offset, with the value
  that is, R260. -/
  ucHeld : List (Nat × Nat) := []
  tlb : Tab TlbE := []
  /-- TLBCFG.NEXT, R496. -/
  tlbNext : Nat := 0
  rfl' : Bool := false
  stores : List StoreEnt := []
  /-- L1D and L1I lines by granule number, R293 and R294. -/
  l1d : Tab (Option Line) := []
  l1i : Tab (Option Line) := []
  pfail : Bool := false
  mcheck : List MCheck := []
  astore : Option (Payload × Nat) := none
  /-- PTE-location faults that the core's galleries reported, by EVAL, R233. -/
  pteloc : List Payload := []
  /-- GISS faults of linked descriptors, EVAL and SUB, R203. -/
  linkFault : List (Payload × Nat) := []
  waiting : Bool := false
  frozen : Option Frozen := none
  /-- HIDX whose entry failed, once the core has halted, R471. -/
  halt : Option Nat := none
  /-- A handler was entered and none of its instructions has completed, R471: its HIDX. -/
  entered : Option Nat := none
  /-- Register-space writes that wait for a boundary, R488 and R679: keys 31 to 33 for the w31 banks, 16 to 18 for
  EMSTATE0 to EMSTATE2. -/
  atBoundary : List (Nat × Word) := []
  /-- An A and D update whose outcome has not been applied. -/
  ad : Option AdPend := none
  /-- The core runs the boot ROM's code or its wait loop, R621 and R628. -/
  inRom : Bool := true
  /-- Stopped at TS of a power-fail save, and captured, R650 and R651. -/
  stopped : Bool := false
  deriving DecidableEq, Repr

/-- A cluster: its L2 lines by granule number, R293. -/
structure Cluster where
  l2 : Tab (Option Line) := []
  deriving DecidableEq, Repr

end Sys2Proof.Machine
end

