-- ==== Sys2Proof/Machine/StateLink.lean ====
section
/-! DEFINITION. The state of the lanes, endpoints, messages, link DMA queues and Ethernet ports that is no
register (14 R516–R576). -/

namespace Sys2Proof.Machine

/-- A Yonis frame without its CRC, R525. -/
structure YFrame where
  ty : Nat
  ep : Nat := 0
  up : Bool := false
  bc : Bool := false
  last : Bool := false
  retx : Bool := false
  seq : Nat := 0
  tag : Tag := 0
  axis : Nat := 0
  late : Bool := false
  bearing : Payload := 0
  sub : Nat := 0
  hop : Nat := 0
  body : List (BitVec 8) := []
  deriving DecidableEq, Repr

/-- A block of the 64b/66b coding, R524, before it is scrambled: a control block or 8 data bytes. -/
inductive Block where
  | idle
  /-- The start of a frame, with its first seven bytes. -/
  | start (d : List (BitVec 8))
  | data (d : List (BitVec 8))
  /-- The end of a frame, with the 0 to 7 bytes that remain. -/
  | term (d : List (BitVec 8))
  deriving DecidableEq, Repr

/-- Where a queued frame comes from, R545. -/
inductive FrameSrc where
  | gallery
  | msg (m : Nat)
  | site
  /-- A message that has ended already. -/
  | loose
  deriving DecidableEq, Repr

/-- A frame in an endpoint FIFO, or sent and unacknowledged. -/
structure QFrame where
  src : FrameSrc
  f : YFrame
  /-- The number of its first sending among the lane's frames. -/
  ord : Nat := 0
  /-- It waits to be sent again, R542. -/
  again : Bool := false
  /-- A deadline policy abandoned it: it is not retransmitted, R551. -/
  dead : Bool := false
  deriving DecidableEq, Repr

/-- A REPORT collected in discovery or in a reversal, R535. -/
structure Report where
  uid : Payload
  cap : Payload
  flags : Nat
  ep : Nat
  hop : Nat
  deriving DecidableEq, Repr

/-- What the device holds of an endpoint beside its registers. -/
structure Endpt where
  fifo : List QFrame := []
  /-- Sent frames from TXUNACK on, oldest first. -/
  unack : List QFrame := []
  /-- The tick of the last change of TXUNACK, or of the last expiry, R542. -/
  since : Nat := 0
  expiries : Nat := 0
  /-- The same for an ASSIGN or a SETSEQ that waits for its ACK, R543 and R544. -/
  ctlSince : Nat := 0
  ctlExpiries : Nat := 0
  /-- Accepted frames not yet acknowledged, and the tick of the first of them, R541. -/
  ackN : Nat := 0
  ackFrom : Nat := 0
  /-- The value and tick of the last NAK, R539. -/
  nakFor : Option (Nat × Nat) := none
  /-- SETSEQ values awaiting ACK, R543. -/
  setseq : Option Nat := none
  /-- An ASSIGN awaits its ACK, R536: the REPORT it answers. -/
  assign : Option Report := none
  /-- The REPORT whose data is loaded when the SETSEQ is acknowledged, R536. -/
  found : Option Report := none
  /-- A discarded frame was logged since the last change of state, R545. -/
  noted : Bool := false
  deriving DecidableEq, Repr

/-- Which part of discovery runs, R536: none, REPORTs are collected since the tick in which QUERY went out (none before
that), or ASSIGN and SETSEQ wait for their acknowledgements. -/
inductive Disc where
  | idle
  | collect (since : Option Nat)
  | assign
  deriving DecidableEq, Repr

/-- A lane beside its registers. -/
structure Lane where
  /-- The state held before FAULT, R518: 2 UP or 4 RETURN; and the tick of entering FAULT. -/
  before : Nat := 2
  faultAt : Nat := 0
  eps : Tab Endpt := []
  /-- ACK, NAK, SETSEQ and DISC frames to be sent. -/
  ctl : List YFrame := []
  /-- Due POS and TIME frames. -/
  timed : List YFrame := []
  lastEp : Nat := 15
  /-- Count of sequenced frames sent for the first time. -/
  sends : Nat := 0
  disc : Disc := .idle
  reports : List Report := []
  /-- The tick in which a running reversal started, the tick in which its QUERY went out on the return lane, its
  REPORTs and the failed endpoints, R561. -/
  rev : Option Nat := none
  revQuery : Option Nat := none
  revReports : List Report := []
  failed : List Nat := []
  /-- The first ticks in which the next POS and TIME frames are due, R554 and R555. -/
  posAt : Nat := 0
  timeAt : Nat := 0
  /-- The messages whose words are still to be read, oldest first, R549. -/
  reading : List Nat := []
  /-- The bytes of the last frame put on the wire, and its blocks, R524. -/
  wire : List (BitVec 8) := []
  blocks : List Block := []
  deriving DecidableEq, Repr

/-- The part of a message that is not yet read, R549: its frames' type, axis and bearing, the address of the next word
and the words left. -/
structure MsgRest where
  fire : Bool
  axis : Nat
  bear : Payload
  at' : Nat
  words : Nat
  deriving DecidableEq, Repr

/-- A message that is QUEUED or ACTIVE, R548–R551. -/
structure Msg where
  lane : Nat
  ep : Nat
  dpol : Nat
  daxis : Nat
  dbear : Payload
  fbmsg : Nat
  cev : Bool
  /-- Frames not yet acknowledged. -/
  left : Nat
  /-- The deadline monitor watches the message, R140. -/
  watched : Bool
  /-- What is still to be read. -/
  rest : Option MsgRest := none
  deriving DecidableEq, Repr

/-- A request to queue a message, whose descriptor read waits; the message whose fallback it is ends when it is
judged, R551. -/
structure MsgAsk where
  lane : Nat
  m : Nat
  fb : Bool
  late : Bool
  ender : Option Nat := none
  deriving DecidableEq, Repr

/-- A write of a link DMA engine that waits its turn: to an address, to a word of the slot at HEAD of a queue (R557), or
a status word with what follows it (R558). -/
inductive LinkOp where
  | store (a : Nat) (w : Word)
  | slot (q i : Nat) (w : Word)
  | status (q lp ep kind st id nw : Nat) (cev : Bool)
  deriving DecidableEq, Repr

/-- The queue of a status word. -/
def LinkOp.queue : LinkOp → Option Nat
  | .status q .. => some q
  | _ => none

/-- The link DMA engines beside their registers: running messages, requests and writes that wait. -/
structure Link where
  msgs : Tab (Option Msg) := []
  /-- Queueing requests whose descriptor read waits. -/
  asks : List MsgAsk := []
  /-- Writes of the engine of each lane die, in order. -/
  ops : Tab (List LinkOp) := []
  /-- Nothing is queued or sent any more, R650. -/
  stopped : Bool := false
  deriving DecidableEq, Repr

/-- An Ethernet port beside its registers, R568–R570. -/
structure Eth where
  /-- The fraction of a nanosecond of the PTP clock, in 2^−32 ns. -/
  frac : Nat := 0
  /-- PTPNS latched by a read of PTPSEC. -/
  latch : Option (BitVec 48) := none
  /-- Pause quanta left, as the tick until which transmission pauses. -/
  pauseTo : Nat := 0
  /-- The bytes of the last frame sent, with padding and FCS. -/
  wire : List (BitVec 8) := []
  deriving DecidableEq, Repr

end Sys2Proof.Machine
end

