-- ==== Sys2Proof/Machine/StateLog.lean ====
section
/-! DEFINITION. The state of the Cairn log, the power-fail saver, the cascade unit and the resets that is no
register (17 R639–R676, 19 R698–R709). -/

namespace Sys2Proof.Machine

/-- An entry of the log, R640. -/
structure CairnEnt where
  tick : Payload := 0
  pos0 : Payload := 0
  e2 : Payload := 0
  detail : Payload := 0
  deriving DecidableEq, Repr

/-- An entry in the input queue: everything but the sequence number and the DROP bit, R643. -/
structure CairnIn where
  tick : Payload
  pos0 : Payload
  src : Nat
  code : Nat
  cont : Bool
  detail : Payload
  deriving DecidableEq, Repr

/-- The Cairn log beside its registers. -/
structure Cairn where
  queue : List CairnIn := []
  ring : Tab CairnEnt := []
  /-- Entries were discarded since the last one accepted. -/
  dropped : Bool := false
  /-- The log accepts nothing, R639 and R650. -/
  frozen : Bool := false
  /-- The tick of the last entry accepted, and how many were accepted in it: one a GCLK, R643. -/
  lastTick : Nat := 0
  inTick : Nat := 0
  deriving DecidableEq, Repr

/-- The stages of a power-fail save, R650. -/
inductive PfStage where
  | none | window | saving | ended
  deriving DecidableEq, Repr

/-- The power-fail saver. -/
structure Pf where
  stage : PfStage := .none
  t0 : Nat := 0
  ts : Nat := 0
  /-- The happenings of T0 + 1 were made. -/
  halted : Bool := false
  /-- The image's body as captured, by word offset: gallery slots and the Gazetteer as at T0 + 1, axes and cores as
  at TS, R657 to R660. -/
  image : Tab Word := []
  /-- The axes have been captured, at the end of TS. -/
  axesDone : Bool := false
  /-- Cores captured, and cores that missed the capture, R651. -/
  captured : List Nat := []
  missed : List Nat := []
  restoring : Bool := false
  deriving DecidableEq, Repr

/-- The cascade unit beside its registers. -/
structure Casc where
  /-- The whole ALTOFS[n], R669. -/
  altofs : Tab (BitVec 68) := []
  /-- HBOK has been 1 since ROLE was written, R670. -/
  wasOk : Bool := false
  /-- A heartbeat was lost and none accepted since, R667. -/
  lost : Bool := false
  /-- HBAGE has counted this tick already, and the axes of TAKEAX switch at its end, R667 and R670. -/
  counted : Bool := false
  taking : Bool := false
  /-- Axes that run on their CASC.ALT source since a takeover, R670. -/
  switched : List Nat := []
  deriving DecidableEq, Repr

/-- Reset and its conditions, R699, R703 and R709. -/
structure Sys where
  /-- The device holds itself in reset. -/
  inReset : Bool := false
  thermTrip : Bool := false
  deriving DecidableEq, Repr

end Sys2Proof.Machine
end

