-- ==== Sys2Proof/Machine/StateMemory.lean ====
section
/-! DEFINITION. The state of the HBM controllers, chambers and march engines that is no register and no
memory word (08 R276–R325). -/

namespace Sys2Proof.Machine

/-- A repair that is running, R290 and R291. -/
structure Repair where
  hard : Bool
  q : Nat
  bank : Nat
  row : Nat
  deriving DecidableEq, Repr

/-- A scrubber: the granule or block that the next visit takes, and when that visit is due, in ticks at a stack (R288)
and in GCLK at a chamber (R309). -/
structure Scrub where
  next : Nat := 0
  due : Nat := 0
  deriving DecidableEq, Repr

/-- An HBM controller. -/
structure Hbm where
  /-- The scrubbers by local pseudo-channel, R288. -/
  scrubs : Tab Scrub := []
  running : Option Repair := none
  /-- Soft-repaired banks as 32 · q + bank, until power is removed, R290. -/
  soft : List Nat := []
  /-- Local pseudo-channel, bank and row of every hard repair, which is permanent, R291. -/
  hard : List (Nat × Nat × Nat) := []
  deriving DecidableEq, Repr

/-- A chamber beside its words and registers. -/
structure Chamber where
  scrub : Scrub := {}
  /-- The rotation bit: the Junction port wins the next conflict, R306. -/
  rot : Bool := true
  deriving DecidableEq, Repr

/-- A read of a march that failing cells answer: the word within the region (for a die SRAM the SRAM number in [41:36]
and the word within it), the element number of R311 or the step of R313, and the container read. -/
structure BadRead where
  word : Nat
  step : Nat
  got : Container
  deriving DecidableEq, Repr

/-- A march that an engine has accepted, R315: mode, target, region and options. -/
structure MarchRun where
  mode : Nat
  tgt : Nat
  csel : Nat
  bg : Nat
  stopf : Bool
  /-- First word index of the region. -/
  w0 : Nat
  /-- Words in the region. -/
  len : Nat
  /-- The reads that failing cells answer, the model's own. -/
  bad : List BadRead := []
  deriving DecidableEq, Repr

/-- A march engine: the running march, whether an access to its region was refused, R314, and the tick at which its
progress was last shown. -/
structure March where
  run : Option MarchRun := none
  refusedOne : Bool := false
  seen : Nat := 0
  deriving DecidableEq, Repr

end Sys2Proof.Machine
end

