-- ==== Sys2Proof/Machine/StatePins.lean ====
section
/-! DEFINITION. The state of the measure-and-drive block that is no register (15 R577–R596). -/

namespace Sys2Proof.Machine

/-- A trigger that has not yet reached its sampling instant, R584: the GCLK of the instant, and the master
that wrote GO or the Gazetteer entry. -/
structure AdcTrig where
  c : Nat
  at' : Nat
  gaz : Bool
  by' : Nat
  deriving DecidableEq, Repr

/-- A conversion in progress, R583. -/
structure AdcConv where
  at' : Nat
  code : BitVec 12
  trig : Bool
  deriving DecidableEq, Repr

/-- What a pin driver puts on its pin: a level or high impedance. -/
inductive PinOut where
  | low | high | z
  deriving DecidableEq, Repr

/-- The block's state beside its registers. -/
structure Pins where
  trigs : List AdcTrig := []
  /-- Conversions in progress, by channel. -/
  convs : Tab (List AdcConv) := []
  /-- GCLK of the channel's last sampling instant. -/
  lastSample : Tab (Option Nat) := []
  /-- Pulse-output and GPIO pins forced by PFAIL, R594: none while they follow their drivers. -/
  poForced : Tab (Option PinOut) := []
  gpioForced : Tab (Option PinOut) := []
  /-- Comparator actions are ignored, R594. -/
  frozen : Bool := false
  deriving DecidableEq, Repr

end Sys2Proof.Machine
end

