-- ==== Sys2Proof/Machine/StateTraverse.lean ====
section
/-! DEFINITION. The state of the Traverse unit, the Gazetteer, the deadline monitor and the pin comparators
(04 R106–R151). -/

namespace Sys2Proof.Machine

/-- The axis states of R118. -/
inductive AxState where
  | off | acquire | track | coast | lost
  deriving DecidableEq, Repr

/-- The values of R118. -/
def AxState.code : AxState → Nat
  | .off => 0 | .acquire => 1 | .track => 2 | .coast => 3 | .lost => 4

/-- The states in which an axis tracks: TRACK and COAST. -/
def AxState.live : AxState → Bool
  | .track => true | .coast => true | _ => false

/-- The last count edge of a tick, R107 and R108: its direction, GCLK phase and count boundary b. -/
structure Edge where
  fwd : Bool
  ph : Nat
  b : Nat
  deriving DecidableEq, Repr

/-- A measurement of R107 without its velocity term: base position and age in GCLK, as a fraction. -/
structure Meas where
  base : Nat
  age : Int
  den : Nat := 1
  deriving DecidableEq, Repr

/-- Two ADC samples that straddle a mains crossing, R107: their GCLKs, and their codes seen as a rise through zero. -/
structure Crossing where
  g0 : Nat
  v0 : Int
  g1 : Nat
  v1 : Int
  deriving DecidableEq, Repr

/-- What a measuring source needs (R108, R109, R116, R117, R714). -/
structure SrcSt where
  /-- QUAD edge count or MAINS crossing count. -/
  n : BitVec 36 := 0
  /-- The last count edge of this tick. -/
  edge : Option Edge := none
  /-- The measurement to be applied at the end of this tick. -/
  meas : Option Meas := none
  /-- Unwrapped SSI code U, R109. -/
  u : BitVec 36 := 0
  /-- The last SSI code, none before the first valid one after enable. -/
  code : Option Nat := none
  /-- The tick of the next SSI poll, R714. -/
  pollAt : Nat := 0
  /-- The GCLK in which the SSI frame being clocked began, R714. -/
  frame : Option Nat := none
  /-- Ticks since the source last delivered: frame, crossing, Sync or POS frame, R117. -/
  quiet : Nat := 0
  /-- Ticks of the illegal transitions within the last 1,024 ticks, R117. -/
  glitches : List Nat := []
  /-- The levels of A, B and Z behind the axis's input filters, R116. -/
  fa : Bool := false
  fb : Bool := false
  fz : Bool := false
  /-- The last sample that the MAINS channel delivered: its GCLK and its code. -/
  sample : Option (Nat × Int) := none
  /-- The signal has passed the hysteresis since the last crossing, R586. -/
  armed : Bool := false
  /-- A crossing seen and not yet counted. -/
  cross : Option Crossing := none
  deriving DecidableEq, Repr

/-- The registers of an axis whose writes take effect from the following tick, R121, as they act now. -/
structure AxLatch where
  gain : BitVec 48 := 0x100004004000
  gate : BitVec 48 := 0
  time : BitVec 48 := 0x0027100186A0
  synv : BitVec 48 := 0
  synr : BitVec 48 := 0
  deriving DecidableEq, Repr

/-- An axis, R110. (DESIGN CHOICE, log entry 11.) -/
structure Axis where
  st : AxState := .off
  pos : BitVec 68 := 0
  vel : Int := 0
  acc : Int := 0
  dt : Nat := 0
  front : BitVec 68 := 0
  rejcnt : Nat := 0
  glcnt : BitVec 24 := 0
  /-- The axis's source. -/
  src : SrcSt := {}
  /-- The local source that a STANDBY device tracks alongside, R669. -/
  alt : SrcSt := {}
  /-- Ticks spent in COAST, R119. -/
  coastFor : Nat := 0
  /-- An active Z edge in this tick, R149. -/
  zhit : Bool := false
  /-- SETPOS values to be applied at the end of this tick, R120. -/
  rebases : List (BitVec 48) := []
  /-- The state in which this tick's update runs, when the state changed within this tick (R119). -/
  runAs : Option AxState := none
  lat : AxLatch := {}
  deriving DecidableEq, Repr

/-- The state of an axis within a tick: a change of state takes effect at the tick's end, R119. -/
def Axis.now (x : Axis) : AxState := x.runAs.getD x.st
/-- VEL as read: 0 in OFF, R118. -/
def Axis.velNow (x : Axis) : Int := if x.now = .off then 0 else x.vel
/-- ACC as read: 0 in OFF, R118. -/
def Axis.accNow (x : Axis) : Int := if x.now = .off then 0 else x.acc
/-- P_t, R111. -/
def Axis.bearing (x : Axis) : BitVec 48 := BitVec.ofNat 48 (x.pos.toNat / 2 ^ 20)

/-- The side of X_eff recorded at arming and the missed mark of an entry, R129 and R134. -/
structure GazMark where
  side : Option Nat := none
  missed : Bool := false
  deriving DecidableEq, Repr

/-- A due fire waiting in the order of R131. -/
structure Fire where
  /-- The entry index. -/
  i : Nat
  /-- A fallback fire of R145. -/
  fb : Bool
  /-- The evaluation tick. -/
  evalAt : Nat
  /-- The lateness of a passed entry at its evaluation, without the deferral, R130. -/
  late0 : Nat
  /-- On time at its evaluation. -/
  onTime : Bool
  /-- The phase k of an on-time fire, R135. -/
  k : Nat
  /-- No crossing time: VEL = 0, R131. -/
  still : Bool
  /-- Estimated crossing time as a fraction, R131. -/
  num : Int
  den : Nat
  axis : Nat
  deriving DecidableEq, Repr

/-- The classes of watched items, R140 and R713. -/
inductive MissItem where
  | gallery (g sl : Nat)
  | link (l m : Nat)
  | gaz (i : Nat)
  deriving DecidableEq, Repr

/-- A miss decided at an evaluation: the item, the policy and the deadline axis, R147. -/
structure Miss where
  item : MissItem
  policy : Nat
  axis : Nat
  deriving DecidableEq, Repr

/-- The part of the unit that is no register and no axis. -/
structure Trav where
  marks : Tab GazMark := []
  fires : List Fire := []
  /-- A firing round was made in this tick, R131. -/
  fired : Bool := false
  misses : List Miss := []
  /-- Gazetteer and deadline evaluation have stopped, R650. -/
  stopped : Bool := false
  /-- GCLK of the low edge that ends a comparator's PULSE, R137, by comparator. -/
  pulses : Tab (Option Nat) := []
  deriving DecidableEq, Repr

end Sys2Proof.Machine
end

