-- ==== Sys2Proof/Machine/State.lean ====
section
/-! DEFINITION. The state of the Zynest: the queue of waiting commands, every register of the register space,
memory, and the structured state of each unit; and the state right after reset (18 R686, R687). -/

namespace Sys2Proof.Machine

/-- No command ends in a fault: every error of the device is one of its own statuses, flags, events or log
entries, which are next states. Nobody raises this constructor; stopping would be safe. -/
inductive Fault where
  | none
  deriving DecidableEq, Repr

/-- `notModelled` is answered by a row of exec that has no meaning; stopping there is safe. -/
inductive Refusal where
  | notModelled (mnemonic : String)
  deriving DecidableEq, Repr

/-- The whole state. -/
structure State where
  /-- The commands that wait, first in first out. -/
  pending : List Instr := []
  /-- The model's own counter of free values taken, no state of the device. -/
  fresh : Nat := 0
  /-- TRAV.TICK before its wrap, R9 and R110. -/
  tick : Nat := 0
  /-- Register space by offset; a register not listed holds its reset value. -/
  regs : Tab (BitVec 48) := []
  /-- Memory bytes: byte 8 · w + b is bits [8b+7:8b] of the container of word index w, R59. -/
  mem : List Host.Cell := []
  /-- The niche memories, core n's byte at n · 2^21 + 8 · w + b, R300. -/
  niche : List Host.Cell := []
  /-- The xSPI flash by byte, R617. -/
  flash : List Host.Cell := []
  axes : Tab Axis := []
  trav : Trav := {}
  pins : Pins := {}
  hbms : Tab Hbm := []
  /-- Units whose correction threshold has fired and not been rearmed by a write of CECNT, R286: pseudo-channel
  32 · s + q, or 192 + n for chamber n. -/
  thrFired : List Nat := []
  /-- The chambers' scrubbers and rotation bits, R306 and R309. -/
  chams : Tab Chamber := []
  marches : Tab March := []
  junc : Junc := {}
  sites : Tab Site := []
  gals : Tab Gallery := []
  /-- Token sets on their way to the other scoreboards, R216. -/
  moves : List TokenMove := []
  cores : Tab Core := []
  clusters : Tab Cluster := []
  lanes : Tab Lane := []
  link : Link := {}
  eths : Tab Eth := []
  host : HostPort := {}
  fuses : Fuses := {}
  sec : Sec := {}
  dbg : Dbg := {}
  cairn : Cairn := {}
  pf : Pf := {}
  casc : Casc := {}
  sys : Sys := {}
  deriving DecidableEq, Repr

/-- The state right after reset: every register at its reset value, no memory written, queues empty.
(DESIGN CHOICE, log entry 7.) (DESIGN CHOICE, log entry 8.) -/
def State.reset : State := {}

end Sys2Proof.Machine
end

