-- ==== Sys2Proof/Machine/Ops.lean ====
section
/-! DEFINITION. The named operations over the state that every unit uses: registers and their fields, units by
number, raising an event (12 R463), the Cairn input queue (17 R640–R643, R713) and free values. -/

namespace Sys2Proof.Machine

/-- What a meaning answers. -/
abbrev Res := Host.Outcome State Fault Refusal

/-! ### Registers -/

/-- The register at an offset. -/
def State.reg (s : State) (off : Nat) : BitVec 48 := tget regReset s.regs off

/-- The register at an offset as a number. -/
def State.regN (s : State) (off : Nat) : Nat := (s.reg off).toNat

/-- A register replaced. -/
def State.setReg (s : State) (off : Nat) (v : BitVec 48) : State :=
  { s with regs := tset regReset s.regs off v }

/-- A register replaced by a number's low 48 bits. -/
def State.setRegN (s : State) (off v : Nat) : State := s.setReg off (BitVec.ofNat 48 v)

/-- A field of a register. -/
def State.fld (s : State) (off : Nat) (f : Fld) : Nat := bits (s.regN off) f.lo f.w

/-- A one-bit field of a register. -/
def State.flag (s : State) (off : Nat) (f : Fld) : Bool := s.fld off f == 1

/-- A field replaced. -/
def State.setFld (s : State) (off : Nat) (f : Fld) (v : Nat) : State :=
  s.setRegN off (setBits (s.regN off) f.lo f.w v)

/-- A field counted up by `n`, wrapping at its width. -/
def State.bump (s : State) (off : Nat) (f : Fld) (n : Nat := 1) : State :=
  s.setFld off f (s.fld off f + n)

/-! ### Writes by access code, R17 to R20 -/

/-- What a field holds after a write, R17: `lv` is the level of the access and `lock` is MLOCK. -/
def fieldWrite (lv : Level) (lock : Bool) (f : FieldRow) (old v : Nat) : Nat :=
  let o := bits old f.lo f.w
  let n := bits v f.lo f.w
  match f.acc with
  | .rw => n
  | .ro => o
  | .wo => o
  | .w1c => (List.range f.w).foldl (fun x i => x + b2n (bit o i && !bit n i) * 2 ^ i) 0
  | .rwm => if lv = .m then n else o
  | .rwl => if lock then o else n

/-- A register after a write: each field as its code directs, reserved bits untouched. -/
def rowWrite (lv : Level) (lock : Bool) (fs : List FieldRow) (old v : Nat) : Nat :=
  fs.foldl (fun x f => setBits x f.lo f.w (fieldWrite lv lock f old v)) old

/-- MLOCK of R626. -/
def State.mlock (s : State) : Bool := s.flag R.SEC_LOCK F.SEC_LOCK_MLOCK

/-- Debug is available, R632. -/
def State.debugOpen (s : State) : Bool := !s.fuses.dbgDis && (!s.mlock || s.flag R.SEC_DBG F.SEC_DBG_EN)

/-- A master that makes no Junction access now: the debug access port, 36, while debug is not available, R632. -/
def State.barred (s : State) (m : Nat) : Bool := m == 36 && !s.debugOpen

/-- A register written through its access codes alone. -/
def State.writeCodes (s : State) (lv : Level) (off : Nat) (v : Nat) : State :=
  match regAt off with
  | none => s
  | some (r, _) => s.setRegN off (rowWrite lv s.mlock r.fields (s.regN off) v)

/-! ### Units by number -/

def State.axis (s : State) (n : Nat) : Axis := tget (fun _ => {}) s.axes n
def State.setAxis (s : State) (n : Nat) (x : Axis) : State := { s with axes := tset (fun _ => {}) s.axes n x }
def State.hbm (s : State) (n : Nat) : Hbm := tget (fun _ => {}) s.hbms n
def State.setHbm (s : State) (n : Nat) (x : Hbm) : State := { s with hbms := tset (fun _ => {}) s.hbms n x }
def State.chamber (s : State) (n : Nat) : Chamber := tget (fun _ => {}) s.chams n
def State.setChamber (s : State) (n : Nat) (x : Chamber) : State :=
  { s with chams := tset (fun _ => {}) s.chams n x }
def State.march (s : State) (n : Nat) : March := tget (fun _ => {}) s.marches n
def State.setMarch (s : State) (n : Nat) (x : March) : State :=
  { s with marches := tset (fun _ => {}) s.marches n x }
def State.site (s : State) (n : Nat) : Site := tget (fun _ => {}) s.sites n
def State.setSite (s : State) (n : Nat) (x : Site) : State := { s with sites := tset (fun _ => {}) s.sites n x }
def State.gal (s : State) (n : Nat) : Gallery := tget (fun _ => {}) s.gals n
def State.setGal (s : State) (n : Nat) (x : Gallery) : State := { s with gals := tset (fun _ => {}) s.gals n x }
def State.core (s : State) (n : Nat) : Core := tget (fun _ => {}) s.cores n
def State.setCore (s : State) (n : Nat) (x : Core) : State := { s with cores := tset (fun _ => {}) s.cores n x }
def State.cluster (s : State) (n : Nat) : Cluster := tget (fun _ => {}) s.clusters n
def State.setCluster (s : State) (n : Nat) (x : Cluster) : State :=
  { s with clusters := tset (fun _ => {}) s.clusters n x }
def State.lane (s : State) (n : Nat) : Lane := tget (fun _ => {}) s.lanes n
def State.setLane (s : State) (n : Nat) (x : Lane) : State := { s with lanes := tset (fun _ => {}) s.lanes n x }
def State.eth (s : State) (n : Nat) : Eth := tget (fun _ => {}) s.eths n
def State.setEth (s : State) (n : Nat) (x : Eth) : State := { s with eths := tset (fun _ => {}) s.eths n x }

/-! ### Free values -/

/-- A free number and the state that has taken it. (DESIGN CHOICE, log entry 1.) -/
def State.freeNat (s : State) : Nat × State := (Config.freeNat s.fresh, { s with fresh := s.fresh + 1 })

/-! ### The sideband, R28 and R364 -/

/-- Dies: 0 the hub, 1 to 4 gallery dies 0 to 3, 5 and 6 lane dies 0 and 1, R329. The die of a gallery or chamber. -/
def galDie (n : Nat) : Nat := 1 + n / 4
/-- The die of a stack's port, R329. -/
def stackDie (st : Nat) : Nat := if st < 2 then 1 else if st < 4 then st else 4
/-- The die of a lane. -/
def laneDie (l : Nat) : Nat := 5 + l / 128
/-- The die of a customer site's ports, R329. -/
def siteDie (x : Nat) : Nat := if x = 0 then 1 else 4

/-- The sideband between a die and the hub is down with the internal link that it crosses. -/
def State.sideDown (s : State) (die : Nat) : Bool := die != 0 && s.junc.linksDown.contains (die - 1)

/-- The die on which an event source lies, by the numbers of R462; 132 (memory error) is raised by many. -/
def eventDie (n : Nat) : Nat :=
  if n < 84 then 0
  else if n < 132 then galDie ((n - 84) % 16)
  else if n < 133 then 0
  else if n < 139 then stackDie (n - 133)
  else if n < 155 then galDie (n - 139)
  else if n < 161 then stackDie (n - 155)
  else if n < 165 then 1 + (n - 161)
  else if n < 166 then 0
  else if n < 170 then siteDie ((n - 166) % 2)
  else if n < 192 then 0
  else if n < 448 then laneDie (n - 192)
  else if n < 512 then 5 + (n - 448) / 32
  else if n < 576 then 5 + (n - 512) / 32
  else 0

/-! ### Events, R463 -/

/-- A core that an enabled route of a pending source names stops waiting, R398 and R464. (DEDUCED, log entry 59.) -/
def wakeFor (n : Nat) (s : State) : State :=
  let o := R.EVC_ROUTE n
  let c := s.fld o F.EVC_ROUTE_CORE
  if s.flag o F.EVC_ROUTE_EN && (s.core c).waiting then s.setCore c { s.core c with waiting := false } else s

/-- The event source's pending bit set; a core that waits for it goes on. -/
def raiseAtHub (n : Nat) (s : State) : State :=
  wakeFor n (s.setRegN (R.EVC_PEND (n / 32)) (setBits (s.regN (R.EVC_PEND (n / 32))) (n % 32) 1 1))

/-- An event raised by a unit of a die: lost where the sideband to the hub is down, R28. -/
def raiseOn (die n : Nat) (s : State) : State := if s.sideDown die then s else raiseAtHub n s

/-- An event raised by the unit that its number names. -/
def raise (n : Nat) (s : State) : State := raiseOn (eventDie n) n s

/-- Whether an event source is pending. -/
def State.isPending (s : State) (n : Nat) : Bool := bit (s.regN (R.EVC_PEND (n / 32))) (n % 32)

/-- A source that is raised as long as a status bit stands: lane l's event, R572. -/
def State.holdsPending (s : State) (n : Nat) : Bool :=
  decide (192 ≤ n) && decide (n < 448) && s.regN (R.LANE_EVT (n - 192)) != 0

/-- The pending bit of an event source cleared; a source that is still raised keeps it, R463. -/
def unraise (n : Nat) (s : State) : State :=
  if s.holdsPending n then s
  else s.setRegN (R.EVC_PEND (n / 32)) (setBits (s.regN (R.EVC_PEND (n / 32))) (n % 32) 1 0)

/-! ### The Cairn log's input -/

/-- SOURCE codes of R641. -/
inductive Src where
  | traverse | gallery | ucode | memory | junction | passage | core | event | translate | link | measure
  | host | security | cairn | power | cascade | software
  deriving DecidableEq, Repr

/-- The values of R641. -/
def Src.code : Src → Nat
  | .traverse => 0x01 | .gallery => 0x02 | .ucode => 0x03 | .memory => 0x04 | .junction => 0x05
  | .passage => 0x06 | .core => 0x07 | .event => 0x08 | .translate => 0x09 | .link => 0x0A
  | .measure => 0x0B | .host => 0x0C | .security => 0x0D | .cairn => 0x0E | .power => 0x0F
  | .cascade => 0x10 | .software => 0x11

/-- A detail value as R642 packs it: its width and its value. -/
structure DF where
  w : Nat
  v : Nat
  deriving DecidableEq, Repr

/-- The packing of R642: `at'` is the next free bit of the entry being filled, `acc` its detail; a field that
does not fit starts the next entry. -/
def packDetail : List DF → Nat → Nat → List Nat
  | [], _, acc => [acc]
  | f :: fs, at', acc =>
    if at' + f.w ≤ 48 then packDetail fs (at' + f.w) (acc + (f.v % 2 ^ f.w) * 2 ^ at')
    else acc :: packDetail fs f.w (f.v % 2 ^ f.w)

/-- POS0 of R640: P_t of axis 0, R111. -/
def State.pos0 (s : State) : Payload := BitVec.ofNat 48 (bits (s.axis 0).pos.toNat 20 48)

/-- The value of TRAV.TICK. -/
def State.tickP (s : State) : Payload := BitVec.ofNat 48 s.tick

/-- The entries of one happening, the first without and the others with CONT, R642. -/
def cairnEntries (s : State) (src : Src) (code : Nat) (fs : List DF) : List CairnIn :=
  (packDetail fs 0 0).mapIdx fun i d =>
    { tick := s.tickP, pos0 := s.pos0, src := src.code, code := code, cont := i != 0,
      detail := BitVec.ofNat 48 d }

/-- The die of a unit of R713 by kind and index. -/
def kindDie (kind ix : Nat) : Nat :=
  match kind with
  | 4 => laneDie ix | 5 => 5 + ix / 32 | 6 => 5 + ix / 32 | 7 => stackDie (ix / 32) | 8 => galDie ix | 10 => siteDie ix
  | 11 => 1 + ix | 12 => 5 + ix | _ => 0

/-- The die of a master, R329. -/
def dieOfMaster (m : Nat) : Nat :=
  if m < 16 then 0 else if m < 32 then galDie (m - 16) else if m < 34 then 5 + (m - 32)
  else if m < 40 then 0 else siteDie ((m - 40) / 4)

/-- The die of the unit that writes an entry, by its source, its code and its first detail values (R151, R325 and the
other code tables). -/
def entryDie (src : Src) (code : Nat) (fs : List DF) : Nat :=
  let f := fs.headD ⟨0, 0⟩
  let unit := kindDie (f.v / 4096) (f.v % 4096)
  match src with
  | .gallery => galDie f.v
  | .memory =>
    if code ≤ 3 then (if f.v < 4096 then 0 else unit)
    else if code ≤ 5 ∨ code = 9 then stackDie f.v
    else 1 + f.v
  | .passage =>
    if code ≤ 2 ∨ code = 8 then unit
    else siteDie f.v
  | .translate => dieOfMaster f.v
  | .link =>
    if f.w = 16 then unit
    else if f.w = 8 then laneDie f.v
    else if f.w = 12 then laneDie (fs.getD 1 ⟨0, 0⟩).v
    else 0
  | _ => 0

/-- A happening that reaches the log, R643: queued whole, or discarded whole and counted. -/
def logAtHub (src : Src) (code : Nat) (fs : List DF) (s : State) : State :=
  if s.cairn.frozen then s
  else
    let es := cairnEntries s src code fs
    if s.cairn.queue.length + es.length ≤ 256 then
      { s with cairn := { s.cairn with queue := s.cairn.queue ++ es } }
    else
      { (s.bump R.CAIRN_DROPCNT F.CAIRN_DROPCNT_DROPCNT) with cairn := { s.cairn with dropped := true } }

/-- An entry written by a unit of a die: lost where the sideband to the hub is down, R28. -/
def logOn (die : Nat) (src : Src) (code : Nat) (fs : List DF) (s : State) : State :=
  if s.sideDown die then s else logAtHub src code fs s

/-- A happening sent to the log by the unit that it names. -/
def logCairn (src : Src) (code : Nat) (fs : List DF) (s : State) : State := logOn (entryDie src code fs) src code fs s

/-! Detail values of R713. -/

def dfMaster (m : Nat) : DF := ⟨6, m⟩
def dfAddr (a : Nat) : DF := ⟨42, a⟩
def dfStatus (st : Status) : DF := ⟨4, st.code⟩
def dfBit (b : Bool) : DF := ⟨1, b2n b⟩
/-- A unit of a kind, R713. -/
def dfUnit (kind ix : Nat) : DF := ⟨16, kind * 4096 + ix⟩
/-- A register offset, R713. -/
def dfOff (off : Nat) : DF := ⟨26, off⟩

/-- The code of a privilege level, R456. -/
def lvlCode : Level → Nat
  | .u => 0 | .s => 1 | .m => 2

/-- The level of a code; the reserved 0b11 acts as M, R636. -/
def lvlOf (x : Nat) : Level := if x = 0 then .u else if x = 1 then .s else .m

/-- A write of an AXIS register or of the Gazetteer window, which waits while a restore runs, R664.
(DESIGN CHOICE, log entry 14.) -/
def unlessRestoring (f : State → State) (s : State) : State := if s.pf.restoring then s else f s

/-- A list operation applied from the left to the state. -/
def forEach {α : Type} (l : List α) (f : α → State → State) (s : State) : State :=
  l.foldl (fun s x => f x s) s

/-- The outcome of a command: the next state. -/
def ok (s : State) : Res := .next s

end Sys2Proof.Machine
end

