-- ==== Sys2Proof/Machine/Storage.lean ====
section
/-! DEFINITION. Words in their containers: reads with correction, counting and reporting, and the atomic
read-modify-writes of the owning controllers and chambers (02 R53–R66, 05 R196, 08 R280–R287, R308, 09 R355). -/

namespace Sys2Proof.Machine

/-- A byte of memory. (DESIGN CHOICE, log entry 2.) -/
def memByte (m : List Host.Cell) (i : Nat) : BitVec 8 := tget (fun _ => 0) m i

/-- The bytes `i` to `i + n - 1`, the first in the lowest bits, R59. -/
def memBytes (m : List Host.Cell) (i : Nat) : Nat → Nat
  | 0 => 0
  | n + 1 => (memByte m i).toNat + 256 * memBytes m (i + 1) n

/-- The bytes from `i` replaced by the low `n` bytes of a number. -/
def memPut (m : List Host.Cell) (i : Nat) (x : Nat) : Nat → List Host.Cell
  | 0 => m
  | n + 1 => memPut (tset (fun _ => 0) m i (BitVec.ofNat 8 x)) (i + 1) (x / 256) n

/-- The container at word index `w` of a memory. -/
def contAt (m : List Host.Cell) (w : Nat) : Container := BitVec.ofNat 64 (memBytes m (8 * w) 8)

/-- The container at word index `w` replaced. -/
def contPut (m : List Host.Cell) (w : Nat) (c : Container) : List Host.Cell := memPut m (8 * w) c.toNat 8

/-- The first word index of the boot ROM, R327. -/
def romWord : Nat := 0x302_0000_0000 / 4

/-- Whether a word index lies in the boot ROM. -/
def inRomRange (w : Nat) : Bool := decide (romWord ≤ w) && decide (w < romWord + 0x40000)

/-- The container at a physical word index; the boot ROM's is fixed. (DESIGN CHOICE, log entry 15.) -/
def State.cont (s : State) (w : Nat) : Container :=
  if inRomRange w then Config.bootRom (w - romWord) else contAt s.mem w

/-- The memory replaced. -/
def State.setMem (s : State) (m : List Host.Cell) : State := { s with mem := m }

/-- The niche memories replaced. -/
def State.setNiche (s : State) (m : List Host.Cell) : State := { s with niche := m }

/-- The container at a physical word index replaced. -/
def State.setCont (s : State) (w : Nat) (c : Container) : State := s.setMem (contPut s.mem w c)

/-- A word stored, encoded afresh, R55. -/
def State.putWord (s : State) (w : Nat) (x : Word) : State := s.setCont w (encodeWord x)

/-! ### The interleave, R280 and R281 -/

/-- The exclusive or of the 6-bit groups of h, R280. -/
def fold6 (h : Nat) : Nat :=
  xorN (xorN (xorN (xorN (h % 64) (h / 64 % 64)) (h / 4096 % 64)) (h / 262144 % 64)) (h / 16777216 % 64)

/-- The pseudo-channel p of a granule, R280. -/
def hbmPc (g : Nat) : Nat := 64 * (g / 64 % 3) + xorN (g % 64) (fold6 (g / 64))

/-- The granule index j within its pseudo-channel, R280. -/
def hbmJ (g : Nat) : Nat := g / 64 / 3

/-- The row of a granule index, R281. -/
def hbmRow (j : Nat) : Nat := j / 512

/-- The bank of a granule index, R281. -/
def hbmBank (j : Nat) : Nat := xorN (j / 16 % 32) (hbmRow j % 32)

/-- The granule of pseudo-channel p and index j, the inverse of R282. -/
def hbmGranule (p j : Nat) : Nat :=
  let h := 3 * j + p / 64
  64 * h + xorN (p % 64) (fold6 h)

/-! ### Who owns a word -/

/-- The target ports of R327. -/
inductive Target where
  | hbm (st : Nat)
  | cham (n : Nat)
  | reg
  | nvs
  | rom
  | lbuf (k : Nat)
  | relay (k : Nat)
  | win (x : Nat)
  | trav
  | evc
  | sec
  | cairn
  | default
  deriving DecidableEq, Repr

/-- The target IDs of R327. -/
def Target.id : Target → Nat
  | .hbm st => st | .cham n => 6 + n | .reg => 22 | .nvs => 23 | .rom => 24 | .lbuf k => 25 + k
  | .relay k => 27 + k | .win x => 31 + x | .trav => 33 | .evc => 34 | .sec => 35 | .cairn => 36 | .default => 37

/-- The target of a physical sample address, R327. -/
def targetOf (a : Nat) : Target :=
  if a < 0x012_0000_0000 then .hbm (hbmPc (a / 32) / 32)
  else if a < 0x200_0000_0000 then .default
  else if a < 0x200_0000_0000 + 16 * 0x800000 then .cham ((a - 0x200_0000_0000) / 0x800000)
  else if a < 0x300_0000_0000 then .default
  else if a < 0x300_0400_0000 then
    let o := a - 0x300_0000_0000
    if 0x200000 ≤ o ∧ o < 0x400000 then .trav
    else if 0x400000 ≤ o ∧ o < 0x800000 then .evc
    else if 0x3D00000 ≤ o ∧ o < 0x3E00000 then .sec
    else if 0x3E00000 ≤ o ∧ o < 0x3F00000 then .cairn
    else .reg
  else if a < 0x301_0000_0000 then .default
  else if a < 0x301_0040_0000 then .nvs
  else if a < 0x302_0000_0000 then .default
  else if a < 0x302_0010_0000 then .rom
  else if a < 0x304_0000_0000 then .default
  else if a < 0x304_0080_0000 then .lbuf ((a - 0x304_0000_0000) / 0x400000)
  else if a < 0x380_0000_0000 then .default
  else if a < 0x3C0_0000_0000 then .win 0
  else if a < 0x400_0000_0000 then .win 1
  else .default

/-- The detail value "Target" of an uncorrectable read, R325 and R713: the pseudo-channel or chamber, or the
target's ID where no kind of R713 names it. (DEDUCED, log entry 41.) -/
def dfTargetOfWord (w : Nat) : DF :=
  match targetOf (4 * w) with
  | .hbm _ => dfUnit 7 (hbmPc (w / 8))
  | .cham n => dfUnit 8 n
  | .lbuf k => dfUnit 12 k
  | t => ⟨16, t.id⟩

/-! ### Counting, R286, R287 and R308 -/

/-- A unit's correction counted, with its threshold: the unit's number in `thrFired`, its registers, its
threshold, its status bit, its event and its detail value. -/
def countCorrection (u cnt last thrReg : Nat) (cntF lastF thrF : Fld) (thr lastV ev : Nat) (d : DF)
    (s : State) : State :=
  let s := (s.bump cnt cntF).setFld last lastF lastV
  if thr ≠ 0 ∧ s.fld cnt cntF = thr ∧ ¬ u ∈ s.thrFired then
    let s := { (s.setFld thrReg thrF 1) with thrFired := u :: s.thrFired }
    logCairn .memory 0x02 [d, ⟨32, s.fld cnt cntF⟩] (raise ev s)
  else s

/-- The die of the unit that holds a word, R329. -/
def dieOfWord (w : Nat) : Nat :=
  match targetOf (4 * w) with
  | .hbm st => stackDie st
  | .cham n => galDie n
  | .lbuf k => 5 + k
  | _ => 0

/-- A corrected read of a word counted, R286 and R308. -/
def noteCorrected (w : Nat) (s : State) : State :=
  match targetOf (4 * w) with
  | .hbm st =>
    let p := hbmPc (w / 8)
    countCorrection p (R.PC_CECNT st (p % 32)) (R.PC_LASTCE st (p % 32)) (R.PC_CESTAT st (p % 32))
      F.PC_CECNT_CECNT F.PC_LASTCE_ADDR F.PC_CESTAT_THR (s.fld (R.HBM_CFG st) F.HBM_CFG_CETHR) (4 * w)
      (133 + st) (dfUnit 7 p) s
  | .cham n =>
    countCorrection (192 + n) (R.CHAM_CECNT n) (R.CHAM_LASTCE n) (R.CHAM_STAT n)
      F.CHAM_CECNT_CECNT F.CHAM_LASTCE_OFF F.CHAM_STAT_THR (s.fld (R.CHAM_CFG n) F.CHAM_CFG_CETHR)
      (4 * w % 0x800000) (139 + n) (dfUnit 8 n) s
  | _ => s

/-- An uncorrectable read counted at its unit, R287 and R308. -/
def countUncorrectable (w : Nat) (s : State) : State :=
  match targetOf (4 * w) with
  | .hbm st =>
    let q := hbmPc (w / 8) % 32
    (s.bump (R.PC_UECNT st q) F.PC_UECNT_UECNT).setFld (R.PC_LASTUE st q) F.PC_LASTUE_ADDR (4 * w)
  | .cham n =>
    (s.bump (R.CHAM_UECNT n) F.CHAM_UECNT_UECNT).setFld (R.CHAM_LASTUE n) F.CHAM_LASTUE_OFF (4 * w % 0x800000)
  | _ => s

/-- An uncorrectable read by a master counted and reported, R57. -/
def noteUncorrectable (m w : Nat) (s : State) : State :=
  logCairn .memory 0x01 [dfTargetOfWord w, dfAddr (4 * w), dfMaster m] (raiseOn (dieOfWord w) 132 (countUncorrectable w s))

/-- A word read by a master at its owning unit, R56: the word, whether it was uncorrectable, and the state with
the outcome counted and reported. -/
def readWordAt (m w : Nat) (s : State) : (Word × Bool) × State :=
  match decodeContainer (s.cont w) with
  | .clean x => ((x, false), s)
  | .corrected x => ((x, false), noteCorrected w s)
  | .uncorrectable => ((Word.uni0, true), noteUncorrectable m w s)

/-! ### Operations at the owning controller or chamber -/

/-- What an access answers. -/
structure Ans where
  st : Status
  w : Word := Word.uni0
  /-- The word read was uncorrectable: it crosses Passage with EP = 1, R343. -/
  ep : Bool := false
  /-- The tag of the word that refused a sample store or an addition, for SUB of R459. -/
  found : Option Tag := none
  deriving DecidableEq, Repr

/-- A payload with the masked fields of another, in the field layout of an element type code, R196. -/
def mergeFields (et mask : Nat) (old new : Nat) : Nat :=
  match EType.decode et with
  | none => old
  | some t =>
    (List.range t.perWord).foldl
      (fun acc k => if bit mask k then setBits acc (t.width * k) t.width (fieldOf t new k) else acc) old

/-- The A and D update of R506 and R509 on a word: the entry's PFN and SZ in `e`, the bits to OR in `b`. -/
def pteJudge (old e : Payload) (tag : Tag) : Bool :=
  tag == Tags.pte && bits old.toNat 16 26 == bits e.toNat 16 26 && bit old.toNat 12 == bit e.toNat 12

/-- Whether a target performs the A and D update, R509. -/
def Target.owns : Target → Bool
  | .hbm _ => true | .cham _ => true | _ => false

/-- A read-modify-write: an uncorrectable word gives UNCOR; otherwise `f` judges the word. -/
def rmw (m w : Nat) (f : Word → Option Word × Ans) (s : State) : Ans × State :=
  match readWordAt m w s with
  | ((_, true), s) => ({ st := .uncor }, s)
  | ((x, false), s) =>
    match f x with
    | (some y, r) => (r, s.putWord w y)
    | (none, r) => (r, s)

/-- What a read-modify-write of a word makes of it: the word to be stored, if any, and the answer (R62, R196, R355,
R396 and R506). -/
def rmwOn (a : Nat) (op : JOp) (x : Word) : Option Word × Ans :=
  match op with
  | .rd => (none, { st := .ok, w := x })
  | .wr y => (some y, { st := .ok })
  | .samp v =>
    if x.tag = Tags.quad then
      (some ⟨x.tag, BitVec.ofNat 48 (setBits x.pay.toNat (12 * (a % 4)) 12 v.toNat)⟩, { st := .ok })
    else (none, { st := .tref, found := some x.tag })
  | .field y mask et =>
    if x.tag = y.tag ∨ x.tag = Tags.raw then
      (some ⟨x.tag, BitVec.ofNat 48 (mergeFields et mask x.pay.toNat y.pay.toNat)⟩, { st := .ok })
    else (none, { st := .tref })
  | .fadd p =>
    if x.tag = Tags.int ∨ x.tag = Tags.raw then (some ⟨x.tag, x.pay + p⟩, { st := .ok, w := x })
    else (none, { st := .tref, found := some x.tag })
  | .swap y => (some y, { st := .ok, w := x })
  | .cas e y => (if x = e then some y else none, { st := .ok, w := x })
  | .pteupd e b =>
    (if pteJudge x.pay e.pay x.tag then some ⟨x.tag, x.pay ||| (b.pay &&& 0xC00)⟩ else none, { st := .ok, w := x })

/-- Whether an access is an A and D update. -/
def JOp.isPteupd : JOp → Bool
  | .pteupd _ _ => true
  | _ => false

/-- An access performed at the storage of a word, R62, R196, R355, R396 and R506. -/
def storageOp (m a : Nat) (op : JOp) (s : State) : Ans × State :=
  let w := a / 4
  match op with
  | .rd => let r := readWordAt m w s; ({ st := .ok, w := r.1.1, ep := r.1.2 }, r.2)
  | .wr x => ({ st := .ok }, s.putWord w x)
  | _ => if op.isPteupd && !(targetOf a).owns then ({ st := .tref }, s) else rmw m w (rmwOn a op) s

end Sys2Proof.Machine
end

