-- ==== Sys2Proof/Machine/Bus.lean ====
section
/-! DEFINITION. An access of a Junction master: paths, the default target, locked regions, links that are down
and the customer windows (08 R285, R290, R291, R314, 09 R326–R344, R364–R372, 17 R650). -/

namespace Sys2Proof.Machine

/-- The die of a target port, R329. -/
def dieOfTarget : Target → Nat
  | .hbm st => stackDie st
  | .cham n => galDie n
  | .lbuf k => 5 + k
  | .relay k => 1 + k
  | .win x => siteDie x
  | _ => 0

/-- The links between two gallery dies a ≤ b (counted from 1), R330. -/
def chainLinks (a b : Nat) : List Nat := (List.range (max a b - min a b)).map fun i => 5 + min a b + i

/-- The internal links that a path between two dies uses, R329 and R330. -/
def routeLinks (a b : Nat) : List Nat :=
  let hop (lane gal : Nat) : List Nat :=
    if lane = 5 then 9 :: chainLinks 1 gal else 10 :: chainLinks 4 gal
  if a = b then []
  else if a = 0 then [b - 1]
  else if b = 0 then [a - 1]
  else if a ≤ 4 ∧ b ≤ 4 then chainLinks a b
  else if 5 ≤ a ∧ 5 ≤ b then [4, 5]
  else if 5 ≤ a then hop a b else hop b a

/-- The route between two dies crosses an internal link that is down, R27 and R364. -/
def State.pathDown (s : State) (a b : Nat) : Bool := (routeLinks a b).any (s.junc.linksDown.contains ·)

/-- Whether a path exists, R331. -/
def hasPath (m : Nat) (t : Target) : Bool :=
  match t with
  | .default => true
  | .hbm _ => m != 38
  | .cham n => m != 38 && m != 16 + n
  | .reg => decide (m < 16) || m == 34 || m == 35 || m == 36 || m == 38
  | .nvs => decide (m < 16) || m == 34 || m == 35 || m == 36 || m == 38
  | .rom => decide (m < 16) || m == 35 || m == 36
  | .lbuf k => decide (m < 32) || m == 32 + k || m == 34 || m == 36 || decide (40 ≤ m)
  | .relay k => decide (16 ≤ m) && decide (m < 32) && galDie (m - 16) != 1 + k
  | .win x =>
    decide (m < 35) || m == 36 || (decide (40 ≤ m) && m / 4 != 10 + x)
  | .trav => decide (m < 16) || m == 34 || m == 36 || m == 38
  | .evc => decide (m < 16) || m == 34 || m == 36 || decide (40 ≤ m)
  | .sec => decide (m < 16) || m == 34 || m == 36
  | .cairn => decide (m < 16) || m == 34 || m == 35 || m == 36 || m == 38

/-- A target port. -/
def State.port (s : State) (t : Nat) : Port := tget (fun _ => {}) s.junc.ports t

/-- A target port replaced. -/
def State.setPort (s : State) (t : Nat) (p : Port) : State :=
  { s with junc := { s.junc with ports := tset (fun _ => {}) s.junc.ports t p } }

/-- A port is parked on a master, R335: MASTER, GROUP, OWNER and LAST. -/
def State.parkedOn (s : State) (t m : Nat) : Bool :=
  let dm := s.fld (R.JUNC_PARK t) F.JUNC_PARK_DM
  match s.fld (R.JUNC_PARK t) F.JUNC_PARK_MODE with
  | 1 => dm == m
  | 2 => decide (16 + 4 * (dm % 4) ≤ m) && decide (m < 20 + 4 * (dm % 4))
  | 3 => decide (6 ≤ t) && decide (t < 22) && s.fld (R.GAL_CFG (t - 6)) F.GAL_CFG_OWNER == m
  | 4 => (s.port t).last == some m
  | _ => false

/-- Targets of the save domain, R648. -/
def Target.inSaveDomain : Target → Bool
  | .reg => true | .nvs => true | .rom => true | .trav => true | .evc => true | .cairn => true
  | .default => true | _ => false

/-- The default target, R344. -/
def defaultAccess (m a : Nat) (wr : Bool) (noPath : Option Target) (s : State) : State :=
  let np := noPath.isSome
  let s := s.setFld R.JUNC_ERRADDR F.JUNC_ERRADDR_ADDR a
  let s := s.setRegN R.JUNC_ERRINFO (m + 64 * b2n wr + 128 * b2n np + 256 * ((noPath.map Target.id).getD 0))
  let s := s.bump R.JUNC_ERRCNT F.JUNC_ERRCNT_ERRCNT
  logCairn .junction 0x01 [dfMaster m, dfAddr a, dfBit wr, dfBit np] (raise 165 s)

/-- Whether a run holds a word index locked, R314. -/
def MarchRun.holds (r : MarchRun) (w : Nat) : Bool :=
  r.tgt != 2 && decide (r.w0 ≤ w) && decide (w < r.w0 + r.len)

/-- The engine that holds a word locked. -/
def State.lockedBy (s : State) (w : Nat) : Option Nat :=
  (List.range 4).find? fun k => match (s.march k).run with
    | some r => r.holds w
    | none => false

/-- The die from which a master reaches a target, R329. March engine k lies on gallery die k; the four share an ID, and
the one meant is that whose march holds the word, or else the target's own. (DEDUCED, log entry 42.) -/
def State.masterDie (s : State) (m a : Nat) : Nat :=
  if m = 37 then
    match s.lockedBy (a / 4) with
    | some k => 1 + k
    | none => dieOfTarget (targetOf a)
  else dieOfMaster m

/-- The GCLK that R341 adds to both legs of an access that finds its port idle: none is stated in boot mode, R339. -/
def State.legCycles (s : State) (m : Nat) (t : Target) : Option Nat :=
  if !s.flag R.JUNC_STAT F.JUNC_STAT_ACTIVE then none
  else some (b2n (!s.parkedOn t.id m) + 2 * b2n (bit (s.regN (R.JUNC_SLICE m)) t.id)
    + 16 * (routeLinks (dieOfMaster m) (dieOfTarget t)).length)

/-- A refused access counted at the engine, R314. -/
def refuseLocked (k m a : Nat) (s : State) : State :=
  let c := s.fld (R.MARCH_REFCNT k) F.MARCH_REFCNT_REFCNT
  let s := s.setFld (R.MARCH_REFCNT k) F.MARCH_REFCNT_REFCNT (min (c + 1) (2 ^ 32 - 1))
  if (s.march k).refusedOne then s
  else logCairn .memory 0x08 [⟨2, k⟩, dfMaster m, dfAddr a] (s.setMarch k { s.march k with refusedOne := true })

/-- What an access comes to: it waits, or it is answered. -/
inductive BusOut where
  | wait
  | done (r : Ans)
  deriving DecidableEq, Repr

/-- Answered with a status and UNI, R343. -/
def BusOut.bad (st : Status) : BusOut := .done { st := st }

/-- Whether an access to a stack waits: the stack is not trained, R285, or a soft repair of the word's
pseudo-channel runs, R290. -/
def State.hbmWaits (s : State) (st w : Nat) : Bool :=
  !s.flag (R.HBM_STAT st) F.HBM_STAT_TRAINED ||
    match (s.hbm st).running with
    | some r => !r.hard && r.q == hbmPc (w / 8) % 32
    | none => false

/-! ### The ports of a chamber, R304 to R306 -/

/-- The sub-array of a word index within a chamber, R304. -/
def subArray (w : Nat) : Nat := w / 32 % 64

/-- What a gallery port presents in one GCLK: the sub-arrays of its reads R0 and R1 and of its write W, R305. -/
structure GalPort where
  r0 : Option Nat := none
  r1 : Option Nat := none
  w : Option Nat := none
  deriving DecidableEq, Repr

/-- The sub-array of a free number, or none. -/
def portPart (x : Nat) : Option Nat := if x % 65 < 64 then some (x % 65) else none

/-- What the gallery port of chamber n presents beside a Junction access: nothing while no slot runs, else a free
presentation. (DESIGN CHOICE, log entry 97.) -/
def State.galPort (s : State) (n : Nat) : GalPort × State :=
  if (s.gal n).slots.any fun x => x.2.st == .run then
    let f := s.freeNat
    ({ r0 := portPart f.1, r1 := portPart (f.1 / 65), w := portPart (f.1 / 4225) }, f.2)
  else ({}, s)

/-- A conflict: with the Junction port's access, three reads or two writes address one sub-array, R306. -/
def GalPort.conflicts (p : GalPort) (wr : Bool) (sa : Nat) : Bool :=
  if wr then p.w == some sa else p.r0 == some sa && p.r1 == some sa

/-- One GCLK of an access of the Junction port: whether it is served. On a conflict the port that lost the chamber's
previous conflict wins, which the rotation bit says, R306. -/
def chamberGclk (n sa : Nat) (wr : Bool) (s : State) : Bool × State :=
  let p := s.galPort n
  if p.1.conflicts wr sa then
    ((p.2.chamber n).rot, p.2.setChamber n { p.2.chamber n with rot := !(p.2.chamber n).rot })
  else (true, p.2)

/-- The GCLK in which chamber n serves an access of the Junction port: one that loses a conflict is presented again in
the next GCLK, and then wins. -/
def chamberPort (n a : Nat) (wr : Bool) (s : State) : State :=
  let r := chamberGclk n (subArray (a % 0x800000 / 4)) wr s
  if r.1 then r.2 else (chamberGclk n (subArray (a % 0x800000 / 4)) wr r.2).2

/-- An access to HBM, a chamber or a lane buffer, R285, R290, R291 and R314. `own` says that it comes over a
chamber's own gallery port or is a cache write-back, which wait at a locked region; the march engines are not locked
out. A write to a save region is refused unless its own gallery makes it, R234. -/
def storageAccess (own : Bool) (m a : Nat) (op : JOp) (s : State) : BusOut × State :=
  let w := a / 4
  let t := targetOf a
  match if m = 37 then none else s.lockedBy w with
  | some k => if own then (.wait, s) else (.bad .locked, refuseLocked k m a s)
  | none =>
    match t with
    | .hbm st =>
      if s.hbmWaits st w then (.wait, s)
      else if s.flag (R.HBM_QUIESCE st) F.HBM_QUIESCE_Q then (.bad .tref, s)
      else let r := storageOp m a op s; (.done r.1, r.2)
    | .cham n =>
      if op.writes ∧ 0x7F0000 ≤ a % 0x800000 ∧ m ≠ 16 + n then (.bad .tref, s)
      else let r := storageOp m a op (if own then s else chamberPort n a op.writes s); (.done r.1, r.2)
    | _ => let r := storageOp m a op s; (.done r.1, r.2)

/-! ### Device requests to a site, R352–R356, R372 -/

/-- The words that an access sends. -/
def JOp.data : JOp → List Word
  | .rd => []
  | .wr w => [w]
  | .samp v => [Word.int (v.setWidth 48)]
  | .field w _ _ => [w]
  | .fadd p => [Word.int p]
  | .swap w => [w]
  | .cas e n => [e, n]
  | .pteupd e b => [e, b]

/-- Whether an access travels as ATOM. -/
def JOp.atom : JOp → Bool
  | .rd => false | .wr _ => false | _ => true

/-- The AOP of R355. -/
def JOp.aop : JOp → Nat
  | .samp _ => 0 | .field _ _ _ => 1 | .fadd _ => 2 | .swap _ => 3 | .cas _ _ => 4 | .pteupd _ _ => 5 | _ => 0

/-- What a device request to a site asks for: its TYPE, its words, the words read, and the bits of an ATOM, R352. -/
structure WinReq where
  ty : Nat
  ws : List Word
  /-- Words that the response brings. -/
  n : Nat
  extra : Nat := 0
  wr : Bool
  atom : Bool := false
  deriving DecidableEq, Repr

/-- The LEN of a request: its words read, or sent. -/
def WinReq.len (q : WinReq) : Nat := if q.atom then 1 else if q.ty = 1 then q.n else q.ws.length

/-- The request of a single-word access. -/
def JOp.request (op : JOp) : WinReq :=
  match op with
  | .rd => { ty := 1, ws := [], n := 1, wr := false }
  | .wr w => { ty := 2, ws := [w], n := 0, wr := true }
  | .field _ mask et =>
    { ty := 4, ws := op.data, n := 0, wr := true, atom := true
      extra := op.aop * 2 ^ 78 + (mask % 16) * 2 ^ 82 + (et % 8) * 2 ^ 86 }
  | _ => { ty := 4, ws := op.data, n := if op.aop = 0 then 0 else 1, extra := op.aop * 2 ^ 78, wr := true, atom := true }

/-- The header of a device request, R352; `ep` says that a word is UNI because of an uncorrectable read. -/
def reqHeader (m tag a : Nat) (lv : Level) (q : WinReq) (se ep : Bool) : BitVec 192 :=
  BitVec.ofNat 192 (q.ty + m * 2 ^ 8 + tag * 2 ^ 16 + (q.len - 1) * 2 ^ 26 + a * 2 ^ 32 + lvlCode lv * 2 ^ 74
    + b2n se * 2 ^ 76 + b2n (ep && !q.ws.isEmpty) * 2 ^ 77 + q.extra)

/-- The data slots that N words take, R354. -/
def dataSlots (n : Nat) : Nat := (n + 2) / 3

/-- A transaction put on the site's sending queue. -/
def siteSend (x : Nat) (t : PTx) (s : State) : State :=
  s.setSite x { s.site x with txq := (s.site x).txq ++ [t] }

/-- The lowest tag that is neither outstanding nor retired, R372. (DESIGN CHOICE, log entry 44.) -/
def freeTag (st : Site) : Option Nat :=
  (List.range 1024).find? fun t => !(st.reqs.any fun r => r.tag == t) && !(st.retired.any fun r => r.tag == t)

/-- The device holds receive space for the responses to its outstanding requests and for one of `n` words more, within
the RSP credits that it granted, R359 and R360. -/
def Site.hasRoom (st : Site) (n : Nat) : Bool :=
  let l := st.reqs ++ st.retired
  decide (l.length < 64) && decide ((l.map fun r => dataSlots r.n).sum + dataSlots n ≤ 512)

/-- What a request to a customer window comes to: it waits, or a status with words. -/
inductive WinOut where
  | wait
  | done (st : Status) (ws : List Word)
  deriving DecidableEq, Repr

/-- Whether a device request of a master to an address is outstanding or answered. -/
def Site.knows (st : Site) (m a : Nat) (wr : Bool) : Bool :=
  (st.dones.any fun d => d.m == m && d.a == a && d.wr == wr) || st.reqs.any fun r => r.m == m && r.a == a && r.wr == wr

/-- An access to a customer window, R365, R372: a finished request of this master and address is taken; one that is
outstanding is waited for; else the request is sent as one transaction, and one of TYPE WRP is not answered. -/
def windowRequest (x m : Nat) (lv : Level) (a : Nat) (q : WinReq) (se ep : Bool) (s : State) : WinOut × State :=
  let st := s.site x
  let base := 0x380_0000_0000 + x * 0x40_0000_0000
  let tx (tag : Nat) : PTx := { hdr := reqHeader m tag (a - base) lv q se ep, data := q.ws.map encodeWord }
  match st.dones.find? fun d => d.m == m && d.a == a && d.wr == q.wr with
  | some d => (.done d.st d.ws, s.setSite x { st with dones := st.dones.erase d })
  | none =>
    if st.knows m a q.wr then (.wait, s)
    else if !s.flag (R.SITE_STAT x) F.SITE_STAT_UP then (.done .linkdown [], s)
    else if q.atom && !s.flag (R.SITE_CAP x) F.SITE_CAP_ATOMT then (.done .tref [], s)
    else if q.ty = 3 then (.done .ok [], siteSend x (tx 0) s)
    else match if st.hasRoom q.n then freeTag st else none with
      | none => (.wait, s)
      | some tag =>
        let s := s.setSite x { st with
          reqs := st.reqs ++ [{ tag := tag, m := m, a := a, wr := q.wr, sentAt := s.tick, n := q.n }] }
        (.wait, siteSend x (tx tag) s)

/-- A single-word access to a customer window. `se` says that it is made through an SE page, `ep` that its word is UNI
because of an uncorrectable read. -/
def windowAccess (x m : Nat) (lv : Level) (a : Nat) (op : JOp) (se ep : Bool) (s : State) : BusOut × State :=
  match windowRequest x m lv a op.request se ep s with
  | (.wait, s) => (.wait, s)
  | (.done st ws, s) => (.done { st := st, w := ws.headD Word.uni0 }, s)

/-- The axis registers and the Gazetteer, which are not reached while a restore runs, R664. -/
def isRestoredReg (off : Nat) : Bool :=
  (decide (0x200000 ≤ off) && decide (off < 0x200400)) || (decide (0x300000 ≤ off) && decide (off < 0x400000))

/-! ### Arbitration, R334 -/

/-- The priority of a master at a target, R375. -/
def State.junPri (s : State) (m t : Nat) : Nat :=
  if t < 36 then bits (s.regN (R.JUNC_PRI m (t / 12))) (4 * (t % 12)) 4
  else bits (s.regN (R.JUNC_PRI3 m)) (4 * (t % 12)) 4

/-- How far a master's ID follows, cyclically, the ID granted last, R334. -/
def afterLast (last : Option Nat) (m : Nat) : Nat :=
  match last with
  | none => m
  | some l => (m + 64 - l - 1) % 64

/-- A request has waited 4,096 GCLK or more, R334. -/
def State.starved (s : State) (r : JReq) : Bool := decide (r.arr + 256 ≤ s.tick)

/-- Whether request `r` goes before request `q` at port `t`, R334. -/
def goesBefore (s : State) (t : Nat) (last : Option Nat) (r q : JReq) : Bool :=
  if s.starved r != s.starved q then s.starved r
  else if s.starved r then decide (afterLast last r.m < afterLast last q.m)
  else if s.junPri r.m t ≠ s.junPri q.m t then decide (s.junPri r.m t > s.junPri q.m t)
  else decide (afterLast last r.m < afterLast last q.m)

/-- The port that an access reaches: the default target's where it has no target or no path, or where the save domain is
isolated, R332, R344 and R650. -/
def State.portOf (s : State) (m a : Nat) : Target :=
  let t := targetOf a
  if (s.junc.isolated ∧ ¬ t.inSaveDomain) ∨ ¬ hasPath m t then .default else t

/-- A waiting request that its target makes wait, so that a port grants others ahead of it. -/
def State.stuck (s : State) (q : JReq) : Bool :=
  match targetOf q.a with
  | .hbm st => s.hbmWaits st (q.a / 4)
  | .win x => (s.site x).knows q.m q.a q.op.writes
  | .reg | .trav => s.pf.restoring && isRestoredReg (q.a - 0x300_0000_0000)
  | _ => false

/-- An access that arrives now waits, R334 and R339: the Junction drains, an older request of its master waits at the
port, or a waiting request goes before it. -/
def State.outranked (s : State) (m a : Nat) (op : JOp) : Bool :=
  let t := s.portOf m a
  let r : JReq := { m := m, lv := .u, a := a, op := op, arr := s.tick }
  s.junc.draining || s.junc.waiting.any fun q =>
    s.portOf q.m q.a == t && (q.m == m || (!s.stuck q && goesBefore s t.id (s.port t.id).last q r))

/-- A port has granted a master in this GCLK; in boot mode it grants again 4 GCLK later, R339. -/
def State.granted (s : State) (t m : Nat) : State :=
  s.setPort t { last := some m, busy := true, gap := if s.flag R.JUNC_CTL F.JUNC_CTL_EN then 0 else 3 }

/-- A granted access performed, R326 to R344. -/
def busPerform (ra : Nat → Level → Nat → JOp → State → Ans × State) (m : Nat) (lv : Level) (a : Nat) (op : JOp)
    (s : State) (se ep : Bool) : BusOut × State :=
  let t := targetOf a
  if t = .default ∨ (s.junc.isolated ∧ ¬ t.inSaveDomain) then
    (.bad .jerr, defaultAccess m a op.writes none s)
  else if ¬ hasPath m t then (.bad .jerr, defaultAccess m a op.writes (some t) s)
  else if s.pathDown (s.masterDie m a) (dieOfTarget t) then (.bad .linkdown, s)
  else
    let samp : Bool := match op with
      | .samp _ => true
      | _ => false
    if ¬ samp ∧ a % 4 ≠ 0 then (.bad .align, s)
    else match t with
      | .win x => windowAccess x m lv a op se ep s
      | .hbm _ => storageAccess false m a op s
      | .cham _ => storageAccess false m a op s
      | .lbuf _ => storageAccess false m a op s
      | .nvs => let r := storageOp m a op s; (.done r.1, r.2)
      | .rom => if op.writes then (.bad .tref, s) else let r := storageOp m a op s; (.done r.1, r.2)
      | .default => (.bad .jerr, s)
      | .relay _ => (.bad .jerr, s)
      | .reg | .trav | .evc | .sec | .cairn =>
        if s.pf.restoring && isRestoredReg (a - 0x300_0000_0000) then (.wait, s)
        else match op with
        | .rd | .wr _ => let r := ra m lv (a - 0x300_0000_0000) op s; (.done r.1, r.2)
        | _ => (.bad .tref, s)

/-- An access is already in hand at a customer site, so that it needs no grant. -/
def State.inHand (s : State) (m a : Nat) (op : JOp) : Bool :=
  match targetOf a with
  | .win x => (s.site x).knows m a op.writes
  | _ => false

/-- An access of a Junction master to a physical sample address: arbitrated, then performed. `ra` performs register
accesses (offset and operation) for the masters that have a path to them; `se` is the SE bit and `ep` the EP bit of
R352. (DEDUCED, log entry 42.) -/
def busAccess (ra : Nat → Level → Nat → JOp → State → Ans × State) (m : Nat) (lv : Level) (a : Nat) (op : JOp)
    (s : State) (se : Bool := false) (ep : Bool := false) : BusOut × State :=
  if s.outranked m a op && !s.inHand m a op then (.wait, s)
  else match busPerform ra m lv a op s se ep with
    | (.wait, s') => (.wait, s')
    | (.done r, s') => (.done r, if r.st = .linkdown then s' else s'.granted (s.portOf m a).id m)

/-- No register access. -/
def noReg (_ : Nat) (_ : Level) (_ : Nat) (_ : JOp) (s : State) : Ans × State := ({ st := .tref }, s)

/-- An access of a master that reaches no register. -/
def memAccess (m : Nat) (lv : Level) (a : Nat) (op : JOp) (s : State) (se : Bool := false) (ep : Bool := false) :
    BusOut × State :=
  busAccess noReg m lv a op s se ep

/-- The outcome of several accesses: one of them waits, or all have been answered. -/
inductive Got (α : Type) where
  | wait (s : State)
  | got (x : α) (s : State)

/-- A command that must wait leaves nothing but the requests it sent to customer sites: the state before it, with
the sites of `s1` and their finished requests not yet taken. (DESIGN CHOICE, log entry 14.) -/
def keepWaiting (s0 s1 : State) : State :=
  (List.range 2).foldl (fun s x => s.setSite x { s1.site x with dones := (s0.site x).dones }) s0

/-- A cache write-back of one word, R296 and R314: it waits at a locked region; across a link that is down it
receives LINKDOWN (R27, R364), and the target is absent once the save domain is isolated, R650. -/
def writeBack (m a : Nat) (x : Word) (s : State) : BusOut × State :=
  let t := targetOf a
  if s.outranked m a (.wr x) then (.wait, s)
  else if s.junc.isolated ∧ ¬ t.inSaveDomain then (.bad .jerr, defaultAccess m a true none s)
  else if s.pathDown (dieOfMaster m) (dieOfTarget t) then (.bad .linkdown, s)
  else match storageAccess true m a (.wr x) s with
    | (.wait, s') => (.wait, s')
    | (.done r, s') => (.done r, s'.granted t.id m)

end Sys2Proof.Machine
end

