-- ==== Sys2Proof/Machine/GDesc.lean ====
section
/-! DEFINITION. Gallery descriptors: their words and fields, and the checks of R204 (05 R152–R204, R716). -/

namespace Sys2Proof.Machine

/-! ### Fields, R152 to R161, R177 to R190, R201 -/

/-- Word i of a descriptor. -/
def Desc.w (d : Desc) (i : Nat) : Nat := (d.getD i 0).toNat

/-- OP of step k, R160. -/
def Desc.op (d : Desc) (k : Nat) : Nat := bits (d.w 0) (8 * k) 6
/-- SEL of step k. -/
def Desc.sel (d : Desc) (k : Nat) : Nat := bits (d.w 0) (8 * k + 6) 2
def Desc.len (d : Desc) : Nat := bits (d.w 9) 0 24
def Desc.etype (d : Desc) : Option EType := EType.decode (bits (d.w 9) 24 3)
def Desc.rnd (d : Desc) : Nat := bits (d.w 9) 27 2
def Desc.satm (d : Desc) : Bool := bit (d.w 9) 29
def Desc.tcm (d : Desc) : Nat := bits (d.w 9) 30 2
def Desc.prio (d : Desc) : Nat := bits (d.w 9) 32 3
def Desc.msrc (d : Desc) : Nat := bits (d.w 9) 35 3
def Desc.minv (d : Desc) : Bool := bit (d.w 9) 38
def Desc.dpol (d : Desc) : Nat := bits (d.w 9) 39 2
def Desc.sben (d : Desc) : Bool := bit (d.w 9) 41
def Desc.cev (d : Desc) : Bool := bit (d.w 9) 42
def Desc.pack (d : Desc) : Nat := bits (d.w 9) 43 2
def Desc.k0 (d : Desc) : Nat := bits (d.w 10) 0 24
def Desc.k1 (d : Desc) : Nat := bits (d.w 10) 24 24
def Desc.own (d : Desc) : Nat := bits (d.w 13) 0 16
def Desc.await0 (d : Desc) : Nat := bits (d.w 13) 16 16
def Desc.await1 (d : Desc) : Nat := bits (d.w 13) 32 16
def Desc.saxis (d : Desc) : Nat := bits (d.w 14) 0 4
def Desc.sdir (d : Desc) : Bool := bit (d.w 14) 4
def Desc.daxis (d : Desc) : Nat := bits (d.w 14) 8 4
def Desc.fbidx (d : Desc) : Nat := bits (d.w 14) 12 16

/-- The streams by number: 0 A, 1 B, 2 C, 3 the result. -/
def Desc.loc (d : Desc) (x : Nat) : Nat := d.w (2 * x + 1)
/-- The control word of a stream. -/
def Desc.ctl (d : Desc) (x : Nat) : Nat := d.w (2 * x + 2)
/-- FORM: 0 OFF, 1 UNIT, 2 STRIDE, 3 TWOD, 4 RING, 5 INDEX, 6 STRUCT, 7 reserved. -/
def Desc.form (d : Desc) (x : Nat) : Nat := bits (d.ctl x) 0 3
/-- SPACE: 0 VIRT, 1 CHAM, 2 RELAY, 3 LANE. -/
def Desc.space (d : Desc) (x : Nat) : Nat := bits (d.ctl x) 3 2
/-- The stream is not OFF. -/
def Desc.on (d : Desc) (x : Nat) : Bool := d.form x != 0
/-- BASE, R178. -/
def Desc.base (d : Desc) (x : Nat) : Nat := if d.space x = 1 then bits (d.loc x) 0 23 else d.loc x
/-- ISRC as a stream number, 1 or 2; 0 and 3 are reserved. -/
def Desc.isrc (d : Desc) (x : Nat) : Nat := bits (d.ctl x) 5 2
/-- NF of a STRUCT stream; 5 stands for the reserved value. -/
def Desc.nf (d : Desc) (x : Nat) : Nat := bits (d.ctl x) 5 2 + 2
/-- SELf of a structure store. -/
def Desc.self (d : Desc) (f : Nat) : Nat := bits (d.ctl 3) (5 + 2 * f) 2
/-- The fields of a structure load of stream A, R185: 0 when A is no such load; 5 under the reserved NF. (DESIGN CHOICE, log
entry 91.) -/
def Desc.fed (d : Desc) : Nat := if d.form 0 = 6 then d.nf 0 else 0

/-- Pipe classes that the checks tell apart, R166. -/
inductive OpClass where
  | nop | fixed | fixedFp | fp | dec | all | lut | red
  | bad
  deriving DecidableEq, Repr

/-- The types for which an operation is defined, R166. -/
def opClass (op : Nat) : OpClass :=
  if op = 0 then .nop
  else if op = 0x0C then .all
  else if op ≤ 0x0B then .fixed
  else if op = 0x10 ∨ op = 0x11 ∨ op = 0x12 ∨ op = 0x14 ∨ op = 0x15 ∨ op = 0x18 ∨ op = 0x19 then .fixed
  else if 0x1A ≤ op ∧ op ≤ 0x1E then .fixedFp
  else if op = 0x1F then .fixed
  else if 0x20 ≤ op ∧ op ≤ 0x27 then .fixedFp
  else if 0x28 ≤ op ∧ op ≤ 0x2F then .fp
  else if op = 0x30 then .fixed
  else if op = 0x31 ∨ op = 0x32 then .fp
  else if op = 0x34 then .lut
  else if 0x38 ≤ op ∧ op ≤ 0x3C then .red
  else if op = 0x3D ∨ op = 0x3E then .dec
  else .bad

/-- Whether a class is defined for a type. -/
def OpClass.defined (c : OpClass) (t : EType) : Bool :=
  match c with
  | .nop | .all | .bad => true
  | .fixed => t.fixed
  | .fixedFp | .red => t != .dec
  | .fp => t == .fp
  | .dec => t == .dec
  | .lut => t == .s12u || t == .s12s

/-- The operation takes a side operand, R160. -/
def takesSide (op : Nat) : Bool :=
  !(op == 0 || op == 4 || op == 5 || op == 0x2F || op == 0x32 || (decide (0x1A ≤ op) && decide (op ≤ 0x1F))
    || op == 0x34 || (decide (0x38 ≤ op) && decide (op ≤ 0x3C)) || opClass op == .bad)

/-- A step of the CMP/SEL class. -/
def isCmpSel (op : Nat) : Bool := decide (0x20 ≤ op) && decide (op ≤ 0x27)

/-- The type that a CVT step names, R172. -/
def cvtTo (op : Nat) : Option EType :=
  match op with
  | 0x1A => some .s12u | 0x1B => some .s12s | 0x1C => some .h16s | 0x1D => some .p24s | 0x1E => some .i48
  | 0x1F => some .fp | _ => none

/-- The type in force at step k (k = 6: the final type) for a chain that starts with `t`, R162. -/
def Desc.typeAt (d : Desc) (t : EType) (k : Nat) : EType :=
  (List.range k).foldl (fun t i => (cvtTo (d.op i)).getD t) t

/-- The type of the chain at its start; the reserved ETYPE is refused before it is used. -/
def Desc.et (d : Desc) : EType := d.etype.getD .s12u
/-- The final type of the chain. -/
def Desc.ft (d : Desc) : EType := d.typeAt d.et 6
/-- The RED step, R175. -/
def Desc.redStep (d : Desc) : Option Nat := (List.range 6).find? fun k => opClass (d.op k) == .red
/-- The first step of the CMP/SEL class. -/
def Desc.cmpStep (d : Desc) : Option Nat := (List.range 6).find? fun k => isCmpSel (d.op k)
/-- The chain has a LUT step. -/
def Desc.hasLut (d : Desc) : Bool := (List.range 6).any fun k => d.op k == 0x34
/-- The chain has a MAC or MACS step. -/
def Desc.hasMac (d : Desc) : Bool := (List.range 6).any fun k => d.op k == 0x14 || d.op k == 0x15
/-- The chain has an FMA step. -/
def Desc.hasFma (d : Desc) : Bool := (List.range 6).any fun k => d.op k == 0x2C
/-- Stream x (1 or 2) is named as index stream by an INDEX stream, R184; a reserved ISRC names none. -/
def Desc.isIndex (d : Desc) (x : Nat) : Bool :=
  (x == 1 || x == 2) && (List.range 4).any fun y => d.form y == 5 && d.isrc y == x

/-! ### The checks of R204 -/

/-- A selector names a stream: 0 A, 1 B, 2 C, 3 D; none where it names a constant, R161. -/
def Desc.names (d : Desc) (sel : Nat) : Option Nat :=
  if sel < 3 then some sel else if d.fed = 4 then some 3 else none

/-- A named stream cannot be an operand: OFF without a field, an index stream, or D without a 4-field load. -/
def Desc.badName (d : Desc) (x : Nat) : Bool :=
  if x = 3 then d.fed != 4 else d.isIndex x || !(d.on x || decide (x < d.fed))

/-- The selectors that are read: of the steps and, for a structure store, SEL1 on, none with a reserved NF; with the
types in force. -/
def Desc.selectors (d : Desc) : List (Nat × EType) :=
  ((List.range 6).filter fun k => takesSide (d.op k)).map (fun k => (d.sel k, d.typeAt d.et k))
    ++ if d.form 3 = 6 ∧ d.nf 3 ≠ 5 then ((List.range (d.nf 3)).filter (1 ≤ ·)).map (fun f => (d.self f, d.ft)) else []

/-- Condition 0x03. -/
def Desc.badSide (d : Desc) : Bool :=
  (d.selectors.any fun p => match d.names p.1 with
    | some x => d.badName x
    | none => false) || (decide (1 ≤ d.msrc) && decide (d.msrc ≤ 3) && d.badName d.msrc)

/-- Condition 0x04. -/
def Desc.badType (d : Desc) : Bool := d.selectors.any fun p => (d.names p.1).isSome && p.2 != d.et

/-- Condition 0x05. -/
def Desc.badRed (d : Desc) : Bool :=
  match d.redStep with
  | none => false
  | some k => ((List.range 6).any fun j => decide (k < j) && d.op j != 0)
    || (d.on 3 && !(d.form 3 == 1 && decide (d.space 3 ≤ 1)))

/-- Condition 0x07. -/
def Desc.reservedValue (d : Desc) : Bool :=
  d.etype.isNone || d.tcm == 3 || decide (5 ≤ d.msrc)
    || ((List.range 4).any fun x => d.form x == 7 || (d.form x == 6 && d.nf x == 5)
          || (d.form x == 5 && (d.isrc x == 0 || d.isrc x == 3)))
    || (d.on 3 && d.space 3 == 2 && bits (d.loc 3) 4 2 == 3)

/-- Condition 0x08 for one stream, R179 and R184. An OFF stream in RELAY or LANE fails too, but the words of one that
receives a field are ignored, R185. -/
def Desc.badForm (d : Desc) (x : Nat) : Bool :=
  (!d.on x && decide (2 ≤ d.space x) && (x == 3 || !decide (x < d.fed))) || d.on x && ((d.space x == 3 && x != 3) || (d.form x == 6 && (x == 1 || x == 2))
    || (decide (2 ≤ d.space x) && d.form x != 1)
    || (d.form x == 5 && (d.isrc x == x || !(d.form (d.isrc x) == 1 || d.form (d.isrc x) == 2)
          || decide (2 ≤ d.space (d.isrc x)))))

/-- Condition 0x08. FMA whose stream C is an index stream is not refused; C is then read as an element also.
(DESIGN CHOICE, log entry 92.) -/
def Desc.notPermitted (d : Desc) : Bool :=
  ((List.range 4).any d.badForm) || (decide (2 ≤ d.fed) && d.on 1) || (decide (3 ≤ d.fed) && d.on 2)
    || ((List.range 6).any fun k => d.op k == 0x2C && (!(d.on 2 || decide (3 ≤ d.fed)) || d.sel k == 2))

/-- Condition 0x09. -/
def Desc.badParam (d : Desc) (g : Nat) : Bool :=
  ((List.range 4).any fun x => d.on x &&
      ((d.form x == 3 && bits (d.ctl x) 5 16 == 0)
        || (d.form x == 4 && decide (bits (d.ctl x) 5 20 ≤ bits (d.ctl x) 25 20))
        || (d.space x == 2 && d.loc x % 16 == g)))
    || (d.on 3 && d.space 3 == 3 &&
        (bits (d.ctl 3) 23 10 == 0 || decide (682 < bits (d.ctl 3) 23 10)
          || decide (255 < bits (d.ctl 3) 5 8 + bits (d.ctl 3) 21 2)
          || decide (15 < bits (d.ctl 3) 13 4 + bits (d.ctl 3) 17 4)))

/-- The elements per word with which a stream is addressed, R181. -/
def Desc.perWord (d : Desc) (x : Nat) : Nat :=
  if x = 3 then (if d.redStep.isSome then 1 else d.ft.perWord)
  else if d.isIndex x then 1 else d.et.perWord

/-- Condition 0x0A. -/
def Desc.badBase (d : Desc) : Bool :=
  (List.range 4).any fun x => d.on x && decide (d.space x ≤ 1) && d.perWord x != 4 && d.base x % 4 != 0

/-- Condition 0x0D. The locator of a stream that is OFF is not judged. (DESIGN CHOICE, log entry 89.) -/
def Desc.badReserved (d : Desc) : Bool :=
  bits (d.w 9) 45 3 != 0 || bits (d.w 14) 5 3 != 0 || bits (d.w 14) 28 20 != 0
    || ((List.range 4).any fun x => d.on x &&
          ((d.space x == 1 && bits (d.loc x) 23 25 != 0)
            || (d.space x == 2 && d.loc x / (if x = 3 then 64 else 16) != 0)))
    || (d.on 3 && d.space 3 == 3 && bits (d.ctl 3) 38 10 != 0)

/-- Conditions 0x02 and 0x06. (DEDUCED, log entry 29.) -/
def Desc.badOp (d : Desc) : Bool := (List.range 6).any fun k => !(opClass (d.op k)).defined (d.typeAt d.et k)
/-- Condition 0x0B. -/
def Desc.badPack (d : Desc) : Bool :=
  d.pack != 0 && (!(d.ft == .s12u || d.ft == .s12s) || d.redStep.isSome || d.form 3 == 6 || d.form 3 == 5)

/-- The conditions of R204 in the order of their codes. -/
def Desc.conditions (d : Desc) (g : Nat) : List (Nat × Bool) :=
  [(0x01, (List.range 6).any fun k => opClass (d.op k) == .bad),
   (0x02, d.etype.isSome && d.badOp),
   (0x03, d.badSide),
   (0x04, d.etype.isSome && d.badType),
   (0x05, d.badRed),
   (0x06, d.hasLut && bits (d.k1) 11 13 != 0),
   (0x07, d.reservedValue),
   (0x08, d.notPermitted),
   (0x09, d.badParam g),
   (0x0A, d.badBase),
   (0x0B, d.badPack),
   (0x0C, d.msrc == 4 && d.cmpStep.isNone),
   (0x0D, d.badReserved)]

/-- The code with which gallery g refuses a descriptor, R204 and R716: a reserved ETYPE reports 0x01 or 0x03 when
either fails, and 0x07 otherwise. -/
def Desc.check (d : Desc) (g : Nat) : Option Nat :=
  if d.etype.isNone then
    some ((((d.conditions g).filter fun c => c.1 == 1 || c.1 == 3).find? (·.2)).elim 7 (·.1))
  else ((d.conditions g).find? (·.2)).map (·.1)

end Sys2Proof.Machine
end

