-- ==== Sys2Proof/Machine/Yonis.lean ====
section
/-! DEFINITION. Yonis frames as bytes (14 R525–R530, R554): header, CRC and payload words. -/

namespace Sys2Proof.Machine

/-- One byte taken into the CRC-32 of IEEE 802.3, R526. -/
def crcByte (c : Nat) (b : Nat) : Nat :=
  (List.range 8).foldl (fun c _ => if c % 2 = 1 then xorN (c / 2) 0xEDB88320 else c / 2) (xorN c b)

/-- The CRC-32 of a byte string. -/
def crc32 (bs : List (BitVec 8)) : Nat :=
  xorN (bs.foldl (fun c b => crcByte c b.toNat) 0xFFFFFFFF) 0xFFFFFFFF

/-- The low `n` bytes of a number, the first in the lowest bits. -/
def bytesOf (x : Nat) : Nat → List (BitVec 8)
  | 0 => []
  | n + 1 => BitVec.ofNat 8 x :: bytesOf (x / 256) n

/-- The number of a byte string, the first byte in the lowest bits. -/
def numOf : List (BitVec 8) → Nat
  | [] => 0
  | b :: bs => b.toNat + 256 * numOf bs

/-- Header bytes 0 to 14, R525. -/
def yHeader (f : YFrame) : List (BitVec 8) :=
  bytesOf (f.ty % 16 + 0x10) 1
    ++ bytesOf (f.ep % 16 + 16 * b2n f.up + 32 * b2n f.bc + 64 * b2n f.last + 128 * b2n f.retx) 1
    ++ bytesOf f.seq 2 ++ bytesOf f.body.length 2
    ++ bytesOf (f.tag.toNat + 16 * (f.axis % 16)) 1 ++ bytesOf (b2n f.late) 1
    ++ bytesOf f.bearing.toNat 6 ++ bytesOf f.sub 1

/-- The bytes of a frame on the wire, R525 and R526. -/
def yBytes (f : YFrame) : List (BitVec 8) :=
  let h := yHeader f
  h ++ bytesOf f.hop 1 ++ f.body ++ bytesOf (crc32 (h ++ [0] ++ f.body)) 4

/-- The data and terminate blocks that carry bytes, R524; `n` bounds the data blocks. -/
def yBlocksFrom : Nat → List (BitVec 8) → List Block
  | 0, bs => [.term bs]
  | n + 1, bs => if bs.length < 8 then [.term bs] else .data (bs.take 8) :: yBlocksFrom n (bs.drop 8)

/-- The blocks of a frame, R524: a start block with bytes 0 to 6, full data blocks, and a terminate block with the 0 to 7
bytes that remain. -/
def yBlocks (bs : List (BitVec 8)) : List Block :=
  .start (bs.take 7) :: yBlocksFrom ((bs.length - 7) / 8) (bs.drop 7)

/-- The bytes that blocks carry. -/
def blockBytes (l : List Block) : List (BitVec 8) := l.flatMap fun b => match b with
  | .idle => []
  | .start d => d
  | .data d => d
  | .term d => d

/-- A byte of a string. -/
def byteAt (bs : List (BitVec 8)) (i : Nat) : Nat := (bs.getD i 0).toNat

/-- A frame read from its bytes, none where R526 discards it. -/
def yParse (bs : List (BitVec 8)) : Option YFrame :=
  let len := numOf ((bs.drop 4).take 2)
  let body := (bs.drop 16).take len
  let ty := byteAt bs 0 % 16
  if bs.length ≠ 20 + len then none
  else if numOf (bs.drop (16 + len)) ≠ crc32 (bs.take 15 ++ [0] ++ body) then none
  else if byteAt bs 0 / 16 ≠ 1 ∨ ty = 0 ∨ 8 ≤ ty ∨ 4096 < len then none
  else
    let b1 := byteAt bs 1
    some
      { ty := ty, ep := b1 % 16, up := bit b1 4, bc := bit b1 5, last := bit b1 6, retx := bit b1 7,
        seq := numOf ((bs.drop 2).take 2), tag := BitVec.ofNat 4 (byteAt bs 6), axis := byteAt bs 6 / 16,
        late := bit (byteAt bs 7) 0, bearing := BitVec.ofNat 48 (numOf ((bs.drop 8).take 6)),
        sub := byteAt bs 14, hop := byteAt bs 15, body := body }

/-- The payload words of a frame, floor(LEN / 6) of them, R528. -/
def payloadWords (body : List (BitVec 8)) : List Payload :=
  (List.range (body.length / 6)).map fun k => BitVec.ofNat 48 (numOf ((body.drop (6 * k)).take 6))

/-- Payload words as bytes, R528. -/
def wordBytes (ws : List Payload) : List (BitVec 8) := ws.flatMap fun w => bytesOf w.toNat 6

/-- The TAG of a frame, R529. -/
def frameTag (ws : List Word) : Tag :=
  if ws.any fun w => w.tag.poisoned then Tags.uni
  else match ws with
    | [] => Tags.raw
    | w :: r => if r.all fun x => x.tag == w.tag then w.tag else Tags.raw

/-- The tag a received word is stored with, R530. -/
def storedTag (tagp : Bool) (t : Tag) : Tag :=
  if t = 0xD ∨ t = 0xE then Tags.uni
  else if !tagp && decide (0x8 ≤ t.toNat) && decide (t.toNat ≤ 0xC) then Tags.raw
  else t

end Sys2Proof.Machine
end

