-- ==== Sys2Proof/Machine/Lane.lean ====
section
/-! DEFINITION. Lanes, endpoints, frames and messages: the shared operations (14 R516–R563). -/

namespace Sys2Proof.Machine

/-! ### Lane and endpoint states -/

/-- LANE[l].STAT.STATE, R518: 0 OFF, 1 TRAIN, 2 UP, 3 FAULT, 4 RETURN. -/
def State.laneSt (s : State) (l : Nat) : Nat := s.fld (R.LANE_STAT l) F.LANE_STAT_STATE
/-- LANE[l].CFG.MODE, R516. -/
def State.laneMode (s : State) (l : Nat) : Nat := s.fld (R.LANE_CFG l) F.LANE_CFG_MODE
/-- EP[e].STAT.STATE, R537: 0 ABSENT, 1 FOUND, 2 UP, 3 DOWN. -/
def State.epSt (s : State) (l e : Nat) : Nat := s.fld (R.EP_STAT l e) F.EP_STAT_STATE
/-- The endpoint is served through the return lane. -/
def State.epRev (s : State) (l e : Nat) : Bool := s.flag (R.EP_STAT l e) F.EP_STAT_REV
/-- What the device holds of an endpoint. -/
def State.ep (s : State) (l e : Nat) : Endpt := tget (fun _ => {}) (s.lane l).eps e
/-- An endpoint replaced. -/
def State.setEp (s : State) (l e : Nat) (x : Endpt) : State :=
  s.setLane l { s.lane l with eps := tset (fun _ => {}) (s.lane l).eps e x }
/-- A sequence field of an endpoint. -/
def State.epSeq (s : State) (l e : Nat) (f : Fld) : Nat := s.fld (R.EP_SEQ l e) f

/-- An EVT bit set and the lane event raised, R572. -/
def laneEvt (l : Nat) (f : Fld) (s : State) : State := raise (192 + l) (s.setFld (R.LANE_EVT l) f 1)

/-- A lane counter of R572 counted: 0 RXFRM, 1 TXFRM, 2 CRCERR, 3 RETX, 4 DUP, 5 NAKRX, 6 RXNOQ, 7 TXNOEP. -/
def laneCount (l k : Nat) (s : State) : State := s.bump (R.LANE_CNTRS l k) F.LANE_CNTRS_CNT

/-- A change of lane state, R518. -/
def setLaneSt (l new : Nat) (s : State) : State :=
  let old := s.laneSt l
  if old = new then s
  else
    let s := s.setFld (R.LANE_STAT l) F.LANE_STAT_STATE new
    logCairn .link 0x05 [⟨8, l⟩, ⟨3, old⟩, ⟨3, new⟩] (laneEvt l F.LANE_EVT_STCHG s)

/-- A change of endpoint state, R537. -/
def setEpSt (l e new : Nat) (s : State) : State :=
  let old := s.epSt l e
  if old = new then s
  else
    let s := s.setFld (R.EP_STAT l e) F.EP_STAT_STATE new
    let s := s.setEp l e { s.ep l e with noted := false }
    logCairn .link 0x06 [⟨8, l⟩, ⟨4, e⟩, ⟨2, old⟩, ⟨2, new⟩] (laneEvt l F.LANE_EVT_EPCHG s)

/-- A write rejected with STATE at a lane, R520. -/
def laneStateReject (l off : Nat) (s : State) : State :=
  logCairn .link 0x01 [dfUnit 4 l, dfOff off] (s.setFld (R.LANE_STAT l) F.LANE_STAT_STERR 1)

/-- The lane whose ring returns over lane `r`, R560. -/
def State.mainOf (s : State) (r : Nat) : Option Nat :=
  ((List.range 128).map fun i => r / 128 * 128 + i).find? fun l =>
    s.flag (R.LANE_CFG l) F.LANE_CFG_RING && s.fld (R.LANE_CFG l) F.LANE_CFG_RLANE == r && s.laneSt l != 0

/-- The return lane of a ring, R560. -/
def State.returnOf (s : State) (l : Nat) : Option Nat :=
  if s.flag (R.LANE_CFG l) F.LANE_CFG_RING then some (s.fld (R.LANE_CFG l) F.LANE_CFG_RLANE) else none

/-- The lane that carries an endpoint's frames, R561. -/
def State.txLane (s : State) (l e : Nat) : Nat := if s.epRev l e then (s.returnOf l).getD l else l

/-- A control frame queued on a lane, R546. -/
def pushCtl (l : Nat) (f : YFrame) (s : State) : State :=
  s.setLane l { s.lane l with ctl := (s.lane l).ctl ++ [f] }

/-- An ACK of the value E, R541: RXEXP, or the value given. -/
def sendAck (l e v : Nat) (s : State) : State :=
  let s := s.setEp l e { s.ep l e with ackN := 0 }
  pushCtl (s.txLane l e) { ty := 5, ep := e, seq := v } s

/-- SYNC SETSEQ with a value, R543; it waits for its ACK. -/
def sendSetseq (l e v : Nat) (s : State) : State :=
  let s := s.setEp l e { s.ep l e with setseq := some v, ctlSince := s.tick }
  pushCtl (s.txLane l e) { ty := 4, ep := e, seq := v, sub := 0 } s

/-- DISC ASSIGN, R535. -/
def sendAssign (l e : Nat) (r : Report) (s : State) : State :=
  let s := s.setEp l e { s.ep l e with assign := some r, ctlSince := s.tick }
  pushCtl (s.txLane l e) { ty := 7, bc := true, sub := 2, body := bytesOf r.uid.toNat 6 ++ bytesOf e 1 ++ [0] } s

/-! ### The link DMA engines -/

/-- The writes of the engine of lane die k that wait. -/
def State.linkOps (s : State) (k : Nat) : List LinkOp := tget (fun _ => []) s.link.ops k
/-- The writes that wait replaced. -/
def State.setLinkOps (s : State) (k : Nat) (l : List LinkOp) : State :=
  { s with link := { s.link with ops := tset (fun _ => []) s.link.ops k l } }

/-- NSLOT, below 2 acting as 2, R574. -/
def State.nslot (s : State) (k q : Nat) : Nat := max 2 (s.fld (R.Q_SIZE k q) F.Q_SIZE_NSLOT)

/-- The slots of a ring between HEAD and TAIL that a STOP queue may still fill, R559. -/
def State.ringRoom (s : State) (k q : Nat) : Nat :=
  let n := s.nslot k q
  (s.fld (R.Q_TAIL k q) F.Q_TAIL_TAIL % n + n - (s.fld (R.Q_HEAD k q) F.Q_HEAD_HEAD + 1) % n) % n

/-- The ring of a queue is full, R559, counting the status words that wait to be written. -/
def State.ringFull (s : State) (k q : Nat) : Bool :=
  decide (s.ringRoom k q ≤ ((s.linkOps k).filter fun o => o.queue == some q).length)

/-- The status word of R558. -/
def statusWord (lp ep kind st id nw ph : Nat) : Word :=
  Word.int (BitVec.ofNat 48 (lp + ep * 2 ^ 8 + kind * 2 ^ 12 + st * 2 ^ 14 + id % 2 ^ 16 * 2 ^ 17
    + nw % 2 ^ 14 * 2 ^ 33 + ph * 2 ^ 47))

/-- HEAD advanced and the queue event raised once the status word is accepted, R558; OVR counts where HEAD passes TAIL,
R559. -/
def statusDone (k q : Nat) (cev : Bool) (s : State) : State :=
  let o := R.Q_HEAD k q
  let nh := (s.fld o F.Q_HEAD_HEAD + 1) % s.nslot k q
  let room := s.ringRoom k q
  let s := if nh = 0 then s.setFld o F.Q_HEAD_PH (1 - s.fld o F.Q_HEAD_PH) else s
  let s := s.setFld o F.Q_HEAD_HEAD nh
  let s := if room = 0 then s.bump (R.Q_OVR k q) F.Q_OVR_OVR else s
  if s.flag (R.Q_CFG k q) F.Q_CFG_CEV || cev then raise (448 + 32 * k + q) s else s

/-- Where a write of a link DMA engine goes, and the word. -/
def State.linkTarget (s : State) (k : Nat) : LinkOp → Nat × Word
  | .store a w => (a, w)
  | .slot q i w =>
    (s.fld (R.Q_BASE k q) F.Q_BASE_BASE
      + 4 * s.fld (R.Q_SIZE k q) F.Q_SIZE_SLOTW * s.fld (R.Q_HEAD k q) F.Q_HEAD_HEAD + 4 * i, w)
  | .status q lp ep kind st id nw _ =>
    (s.fld (R.Q_SBASE k q) F.Q_SBASE_SBASE + 4 * s.fld (R.Q_HEAD k q) F.Q_HEAD_HEAD,
      statusWord lp ep kind st id nw (s.fld (R.Q_HEAD k q) F.Q_HEAD_PH))

/-- The writes of the engine of lane die k made in their order, until one must wait or the engine is stopped (R650); what follows a status word follows
its acceptance, R558. -/
def linkRun (k : Nat) : List LinkOp → State → State
  | [], s => s.setLinkOps k []
  | o :: r, s =>
    let t := s.linkTarget k o
    if s.link.stopped then s.setLinkOps k (o :: r) else
    match memAccess (32 + k) .u t.1 (.wr t.2) s with
    | (.wait, s') => (keepWaiting s s').setLinkOps k (o :: r)
    | (.done _, s') => linkRun k r (match o with
      | .status q _ _ _ _ _ _ cev => statusDone k q cev s'
      | _ => s')

/-- Writes given to the engine of lane die k, after those that wait. -/
def linkPush (k : Nat) (l : List LinkOp) (s : State) : State := linkRun k (s.linkOps k ++ l) s

/-- The writes that wait tried again. -/
def linkServe (k : Nat) (s : State) : State := if s.linkOps k = [] then s else linkPush k [] s

/-- A status word written, R558; a queue that is not enabled takes none. -/
def writeStatus (k q lp ep kind st id nw : Nat) (cev : Bool) (s : State) : State :=
  if s.flag (R.Q_CFG k q) F.Q_CFG_EN then linkPush k [.status q lp ep kind st id nw cev] s else s

/-- A list cut into pieces of `n`. The fuel is the list's length. -/
def chunks {α : Type} (n : Nat) : Nat → List α → List (List α)
  | 0, _ => []
  | k + 1, l => if l.length ≤ n then [l] else l.take n :: chunks n k (l.drop n)

/-- A STREAM transaction of the device to a site, R356, R557 and R365: discarded where the site is down or does
not accept STREAM. -/
def streamToSite (x m stid : Nat) (ws : List Word) (s : State) : State :=
  if s.flag (R.SITE_STAT x) F.SITE_STAT_UP && s.flag (R.SITE_CAP x) F.SITE_CAP_STRT then
    siteSend x { hdr := BitVec.ofNat 192 (5 + m * 2 ^ 8 + (ws.length - 1) * 2 ^ 26 + stid * 2 ^ 96),
                 data := ws.map encodeWord } s
  else logCairn .passage 0x08 [dfUnit 10 x, ⟨8, stid⟩] s

/-- Words delivered to a queue's next slot, R557; the words written are returned. Words beyond the slot are
dropped. -/
def deliver (k q : Nat) (ws : List Word) (s : State) : Nat × State :=
  let cfg := R.Q_CFG k q
  let slotw := s.fld (R.Q_SIZE k q) F.Q_SIZE_SLOTW
  let ws := ws.take slotw
  if s.flag cfg F.Q_CFG_SDST then
    (ws.length, (chunks 64 ws.length ws).foldl (fun s c =>
      streamToSite (s.fld cfg F.Q_CFG_SITE) (32 + k) (32 * k + q) c s) s)
  else (ws.length, linkPush k (ws.zipIdx.map fun p => .slot q p.2 p.1) s)

/-! ### Messages -/

/-- A running message. -/
def State.msg (s : State) (m : Nat) : Option Msg := tget (fun _ => none) s.link.msgs m
/-- A running message replaced. -/
def State.setMsg (s : State) (m : Nat) (x : Option Msg) : State :=
  { s with link := { s.link with msgs := tset (fun _ => none) s.link.msgs m x } }

/-- Frames of an ended message keep their place and belong to nobody. -/
def looseFrames (m : Nat) (q : QFrame) : QFrame := if q.src = .msg m then { q with src := .loose } else q

/-- A request whose first message has ended otherwise. -/
def MsgAsk.forget (m : Nat) (a : MsgAsk) : MsgAsk := if a.ender = some m then { a with ender := none } else a

/-- A message ends with a status of R558 (0 DONE, 1 LATE, 2 CANCELLED, 3 SUBSTITUTED, 4 FAILED), R550 and R551. -/
def msgEnd (m st : Nat) (s : State) : State :=
  match s.msg m with
  | none => s
  | some g =>
    let s := (s.setMsg m none).setReg (R.MSG_STAT m) 0
    let s := { s with link := { s.link with asks := s.link.asks.map (MsgAsk.forget m) } }
    let s := s.setLane g.lane { s.lane g.lane with reading := (s.lane g.lane).reading.filter (· != m) }
    let e := s.ep g.lane g.ep
    let s := s.setEp g.lane g.ep { e with fifo := e.fifo.map (looseFrames m), unack := e.unack.map (looseFrames m) }
    let tx := R.LANE_TXCFG g.lane
    let s := if s.flag tx F.LANE_TXCFG_CQEN then
        writeStatus (g.lane / 128) (s.fld tx F.LANE_TXCFG_CQ) g.lane g.ep 1 st m 0 g.cev s
      else s
    if st = 4 then
      let (r, s) := s.freeNat
      logCairn .link 0x09 [⟨12, m⟩, ⟨8, g.lane⟩, ⟨16, r⟩] s
    else s

/-- The running messages of a lane. -/
def State.msgsOf (s : State) (p : Msg → Bool) : List Nat :=
  s.link.msgs.filterMap fun x => match x.2 with
    | some g => if p g then some x.1 else none
    | none => none

/-! ### Queueing frames, R545–R549 -/

/-- The lane and endpoint of segment j, R191. -/
def Desc.segTarget (d : Desc) (j : Nat) : Nat × Nat :=
  let c := d.ctl 3
  let ne := bits c 17 4 + 1
  (bits c 5 8 + j / ne % (bits c 21 2 + 1), bits c 13 4 + j % ne)

/-- Words of a slot's lane segment for lane l that is not yet queued. -/
def Slot.segHeld (l : Nat) (x : Slot) : Nat :=
  if !x.seg.isEmpty && (x.desc.segTarget x.segNo).1 == l then x.seg.length else 0

/-- Words that a lane's share of the lane buffer holds, R547, R552 and R553. -/
def State.laneHeld (s : State) (l : Nat) : Nat :=
  ((s.lane l).eps.map fun p => ((p.2.fifo ++ p.2.unack).map fun q => q.f.body.length / 6).sum).sum
  + (s.gals.map fun g => (g.2.slots.map fun x => x.2.segHeld l).sum).sum

/-- Words left in a lane's share. -/
def State.laneSpace (s : State) (l : Nat) : Nat := s.fld (R.LANE_TXCFG l) F.LANE_TXCFG_TXQW - s.laneHeld l

/-- A frame queued for an endpoint, or discarded when the endpoint is not UP, R545. -/
def queueFrame (l : Nat) (src : FrameSrc) (f : YFrame) (s : State) : State :=
  let e := s.ep l f.ep
  if s.epSt l f.ep = 2 then s.setEp l f.ep { e with fifo := e.fifo ++ [{ src := src, f := f }] }
  else
    let s := laneCount l 7 s
    if e.noted then s
    else logCairn .link 0x0A [⟨8, l⟩, ⟨4, f.ep⟩] (s.setEp l f.ep { e with noted := true })

/-- A DATA or FIRE frame of words, R525 and R528. -/
def dataFrame (fire : Bool) (e axis : Nat) (bear : Payload) (last late : Bool) (ws : List Word) : YFrame :=
  { ty := if fire then 2 else 1, ep := e, last := last, late := late, tag := frameTag ws,
    axis := if fire then axis else 0, bearing := if fire then bear else 0,
    body := wordBytes (ws.map (·.pay)) }

/-- Words read one after the other, or waiting; else the words read up to a failure, and whether
one failed. -/
def readWords (m : Nat) : Nat → Nat → State → Got (List Word × Bool)
  | _, 0, s => .got ([], false) s
  | a, n + 1, s =>
    match memAccess m .u a .rd s with
    | (.wait, s) => .wait s
    | (.done r, s) =>
      if r.st = .ok then
        match readWords m (a + 4) n s with
        | .wait s => .wait s
        | .got p s => .got (r.w :: p.1, p.2) s
      else .got ([], true) s

/-- The message descriptor of R548 is well tagged. -/
def descTagsGood (ws : List Word) : Bool :=
  match ws with
  | [a, b, c, d] =>
    (a.tag == Tags.int || a.tag == Tags.raw) && b.tag == Tags.addr
      && (c.tag == Tags.bear || c.tag == Tags.raw) && (d.tag == Tags.bear || d.tag == Tags.raw)
  | _ => false

/-- A refusal of a message, R549; the code of the reason is not stated. (DESIGN CHOICE, log entry 63.) -/
def msgRefuse (l m : Nat) (s : State) : State :=
  let (r, s) := s.freeNat
  logCairn .link 0x09 [⟨12, m⟩, ⟨8, l⟩, ⟨16, r⟩] s

/-- The refusal of a message with a deadline while every monitor place is in use, R148 and R151: its status STATE shows
in LANE.STAT.STERR. -/
def monitorFull (l m : Nat) (s : State) : State :=
  logCairn .traverse 0x0A [⟨8, l⟩, ⟨12, m⟩] (s.setFld (R.LANE_STAT l) F.LANE_STAT_STERR 1)

/-- A message whose words have all been read. -/
def msgRead (l m : Nat) (s : State) : State :=
  s.setLane l { s.lane l with reading := (s.lane l).reading.filter (· != m) }

/-- The next frame of a message is queued when its words have been read, R549; false while it waits for a read, or for
its words to fit into the lane's share. A failed read ends the message FAILED. (DESIGN CHOICE, log entry 98.) -/
def msgStep (l m : Nat) (g : Msg) (r : MsgRest) (s : State) : Bool × State :=
  let n := min r.words 682
  if s.link.stopped || (decide (s.laneSpace l < n) && s.laneHeld l != 0) then (false, s)
  else match readWords (32 + l / 128) r.at' n s with
    | .wait s' => (false, keepWaiting s s')
    | .got (_, true) s => (true, msgEnd m 4 s)
    | .got (ws, false) s =>
      let last := r.words ≤ 682
      let s := s.setMsg m (some { g with
        left := g.left + 1,
        rest := if last then none else some { r with at' := r.at' + 4 * n, words := r.words - n } })
      let s := if last then msgRead l m s else s
      (true, queueFrame l (.msg m) (dataFrame r.fire g.ep r.axis r.bear last false ws) s)

/-- The messages of a lane read one after the other, in the order queued, as far as they go; `fuel` bounds the
frames. -/
def msgPumpN (l : Nat) : Nat → State → State
  | 0, s => s
  | fuel + 1, s =>
    match (s.lane l).reading with
    | [] => s
    | m :: _ =>
      match s.msg m with
      | none => msgPumpN l fuel (msgRead l m s)
      | some g => match g.rest with
        | none => msgPumpN l fuel (msgRead l m s)
        | some r => match msgStep l m g r s with
          | (false, s) => s
          | (true, s) => msgPumpN l fuel s

/-- The frames of the messages that a lane has still to read. -/
def State.framesLeft (s : State) (l : Nat) : Nat :=
  ((s.lane l).reading.map fun m => match (s.msg m).bind (·.rest) with
    | some r => r.words / 682 + 1
    | none => 1).sum

/-- The messages of a lane read as far as they go. -/
def msgPump (l : Nat) (s : State) : State := msgPumpN l (s.framesLeft l) s

/-- A request to queue message m on lane l, R548 and R549: it waits, or whether it was queued.
`fb` marks a fallback, which carries no deadline (R551). -/
def msgTry (l m : Nat) (fb : Bool) (s : State) : Got Bool :=
  let s0 := s
  let tx := R.LANE_TXCFG l
  if s.link.stopped then .wait s
  else if (s.msg m).isSome || !s.flag tx F.LANE_TXCFG_MSG || s.laneSt l == 0 then .got false (msgRefuse l m s)
  else
    match readWords (32 + l / 128) (s.fld R.LINK_MSGBASE F.LINK_MSGBASE_BASE + 16 * m) 4 s with
    | .wait s => .wait (keepWaiting s0 s)
    | .got (ws, bad) s =>
      let p (i : Nat) : Nat := (ws.getD i Word.uni0).pay.toNat
      let m0 := p 0
      let e := bits m0 20 4
      let dpol := if fb then 0 else bits m0 29 2
      let full := dpol != 0 && decide (4096 ≤ (s.msgsOf (·.watched)).length)
      if bad || !descTagsGood ws || s.epSt l e != 2 then .got false (msgRefuse l m s)
      else if full then .got false (monitorFull l m s)
      else
        let g : Msg := { lane := l, ep := e, dpol := dpol, daxis := bits m0 31 4, dbear := BitVec.ofNat 48 (p 3),
                         fbmsg := bits m0 35 12, cev := bit m0 47, left := 0, watched := dpol != 0,
                         rest := some { fire := bit m0 24, axis := bits m0 25 4, bear := BitVec.ofNat 48 (p 2),
                                        at' := p 1 % 2 ^ 42, words := bits m0 0 20 } }
        let s := (s.setMsg m (some g)).setRegN (R.MSG_STAT m) (1 + 4 * l)
        .got true (msgPump l (s.setLane l { s.lane l with reading := (s.lane l).reading ++ [m] }))

/-! ### Deadline policies of messages, R143 and R551 -/

/-- A request whose descriptor read must wait is kept. -/
def askLater (a : MsgAsk) (s : State) : State := { s with link := { s.link with asks := s.link.asks ++ [a] } }

/-- Frames of a message that have not begun are removed, sent ones are abandoned and SETSEQ follows. -/
def msgAbandon (m : Nat) (g : Msg) (s : State) : State :=
  let e := s.ep g.lane g.ep
  let mine (q : QFrame) : Bool := q.src == .msg m
  let s := s.setEp g.lane g.ep { e with
    fifo := e.fifo.filter fun q => !mine q,
    unack := e.unack.map fun q => if mine q then { q with src := .loose, again := false, dead := true } else q }
  if e.unack.any mine then sendSetseq g.lane g.ep (s.epSeq g.lane g.ep F.EP_SEQ_TXNEXT) s else s

/-- The first message ends SUBSTITUTED when its fallback is queued and CANCELLED when it cannot be, R551; while the
fallback's descriptor read waits it has not ended. -/
def fallbackJudged (m : Nat) (a : MsgAsk) : Got Bool → State
  | .got true s => msgEnd m 3 s
  | .got false s => msgEnd m 2 s
  | .wait s => askLater a s

/-- A deadline miss applied to a message: policy 1 CANCEL, 2 FINISH, 3 SUBSTITUTE, R143 and R551. -/
def msgMiss (m policy : Nat) (s : State) : State :=
  match s.msg m with
  | none => s
  | some g =>
    let s := s.setMsg m (some { g with watched := false })
    if policy = 2 then s.setFld (R.MSG_STAT m) F.MSG_STAT_LATE 1
    else if policy = 1 then msgEnd m 2 (msgAbandon m g s)
    else
      let s := msgAbandon m g s
      let s := msgRead g.lane m (s.setMsg m (some { g with watched := false, rest := none }))
      fallbackJudged m { lane := g.lane, m := g.fbmsg, fb := true, late := false, ender := some m }
        (msgTry g.lane g.fbmsg true s)

/-- A queueing request of the Gazetteer, R135: `late` marks a fire marked LATE, whose message is marked LATE,
R134. -/
def msgAsk (l m : Nat) (late : Bool) (s : State) : State :=
  match msgTry l m false s with
  | .got true s => if late && (s.msg m).isSome then s.setFld (R.MSG_STAT m) F.MSG_STAT_LATE 1 else s
  | .got false s => s
  | .wait s => askLater { lane := l, m := m, fb := false, late := late } s

/-- The requests of a lane whose descriptor read had to wait, tried again; and its messages read on. -/
def retryAsks (l : Nat) (s : State) : State :=
  let mine := s.link.asks.filter fun a => a.lane == l
  let s := { s with link := { s.link with asks := s.link.asks.filter fun a => a.lane != l } }
  msgPump l (mine.foldl (fun s a =>
    match a.ender with
    | some m => fallbackJudged m a (msgTry a.lane a.m a.fb s)
    | none => match msgTry a.lane a.m a.fb s with
      | .got true s => if a.late && (s.msg a.m).isSome then s.setFld (R.MSG_STAT a.m) F.MSG_STAT_LATE 1 else s
      | .got false s => s
      | .wait s => askLater a s) s)

/-! ### Endpoint failure and ring reversal, R544 and R561 -/

/-- An endpoint becomes DOWN: its messages end FAILED and its queued frames are discarded, R544. -/
def epDown (l e : Nat) (s : State) : State :=
  let s := (s.msgsOf fun g => g.lane == l && g.ep == e).foldl (fun s m => msgEnd m 4 s) s
  let s := s.setEp l e { s.ep l e with fifo := [], unack := [], setseq := none, assign := none, found := none }
  setEpSt l e 3 s

/-- Reversal starts, or a failed endpoint joins the one that runs, R561. -/
def startReversal (l : Nat) (failed : List Nat) (s : State) : State :=
  match s.returnOf l with
  | none => failed.foldl (fun s e => epDown l e s) s
  | some r =>
    let y := s.lane l
    match y.rev with
    | some _ => s.setLane l { y with failed := y.failed ++ failed }
    | none =>
      let s := s.setLane l { y with rev := some s.tick, revQuery := none, revReports := [], failed := failed }
      if s.laneSt r = 3 ∨ s.laneSt r = 4 then pushCtl r { ty := 7, bc := true, sub := 0 } s else s

/-- Every endpoint's unacknowledged frames wait to be sent again, R542. -/
def resendAll (l e : Nat) (s : State) : State :=
  let x := s.ep l e
  s.setEp l e { x with unack := x.unack.map fun q => if q.dead then q else { q with again := true } }

/-- A lane enters OFF, R519. -/
def laneOff (l : Nat) (s : State) : State :=
  let s := (s.msgsOf fun g => g.lane == l).foldl (fun s m => msgEnd m 4 s) s
  let s := (List.range 16).foldl (fun s e =>
    setEpSt l e 0 ((s.setReg (R.EP_SEQ l e) 0).setFld (R.EP_STAT l e) F.EP_STAT_REV 0)) s
  let y := s.lane l
  let s := s.setLane l { wire := y.wire, blocks := y.blocks, lastEp := y.lastEp, posAt := y.posAt, timeAt := y.timeAt }
  let s := s.setFld (R.LANE_DISCST l) F.LANE_DISCST_BUSY 0
  setLaneSt l 0 s

/-! ### Acknowledgement, R541 to R543 -/

/-- One frame acknowledged: a message whose last frame it was completes, R550. -/
def frameAcked (q : QFrame) (s : State) : State :=
  match q.src with
  | .msg m =>
    match s.msg m with
    | none => s
    | some g =>
      let s := s.setMsg m (some { g with left := g.left - 1 })
      if g.left = 1 ∧ q.f.last then msgEnd m (if s.flag (R.MSG_STAT m) F.MSG_STAT_LATE then 1 else 0) s else s
  | _ => s

/-- TXUNACK moved to `a`, `d` frames on: they leave the list of unacknowledged frames. -/
def ackTo (l e a d : Nat) (s : State) : State :=
  let x := s.ep l e
  let gone := x.unack.take d
  let s := s.setFld (R.EP_SEQ l e) F.EP_SEQ_TXUNACK a
  let s := s.setEp l e { x with unack := x.unack.drop d, since := s.tick, expiries := 0 }
  gone.foldl (fun s q => frameAcked q s) s

/-- Discovery ends, R536. -/
def discoveryEnd (l : Nat) (s : State) : State :=
  let o := R.LANE_DISCST l
  let s := s.setLane l { s.lane l with disc := .idle, reports := [] }
  let s := (s.setFld o F.LANE_DISCST_BUSY 0).setFld o F.LANE_DISCST_DONE 1
  let s := laneEvt l F.LANE_EVT_DISC s
  let fl := s.fld o F.LANE_DISCST_OVF + 2 * s.fld o F.LANE_DISCST_DUPUID
  if fl = 0 then s else logCairn .link 0x08 [⟨8, l⟩, ⟨5, s.fld o F.LANE_DISCST_NFOUND⟩, ⟨16, fl⟩] s

/-- Discovery ends once no endpoint waits for an ASSIGN or a first SETSEQ. -/
def discoveryCheck (l : Nat) (s : State) : State :=
  if (s.lane l).disc = .assign ∧ ¬ (List.range 16).any (fun e => (s.ep l e).assign.isSome || (s.ep l e).found.isSome) then
    discoveryEnd l s
  else s

/-- An ACK of a SETSEQ: in discovery the endpoint's data is loaded and it is UP, R536 step 4. -/
def setseqAcked (l e : Nat) (s : State) : State :=
  let x := s.ep l e
  let s := s.setEp l e { x with setseq := none, found := none, ctlExpiries := 0 }
  match x.found with
  | none => s
  | some r =>
    let s := (s.setReg (R.EP_UID l e) r.uid).setReg (R.EP_CAP l e) r.cap
    let s := s.setFld (R.EP_STAT l e) F.EP_STAT_FLAGS r.flags
    discoveryCheck l (setEpSt l e 2 s)

/-- An ACK from endpoint e, R542, R543 and R536 step 3. -/
def ackReceived (l e a : Nat) (s : State) : State :=
  let x := s.ep l e
  match x.assign with
  | some r =>
    if a = 0 then
      sendSetseq l e 0 (s.setEp l e { x with assign := none, found := some r, ctlExpiries := 0 })
    else s
  | none =>
    let un := s.epSeq l e F.EP_SEQ_TXUNACK
    let nx := s.epSeq l e F.EP_SEQ_TXNEXT
    let d := (a + 65536 - un) % 65536
    let s := if 1 ≤ d ∧ d ≤ (nx + 65536 - un) % 65536 then ackTo l e a d s else s
    if x.setseq = some a then setseqAcked l e s else s

/-- A NAK from endpoint e, R542. A NAK of TXUNACK itself asks for every unacknowledged frame, as the example of
R544 shows. (DEDUCED, log entry 62.) -/
def nakReceived (l e a : Nat) (s : State) : State :=
  let un := s.epSeq l e F.EP_SEQ_TXUNACK
  let nx := s.epSeq l e F.EP_SEQ_TXNEXT
  let d := (a + 65536 - un) % 65536
  if d ≤ (nx + 65536 - un) % 65536 then resendAll l e (if d = 0 then s else ackTo l e a d s) else s

/-! ### Receiving, R539, R556 to R559 -/

/-- The lane on whose behalf lane `l` receives: itself, or the lane whose ring it returns, R560. -/
def State.rxLane (s : State) (l : Nat) : Option Nat :=
  if s.laneSt l = 2 then some l else if s.laneSt l = 4 then s.mainOf l else none

/-- A frame that the device does not discard without count, R556: on a CASC lane every one. -/
def State.heeds (s : State) (l : Nat) (f : YFrame) : Bool := s.laneMode l == 6 || (f.up && f.ty != 3)

/-- A received byte string as a frame: a discarded one counts in CRCERR, R526. -/
def laneReceive (l : Nat) (bs : List (BitVec 8)) (k : YFrame → State → State) (s : State) : State :=
  match s.rxLane l with
  | none => s
  | some a =>
    match yParse bs with
    | none => laneCount a 2 s
    | some f => if s.heeds l f then k f (laneCount a 0 s) else s

/-- The endpoint of a received frame, R563: endpoint 0 on a CASC lane; frames with DIR = 0 are discarded
elsewhere. -/
def State.rxEp (s : State) (l : Nat) (f : YFrame) : Option Nat :=
  if s.laneMode l = 6 then some 0 else if f.up then some f.ep else none

/-- The queue an endpoint's DATA frames go to, when enabled. -/
def State.rxQueue (s : State) (l e : Nat) : Option Nat :=
  let o := R.EP_CFG l e
  let q := s.fld o F.EP_CFG_Q
  if s.flag o F.EP_CFG_QEN && s.flag (R.Q_CFG (l / 128) q) F.Q_CFG_EN then some q else none

/-- An accepted frame acknowledged at once or later, R541. -/
def noteAccepted (l e : Nat) (s : State) : State :=
  let x := s.ep l e
  let x := { x with ackN := x.ackN + 1, ackFrom := if x.ackN = 0 then s.tick else x.ackFrom }
  let s := s.setEp l e x
  if 16 ≤ x.ackN then sendAck l e (s.epSeq l e F.EP_SEQ_RXEXP) s else s

/-- A DATA frame that is next in sequence, R556 to R559: not accepted while its STOP ring is full. -/
def acceptData (l e : Nat) (f : YFrame) (s : State) : State :=
  let k := l / 128
  let next (s : State) : State :=
    noteAccepted l e (s.setFld (R.EP_SEQ l e) F.EP_SEQ_RXEXP (s.epSeq l e F.EP_SEQ_RXEXP + 1))
  match s.rxQueue l e with
  | none => next (laneCount l 6 s)
  | some q =>
    if !s.flag (R.Q_CFG k q) F.Q_CFG_MODE && s.ringFull k q then s
    else
      let t := storedTag (s.flag (R.LANE_CFG l) F.LANE_CFG_TAGP) f.tag
      let ws := (payloadWords f.body).map fun p => (⟨t, p⟩ : Word)
      let (n, s) := deliver k q ws s
      let st := if n < ws.length then 1 else if f.tag.poisoned then 2 else 0
      next (writeStatus k q l e 0 st f.seq n false s)

/-- A FIRE frame that is next in sequence: it is accepted, and there is nothing that the device does with it, R539 and
R556. -/
def acceptFire (l e : Nat) (s : State) : State :=
  noteAccepted l e (s.setFld (R.EP_SEQ l e) F.EP_SEQ_RXEXP (s.epSeq l e F.EP_SEQ_RXEXP + 1))

/-- SYNC SETSEQ from the other device of a CASC lane, to which this one is an endpoint, R543 and R563. -/
def setseqReceived (l e v : Nat) (s : State) : State :=
  let d := (v + 65536 - s.epSeq l e F.EP_SEQ_RXEXP) % 65536
  let s := if d ≤ 32767 then s.setFld (R.EP_SEQ l e) F.EP_SEQ_RXEXP v else s
  sendAck l e (s.epSeq l e F.EP_SEQ_RXEXP) s

/-- A sequenced frame received, R539. -/
def dataReceived (l e : Nat) (f : YFrame) (s : State) : State :=
  let x := s.epSeq l e F.EP_SEQ_RXEXP
  let d := (x + 65536 - f.seq) % 65536
  if d = 0 then (if f.ty = 2 then acceptFire l e s else acceptData l e f s)
  else if d ≤ 32768 then sendAck l e x (laneCount l 4 s)
  else
    let y := s.ep l e
    let due : Bool := match y.nakFor with
      | some (v, t) => v != x || decide (t + s.fld (R.LANE_TIMING l) F.LANE_TIMING_RTO ≤ s.tick)
      | none => true
    if due then
      pushCtl (s.txLane l e) { ty := 6, ep := e, seq := x } (s.setEp l e { y with nakFor := some (x, s.tick) })
    else s

end Sys2Proof.Machine
end

