-- ==== Sys2Proof/Machine/Evc.lean ====
section
/-! DEFINITION. The event controller (12 R462–R465, R487, R489). -/

namespace Sys2Proof.Machine

/-- An event that a core may take: source, priority and level. -/
structure Ev where
  src : Nat
  prio : Nat
  lvl : Level
  deriving DecidableEq, Repr

/-- The pending source `n` as offered to core `c`, R464. -/
def State.offered (s : State) (c n : Nat) : Option Ev :=
  let o := R.EVC_ROUTE n
  if s.isPending n && s.flag o F.EVC_ROUTE_EN && s.fld o F.EVC_ROUTE_CORE == c then
    some { src := n, prio := s.fld o F.EVC_ROUTE_PRIO, lvl := if s.flag o F.EVC_ROUTE_LVL then .m else .s }
  else none

/-- Whether an offered event may be taken at a level, an interrupt enable and a priority, R464. -/
def Ev.may (e : Ev) (pl : Level) (ie : Bool) (cpri : Nat) : Bool :=
  if e.lvl = .m then
    if pl = .m then ie && decide (e.prio > cpri) else decide (e.prio > 0)
  else pl != .m && ie && decide (e.prio > cpri)

/-- The sources whose pending bits are set. -/
def State.pendingSources (s : State) : List Nat :=
  (List.range 32).flatMap fun g =>
    let p := s.regN (R.EVC_PEND g)
    if p = 0 then [] else ((List.range 32).filter fun b => bit p b).map fun b => 32 * g + b

/-- The first of a list: M before S, then the highest priority, then the lowest source, R464 and R465. -/
def Ev.first : List Ev → Option Ev
  | [] => none
  | e :: es => match Ev.first es with
    | none => some e
    | some f =>
      if e.lvl = .m ∧ f.lvl ≠ .m then some e
      else if e.lvl ≠ .m ∧ f.lvl = .m then some f
      else if e.prio ≥ f.prio then some e else some f

/-- The event that core `c` takes at a boundary, R464 and R465. -/
def State.eventFor (s : State) (c : Nat) (pl : Level) (ie : Bool) (cpri : Nat) : Option Ev :=
  Ev.first ((s.pendingSources.filterMap (s.offered c)).filter fun e => e.may pl ie cpri)

/-- EVC.HIGH[n], R487: the first event at the core's present level as though IE = 1 and CPRI = 0. -/
def State.evcHigh (s : State) (c : Nat) : Nat :=
  let pl := lvlOf (bits (tget srReset (s.core c).sr 0).pay.toNat 0 2)
  match s.eventFor c pl true 0 with
  | some e => if e.prio = 0 then 0 else e.src + e.prio * 2 ^ 10 + 2 ^ 16
  | none => 0

/-- A write of EVC.SWSET, R463. -/
def swsetWrite (m v : Nat) (s : State) : State :=
  let n := v % 1024
  if 992 ≤ n then raise n s else logCairn .event 0x01 [⟨10, n⟩, dfMaster m] s

/-- A write of EVC.ROUTE: a pending bit follows its new route, R464. -/
def routeWrite (n : Nat) (lv : Level) (v : Nat) (s : State) : State :=
  let s := s.writeCodes lv (R.EVC_ROUTE n) v
  if s.isPending n then wakeFor n s else s

/-- A register of the event controller read. -/
def evcRead (off : Nat) (s : State) : Nat :=
  if 0x401100 ≤ off ∧ off < 0x401140 then s.evcHigh ((off - 0x401100) / 4) else s.regN off

/-- A register of the event controller written. -/
def evcWrite (m : Nat) (lv : Level) (off v : Nat) (s : State) : State :=
  if off = R.EVC_SWSET then swsetWrite m v s
  else if off < 0x401000 then routeWrite ((off - 0x400000) / 4) lv v s
  else if off < 0x401080 then
    let g := (off - 0x401000) / 4
    (List.range 32).foldl (fun s b => if bit v b then unraise (32 * g + b) s else s) s
  else s.writeCodes lv off v

/-- The reserved source numbers of R462. -/
def reservedSource (src : Nat) : Bool :=
  (decide (170 ≤ src) && decide (src ≤ 191)) || (decide (808 ≤ src) && decide (src ≤ 991))

/-- A source raises its event, R463; a reserved number is never raised. -/
def execEventRaise (src : Fin 1024) (s : State) : Res := ok (if reservedSource src then s else raise src s)
/-- R463. -/
def execSwset (m : Fin 48) (v : Payload) (s : State) : Res := ok (swsetWrite m v.toNat s)
/-- R464. -/
def execRouteWrite (src : Fin 1024) (lv : Level) (v : Payload) (s : State) : Res := ok (routeWrite src lv v.toNat s)

end Sys2Proof.Machine
end

