-- ==== Sys2Proof/Machine/Passage.lean ====
section
/-! DEFINITION. The commands of the Passage fabric: transactions received from customer sites, credits, bring-up
and link loss (09 R345–R378, 19 R711). The device side of a request is `windowAccess`. -/

namespace Sys2Proof.Machine

/-! ### Sending -/

/-- The channel a transaction uses, R353: 0 REQ, 1 RSP, 2 STR. -/
def PTx.chan (t : PTx) : Nat :=
  let ty := t.hdr.toNat % 16
  if ty = 5 then 2 else if ty = 6 ∨ ty = 7 then 1 else 0

/-- Credits taken for a transaction of a channel with `d` data slots, none when they do not suffice, R358. -/
def Credits.take (c : Credits) (ch d : Nat) : Option Credits :=
  match ch with
  | 0 => if 1 ≤ c.reqH ∧ d ≤ c.reqD then some { c with reqH := c.reqH - 1, reqD := c.reqD - d } else none
  | 1 => if 1 ≤ c.rspH ∧ d ≤ c.rspD then some { c with rspH := c.rspH - 1, rspD := c.rspD - d } else none
  | _ => if 1 ≤ c.strH ∧ d ≤ c.strD then some { c with strH := c.strH - 1, strD := c.strD - d } else none

/-- Credits given back. -/
def Credits.give (c : Credits) (ch d : Nat) : Credits :=
  match ch with
  | 0 => { c with reqH := c.reqH + 1, reqD := c.reqD + d }
  | 1 => { c with rspH := c.rspH + 1, rspD := c.rspD + d }
  | _ => { c with strH := c.strH + 1, strD := c.strD + d }

/-- The sum of two credit counts. -/
def Credits.add (a b : Credits) : Credits :=
  ⟨a.reqH + b.reqH, a.reqD + b.reqD, a.rspH + b.rspH, a.rspD + b.rspD, a.strH + b.strH, a.strD + b.strD⟩

/-- Every count is at most the other's. -/
def Credits.le (a b : Credits) : Bool :=
  decide (a.reqH ≤ b.reqH) && decide (a.reqD ≤ b.reqD) && decide (a.rspH ≤ b.rspH) && decide (a.rspD ≤ b.rspD)
    && decide (a.strH ≤ b.strH) && decide (a.strD ≤ b.strD)

/-! ### Flits, R346, R347, R350 and R354 -/

/-- A data slot: containers 0, 1 and 2 in bytes 8c to 8c + 7, R350; unused ones are zero, R354. -/
def dataSlot (cs : List Container) : BitVec 192 :=
  BitVec.ofNat 192 ((cs.getD 0 0).toNat + (cs.getD 1 0).toNat * 2 ^ 64 + (cs.getD 2 0).toNat * 2 ^ 128)

/-- The data slots of some containers. The fuel is their number. -/
def dataSlotsOf : Nat → List Container → List (BitVec 192)
  | 0, _ => []
  | _, [] => []
  | n + 1, c :: cs => dataSlot (c :: cs) :: dataSlotsOf n (cs.drop 2)

/-- The slots of a transaction: its header and its data slots, R354. -/
def PTx.slots (t : PTx) : List (BitVec 192) := t.hdr :: dataSlotsOf t.data.length t.data

/-- Slots 1 to 9 of a flit, with NULL slots where none is left, R347. -/
def padSlots (l : List (BitVec 192)) : List (BitVec 192) := l.take 9 ++ List.replicate (9 - l.length) 0

/-- Slots put into flits, the first with the given control slot and the others with NOP, R346 to R348. The fuel is the
number of slots. -/
def flitsOf (ctl : BitVec 192) : Nat → List (BitVec 192) → List Flit
  | 0, l => [ctl :: padSlots l]
  | n + 1, l => if l.length ≤ 9 then [ctl :: padSlots l] else (ctl :: padSlots l) :: flitsOf 0 n (l.drop 9)

/-- The data words that follow a header, R353 and R355. -/
def headerWords (h : Nat) : Nat :=
  match h % 16 with
  | 2 | 3 | 5 | 6 => bits h 26 6 + 1
  | 4 => if bits h 78 4 = 4 ∨ bits h 78 4 = 5 then 2 else if bits h 78 4 < 4 then 1 else 0
  | _ => 0

/-- The containers of a data slot. -/
def slotContainers (d : BitVec 192) : List Container :=
  [d.extractLsb' 0 64, d.extractLsb' 64 64, d.extractLsb' 128 64]

/-- The transactions in a row of slots 1 to 9 of one flit after another, R347: a slot is data exactly where R354 assigns
it to a header, and a header with TYPE 0 is NULL. The fuel is the number of slots. -/
def readSlots : Nat → List (BitVec 192) → List PTx
  | 0, _ => []
  | _, [] => []
  | n + 1, h :: l =>
    if h.toNat % 16 = 0 then readSlots n l
    else
      let k := headerWords h.toNat
      { hdr := h, data := ((l.take (dataSlots k)).flatMap slotContainers).take k } :: readSlots n (l.drop (dataSlots k))

/-- The transactions that some flits carry. -/
def readFlits (fs : List Flit) : List PTx :=
  let l := fs.flatMap fun f => f.drop 1
  readSlots l.length l

/-- What the credits let the device send of its queue, in the order queued for each channel, R358 and R360: a
channel that must wait (`b0`, `b1`, `b2`) holds back only its own later transactions. -/
def sendable : List PTx → Credits → Bool → Bool → Bool → List PTx × List PTx × Credits
  | [], c, _, _, _ => ([], [], c)
  | t :: ts, c, b0, b1, b2 =>
    let ch := t.chan
    let blocked := if ch = 0 then b0 else if ch = 1 then b1 else b2
    match (if blocked then none else c.take ch (dataSlots t.data.length)) with
    | some c' =>
      let (a, r, c'') := sendable ts c' b0 b1 b2
      (t :: a, r, c'')
    | none =>
      let (a, r, c') := sendable ts c (b0 || ch == 0) (b1 || ch == 1) (b2 || ch == 2)
      (a, t :: r, c')

/-- The fields of R349 for some credits. -/
def creditBits (c : Credits) : Nat :=
  c.reqH % 2 ^ 8 * 2 ^ 4 + c.reqD % 2 ^ 10 * 2 ^ 12 + c.rspH % 2 ^ 8 * 2 ^ 22 + c.rspD % 2 ^ 10 * 2 ^ 30
    + c.strH % 2 ^ 8 * 2 ^ 40 + c.strD % 2 ^ 10 * 2 ^ 48

/-- The control slot that returns credits: CREDIT, or NOP when there is none to return, R348 and R349. -/
def creditSlotOf (c : Credits) : BitVec 192 := if c = {} then 0 else BitVec.ofNat 192 (1 + creditBits c)

/-- Queued transactions sent as far as the credits reach, and the credits of freed buffer space returned, R358. -/
def siteFlush (x : Nat) (s : State) : State :=
  let st := s.site x
  if s.flag (R.SITE_STAT x) F.SITE_STAT_UP then
    let (out, rest, c) := sendable st.txq st.ours false false false
    if out = [] ∧ st.owed = {} then s
    else
      let sl := out.flatMap PTx.slots
      s.setSite x { st with
        txq := rest
        sent := st.sent ++ out
        ours := c
        theirs := st.theirs.add st.owed
        owed := {}
        wire := st.wire ++ flitsOf (creditSlotOf st.owed) sl.length sl }
  else s

/-- Buffer space of a channel freed: its credits are owed to the chiplet. -/
def Site.free (st : Site) (ch d : Nat) : Site := { st with owed := st.owed.give ch d }

/-- A response of the device, R352 and R353. -/
def siteRespond (x : Nat) (req : BitVec 192) (st : Status) (ws : List Word) (ep : Bool) (s : State) : State :=
  let h := req.toNat
  let echo := bits h 8 18 * 2 ^ 8
  let hdr := if st = .ok ∧ ws ≠ [] then 6 + echo + (ws.length - 1) * 2 ^ 26 + b2n ep * 2 ^ 77
    else 7 + st.code * 2 ^ 4 + echo
  siteSend x { hdr := BitVec.ofNat 192 hdr, data := if st = .ok then ws.map encodeWord else [] } s

/-! ### Going down -/

/-- A site link goes down, R365; `unack` is the count of posted transactions not acknowledged. -/
def siteDown (x unack : Nat) (s : State) : State :=
  let st := s.site x
  let s := (s.setFld (R.SITE_STAT x) F.SITE_STAT_UP 0).setFld (R.SITE_STAT x) F.SITE_STAT_DOWN 1
  let s := s.setFld (R.SITE_UNACK x) F.SITE_UNACK_UNACK unack
  let s := s.setSite x { st with
    gotInit := false
    txq := []
    rxq := []
    strq := []
    owed := {}
    sent := []
    wire := []
    reqs := []
    retired := []
    stage := 0
    dones := st.dones ++ st.reqs.map fun r => { m := r.m, a := r.a, wr := r.wr, st := .linkdown, ws := [] } }
  logCairn .passage 0x02 [dfUnit 10 x, ⟨16, unack⟩] (raise (166 + x) s)

/-- How many posted transactions were unacknowledged when the device itself takes the link down: free, at most
the number of STREAM transactions it sent. -/
def freeUnack (x : Nat) (s : State) : Nat × State :=
  let n := ((s.site x).sent.filter fun t => t.chan == 2).length
  let (k, s) := s.freeNat
  (min k n, s)

/-- A protocol error, R367; `slot` is the offending slot. -/
def protocolError (x : Nat) (slot : BitVec 192) (s : State) : State :=
  let s := logCairn .passage 0x07 [⟨1, x⟩, ⟨48, slot.toNat⟩] s
  let (u, s) := freeUnack x s
  siteDown x u s

/-! ### Requests from a site -/

/-- The words of received containers, R351: corrections and uncorrectable containers are counted; `who` is the detail
value of the master or target that the entry names. -/
def siteDecode (x : Nat) (who : DF) : List Container → State → List Word × State
  | [], s => ([], s)
  | c :: cs, s =>
    let (w, s) := match decodeContainer c with
      | .clean w => (w, s)
      | .corrected w => (w, s.bump (R.SITE_CECNT x) F.SITE_CECNT_CECNT)
      | .uncorrectable => (Word.uni0,
          logCairn .passage 0x06 [⟨1, x⟩, who] (s.bump (R.SITE_UECNT x) F.SITE_UECNT_UECNT))
    let (ws, s) := siteDecode x who cs s
    (w :: ws, s)

/-- Whether some container is uncorrectable. -/
def anyBad (cs : List Container) : Bool := cs.any fun c =>
  match decodeContainer c with
  | .uncorrectable => true
  | _ => false

/-- An IOTLB entry: its index and physical frame, R368. -/
structure IoHit where
  base : Nat
  size : Nat
  rd : Bool
  wr : Bool
  tagp : Bool
  deriving DecidableEq, Repr

/-- The lowest-numbered valid entry that matches an IO address, R368 and R369. -/
def ioLookup (s : State) (x a : Nat) : Option IoHit :=
  (List.range 256).findSome? fun e =>
    let va := s.regN (R.IOTLB_IOVA x e)
    let pa := s.regN (R.IOTLB_PHYS x e)
    let big := bit va 42
    let k := if big then 24 else 16
    if bit va 43 && a / 2 ^ k == va % 2 ^ 42 / 2 ^ k then
      some { base := pa % 2 ^ 42 / 2 ^ k * 2 ^ k, size := 2 ^ k, rd := bit pa 42, wr := bit pa 43, tagp := bit pa 44 }
    else none

/-- An IOTLB fault recorded, R370. -/
def ioFault (x m a : Nat) (st : Status) (s : State) : State :=
  let s := s.setFld (R.SITE_MISSADDR x) F.SITE_MISSADDR_ADDR a
  let s := s.bump (R.SITE_MISSCNT x) F.SITE_MISSCNT_MISSCNT
  let f := if st = .iomiss then F.SITE_STAT_MISS else F.SITE_STAT_PERM
  let was := s.flag (R.SITE_STAT x) f
  let s := raise (168 + x) (s.setFld (R.SITE_STAT x) f 1)
  if was then s else logCairn .passage 0x05 [⟨1, x⟩, dfMaster m, dfAddr a, dfStatus st] s

/-- The tag a site's word is stored with, R371. -/
def siteTag (tagp : Bool) (w : Word) : Word :=
  if !tagp && decide (0x8 ≤ w.tag.toNat) && decide (w.tag.toNat ≤ 0xC) then Word.raw w.pay else w

/-- Register accesses of customer masters: the event controller alone, R331. -/
def siteReg (m : Nat) (lv : Level) (off : Nat) (op : JOp) (s : State) : Ans × State :=
  match op with
  | .rd => ({ st := .ok, w := Word.raw (BitVec.ofNat 48 (evcRead off s)) }, s)
  | .wr w => if w.tag.poisoned then ({ st := .tref }, s) else ({ st := .ok }, evcWrite m lv off w.pay.toNat s)
  | _ => ({ st := .tref }, s)

/-- The outcome of a request: it waits, or a status with words and the EP bit. -/
inductive ReqOut where
  | wait
  | done (st : Status) (ws : List Word) (ep : Bool)
  deriving DecidableEq, Repr

/-- Accesses made one after the other until one fails; one that fails leaves only its own effects on `s0`, so
that a refused request writes nothing, R343. -/
def runOps (m : Nat) (s0 : State) : List (Nat × JOp) → State → List Word → Bool → ReqOut × State
  | [], s, ws, ep => (.done .ok ws.reverse ep, s)
  | (a, op) :: rest, s, ws, ep =>
    match busAccess siteReg m .u a op s with
    | (.wait, s') => (.wait, keepWaiting s0 s')
    | (.done r, s') =>
      if r.st = .ok then runOps m s0 rest s' (if op.writes && !op.atom then ws else r.w :: ws) (ep || r.ep)
      else match busAccess siteReg m .u a op s0 with
        | (_, s1) => (.done r.st [] false, s1)

/-- The operation that an ATOM asks for, R355; none for a reserved AOP or layout, and for PTEUPD (R509). -/
def atomOp (h : Nat) (ws : List Word) : Option JOp :=
  let w0 := ws.headD Word.uni0
  let w1 := (ws.drop 1).headD Word.uni0
  match bits h 78 4 with
  | 0 => some (.samp (w0.pay.setWidth 12))
  | 1 => (EType.decode (bits h 86 3)).map fun t => .field ⟨t.tag, w0.pay⟩ (bits h 82 4) (bits h 86 3)
  | 2 => some (.fadd w0.pay)
  | 3 => some (.swap w0)
  | 4 => some (.cas w0 w1)
  | _ => none

/-- The accesses of a request after translation to `pa`, R353 and R355; none where the request is refused with
TREF. -/
def reqOps (h pa : Nat) (ws : List Word) : Option (List (Nat × JOp)) :=
  let len := bits h 26 6 + 1
  match h % 16 with
  | 1 => some ((List.range len).map fun i => (pa + 4 * i, .rd))
  | 2 => some (ws.mapIdx fun i w => (pa + 4 * i, .wr w))
  | 3 => some (ws.mapIdx fun i w => (pa + 4 * i, .wr w))
  | _ => (atomOp h ws).map fun op => [(pa, op)]

/-- The words that an access stores, changed by `f`, R371. -/
def JOp.retag (f : Word → Word) : JOp → JOp
  | .wr w => .wr (f w)
  | .swap w => .swap (f w)
  | .cas e w => .cas e (f w)
  | op => op

/-- How many words a request covers. -/
def reqLen (h : Nat) : Nat := if h % 16 = 4 then 1 else bits h 26 6 + 1

/-- A request as it is received, R369 to R372: its containers are decoded, and it is translated, or refused. -/
def reqReceive (x : Nat) (t : PTx) (s : State) : PIn × State :=
  let h := t.hdr.toNat
  let m := 40 + 4 * x + bits h 8 2
  let a := bits h 32 42
  let ty := h % 16
  let d := siteDecode x (dfMaster m) t.data s
  let s := d.2
  let p : PIn := { hdr := t.hdr, ws := d.1, slots := dataSlots t.data.length, bad := anyBad t.data }
  if !s.flag (R.SITE_CTL x) F.SITE_CTL_EN then ({ p with st := .tref }, s)
  else match ioLookup s x a with
    | none => ({ p with st := .iomiss }, ioFault x m a .iomiss s)
    | some e =>
      let needR := ty == 1 || ty == 4
      let needW := ty != 1
      if a % e.size + 4 * (reqLen h - 1) ≥ e.size || (needR && !e.rd) || (needW && !e.wr) then
        ({ p with st := .ioperm }, ioFault x m a .ioperm s)
      else ({ p with pa := e.base + a % e.size, tagp := e.tagp }, s)

/-- The master of a request of site x. -/
def PIn.master (x : Nat) (p : PIn) : Nat := 40 + 4 * x + bits p.hdr.toNat 8 2

/-- The request that a site's request to the other site's window becomes: one transaction, R333. -/
def winReqOf (h : Nat) (ws : List Word) (op : JOp) : WinReq :=
  match h % 16 with
  | 1 => { ty := 1, ws := [], n := reqLen h, wr := false }
  | 2 => { ty := 2, ws := ws, n := 0, wr := true }
  | 3 => { ty := 3, ws := ws, n := 0, wr := true }
  | _ => op.request

/-- A request to the other site's window, sent to it as one transaction, R333 and R343. -/
def reqForward (x y : Nat) (p : PIn) (op : JOp) (s : State) : ReqOut × State :=
  let h := p.hdr.toNat
  let m := p.master x
  let q := winReqOf h (p.ws.map (siteTag p.tagp)) op
  if (s.outranked m p.pa op && !(s.site y).knows m p.pa q.wr) then (.wait, s)
  else if s.pathDown (dieOfMaster m) (siteDie y) then (.done .linkdown [] false, s)
  else match windowRequest y m .u p.pa q (bit h 76) p.bad s with
    | (.wait, s) => (.wait, s)
    | (.done st ws, s) =>
      (.done st (if st = .ok then ws else []) false, if st = .linkdown then s else s.granted (31 + y) m)

/-- A received request performed, R353, R355 and R369: the outcome and the state. -/
def reqPerform (x : Nat) (p : PIn) (s : State) : ReqOut × State :=
  let h := p.hdr.toNat
  if p.st ≠ .ok then (.done p.st [] false, s)
  else match reqOps h p.pa p.ws with
    | none => (.done .tref [] false, s)
    | some ops =>
      let ops := ops.map fun o => (o.1, o.2.retag (siteTag p.tagp))
      match targetOf p.pa with
      | .win y => if y = x then runOps (p.master x) s ops s [] false
          else reqForward x y p ((ops.head?.map (·.2)).getD .rd) s
      | _ => runOps (p.master x) s ops s [] false

/-- A performed request answered, R353: RD and the atomics that return a word answer RSP, WR and the others
RSPN, WRP nothing. -/
def reqAnswer (x : Nat) (p : PIn) (st : Status) (ws : List Word) (ep : Bool) (s : State) : State :=
  let h := p.hdr.toNat
  let silent := h % 16 = 3
  let noData := h % 16 = 2 ∨ (h % 16 = 4 ∧ bits h 78 4 < 2)
  if silent then s else siteRespond x p.hdr st (if noData then [] else ws) ep s

/-- Waiting requests performed, R360 and R361: one that waits holds back only those of its master to its target. `kept`
has those that wait, in order, and `held` their masters and targets. -/
def serveFrom (x : Nat) : List PIn → List PIn → List (Nat × Nat) → State → State
  | [], kept, _, s => s.setSite x { s.site x with rxq := kept }
  | p :: ps, kept, held, s =>
    let key := (p.master x, (targetOf p.pa).id)
    if p.st = .ok ∧ key ∈ held then serveFrom x ps (kept ++ [p]) held s
    else
      match reqPerform x p s with
      | (.wait, s') => serveFrom x ps (kept ++ [p]) (key :: held) (keepWaiting s s')
      | (.done st ws ep, s) =>
        let s := s.setSite x ((s.site x).free 0 p.slots)
        serveFrom x ps kept held (siteFlush x (reqAnswer x p st ws ep s))

/-- The waiting requests of a site served. -/
def siteServe (x : Nat) (s : State) : State :=
  match (s.site x).rxq with
  | [] => s
  | l => serveFrom x l [] [] s

/-- The header is well formed: reserved bits zero, a local master below NMASTER for a request, R352 and R367. -/
def headerGood (s : State) (x : Nat) (t : PTx) : Bool :=
  let h := t.hdr.toNat
  bits h 89 7 == 0 && bits h 104 88 == 0 &&
    (t.chan != 0 || decide (bits h 8 8 < s.fld (R.SITE_CAP x) F.SITE_CAP_NMASTER))

/-- A transaction received on the REQ channel: judged under R367, its credits taken, decoded, translated, queued and
performed. -/
def siteRequest (x : Nat) (t : PTx) (s : State) : State :=
  if !(s.site x).gotInit || !headerGood s x t then protocolError x t.hdr s
  else match (s.site x).theirs.take 0 (dataSlots t.data.length) with
    | none => protocolError x t.hdr s
    | some c =>
      let r := reqReceive x t (s.setSite x { s.site x with theirs := c })
      let y := r.2.site x
      siteServe x (r.2.setSite x { y with rxq := y.rxq ++ [r.1] })

/-- Something can arrive from the site: its reset is released and bring-up has reached step 5. -/
def State.siteLive (s : State) (x : Nat) : Bool := (s.site x).released && decide (4 ≤ (s.site x).stage)

/-- The transaction of a row with its header bits and data containers. -/
def rowTx (hdr : BitVec 192) (data : List Container) : PTx := { hdr := hdr, data := data }

/-- A request row: `good` says that the header is of the row's kind; a header of a reserved TYPE is a protocol
error whichever row presents it, R353 and R367. Any other header is no such command. -/
def requestRow (good : Bool) (x : Nat) (hdr : BitVec 192) (data : List Container) (s : State) : State :=
  if !s.siteLive x then s
  else if 8 ≤ hdr.toNat % 16 then protocolError x hdr s
  else if good then siteRequest x (rowTx hdr data) s
  else s

/-- The data words a header announces: LEN words for WR and WRP. -/
def lenMatches (hdr : BitVec 192) (data : List Container) : Bool := data.length == bits hdr.toNat 26 6 + 1

/-- An ATOM header with the given AOP. -/
def isAtom (hdr : BitVec 192) (aop : Nat) : Bool := hdr.toNat % 16 == 4 && bits hdr.toNat 78 4 == aop

/-- R353. -/
def execRd (x : Fin 2) (hdr : BitVec 192) (s : State) : Res := ok (requestRow (hdr.toNat % 16 == 1) x hdr [] s)
/-- R353. -/
def execWr (x : Fin 2) (hdr : BitVec 192) (data : List Container) (s : State) : Res :=
  ok (requestRow (hdr.toNat % 16 == 2 && lenMatches hdr data) x hdr data s)
/-- R353. -/
def execWrp (x : Fin 2) (hdr : BitVec 192) (data : List Container) (s : State) : Res :=
  ok (requestRow (hdr.toNat % 16 == 3 && lenMatches hdr data) x hdr data s)
/-- R355, AOP 0. -/
def execSampst (x : Fin 2) (hdr : BitVec 192) (d : Container) (s : State) : Res :=
  ok (requestRow (isAtom hdr 0) x hdr [d] s)
/-- R355, AOP 1. -/
def execFldwr (x : Fin 2) (hdr : BitVec 192) (d : Container) (s : State) : Res :=
  ok (requestRow (isAtom hdr 1) x hdr [d] s)
/-- R355, AOP 2. -/
def execAtomFadd (x : Fin 2) (hdr : BitVec 192) (d : Container) (s : State) : Res :=
  ok (requestRow (isAtom hdr 2) x hdr [d] s)
/-- R355, AOP 3. -/
def execAtomSwap (x : Fin 2) (hdr : BitVec 192) (d : Container) (s : State) : Res :=
  ok (requestRow (isAtom hdr 3) x hdr [d] s)
/-- R355, AOP 4. -/
def execAtomCas (x : Fin 2) (hdr : BitVec 192) (d e : Container) (s : State) : Res :=
  ok (requestRow (isAtom hdr 4) x hdr [d, e] s)
/-- R355 and R509: a PTEUPD from a customer site is answered TREF. -/
def execPteupd (x : Fin 2) (hdr : BitVec 192) (d e : Container) (s : State) : Res :=
  ok (requestRow (isAtom hdr 5) x hdr [d, e] s)
/-- R355, AOP 6 to 15. -/
def execAtomReserved (x : Fin 2) (hdr : BitVec 192) (data : List Container) (s : State) : Res :=
  ok (requestRow (hdr.toNat % 16 == 4 && decide (6 ≤ bits hdr.toNat 78 4)) x hdr data s)

/-! ### Responses to device requests, R366 -/

/-- A response received: matched by SRC and TAG to an outstanding or a retired request, else a protocol error. Its
containers are decoded, R351, and its buffer space is freed. -/
def siteResponse (x : Nat) (t : PTx) (s : State) : State :=
  let h := t.hdr.toNat
  let m := bits h 8 8
  let tag := bits h 16 10
  let d := dataSlots t.data.length
  let mine (r : PReq) : Bool := r.m == m && r.tag == tag
  if !(s.site x).gotInit || !headerGood s x t then protocolError x t.hdr s
  else match (s.site x).theirs.take 1 d with
    | none => protocolError x t.hdr s
    | some c =>
      if !((s.site x).reqs ++ (s.site x).retired).any mine then protocolError x t.hdr s
      else
        let r := siteDecode x (dfUnit 10 x) t.data (s.setSite x { s.site x with theirs := c })
        let s := r.2
        let y := (s.site x).free 1 d
        match y.reqs.find? mine with
        | some r0 =>
          let st := Status.decode (bits h 4 4)
          siteFlush x (s.setSite x { y with
            reqs := y.reqs.erase r0,
            dones := y.dones ++ [{ m := m, a := r0.a, wr := r0.wr, st := st, ws := if st = .ok then r.1 else [] }] })
        | none =>
          let s := s.bump (R.SITE_LATECNT x) F.SITE_LATECNT_LATECNT
          siteFlush x (s.setSite x { y with retired := y.retired.eraseP mine })

/-- A response row. -/
def responseRow (good : Bool) (x : Nat) (hdr : BitVec 192) (data : List Container) (s : State) : State :=
  if s.siteLive x && good then siteResponse x (rowTx hdr data) s else s

/-- R353. -/
def execRsp (x : Fin 2) (hdr : BitVec 192) (data : List Container) (s : State) : Res :=
  ok (responseRow (hdr.toNat % 16 == 6 && lenMatches hdr data) x hdr data s)
/-- R353. -/
def execRspn (x : Fin 2) (hdr : BitVec 192) (s : State) : Res :=
  ok (responseRow (hdr.toNat % 16 == 7) x hdr [] s)

/-! ### Control slots, R348, R349, R358 and R359 -/

/-- The credit fields of a control slot, R349. -/
def slotCredits (c : BitVec 192) : Credits :=
  let x := c.toNat
  { reqH := bits x 4 8, reqD := bits x 12 10, rspH := bits x 22 8, rspD := bits x 30 10, strH := bits x 40 8,
    strD := bits x 48 10 }

/-- A control slot after the first flit: NOP, CREDIT, or a protocol error, R348 and R367. -/
def creditSlot (x : Nat) (c : BitVec 192) (s : State) : State :=
  let y := s.site x
  if !y.gotInit then protocolError x c s
  else if c.toNat % 16 = 0 then s
  else if c.toNat % 16 = 1 then
    let n := y.ours.add (slotCredits c)
    if n.le y.grant then siteFlush x (s.setSite x { y with ours := n }) else protocolError x c s
  else protocolError x c s

/-- R358. -/
def execCredit (x : Fin 2) (c : BitVec 192) (s : State) : Res :=
  ok (if s.siteLive x then creditSlot x c s else s)

/-- The device's initial grant, R359. -/
def deviceGrant : Credits := ⟨64, 256, 64, 512, 32, 512⟩

/-- The device's own INIT slot, R349 and R359: PVER 1, and it accepts STREAM and performs ATOM as a target. -/
def deviceInit : BitVec 192 :=
  BitVec.ofNat 192 (2 + creditBits deviceGrant + 2 ^ 60 + Config.deviceMasters.toNat * 2 ^ 64 + 2 ^ 67 + 2 ^ 68)

/-- The least that a chiplet must grant, R359. -/
def leastGrant : Credits := ⟨4, 22, 4, 22, 4, 22⟩

/-- Bring-up fails at a step, R373. -/
def bringUpFail (x step : Nat) (s : State) : State :=
  logCairn .passage 0x03 [⟨1, x⟩, ⟨16, step⟩]
    ((s.setFld (R.SITE_STAT x) F.SITE_STAT_FAIL 1).setSite x
      { s.site x with since := none, stage := 0, step := 0, failed := true })

/-- The chiplet's first flit, R359 and R373 steps 5 and 6. -/
def initSlot (x : Nat) (c : BitVec 192) (s : State) : State :=
  let y := s.site x
  let g := slotCredits c
  if y.gotInit || c.toNat % 16 != 2 then protocolError x c s
  else if !leastGrant.le g || bits c.toNat 60 4 != 1 || decide (4 < bits c.toNat 64 3) then bringUpFail x 5 s
  else
    let s := s.setSite x { y with
      gotInit := true
      since := none
      step := 0
      ours := g
      grant := g
      theirs := deviceGrant
      owed := {} }
    let s := s.setFld (R.SITE_STAT x) F.SITE_STAT_UP 1
    let s := s.setRegN (R.SITE_CAP x) (bits c.toNat 60 9)
    let s := s.setFld (R.SITE_CREDQ x) F.SITE_CREDQ_CREDQ (bits c.toNat 4 36)
    let s := s.setFld (R.SITE_CREDS x) F.SITE_CREDS_CREDS (bits c.toNat 40 18)
    logCairn .passage 0x01 [dfUnit 10 x, ⟨2, s.fld (R.SITE_STAT x) F.SITE_STAT_NMOD⟩,
      ⟨2, s.fld (R.SITE_STAT x) F.SITE_STAT_WIDTH⟩, ⟨3, s.fld (R.SITE_STAT x) F.SITE_STAT_RATE⟩] (raise (166 + x) s)

/-- R359 and R373. -/
def execInit (x : Fin 2) (c : BitVec 192) (s : State) : Res :=
  ok (if s.siteLive x then initSlot x c s else s)

/-! ### Links -/

/-- An internal link goes down, R364: a machine check is pending at every core, transactions across the link
complete with LINKDOWN; the tags of those sent to a site stay retired until their responses arrive. The number of
unacknowledged transactions of the entry is free. (DESIGN CHOICE, log entry 44.) -/
def internalDown (l : Nat) (s : State) : State :=
  if s.junc.linksDown.contains l then s
  else
    let crosses (m a : Nat) : Bool := (routeLinks (s.masterDie m a) (dieOfTarget (targetOf a))).contains l
    let s := s.setFld (R.PLINK_STAT l) F.PLINK_STAT_UP 0
    let s := (List.range 16).foldl (fun s n =>
      s.setCore n { s.core n with mcheck := (s.core n).mcheck ++ [{ sub := 4, eval := BitVec.ofNat 48 l }] }) s
    let j := s.junc
    let gone := j.waiting.filter fun r => crosses r.m r.a
    let s := { s with junc := { j with
      linksDown := l :: j.linksDown,
      waiting := j.waiting.filter fun r => !crosses r.m r.a,
      rsps := j.rsps ++ gone.map (fun (r : JReq) =>
        ({ m := r.m, a := r.a, st := .linkdown, w := Word.uni0, wr := r.op.writes, va := r.va } : JRsp)) } }
    let s := (List.range 2).foldl (fun s x =>
      let y := s.site x
      s.setSite x { y with
        reqs := y.reqs.filter (fun (r : PReq) => !crosses r.m r.a),
        retired := y.retired ++ y.reqs.filter (fun (r : PReq) => crosses r.m r.a),
        dones := y.dones ++ (y.reqs.filter (fun (r : PReq) => crosses r.m r.a)).map (fun (r : PReq) =>
          ({ m := r.m, a := r.a, wr := r.wr, st := .linkdown, ws := [] } : PDone)) }) s
    let (u, s) := s.freeNat
    logCairn .passage 0x02 [dfUnit 9 l, ⟨16, u⟩] s

/-- R364. -/
def execInternalLinkDown (l : Fin 11) (s : State) : Res := ok (internalDown l s)

/-- A flit fails the adapter CRC and is replayed, R363: links 0 to 10, then sites 0 and 1. -/
def execFlitReplay (u : Fin 13) (s : State) : Res :=
  ok (if u.val < 11 then s.bump (R.PLINK_CRCERR u) F.PLINK_CRCERR_CRCERR
    else s.bump (R.SITE_CRCERR (u - 11)) F.SITE_CRCERR_CRCERR)

/-- An internal link is up, R377: the entry shows the free codes of its modules and width, and 16 GT/s.
(DESIGN CHOICE, log entry 44.) -/
def linkUp (l : Nat) (s : State) : State :=
  if s.junc.linksDown.contains l ∨ s.flag (R.PLINK_STAT l) F.PLINK_STAT_UP then s
  else
    let c := (Config.linkCodes l).toNat
    logCairn .passage 0x01 [dfUnit 9 l, ⟨2, c⟩, ⟨2, c / 4⟩, ⟨3, 4⟩] (s.setFld (R.PLINK_STAT l) F.PLINK_STAT_UP 1)

/-- The internal links train. -/
def linksTrain (s : State) : State := (List.range 11).foldl (fun s l => linkUp l s) s

/-- A retrain, R364: `good` says that it ended within 100 µs, `rep` that lane repair is in use. -/
def retrain (u : Nat) (good rep : Bool) (s : State) : State :=
  if u < 11 then
    let s := s.bump (R.PLINK_RETRAIN u) F.PLINK_RETRAIN_RETRAIN
    if s.junc.linksDown.contains u then s
    else if good then (linkUp u s).setFld (R.PLINK_STAT u) F.PLINK_STAT_REPAIRED (b2n rep)
    else internalDown u s
  else
    let x := u - 11
    let s := s.bump (R.SITE_RETRAIN x) F.SITE_RETRAIN_RETRAIN
    if good || !s.flag (R.SITE_STAT x) F.SITE_STAT_UP then s
    else let r := freeUnack x s; siteDown x r.1 r.2

/-- R364. -/
def execLinkRetrain (u : Fin 13) (good rep : Bool) (s : State) : Res := ok (retrain u good rep s)

/-- R365. -/
def execSiteLinkDown (x : Fin 2) (unack : BitVec 16) (s : State) : Res :=
  ok (if s.flag (R.SITE_STAT x) F.SITE_STAT_UP then siteDown x unack.toNat s else s)

/-- The oldest device request times out, R366. -/
def siteTimeout (x : Nat) (s : State) : State :=
  let tmo := s.fld (R.SITE_CTL x) F.SITE_CTL_TMO
  let y := s.site x
  match y.reqs with
  | [] => s
  | r :: rs =>
    if tmo ≠ 0 ∧ r.sentAt + tmo ≤ s.tick then
      let s := s.setSite x { y with
        reqs := rs, retired := y.retired ++ [r],
        dones := y.dones ++ [{ m := r.m, a := r.a, wr := r.wr, st := .timeout, ws := [] }] }
      logCairn .passage 0x04 [⟨1, x⟩, dfMaster r.m, ⟨10, r.tag⟩] (s.bump (R.SITE_TMOCNT x) F.SITE_TMOCNT_TMOCNT)
    else s

/-- R366. -/
def execSiteRequestTimeout (x : Fin 2) (s : State) : Res := ok (siteTimeout x s)

/-! ### Bring-up, R373, R374 and R711 -/

/-- Both site rails are within their windows. -/
def State.railsGood (s : State) (x : Nat) : Bool :=
  s.flag (R.SITE_VMON x) F.SITE_VMON_VOK && s.flag (R.SITE_VMON x) F.SITE_VMON_VAOK

/-- The site reset is released where RSTN asks for it and the rails allow it; bring-up begins, unless it has failed
since RSTN was last 0, R373. -/
def siteRelease (x : Nat) (s : State) : State :=
  let y := s.site x
  if s.flag (R.SITE_CTL x) F.SITE_CTL_RSTN && s.railsGood x && !y.released then
    s.setSite x (if y.failed then { y with released := true }
      else { y with released := true, stage := 2, step := 3, since := some (y.since.getD s.tick) })
  else s

/-- The site reset is asserted: the link goes down if it was up. -/
def siteAssert (x : Nat) (s : State) : State :=
  let s := if s.flag (R.SITE_STAT x) F.SITE_STAT_UP then let r := freeUnack x s; siteDown x r.1 r.2 else s
  s.setSite x { s.site x with released := false, stage := 0, step := 3, gotInit := false }

/-- A write of PASS.SITE[x].CTL, R373 and R374. -/
def siteCtlWrite (x : Nat) (lv : Level) (v : Nat) (s : State) : State :=
  let was := s.flag (R.SITE_CTL x) F.SITE_CTL_RSTN
  let s := s.writeCodes lv (R.SITE_CTL x) v
  if lv ≠ .m then s
  else if s.flag (R.SITE_CTL x) F.SITE_CTL_RSTN then
    if was then s else siteRelease x (s.setSite x { s.site x with since := some s.tick, step := 3, failed := false })
  else
    let s := s.setFld (R.SITE_CTL x) F.SITE_CTL_EN 0
    let s := siteAssert x s
    s.setSite x { s.site x with since := none, step := 0, failed := false }

/-- A CTL write with RSTN = 1, R373 step 2. -/
def execSiteResetRelease (x : Fin 2) (lv : Level) (v : Payload) (s : State) : Res :=
  ok (siteCtlWrite x lv (setBits v.toNat F.SITE_CTL_RSTN.lo 1 1) s)

/-- A CTL write with RSTN = 0, R374. -/
def execSiteResetAssert (x : Fin 2) (lv : Level) (v : Payload) (s : State) : Res :=
  ok (siteCtlWrite x lv (setBits v.toNat F.SITE_CTL_RSTN.lo 1 0) s)

/-- Both adapters are trained, R373 step 3, with modules, width and rate as trained; `active` says that they have entered
the Streaming protocol as well, step 4, on which the device sends INIT in its first flit, step 5. -/
def siteTrained (x nmod width rate : Nat) (active : Bool) (s : State) : State :=
  let y := s.site x
  if y.released && (y.stage == 2 || y.stage == 3) && y.since.isSome then
    let st := R.SITE_STAT x
    let s := ((s.setFld st F.SITE_STAT_NMOD nmod).setFld st F.SITE_STAT_WIDTH width).setFld st F.SITE_STAT_RATE rate
    s.setSite x (if active then { y with stage := 4, step := 5, wire := [deviceInit :: padSlots []] }
      else { y with stage := 3, step := 4 })
  else s

/-- R373. -/
def execSiteTrained (x : Fin 2) (nmod : BitVec 2) (link : SiteLink) (active : Bool) (s : State) : Res :=
  ok (siteTrained x nmod.toNat link.width.toNat link.rate.toNat active s)

/-- 10 ms after RSTN without completion, R373: a tick lasts 10 ns. -/
def siteTimeUp (x : Nat) (s : State) : State :=
  match (s.site x).since with
  | none => s
  | some t0 => if t0 + 1000000 ≤ s.tick then bringUpFail x (s.site x).step s else s

/-- R373. -/
def execSiteBringupTimeout (x : Fin 2) (s : State) : Res := ok (siteTimeUp x s)

/-- A write of PASS.SITE[x].VMON, R711; `win` says whether the rail then lies within ±5 % of VNOM. -/
def vmonWrite (x : Nat) (lv : Level) (v : Nat) (win : Bool) (s : State) : State :=
  let vnom := v % 1024
  if s.flag (R.SITE_CTL x) F.SITE_CTL_RSTN then logCairn .passage 0x09 [⟨1, x⟩, ⟨10, vnom⟩] s
  else if lv ≠ .m then s
  else
    (s.setFld (R.SITE_VMON x) F.SITE_VMON_VNOM vnom).setFld (R.SITE_VMON x) F.SITE_VMON_VOK
      (b2n (win && decide (650 ≤ vnom) && decide (vnom ≤ 950)))

/-- R711. -/
def execVnomWrite (x : Fin 2) (lv : Level) (v : Payload) (win : Bool) (s : State) : Res :=
  ok (vmonWrite x lv v.toNat win s)

/-- A site rail leaves its window, R711: VSITEx, or VSITEAx when `aux`. -/
def execSiteRailFault (x : Fin 2) (aux : Bool) (s : State) : Res :=
  ok (siteAssert x (s.setFld (R.SITE_VMON x) (if aux then F.SITE_VMON_VAOK else F.SITE_VMON_VOK) 0))

/-- A site rail enters its window, R711; VSITEx cannot while VNOM is outside 650 to 950 mV. -/
def railRestored (x : Nat) (aux : Bool) (s : State) : State :=
  let vnom := s.fld (R.SITE_VMON x) F.SITE_VMON_VNOM
  if aux then siteRelease x (s.setFld (R.SITE_VMON x) F.SITE_VMON_VAOK 1)
  else if 650 ≤ vnom ∧ vnom ≤ 950 then siteRelease x (s.setFld (R.SITE_VMON x) F.SITE_VMON_VOK 1)
  else s

/-- R711. -/
def execSiteRailRestored (x : Fin 2) (aux : Bool) (s : State) : Res := ok (railRestored x aux s)

end Sys2Proof.Machine
end

