-- ==== Sys2Proof/Machine/Pins.lean ====
section
/-! DEFINITION. Measurement inputs, pulse outputs and GPIO: claims, ADC triggers and conversions, comparators and
pins (15 R577–R596, 04 R137–R139). -/

namespace Sys2Proof.Machine

/-! ### Resources, R577 to R582 -/

/-- The CLAIM register of a resource. -/
def pinClaimReg : PinRes → Nat
  | .adc c => R.ADC_CLAIM c | .enc e => R.ENC_CLAIM e | .po o => R.PO_CLAIM o | .gpio g => R.GPIO_CLAIM g

/-- The resource as a detail value, R713. -/
def pinDf : PinRes → DF
  | .adc c => dfUnit 0 c | .enc e => dfUnit 1 e | .po o => dfUnit 2 o | .gpio g => dfUnit 3 g

/-- Whether a USE is listed for the resource, R581. -/
def pinUseListed : PinRes → Nat → Bool
  | .adc _, u => u == 1 || u == 2
  | .enc _, u => u == 1 || u == 2 || u == 3
  | .po _, u => u == 1 || u == 2
  | .gpio _, u => u == 1 || u == 2 || u == 3

/-- The CLERR bit of a resource set, R579 and R580. -/
def pinClerr : PinRes → State → State
  | .adc c, s => s.setFld (R.ADC_STAT c) F.ADC_STAT_CLERR 1
  | .enc e, s => s.setFld (R.ENC_STAT e) F.ENC_STAT_CLERR 1
  | .po o, s => s.setFld (R.PO_STAT o) F.PO_STAT_CLERR 1
  | .gpio g, s => s.setFld (R.GPIO_STAT g) F.GPIO_STAT_CLERR 1

/-- The use in which a resource is held, 0 while it is not claimed. The CLAIM registers share one layout. -/
def State.useOf (s : State) (claim : Nat) : Nat :=
  if s.flag claim F.ADC_CLAIM_OWNED then s.fld claim F.ADC_CLAIM_USE else 0

/-- Whether master m owns a resource. -/
def State.ownsPin (s : State) (claim m : Nat) : Bool :=
  s.flag claim F.ADC_CLAIM_OWNED && s.fld claim F.ADC_CLAIM_OWNER == m

/-- The claimants of R581. -/
def isClaimant (m : Nat) : Bool := decide (m < 16) || m == 34 || m == 35 || m == 36

/-- A freed resource; pulses that still run on a freed output are dropped. -/
def pinFree (r : PinRes) (s : State) : State :=
  let s := (s.setFld (pinClaimReg r) F.ADC_CLAIM_OWNED 0).setFld (pinClaimReg r) F.ADC_CLAIM_USE 0
  match r with
  | .po o => { s with trav := { s.trav with
      pulses := (List.range 4).foldl (fun t i => tset (fun _ => none) t (4 * o.val + i) none) s.trav.pulses } }
  | _ => s

/-- A granted claim, R578; a pulse output starts at level 0, R592. -/
def pinGrant (r : PinRes) (m use : Nat) (s : State) : State :=
  let c := (pinClaimReg r)
  let s := ((s.setFld c F.ADC_CLAIM_OWNER m).setFld c F.ADC_CLAIM_OWNED 1).setFld c F.ADC_CLAIM_RES 1
  let s := s.setFld c F.ADC_CLAIM_USE use
  match r with
  | .po o => (s.setReg (R.PO_SWLVL o) 0).setFld (R.PO_STAT o) F.PO_STAT_LVL 0
  | _ => s

/-- A write of a CLAIM register, R578, R579 and R581: REL first, then REQ. (DEDUCED, log entry 66.) -/
def pinClaimWrite (r : PinRes) (m v : Nat) (s : State) : State :=
  let c := (pinClaimReg r)
  let s := if bit v F.ADC_CLAIM_REL.lo then
      if s.ownsPin c m then pinFree r s else pinClerr r s
    else s
  if bit v F.ADC_CLAIM_REQ.lo then
    let use := bits v F.ADC_CLAIM_USE.lo F.ADC_CLAIM_USE.w
    if s.ownsPin c m then s
    else if isClaimant m && !s.flag c F.ADC_CLAIM_OWNED && pinUseListed r use then pinGrant r m use s
    else logCairn .measure 0x01 [pinDf r, dfMaster m, dfMaster (s.fld c F.ADC_CLAIM_OWNER)]
      (s.setFld c F.ADC_CLAIM_RES 2)
  else s

/-- R578. -/
def execResourceClaim (r : PinRes) (m : Fin 48) (v : Payload) (s : State) : Res :=
  ok (pinClaimWrite r m (setBits v.toNat F.ADC_CLAIM_REQ.lo 1 1) s)
/-- R579. -/
def execResourceRelease (r : PinRes) (m : Fin 48) (s : State) : Res :=
  ok (pinClaimWrite r m (2 ^ F.ADC_CLAIM_REL.lo) s)

/-- A write that only the owner makes, R580. -/
def pinOwnerWrite (r : PinRes) (m off : Nat) (f : State → State) (s : State) : State :=
  if s.ownsPin (pinClaimReg r) m then f s
  else logCairn .measure 0x02 [pinDf r, dfMaster m, dfOff off] (pinClerr r s)

/-! ### ADC channels, R583 to R587 -/

/-- A GO rejected with STATE, R584 and R585. -/
def goReject (c : Nat) (s : State) : State :=
  logCairn .measure 0x03 [⟨5, c⟩] (s.setFld (R.ADC_STAT c) F.ADC_STAT_STERR 1)

/-- A trigger that has not yet reached its instant kept. -/
def addTrig (t : AdcTrig) (s : State) : State := { s with pins := { s.pins with trigs := s.pins.trigs ++ [t] } }

/-- CMD.GO written by the owner at a GCLK: the channel samples at the start of the second GCLK after it, R584. -/
def adcGo (c m g : Nat) (s : State) : State := addTrig { c := c, at' := g + 2, gaz := false, by' := m } s

/-- R584. -/
def execAdcGo (c : Fin 32) (m : Fin 48) (ph : Fin 16) (s : State) : Res :=
  ok (pinOwnerWrite (.adc c) m (R.ADC_CMD c) (adcGo c m (16 * s.tick + ph)) s)

/-- A Gazetteer ADC action: every channel of the mask samples at one GCLK, R135 and R584. -/
def adcFire (mask g i : Nat) (s : State) : State :=
  ((List.range 32).filter (bit mask ·)).foldl (fun s c => addTrig { c := c, at' := g, gaz := true, by' := i } s) s

/-- The channel refuses triggers at a GCLK, R583 and R586. -/
def State.adcBusy (s : State) (c g : Nat) : Bool :=
  s.useOf (R.ADC_CLAIM c) == 2 ||
    match tget (fun _ => none) s.pins.lastSample c with
    | some t => decide (g < t + 800)
    | none => false

/-- The conversions in progress of a channel. -/
def State.convs (s : State) (c : Nat) : List AdcConv := tget (fun _ => []) s.pins.convs c

/-- A conversion begun. -/
def adcConvert (c g : Nat) (code : BitVec 12) (trig : Bool) (s : State) : State :=
  { s with pins := { s.pins with
      convs := tset (fun _ => []) s.pins.convs c (s.convs c ++ [{ at' := g, code := code, trig := trig }]),
      lastSample := tset (fun _ => none) s.pins.lastSample c (some g) } }

/-- What happens to one trigger that does not convert: a GO without its claim, a Gazetteer trigger without a claim,
or a busy channel, R584 to R586. -/
def adcRefuse (t : AdcTrig) (s : State) : State :=
  if !t.gaz then goReject t.c s
  else
    let s := if s.useOf (R.ADC_CLAIM t.c) = 0 then s
      else (s.setFld (R.ADC_STAT t.c) F.ADC_STAT_MISS 1).bump (R.ADC_MISSCNT t.c) F.ADC_MISSCNT_MISSCNT
    logCairn .measure 0x04 [⟨5, t.c⟩, ⟨16, t.by'⟩] s

/-- A trigger's claim stands at its instant. -/
def State.trigClaimed (s : State) (t : AdcTrig) : Bool :=
  s.useOf (R.ADC_CLAIM t.c) == 1 && (t.gaz || s.ownsPin (R.ADC_CLAIM t.c) t.by')

/-- The triggers of one channel and instant judged together, R585: `code` is what the converter finds. -/
def adcInstant (c g : Nat) (code : BitVec 12) (ts : List AdcTrig) (s : State) : State :=
  if s.adcBusy c g then ts.foldl (fun s t => adcRefuse t s) s
  else
    let good := ts.filter (s.trigClaimed ·)
    let s := (ts.filter fun t => !s.trigClaimed t).foldl (fun s t => adcRefuse t s) s
    if good.isEmpty then s else adcConvert c g code (good.any (·.gaz)) s

/-- The earliest instant of the waiting triggers of a channel that this tick reaches. -/
def State.nextTrig (s : State) (c : Nat) : Option Nat :=
  (s.pins.trigs.filter fun t => t.c == c && decide (t.at' < 16 * s.tick + 16)).foldl
    (fun b t => match b with
      | none => some t.at'
      | some x => some (min x t.at')) none

/-- A sampling instant of a channel in use SAMPLE, or one of the continuous conversions of use MAINS, R584 to
R586. -/
def adcSample (c ph : Nat) (code : BitVec 12) (s : State) : State :=
  match s.nextTrig c with
  | some g =>
    let mine (t : AdcTrig) : Bool := t.c == c && t.at' == g
    let ts := s.pins.trigs.filter mine
    adcInstant c g code ts { s with pins := { s.pins with trigs := s.pins.trigs.filter (!mine ·) } }
  | none =>
    if s.useOf (R.ADC_CLAIM c) = 2 then
      let g := 16 * s.tick + ph
      match tget (fun _ => none) s.pins.lastSample c with
      | some t => if g < t + 800 then s else adcConvert c g code false s
      | none => adcConvert c g code false s
    else s

/-- R583. -/
def execAdcSample (c : Fin 32) (ph : Fin 16) (code : BitVec 12) (s : State) : Res := ok (adcSample c ph code s)

/-- A conversion ends 48 ticks after its sampling instant: DATA and STAMP are written together, R583 and R587. -/
def adcDone (c : Nat) (s : State) : State :=
  match s.convs c with
  | [] => s
  | v :: vs =>
    if 16 * s.tick + 15 < v.at' + 768 then s
    else
      let s := { s with pins := { s.pins with convs := tset (fun _ => []) s.pins.convs c vs } }
      let s := s.setRegN (R.ADC_DATA c) (v.code.toNat + 4096 * b2n v.trig + 8192 * (v.at' % 16))
      let s := s.setRegN (R.ADC_STAMP c) (v.at' / 16)
      if s.flag (R.ADC_CFG c) F.ADC_CFG_CEV then raise (576 + c) s else s

/-! ### Encoder inputs, R589 -/

/-- The receivers of an input report loss of signal; in use SSI the Z pair reports none. -/
def encLoss (e : Nat) (los : BitVec 3) (s : State) : State :=
  let o := R.ENC_STAT e
  let new := if s.useOf (R.ENC_CLAIM e) = 2 then los.toNat % 4 else los.toNat
  let old := s.fld o F.ENC_STAT_LOS
  let s := s.setFld o F.ENC_STAT_LOS new
  if (List.range 3).any fun i => bit new i && !bit old i then
    let s := s.setFld o F.ENC_STAT_LOSEV 1
    if s.flag (R.ENC_CFG e) F.ENC_CFG_EVLOS then raise (656 + e) s else s
  else s

/-- R589. -/
def execEncoderLossOfSignal (e : Fin 16) (los : BitVec 3) (s : State) : Res := ok (encLoss e los s)

/-! ### Pulse outputs and their comparators, R137 to R139, R590 to R594 -/

/-- The level before inversion set; a rising edge raises the output's event, R592. A pin forced by PFAIL keeps
its state, R594. -/
def poSet (o : Nat) (b : Bool) (s : State) : State :=
  if (tget (fun _ => none) s.pins.poForced o).isSome then s
  else
    let was := s.flag (R.PO_STAT o) F.PO_STAT_LVL
    let s := s.setFld (R.PO_STAT o) F.PO_STAT_LVL (b2n b)
    if b && !was && s.flag (R.PO_CFG o) F.PO_CFG_EVR then raise (672 + o) s else s

/-- A level as a pin output. -/
def PinOut.ofLevel (b : Bool) : PinOut := if b then .high else .low

/-- What a pulse-output pin carries, R590 and R579. -/
def State.poPin (s : State) (o : Nat) : PinOut :=
  match tget (fun _ => none) s.pins.poForced o with
  | some p => p
  | none =>
    if s.useOf (R.PO_CLAIM o) = 0 then .z
    else .ofLevel (s.flag (R.PO_STAT o) F.PO_STAT_LVL != s.flag (R.PO_CFG o) F.PO_CFG_INV)

/-- The pending low edge of a comparator. -/
def State.pulseEnd (s : State) (c : Nat) : Option Nat := tget (fun _ => none) s.trav.pulses c

/-- The pending low edge of a comparator replaced. -/
def State.setPulseEnd (s : State) (c : Nat) (g : Option Nat) : State :=
  { s with trav := { s.trav with pulses := tset (fun _ => none) s.trav.pulses c g } }

/-- The low edge of a comparator's PULSE: a CLEAR, R138. -/
def pulseLow (c : Nat) (s : State) : State :=
  let s := s.setPulseEnd c none
  if s.pins.frozen || s.useOf (R.PO_CLAIM (c / 4)) != 1 then s else poSet (c / 4) false s

/-- Low edges of a pin that fall before GCLK g, or in it at a comparator up to c, R137 and R138. -/
def pulsesBefore (c g : Nat) (s : State) : State :=
  (List.range 4).foldl (fun s i =>
    let d := c / 4 * 4 + i
    match s.pulseEnd d with
    | some e => if e < g ∨ (e = g ∧ d ≤ c) then pulseLow d s else s
    | none => s) s

/-- A comparator action of a Gazetteer entry at GCLK g, R137 and R139: 0 SET, 1 CLEAR, 2 TOGGLE, 3 PULSE.
(DEDUCED, log entry 24.) -/
def cmpAct (c op width g i : Nat) (s : State) : State :=
  let o := c / 4
  if s.pins.frozen then s
  else if s.useOf (R.PO_CLAIM o) ≠ 1 then
    logCairn .traverse 0x07 [⟨8, c⟩, ⟨16, i⟩] (s.setFld R.GAZ_STATUS F.GAZ_STATUS_COLL 1)
  else
    let s := pulsesBefore c g s
    match op with
    | 0 => poSet o true s
    | 1 => poSet o false s
    | 2 => poSet o (!s.flag (R.PO_STAT o) F.PO_STAT_LVL) s
    | _ => poSet o true (s.setPulseEnd c (some (g + max 1 width)))

/-- The low edge that ends a PULSE, when this tick reaches it, R137. -/
def execComparatorPulseEnd (c : Fin 256) (s : State) : Res :=
  ok (match s.pulseEnd c with
    | some g => if g < 16 * s.tick + 16 then pulseLow c s else s
    | none => s)

/-- A write of SWLVL by the owner, R580 and R590. -/
def swlvlWrite (o m v : Nat) (s : State) : State :=
  pinOwnerWrite (.po (Fin.ofNat 64 o)) m (R.PO_SWLVL o) (fun s =>
    let s := s.setRegN (R.PO_SWLVL o) (v % 2)
    if s.useOf (R.PO_CLAIM o) = 2 then poSet o (v % 2 == 1) s else s) s

/-- R590. -/
def execSwlvlWrite (o : Fin 64) (m : Fin 48) (v : Payload) (s : State) : Res := ok (swlvlWrite o m v.toNat s)

/-! ### GPIO, R593 -/

/-- What a GPIO pin carries. -/
def State.gpioPin (s : State) (g : Nat) : PinOut :=
  match tget (fun _ => none) s.pins.gpioForced g with
  | some p => p
  | none =>
    let out := s.flag (R.GPIO_CFG g) F.GPIO_CFG_OUT
    match s.useOf (R.GPIO_CLAIM g) with
    | 2 => .ofLevel out
    | 3 => if out then .z else .low
    | _ => .z

/-- The level of a GPIO pin: what the device drives, or the level given from outside, R593. -/
def State.gpioLevel (s : State) (g : Nat) (lvl : Bool) : Bool :=
  match s.gpioPin g with
  | .high => true
  | .low => false
  | .z => lvl

/-- The level that a GPIO's synchroniser delivers; `outer` is the level outside drives. -/
def gpioEdge (g : Nat) (outer : Bool) (s : State) : State :=
  let o := R.GPIO_STAT g
  let lvl := s.gpioLevel g outer
  let was := s.flag o F.GPIO_STAT_IN
  let s := s.setFld o F.GPIO_STAT_IN (b2n lvl)
  let sel := s.fld (R.GPIO_CFG g) F.GPIO_CFG_EDGE
  let hit := (lvl && !was && bit sel 0) || (!lvl && was && bit sel 1)
  if hit && s.useOf (R.GPIO_CLAIM g) != 0 then raise (608 + g) (s.setFld o F.GPIO_STAT_EDG 1) else s

/-- R593. -/
def execGpioEdge (g : Fin 48) (lvl : Bool) (s : State) : Res := ok (gpioEdge g lvl s)

/-! ### PFAIL, R594 -/

/-- The state a PFS value selects: hold, low or high impedance. -/
def pfsOut (pfs : Nat) (now : PinOut) : PinOut := if pfs = 0 then now else if pfs = 1 then .low else .z

/-- Every claimed pulse output and every claimed GPIO output takes its PFS state; comparator actions are ignored
from now on. -/
def pinsPfail (s : State) : State :=
  let po := (List.range 64).foldl (fun t o =>
    if s.useOf (R.PO_CLAIM o) = 0 then t
    else tset (fun _ => none) t o (some (pfsOut (s.fld (R.PO_CFG o) F.PO_CFG_PFS) (s.poPin o)))) s.pins.poForced
  let gp := (List.range 48).foldl (fun t g =>
    if s.useOf (R.GPIO_CLAIM g) < 2 then t
    else tset (fun _ => none) t g (some (pfsOut (s.fld (R.GPIO_CFG g) F.GPIO_CFG_PFS) (s.gpioPin g)))) s.pins.gpioForced
  { s with pins := { s.pins with poForced := po, gpioForced := gp, frozen := true } }

/-! ### Register access, R595 -/

/-- The resource whose registers an offset of the block lies in, and its offset within them. -/
def pinAt (off : Nat) : PinRes × Nat :=
  let b := off - 0x3A00000
  if b < 0x1000 then (.adc (Fin.ofNat 32 (b / 32)), b % 32)
  else if b < 0x2000 then (.enc (Fin.ofNat 16 ((b - 0x1000) / 16)), b % 16)
  else if b < 0x3000 then (.po (Fin.ofNat 64 ((b - 0x2000) / 16)), b % 16)
  else (.gpio (Fin.ofNat 48 ((b - 0x3000) / 16)), b % 16)

/-- A register of the block written. The GCLK phase in which a GO arrives is not known: it is free. -/
def pinWrite (m : Nat) (lv : Level) (off v : Nat) (s : State) : State :=
  let (r, i) := pinAt off
  if i = 0 then pinClaimWrite r m v s
  else match r, i with
    | .adc c, 8 =>
      let (ph, s) := s.freeNat
      if v % 2 = 1 then pinOwnerWrite r m off (adcGo c m (16 * s.tick + ph % 16)) s
      else pinOwnerWrite r m off id s
    | .po o, 8 => swlvlWrite o m v s
    | _, 4 => pinOwnerWrite r m off (·.writeCodes lv off v) s
    | _, _ => s.writeCodes lv off v

/-- A register of the block read: BUSY of R583. -/
def pinRead (off : Nat) (s : State) : Nat :=
  match pinAt off with
  | (.adc c, 12) => setBits (s.regN off) 0 1 (b2n (s.adcBusy c (16 * s.tick)))
  | _ => s.regN off

end Sys2Proof.Machine
end

