-- ==== Sys2Proof/Machine/LaneRows.lean ====
section
/-! DEFINITION. The commands of the lanes and of their messages and queues (14 R516–R563, R572–R574). -/

namespace Sys2Proof.Machine

/-! ### Ownership and configuration writes, R517 to R522 -/

/-- Whether master m owns lane l. -/
def State.ownsLane (s : State) (m l : Nat) : Bool :=
  let o := R.LANE_CLAIM l
  s.flag o F.LANE_CLAIM_OWNED && s.fld o F.LANE_CLAIM_OWNER == m

/-- A write by a master that does not own the lane, R522. -/
def laneClerr (l m off : Nat) (s : State) : State :=
  logCairn .link 0x02 [⟨8, l⟩, dfMaster m, dfOff off] (s.setFld (R.LANE_STAT l) F.LANE_STAT_CLERR 1)

/-- A write to an owner-only register, R522. -/
def ownerWrite (l m off : Nat) (f : State → State) (s : State) : State :=
  if s.ownsLane m l then f s else laneClerr l m off s

/-- EN = 1 is refused, R517 and R560. -/
def laneRefused (s : State) (l : Nat) : Bool :=
  let o := R.LANE_CFG l
  let mode := s.fld o F.LANE_CFG_MODE
  let rate := s.fld o F.LANE_CFG_RATE
  let r := s.fld o F.LANE_CFG_RLANE
  let ret := s.flag o F.LANE_CFG_RET
  ((mode == 3 || mode == 4) && l % 4 != 0)
    || (mode == 5 && (List.range 4).any fun i => s.laneMode (l / 4 * 4 + i) != 5)
    || (mode == 7 && (decide (rate < 1250) || decide (28125 < rate)))
    || (ret && mode != 1 && mode != 2)
    || (s.flag o F.LANE_CFG_RING
        && (r / 128 != l / 128 || !s.flag (R.LANE_CFG r) F.LANE_CFG_RET || s.laneMode r != mode))

/-- A write of LANE[l].CFG by the owner, R517 to R520. -/
def laneCfgApply (l : Nat) (lv : Level) (v : Nat) (s : State) : State :=
  let o := R.LANE_CFG l
  let on := v % 2 == 1
  let others := setBits (rowWrite lv s.mlock (((regAt o).map (·.1.fields)).getD []) (s.regN o) v) 0 1 0
  if s.laneSt l ≠ 0 then
    if others ≠ setBits (s.regN o) 0 1 0 then laneStateReject l o s
    else if on then s else laneOff l (s.setFld o F.LANE_CFG_EN 0)
  else
    let s := s.setRegN o others
    if !on then s
    else if s.laneMode l = 0 then s.setFld o F.LANE_CFG_EN 1
    else if laneRefused s l then
      logCairn .link 0x04 [⟨8, l⟩, ⟨3, s.laneMode l⟩] (s.setFld (R.LANE_STAT l) F.LANE_STAT_ERRCFG 1)
    else setLaneSt l 1 (s.setFld o F.LANE_CFG_EN 1)

/-- A write of LANE[l].CFG, R520 and R522. -/
def laneCfgWrite (l m : Nat) (lv : Level) (v : Nat) (s : State) : State :=
  ownerWrite l m (R.LANE_CFG l) (laneCfgApply l lv v) s

/-- A CFG write with EN = 1, R517. -/
def execLaneEnable (l : Fin 256) (m : Fin 48) (v : Payload) (s : State) : Res :=
  ok (laneCfgWrite l m .u (setBits v.toNat 0 1 1) s)
/-- A CFG write with EN = 0, R519. -/
def execLaneDisable (l : Fin 256) (m : Fin 48) (v : Payload) (s : State) : Res :=
  ok (laneCfgWrite l m .u (setBits v.toNat 0 1 0) s)

/-- REL = 1 written by master m, R521: rejected but from the owner of a lane that is OFF. -/
def laneRelease (l m : Nat) (s : State) : State :=
  if s.laneSt l = 0 ∧ s.ownsLane m l then s.setFld (R.LANE_CLAIM l) F.LANE_CLAIM_OWNED 0
  else laneStateReject l (R.LANE_CLAIM l) s

/-- REQ = 1 written by master m, R521 and R581. -/
def laneRequest (l m : Nat) (s : State) : State :=
  let o := R.LANE_CLAIM l
  if s.ownsLane m l then s
  else if isClaimant m && !s.flag o F.LANE_CLAIM_OWNED then
    ((s.setFld o F.LANE_CLAIM_OWNER m).setFld o F.LANE_CLAIM_OWNED 1).setFld o F.LANE_CLAIM_RES 1
  else logCairn .link 0x03 [⟨8, l⟩, dfMaster m, dfMaster (s.fld o F.LANE_CLAIM_OWNER)]
    (s.setFld o F.LANE_CLAIM_RES 2)

/-- A write of LANE[l].CLAIM, R521: REL first, then REQ, R578. -/
def laneClaimWrite (l m v : Nat) (s : State) : State :=
  let s := if bit v F.LANE_CLAIM_REL.lo then laneRelease l m s else s
  if bit v F.LANE_CLAIM_REQ.lo then laneRequest l m s else s

/-- R521. -/
def execLaneClaim (l : Fin 256) (m : Fin 48) (s : State) : Res :=
  ok (laneClaimWrite l m (2 ^ F.LANE_CLAIM_REQ.lo) s)
/-- R521. -/
def execLaneRelease (l : Fin 256) (m : Fin 48) (s : State) : Res :=
  ok (laneClaimWrite l m (2 ^ F.LANE_CLAIM_REL.lo) s)

/-- A write of LANE[l].TXCFG, R553: rejected when the shares of the die would exceed 512 Ki words. -/
def txcfgApply (l : Nat) (v : Nat) (s : State) : State :=
  let o := R.LANE_TXCFG l
  let s' := s.writeCodes .u o v
  let total := ((List.range 128).map fun i => s'.fld (R.LANE_TXCFG (l / 128 * 128 + i)) F.LANE_TXCFG_TXQW).sum
  if 0x80000 < total then laneStateReject l o s else s'

/-- R553 and R522. -/
def txcfgWrite (l m v : Nat) (s : State) : State := ownerWrite l m (R.LANE_TXCFG l) (txcfgApply l v) s

/-- R553. -/
def execTxqwWrite (l : Fin 256) (m : Fin 48) (v : Payload) (s : State) : Res := ok (txcfgWrite l m v.toNat s)

/-! ### Lane state, R518 -/

/-- The port of an Ethernet lane has all its lanes UP. -/
def State.portUp (s : State) (p : Nat) : Bool :=
  let up (l : Nat) : Bool := s.laneSt l == 2
  match s.laneMode (4 * p) with
  | 3 => up (4 * p)
  | 4 => up (4 * p)
  | 5 => (List.range 4).all fun i => up (4 * p + i)
  | _ => false

/-- A lane in TRAIN acquires lock, R518; on a CASC lane endpoint 0 is the other device, R563. -/
def laneLocked (l : Nat) (s : State) : State :=
  if s.laneSt l = 1 then
    let st := if s.flag (R.LANE_CFG l) F.LANE_CFG_RET then 4 else 2
    let s := setLaneSt l st s
    if s.laneMode l = 6 then setEpSt l 0 2 (s.setReg (R.EP_SEQ l 0) 0) else s
  else s

/-- Lock acquired, R518: for ETH100 it is the lock and the alignment of all four lanes of the port, each of which is
on. -/
def laneLock (l : Nat) (s : State) : State :=
  if s.laneMode l = 5 then
    let four := (List.range 4).map fun i => l / 4 * 4 + i
    if four.all fun i => s.laneSt i != 0 then four.foldl (fun s i => laneLocked i s) s else s
  else laneLocked l s

/-- R518. -/
def execLaneLock (l : Fin 256) (s : State) : Res := ok (laneLock l s)

/-- Lock lost, R518; with a ring, reversal starts, R561. -/
def laneFault (l : Nat) (s : State) : State :=
  let st := s.laneSt l
  if st = 2 ∨ st = 4 then
    let s := s.setLane l { s.lane l with before := st, faultAt := s.tick }
    let s := setLaneSt l 3 s
    if (s.returnOf l).isSome then startReversal l [] s else s
  else s

/-- R518. -/
def execLaneFault (l : Fin 256) (s : State) : Res := ok (laneFault l s)

/-- Lock held again for 1 ms, 100,000 ticks, R518. -/
def execLaneRecover (l : Fin 256) (s : State) : Res :=
  ok (if s.laneSt l = 3 ∧ (s.lane l).faultAt + 100000 ≤ s.tick then setLaneSt l (s.lane l).before s else s)

/-! ### Transmission, R546 -/

/-- The endpoints whose frames a lane carries: its own that are not REV, or those of the ring it returns. -/
def State.carried (s : State) (l : Nat) : List (Nat × Nat) :=
  if s.laneSt l = 4 then
    match s.mainOf l with
    | some a => ((List.range 16).filter fun e => s.epRev a e).map fun e => (a, e)
    | none => []
  else if s.laneSt l = 2 then ((List.range 16).filter fun e => !s.epRev l e).map fun e => (l, e)
  else []

/-- The oldest frame that waits to be sent again: its lane, endpoint and place. -/
def oldestAgain (s : State) (es : List (Nat × Nat)) : Option (Nat × Nat × QFrame) :=
  let c := es.flatMap fun p => ((s.ep p.1 p.2).unack.filter (·.again)).map fun q => (p.1, p.2, q)
  c.foldl (fun b x => match b with
    | none => some x
    | some y => if x.2.2.ord < y.2.2.ord then some x else some y) none

/-- The endpoint whose FIFO is served next, R546: one whose window permits it (R542), in rotation after the last
served. -/
def nextFifo (s : State) (l : Nat) (es : List (Nat × Nat)) : Option (Nat × Nat) :=
  let can (p : Nat × Nat) : Bool :=
    let un := s.epSeq p.1 p.2 F.EP_SEQ_TXUNACK
    let nx := s.epSeq p.1 p.2 F.EP_SEQ_TXNEXT
    !(s.ep p.1 p.2).fifo.isEmpty && decide ((nx + 65536 - un) % 65536 < 64)
  let last := (s.lane l).lastEp
  let order := (es.filter fun p => decide (last < p.2)) ++ es.filter fun p => decide (p.2 ≤ last)
  order.find? can

/-- A QUERY has gone out on a lane: the 20 µs of the discovery, or of the reversal of the lane whose ring it returns,
begin, R536 and R561. -/
def queryOut (l : Nat) (s : State) : State :=
  if s.laneSt l = 4 then
    match s.mainOf l with
    | some a => s.setLane a { s.lane a with revQuery := some s.tick }
    | none => s
  else if (s.lane l).disc = .collect none then s.setLane l { s.lane l with disc := .collect (some s.tick) }
  else s

/-- A frame put on the wire, after at least one idle block, R524. -/
def putOnWire (l : Nat) (f : YFrame) (s : State) : State :=
  let f := if f.ty = 4 ∧ f.sub = 1 then { f with bearing := s.tickP } else f
  let s := if f.ty = 7 ∧ f.sub = 0 then queryOut l s else s
  laneCount l 1 (s.setLane l { s.lane l with wire := yBytes f, blocks := .idle :: yBlocks (yBytes f) })

/-- A new frame of an endpoint FIFO sent: it takes TXNEXT, and its message has begun, R542, R549 and R551. -/
def sendNew (l a e : Nat) (s : State) : State :=
  let x := s.ep a e
  match x.fifo with
  | [] => s
  | q :: qs =>
    let seq := s.epSeq a e F.EP_SEQ_TXNEXT
    let (late, s) := match q.src with
      | .msg m => (s.flag (R.MSG_STAT m) F.MSG_STAT_LATE, s.setFld (R.MSG_STAT m) F.MSG_STAT_STATE 2)
      | _ => (q.f.late, s)
    let f := { q.f with seq := seq, late := late }
    let x := s.ep a e
    let s := s.setEp a e { x with
      fifo := qs,
      unack := x.unack ++ [{ q with f := f, ord := (s.lane a).sends }],
      since := if x.unack.isEmpty then s.tick else x.since }
    let s := s.setFld (R.EP_SEQ a e) F.EP_SEQ_TXNEXT (seq + 1)
    let s := s.setLane a { s.lane a with sends := (s.lane a).sends + 1 }
    putOnWire l f (s.setLane l { s.lane l with lastEp := e })

/-- One frame slot of a lane, R546. -/
def frameSlot (l : Nat) (s : State) : State :=
  let y := s.lane l
  let es := s.carried l
  if s.link.stopped || (s.laneSt l != 2 && s.laneSt l != 4) then s
  else match y.ctl with
    | f :: fs => putOnWire l f (s.setLane l { y with ctl := fs })
    | [] =>
      match y.timed with
      | f :: fs => putOnWire l f (s.setLane l { y with timed := fs })
      | [] =>
        match oldestAgain s es with
        | some (a, e, q) =>
          let x := s.ep a e
          let s := s.setEp a e { x with
            unack := x.unack.map fun r => if r.ord = q.ord then { r with again := false } else r }
          laneCount l 3 (putOnWire l { q.f with retx := true } s)
        | none =>
          match nextFifo s l es with
          | some (a, e) => sendNew l a e s
          | none => s

/-- R546; queueing requests whose reads waited are tried again first. -/
def execFrameTransmit (l : Fin 256) (s : State) : Res := ok (frameSlot l (retryAsks l s))

/-! ### Reception -/

/-- A sequenced frame arrives, R526, R539, R556; on a CASC lane also a SETSEQ of the other device, R543 and R563. -/
def execDataRx (l : Fin 256) (bs : List (BitVec 8)) (s : State) : Res :=
  ok (laneReceive l bs (fun f s =>
    match s.rxLane l with
    | none => s
    | some a => match s.rxEp a f with
      | some e =>
        if f.ty = 1 ∨ f.ty = 2 then dataReceived a e f s
        else if f.ty = 4 ∧ f.sub = 0 ∧ s.laneMode a = 6 then setseqReceived a e f.seq s
        else s
      | none => s) s)

/-- An ACK arrives, R542. -/
def execAck (l : Fin 256) (bs : List (BitVec 8)) (s : State) : Res :=
  ok (laneReceive l bs (fun f s =>
    match s.rxLane l with
    | none => s
    | some a => match s.rxEp a f with
      | some e => if f.ty = 5 then ackReceived a e f.seq s else s
      | none => s) s)

/-- A NAK arrives, R542. -/
def execNak (l : Fin 256) (bs : List (BitVec 8)) (s : State) : Res :=
  ok (laneReceive l bs (fun f s =>
    match s.rxLane l with
    | none => s
    | some a => match s.rxEp a f with
      | some e => if f.ty = 6 then nakReceived a e f.seq (laneCount a 5 s) else s
      | none => s) s)

/-- ACKDLY after the first unacknowledged accepted frame, the device acknowledges, R541. -/
def execAckDelayExpiry (l : Fin 256) (e : Fin 16) (s : State) : Res :=
  let x := s.ep l e
  ok (if x.ackN ≠ 0 ∧ x.ackFrom + s.fld (R.LANE_TIMING l) F.LANE_TIMING_ACKDLY ≤ s.tick then
      sendAck l e (s.epSeq l e F.EP_SEQ_RXEXP) s
    else s)

/-- The ASSIGN or SETSEQ of an endpoint sent again. -/
def resendCtl (l e : Nat) (x : Endpt) (s : State) : State :=
  match x.assign, x.setseq with
  | some r, _ => sendAssign l e r s
  | none, some v => sendSetseq l e v s
  | none, none => s

/-- RTO ticks without progress, R542 to R544: of the unacknowledged frames, and of the ASSIGN or SETSEQ that waits. -/
def rtoExpiry (l e : Nat) (s : State) : State :=
  let x := s.ep l e
  let rto := s.fld (R.LANE_TIMING l) F.LANE_TIMING_RTO
  let most := max 1 (s.fld (R.LANE_TIMING l) F.LANE_TIMING_RETRYMAX)
  let data : Bool := !x.unack.isEmpty && decide (x.since + rto ≤ s.tick)
  let ctl : Bool := (x.setseq.isSome || x.assign.isSome) && decide (x.ctlSince + rto ≤ s.tick)
  let y := { x with
    expiries := if data then x.expiries + 1 else x.expiries,
    since := if data then s.tick else x.since,
    ctlExpiries := if ctl then x.ctlExpiries + 1 else x.ctlExpiries,
    ctlSince := if ctl then s.tick else x.ctlSince }
  let s := s.setEp l e y
  if (data && decide (most ≤ y.expiries)) || (ctl && decide (most ≤ y.ctlExpiries)) then
    if (s.returnOf l).isSome then startReversal l [e] s else discoveryCheck l (epDown l e s)
  else
    let s := if data then resendAll l e s else s
    if ctl then resendCtl l e x s else s

/-- R542. -/
def execRtoExpiry (l : Fin 256) (e : Fin 16) (s : State) : Res := ok (rtoExpiry l e s)

/-! ### Discovery, R535 and R536 -/

/-- A write of CMD.DISC = 1, R536. -/
def discStart (l : Nat) (s : State) : State :=
  if (s.lane l).disc ≠ .idle ∨ s.msgsOf (·.lane == l) ≠ [] then laneStateReject l (R.LANE_CMD l) s
  else
    let o := R.LANE_DISCST l
    let s := (s.setFld o F.LANE_DISCST_BUSY 1).setFld o F.LANE_DISCST_NFOUND 0
    let s := s.setLane l { s.lane l with disc := .collect none, reports := [] }
    pushCtl l { ty := 7, bc := true, sub := 0 } (pushCtl l { ty := 7, bc := true, sub := 3 } s)

/-- A write of CMD.UNREV = 1, R562. -/
def unrev (l : Nat) (s : State) : State :=
  if s.laneSt l ≠ 2 then laneStateReject l (R.LANE_CMD l) s
  else ((List.range 16).filter (s.epRev l ·)).foldl (fun s e =>
    resendAll l e (s.setFld (R.EP_STAT l e) F.EP_STAT_REV 0)) s

/-- A write of LANE[l].CMD. -/
def laneCmdWrite (l m v : Nat) (s : State) : State :=
  ownerWrite l m (R.LANE_CMD l) (fun s =>
    let s := if bit v 0 then discStart l s else s
    if bit v 1 then unrev l s else s) s

/-- R536. -/
def execDisc (l : Fin 256) (m : Fin 48) (s : State) : Res := ok (laneCmdWrite l m 1 s)
/-- R562. -/
def execUnrev (l : Fin 256) (m : Fin 48) (s : State) : Res := ok (laneCmdWrite l m 2 s)

/-- The REPORT of a DISC frame, R535. -/
def reportOf (f : YFrame) : Report :=
  let b := f.body
  { uid := BitVec.ofNat 48 (numOf (b.take 6)), cap := BitVec.ofNat 48 (numOf ((b.drop 6).take 6)),
    flags := byteAt b 12 % 8, ep := byteAt b 13 % 16, hop := byteAt b 14 }

/-- A REPORT for lane a arrives on lane l within 20 µs of the QUERY, R536 and R561: on the return lane it belongs to a
reversal that runs. -/
def reportReceived (l a : Nat) (f : YFrame) (s : State) : State :=
  let y := s.lane a
  match (if a = l then none else y.revQuery), y.disc with
  | some t, _ => if s.tick ≤ t + 2000 then s.setLane a { y with revReports := y.revReports ++ [reportOf f] } else s
  | none, .collect (some t) => if s.tick ≤ t + 2000 then s.setLane a { y with reports := y.reports ++ [reportOf f] } else s
  | none, _ => s

/-- R535. -/
def execReport (l : Fin 256) (bs : List (BitVec 8)) (s : State) : Res :=
  ok (laneReceive l bs (fun f s =>
    match s.rxLane l with
    | none => s
    | some a => if f.ty = 7 ∧ f.sub = 1 ∧ f.up ∧ f.body.length = 16 then reportReceived l a f s else s) s)

/-- REPORTs ranked by HOP, those that arrived first before others of one HOP, R536. -/
def rankReports (rs : List Report) : List Report := rs.mergeSort fun a b => decide (a.hop ≤ b.hop)

/-- An endpoint that held an address has lost it to the RESET of a discovery: its messages end FAILED and its frames
are discarded. (DEDUCED, log entry 62.) -/
def epForget (l e : Nat) (s : State) : State :=
  if s.epSt l e = 0 then s
  else
    let s := (s.msgsOf fun g => g.lane == l && g.ep == e).foldl (fun s m => msgEnd m 4 s) s
    ((s.setReg (R.EP_SEQ l e) 0).setFld (R.EP_STAT l e) F.EP_STAT_REV 0).setEp l e { noted := (s.ep l e).noted }

/-- The collection ends, R536 steps 2 and 3. -/
def discoveryCollect (l : Nat) (s : State) : State :=
  match (s.lane l).disc with
  | .collect (some t) =>
    if t + 2000 ≤ s.tick then
      let rs := (s.lane l).reports
      let dup (r : Report) : Bool := decide (1 < (rs.filter fun q => q.uid == r.uid).length)
      let good := rankReports (rs.filter (!dup ·))
      let o := R.LANE_DISCST l
      let s := if rs.any dup then s.setFld o F.LANE_DISCST_DUPUID 1 else s
      let s := if 16 < good.length then s.setFld o F.LANE_DISCST_OVF 1 else s
      let pick := good.take 16
      let s := s.setFld o F.LANE_DISCST_NFOUND pick.length
      let s := s.setLane l { s.lane l with disc := .assign, reports := [] }
      let s := (List.range 16).foldl (fun s e =>
        let s := epForget l e s
        if e < pick.length then s else setEpSt l e 0 s) s
      let s := pick.zipIdx.foldl (fun s p =>
        let s := s.setEp l p.2 {}
        let s := (s.setReg (R.EP_SEQ l p.2) 0).setFld (R.EP_STAT l p.2) F.EP_STAT_REV 0
        sendAssign l p.2 p.1 (setEpSt l p.2 1 s)) s
      discoveryCheck l s
    else s
  | _ => s

/-- R536. -/
def execDiscoveryCollectEnd (l : Fin 256) (s : State) : Res := ok (discoveryCollect l s)

/-- A reversal may complete: 20 µs have passed since its QUERY went out, or 50 µs since it started, R561. -/
def Lane.reversalDue (y : Lane) (start tick : Nat) : Bool :=
  (match y.revQuery with
    | some t => decide (t + 2000 ≤ tick)
    | none => false) || decide (start + 5000 ≤ tick)

/-- A reversal completes, R561. -/
def reversalComplete (l : Nat) (s : State) : State :=
  let y := s.lane l
  match y.rev, s.returnOf l with
  | some t, some r =>
    if y.reversalDue t s.tick then
      let moved := (List.range 16).filter fun e =>
        (s.epSt l e == 1 || s.epSt l e == 2) && y.revReports.any fun p => p.ep == e && bit p.flags 1
      let s := s.setLane l { s.lane l with rev := none, revQuery := none, revReports := [], failed := [] }
      let s := moved.foldl (fun s e =>
        let s := s.setFld (R.EP_STAT l e) F.EP_STAT_REV 1
        resendAll l e (s.setEp l e { s.ep l e with expiries := 0, since := s.tick, ctlExpiries := 0 })) s
      let s := (y.failed.filter fun e => !moved.contains e).foldl (fun s e => discoveryCheck l (epDown l e s)) s
      let s := laneEvt l F.LANE_EVT_REV s
      logCairn .link 0x07 [⟨8, l⟩, ⟨8, r⟩, ⟨16, (moved.map (2 ^ ·)).sum⟩] s
    else s
  | _, _ => s

/-- R561. -/
def execReversalComplete (l : Fin 256) (s : State) : Res := ok (reversalComplete l s)

/-! ### Messages, POS and TIME frames, STREAM, queues -/

/-- A write of LANE[l].MSGQ, R549 and R522. A request whose descriptor or words must be waited for
is kept. -/
def msgqWrite (l m v : Nat) (s : State) : State :=
  ownerWrite l m (R.LANE_MSGQ l) (fun s => match msgTry l (v % 4096) false s with
    | .got _ s => s
    | .wait s => askLater { lane := l, m := v % 4096, fb := false, late := false } s) s

/-- R549. -/
def execMsgq (l : Fin 256) (m : Fin 48) (v : Payload) (s : State) : Res := ok (msgqWrite l m v.toNat s)

/-- The words of an axis in a POS frame, R554 and R666. -/
def posWords (s : State) (extra n : Nat) : List Payload :=
  let a := s.axis n
  [BitVec.ofNat 48 (n + 16 * a.st.code + extra), a.bearing, BitVec.ofNat 48 (patternOf 48 a.velNow)]

/-- A timed frame due on a lane that is UP, and on its return lane while any endpoint is REV, R561. -/
def timedFrame (l : Nat) (f : YFrame) (s : State) : State :=
  let add (a : Nat) (s : State) : State := s.setLane a { s.lane a with timed := (s.lane a).timed ++ [f] }
  let s := if s.laneSt l = 2 then add l s else s
  if (List.range 16).any (s.epRev l ·) then match s.returnOf l with
    | some r => add r s
    | none => s
  else s

/-- Timed frames of a lane go out: it is UP, or it is in FAULT and its ring serves it. -/
def State.timedOn (s : State) (l : Nat) : Bool :=
  !s.link.stopped && (s.laneSt l == 2 || (s.laneSt l == 3 && (List.range 16).any (s.epRev l ·)))

/-- A POS frame is due on a lane: PERIOD ticks have passed since the last, R554; on a CASC lane only a DATUM sends them,
R666. -/
def State.posDue (s : State) (l : Nat) : Bool :=
  s.timedOn l && s.fld (R.LANE_POSCFG l) F.LANE_POSCFG_PERIOD != 0 && decide ((s.lane l).posAt ≤ s.tick)
    && (s.laneMode l != 6 || (s.fld R.CASC_CFG F.CASC_CFG_ROLE == 1 && !s.casc.taking))

/-- A POS frame is built at the end of a tick, R554. -/
def posPeriod (l : Nat) (s : State) : State :=
  let cfg := R.LANE_POSCFG l
  let casc := s.laneMode l = 6
  if !s.posDue l then s
  else
    let s := s.setLane l { s.lane l with posAt := s.tick + s.fld cfg F.LANE_POSCFG_PERIOD }
    let extra := if casc then
        s.fld R.CASC_CFG F.CASC_CFG_ID * 2 ^ 7 + 2 ^ 10 + s.fld R.CASC_EPOCH F.CASC_EPOCH_EPOCH * 2 ^ 11
      else 0
    let mask := s.fld cfg F.LANE_POSCFG_AXMASK
    let ws := ((List.range 16).filter fun n => bit mask n).flatMap (posWords s extra)
    timedFrame l { ty := 3, bc := true, tag := Tags.raw, bearing := s.tickP - 1, body := wordBytes ws } s

/-- R554. -/
def execPosPeriod (l : Fin 256) (s : State) : Res := ok (posPeriod l s)

/-- A SYNC TIME frame becomes due, 1,000 ticks after the last, R555; its BEARING is filled when it is sent. -/
def timePeriod (l : Nat) (s : State) : State :=
  if s.timedOn l && s.flag (R.LANE_TIMING l) F.LANE_TIMING_TIMEN && decide ((s.lane l).timeAt ≤ s.tick) then
    timedFrame l { ty := 4, bc := true, sub := 1 } (s.setLane l { s.lane l with timeAt := s.tick + 1000 })
  else s

/-- R555. -/
def execTimePeriod (l : Fin 256) (s : State) : Res := ok (timePeriod l s)

/-- A STREAM from a site delivered, R357, R545 and R552: one DATA frame to endpoint STREP of lane STID; false while the
lane's share is full, for which it waits under credit. It is discarded where no queue is open, and one that would cross
a link that is down is lost. (DESIGN CHOICE, log entry 44.) -/
def streamDeliver (x : Nat) (p : PIn) (s : State) : Bool × State :=
  let l := bits p.hdr.toNat 96 8
  if s.pathDown (siteDie x) (laneDie l) then (true, s)
  else if s.laneSt l = 0 then (true, logCairn .passage 0x08 [dfUnit 10 x, ⟨8, l⟩] s)
  else if !s.flag (R.LANE_TXCFG l) F.LANE_TXCFG_STR then (true, logCairn .link 0x0A [⟨8, l⟩, ⟨8, l⟩] s)
  else if s.laneSpace l < p.ws.length ∨ s.link.stopped then (false, s)
  else (true, queueFrame l .site (dataFrame false (s.fld (R.LANE_TXCFG l) F.LANE_TXCFG_STREP) 0 0 true false p.ws) s)

/-- STREAM transactions delivered, in the order received for each STID, R361; `held` has the STIDs that wait. -/
def streamFrom (x : Nat) : List PIn → List PIn → List Nat → State → State
  | [], kept, _, s => s.setSite x { s.site x with strq := kept }
  | p :: ps, kept, held, s =>
    let id := bits p.hdr.toNat 96 8
    if id ∈ held then streamFrom x ps (kept ++ [p]) held s
    else match streamDeliver x p s with
      | (false, s) => streamFrom x ps (kept ++ [p]) (id :: held) s
      | (true, s) => streamFrom x ps kept held (siteFlush x (s.setSite x ((s.site x).free 2 p.slots)))

/-- The waiting STREAM transactions of a site tried. -/
def streamServe (x : Nat) (s : State) : State :=
  match (s.site x).strq with
  | [] => s
  | l => streamFrom x l [] [] s

/-- A STREAM transaction from a site: its credits are taken, R358, its containers are decoded, R351, and it is delivered
after those that wait. -/
def streamReceived (x : Nat) (t : PTx) (s : State) : State :=
  let h := t.hdr.toNat
  let d := dataSlots t.data.length
  if !(s.site x).gotInit || bits h 89 7 != 0 || bits h 104 88 != 0 then protocolError x t.hdr s
  else match (s.site x).theirs.take 2 d with
    | none => protocolError x t.hdr s
    | some c =>
      let r := siteDecode x (dfMaster (40 + 4 * x + bits h 8 2)) t.data (s.setSite x { s.site x with theirs := c })
      let y := r.2.site x
      streamServe x (r.2.setSite x { y with strq := y.strq ++ [{ hdr := t.hdr, ws := r.1, slots := d }] })

/-- R357. -/
def execStream (x : Fin 2) (hdr : BitVec 192) (data : List Container) (s : State) : Res :=
  ok (if s.siteLive x && hdr.toNat % 16 == 5 && lenMatches hdr data then streamReceived x (rowTx hdr data) s else s)

/-- A write of a receive-queue register, R520 and R559: TAIL is taken mod NSLOT; the others are rejected while
the queue is enabled, but for a CFG write that changes EN alone. -/
def queueWrite (k q : Nat) (off v : Nat) (s : State) : State :=
  let cfg := R.Q_CFG k q
  if off = R.Q_TAIL k q then s.setFld off F.Q_TAIL_TAIL (v % 2 ^ 16 % s.nslot k q)
  else if s.flag cfg F.Q_CFG_EN && !(off == cfg && setBits (v % 2 ^ 8) 0 1 1 == s.regN cfg) then
    logCairn .link 0x01 [dfUnit 6 (32 * k + q), dfOff off] (s.setFld (R.Q_STAT k q) F.Q_STAT_STERR 1)
  else s.writeCodes .u off v

/-- R559. -/
def execQueueTailWrite (k : Fin 2) (q : Fin 32) (v : Payload) (s : State) : Res :=
  ok (queueWrite k q (R.Q_TAIL k q) v.toNat s)

end Sys2Proof.Machine
end

