-- ==== Sys2Proof/Machine/Ether.lean ====
section
/-! DEFINITION. Ethernet ports and their PTP clocks (14 R564–R571, R575). -/

namespace Sys2Proof.Machine

/-! ### The PTP clock, R569, in units of 2^−32 ns -/

/-- The nanoseconds in a second. -/
def nsPerSec : Nat := 1000000000

/-- The clock of port p. -/
def State.ptpClock (s : State) (p : Nat) : Nat :=
  (s.regN (R.ETH_PTPSEC p) * nsPerSec + s.fld (R.ETH_PTPNS p) F.ETH_PTPNS_NS) * 2 ^ 32 + (s.eth p).frac

/-- The clock set, modulo the range of PTPSEC. -/
def setPtpClock (p : Nat) (x : Int) (s : State) : State :=
  let t := (x % ((2 : Int) ^ 48 * nsPerSec * 2 ^ 32)).toNat
  let ns := t / 2 ^ 32
  let s := (s.setRegN (R.ETH_PTPSEC p) (ns / nsPerSec)).setFld (R.ETH_PTPNS p) F.ETH_PTPNS_NS (ns % nsPerSec)
  s.setEth p { s.eth p with frac := t % 2 ^ 32 }

/-- The clock advanced over the 16 GCLK of a tick. -/
def ptpTick (p : Nat) (s : State) : State := setPtpClock p (s.ptpClock p + 16 * s.regN (R.ETH_PTPINC p)) s

/-- A step of PTPADJ: the signed number of nanoseconds written. -/
def ptpStep (p v : Nat) (s : State) : State := setPtpClock p (s.ptpClock p + signedOf 48 v * 2 ^ 32) s

/-- The clock at GCLK phase `ph` of this tick, with a correction in units of 625 ps, R570: seconds and
nanoseconds. -/
def State.ptpStamp (s : State) (p ph : Nat) (corr : Int) : Nat × Nat :=
  let x : Int := s.ptpClock p + ph * s.regN (R.ETH_PTPINC p) + corr * (5 * 2 ^ 29)
  let ns := (x % ((2 : Int) ^ 48 * nsPerSec * 2 ^ 32)).toNat / 2 ^ 32
  (ns / nsPerSec, ns % nsPerSec)

/-- PTPSEC read: PTPNS is latched. -/
def ptpLatch (p : Nat) (s : State) : State := s.setEth p { s.eth p with latch := some (s.reg (R.ETH_PTPNS p)) }

/-- A register of a port read; PTPNS gives the latched value once. -/
def ethRead (p off : Nat) (s : State) : Nat × State :=
  if off = R.ETH_PTPSEC p then (s.regN off, ptpLatch p s)
  else if off = R.ETH_PTPNS p then
    match (s.eth p).latch with
    | some v => (v.toNat, s.setEth p { s.eth p with latch := none })
    | none => (s.regN off, s)
  else (s.regN off, s)

/-- TXPROD written by the owner, R568; with TXLEN = 0 the value is not stated. -/
def txprodSet (p v : Nat) (s : State) : State :=
  let n := s.fld (R.ETH_TXLEN p) F.ETH_TXLEN_LEN
  let o := R.ETH_TXPROD p
  if n = 0 then let (r, s) := s.freeNat; s.setFld o F.ETH_TXPROD_PROD r
  else s.setFld o F.ETH_TXPROD_PROD (v % 2 ^ 16 % n)

/-- A register of a port written: its owner is the owner of lane 4p, R522 and R575. -/
def ethWrite (p m : Nat) (lv : Level) (off v : Nat) (s : State) : State :=
  ownerWrite (4 * p) m off (fun s =>
    if off = R.ETH_TXPROD p then txprodSet p v s
    else if off = R.ETH_PTPADJ p then ptpStep p v s
    else s.writeCodes lv off v) s

/-! ### Headers -/

/-- A big-endian number. -/
def numBE (bs : List (BitVec 8)) : Nat := numOf bs.reverse
/-- Big-endian bytes of a number. -/
def bytesBE (x n : Nat) : List (BitVec 8) := (bytesOf x n).reverse
/-- The big-endian 16-bit number at a place. -/
def be16 (bs : List (BitVec 8)) (i : Nat) : Nat := 256 * byteAt bs i + byteAt bs (i + 1)

/-- The EtherType, behind one 802.1Q tag if there is one, and where the bytes after it start. -/
def etherType (bs : List (BitVec 8)) : Nat × Nat :=
  if be16 bs 12 = 0x8100 then (be16 bs 16, 18) else (be16 bs 12, 14)

/-- A UDP header, R566: its place, and whether it lies over IPv4. -/
structure Udp where
  at' : Nat
  v4 : Bool
  deriving DecidableEq, Repr

/-- The UDP header of a frame over IPv4, with the IHL honoured, or IPv6 without extension headers. -/
def udpOf (bs : List (BitVec 8)) : Option Udp :=
  let (et, o) := etherType bs
  if et = 0x0800 ∧ byteAt bs o / 16 = 4 ∧ byteAt bs (o + 9) = 17 then
    some { at' := o + 4 * (byteAt bs o % 16), v4 := true }
  else if et = 0x86DD ∧ byteAt bs o / 16 = 6 ∧ byteAt bs (o + 6) = 17 then some { at' := o + 40, v4 := false }
  else none

/-- The destination port. -/
def Udp.port (u : Udp) (bs : List (BitVec 8)) : Nat := be16 bs (u.at' + 2)

/-- Where the PTP message of a frame starts, R570. -/
def ptpAt (bs : List (BitVec 8)) : Option Nat :=
  let (et, o) := etherType bs
  if et = 0x88F7 then some o
  else match udpOf bs with
    | some u => if u.port bs = 319 then some (u.at' + 8) else none
    | none => none

/-! ### Reception, R565 to R567 -/

/-- The PTP group addresses of R565, first byte on the wire in [7:0]. -/
def ptpGroups : List Nat := [0x000000191B01, 0x0E0000C28001, 0x8101005E0001, 0x810100003333]

/-- The address filter of R565. -/
def addrPass (s : State) (p : Nat) (bs : List (BitVec 8)) : Bool :=
  let da := numOf (bs.take 6)
  let c := R.ETH_CFG p
  s.flag c F.ETH_CFG_PROM || da == s.regN (R.ETH_MAC p) || da == 2 ^ 48 - 1
    || (da % 2 == 1 && s.flag c F.ETH_CFG_MCALL)
    || ptpGroups.contains da

/-- The first enabled rule that matches, with the place where the payload starts, R566. -/
def ethRule (s : State) (p : Nat) (bs : List (BitVec 8)) : Option (Nat × Nat) :=
  (List.range 16).findSome? fun i =>
    let m := R.RULE_MATCH p i
    let v := s.fld m F.RULE_MATCH_VALUE
    if !s.flag m F.RULE_MATCH_EN || s.fld (R.RULE_ACT p i) F.RULE_ACT_UNPACK == 3 then none
    else if s.flag m F.RULE_MATCH_KIND then
      match udpOf bs with
      | some u => if u.port bs = v then some (i, u.at' + 8) else none
      | none => none
    else let (et, o) := etherType bs; if et = v then some (i, o) else none

/-- Four samples as a QUAD word. -/
def quadOf (f : Nat → Nat) : Word :=
  Word.quad (BitVec.ofNat 48 (f 0 % 4096 + f 1 % 4096 * 2 ^ 12 + f 2 % 4096 * 2 ^ 24 + f 3 % 4096 * 2 ^ 36))

/-- Payload bytes as words, R567: 0 BYTE6, 1 P12, 2 U16; a last partial word is filled with zero. -/
def unpack (mode : Nat) (bs : List (BitVec 8)) : List Word :=
  let n := bs.length
  if mode = 2 then (List.range ((n + 7) / 8)).map fun k =>
    quadOf fun i => byteAt bs (8 * k + 2 * i) + 256 * byteAt bs (8 * k + 2 * i + 1)
  else
    let six (k : Nat) : Nat := numOf ((List.range 6).map fun j => bs.getD (6 * k + j) 0)
    (List.range ((n + 5) / 6)).map fun k =>
      if mode = 1 then Word.quad (BitVec.ofNat 48 (six k)) else Word.raw (BitVec.ofNat 48 (six k))

/-- A frame put into a queue, R557 to R559 and R566: `r` is the rule, `dflt` says default queue. The ID of the
status word is not stated. (DEDUCED, log entry 65.) -/
def ethDeliver (p q r : Nat) (dflt : Bool) (mode ph : Nat) (bs : List (BitVec 8)) (s : State) : State :=
  let k := p / 32
  let cfg := R.Q_CFG k q
  if !s.flag cfg F.Q_CFG_EN || mode == 3 then s
  else if !s.flag cfg F.Q_CFG_MODE && s.ringFull k q then s.bump (R.Q_DROP k q) F.Q_DROP_DROP
  else
    let t := s.ptpStamp p ph (-(s.fld (R.ETH_TSLAT p) F.ETH_TSLAT_RXLAT : Int))
    let ws := (if s.flag cfg F.Q_CFG_TSEN then
        [Word.int (BitVec.ofNat 48 t.1), Word.int (BitVec.ofNat 48 t.2)] else []) ++ unpack mode bs
    let (n, s) := deliver k q ws s
    let (id, s) := s.freeNat
    writeStatus k q p r 2 (if dflt then 3 else if n < ws.length then 1 else 0) id n false s

/-- A Sync of the port's domain, R571; a PTP axis on this port has heard its source, R117. -/
def syncReceived (p : Nat) (s : State) : State :=
  let s := (s.setFld (R.ETH_PTPCTL p) F.ETH_PTPCTL_SYNCSEEN 1).bump (R.ETH_SYNCCNT p) F.ETH_SYNCCNT_SYNCCNT
  (List.range 16).foldl (fun s n =>
    if s.fld (R.AXIS_CFG n) F.AXIS_CFG_SRC = 4 ∧ s.fld (R.AXIS_CFG n) F.AXIS_CFG_INST = p then
      s.setAxis n { s.axis n with src := { (s.axis n).src with quiet := 0 } }
    else s) s

/-- A Sync in the domain of PTPCTL. -/
def isSync (s : State) (p : Nat) (bs : List (BitVec 8)) : Bool :=
  match ptpAt bs with
  | some o => byteAt bs o % 16 == 0 && byteAt bs (o + 4) == s.fld (R.ETH_PTPCTL p) F.ETH_PTPCTL_DOMAIN
  | none => false

/-- MAC data rate in bits per tick, R516. -/
def State.ethBits (s : State) (p : Nat) : Nat :=
  match s.laneMode (4 * p) with
  | 3 => 100
  | 4 => 250
  | _ => 1000

/-- A PAUSE frame of Annex 31B. -/
def isPause (bs : List (BitVec 8)) : Bool := be16 bs 12 == 0x8808 && be16 bs 14 == 1

/-- The tick until which a PAUSE of the given quanta stops transmission. (PRESUMED, log entry 64.) -/
def pauseUntil (s : State) (p quanta : Nat) : Nat := s.tick + (512 * quanta + s.ethBits p - 1) / s.ethBits p

/-- A frame with its FCS arrives, its timestamp point in GCLK phase `ph`, R565 to R567, R570 and R571. Whether
RXERR counts a frame of fewer than 64 bytes is not stated. -/
def ethReceive (p ph : Nat) (bs : List (BitVec 8)) (s : State) : State :=
  let body := bs.take (bs.length - 4)
  if !s.portUp p then s
  else if bs.length < 64 then
    let (r, s) := s.freeNat
    s.bump (R.ETH_CNTRS p 1) F.ETH_CNTRS_CNT (r % 2)
  else if numOf (bs.drop (bs.length - 4)) ≠ crc32 body ∨ s.fld (R.ETH_CFG p) F.ETH_CFG_MTU < bs.length then
    s.bump (R.ETH_CNTRS p 1) F.ETH_CNTRS_CNT
  else
    let s := s.bump (R.ETH_CNTRS p 0) F.ETH_CNTRS_CNT
    if isPause body && s.flag (R.ETH_CFG p) F.ETH_CFG_PAUSE then
      s.setEth p { s.eth p with pauseTo := pauseUntil s p (be16 body 16) }
    else if !addrPass s p body then s.bump (R.ETH_CNTRS p 2) F.ETH_CNTRS_CNT
    else
      let s := if isSync s p body then syncReceived p s else s
      match ethRule s p body with
      | some (i, o) =>
        let a := R.RULE_ACT p i
        if s.flag a F.RULE_ACT_DROP then s
        else ethDeliver p (s.fld a F.RULE_ACT_Q) i false (s.fld a F.RULE_ACT_UNPACK) ph (body.drop o) s
      | none =>
        let c := R.ETH_CFG p
        if s.flag c F.ETH_CFG_DQEN then
          let q := s.fld c F.ETH_CFG_DQ
          ethDeliver p q 0 true (s.fld (R.Q_CFG (p / 32) q) F.Q_CFG_UNPACK) ph body s
        else s

/-- R566. -/
def execEthRx (p : Fin 64) (ph : Fin 16) (bs : List (BitVec 8)) (s : State) : Res := ok (ethReceive p ph bs s)

/-! ### Transmission, R568 and R570 -/

/-- R568. -/
def execTxprod (p : Fin 64) (m : Fin 48) (v : Payload) (s : State) : Res :=
  ok (ethWrite p m .u (R.ETH_TXPROD p) v.toNat s)

/-- Bytes replaced from a place on. -/
def patchBytes (bs : List (BitVec 8)) (i : Nat) (new : List (BitVec 8)) : List (BitVec 8) :=
  bs.take i ++ new ++ bs.drop (i + new.length)

/-- A one-step Sync: a Sync over Layer 2 or UDP over IPv4; the place of its PTP message. -/
def oneStepAt (bs : List (BitVec 8)) : Option Nat :=
  match ptpAt bs with
  | some o =>
    let v6 : Bool := match udpOf bs with
      | some u => !u.v4 && (etherType bs).1 != 0x88F7
      | none => false
    if byteAt bs o % 16 = 0 ∧ v6 = false then some o else none
  | none => none

/-- originTimestamp inserted and the IPv4 UDP checksum cleared, R570. -/
def oneStep (o : Nat) (t : Nat × Nat) (bs : List (BitVec 8)) : List (BitVec 8) :=
  let bs := patchBytes bs (o + 34) (bytesBE t.1 6 ++ bytesBE t.2 4)
  match udpOf bs with
  | some u => if (etherType bs).1 = 0x0800 then patchBytes bs (u.at' + 6) [0, 0] else bs
  | none => bs

/-- TXCONS moved past a descriptor, whose status goes to queue CQ; with TXLEN = 0 the next index is not
stated. -/
def txDone (p cq st : Nat) (cev : Bool) (s : State) : State :=
  let o := R.ETH_TXCONS p
  let i := s.fld o F.ETH_TXCONS_CONS
  let n := s.fld (R.ETH_TXLEN p) F.ETH_TXLEN_LEN
  let (nx, s) := if n = 0 then s.freeNat else ((i + 1) % n, s)
  writeStatus (p / 32) cq p 0 3 st i 0 cev (s.setFld o F.ETH_TXCONS_CONS nx)

/-- The frame of the descriptor at TXCONS sent, padded to 60 bytes and with its FCS, its timestamp point in GCLK phase `ph`. A descriptor read that
must wait leaves the command without effect. -/
def ethSend (p ph : Nat) (s : State) : State :=
  let i := s.fld (R.ETH_TXCONS p) F.ETH_TXCONS_CONS
  if !s.portUp p || s.link.stopped || decide (s.tick < (s.eth p).pauseTo)
      || i == s.fld (R.ETH_TXPROD p) F.ETH_TXPROD_PROD then s
  else
    let k := p / 32
    let d := s.fld (R.ETH_TXBASE p) F.ETH_TXBASE_BASE + 16 * i
    match readWords (32 + k) d 2 s with
    | .wait s1 => keepWaiting s s1
    | .got (ws, bad) s1 =>
      let d0 := ws.getD 0 Word.uni0
      let d1 := (ws.getD 1 Word.uni0)
      let x := d1.pay.toNat
      let cq := bits x 16 5
      if bad || d0.tag != Tags.addr || d1.tag != Tags.int then txDone p cq 4 (bit x 21) s1
      else
        let n := bits x 0 14
        match readWords (32 + k) (bits d0.pay.toNat 0 42) ((n + 5) / 6) s1 with
        | .wait s2 => keepWaiting s s2
        | .got (_, true) s2 => txDone p cq 4 (bit x 21) s2
        | .got (fs, false) s2 =>
          let bs := (wordBytes (fs.map (·.pay))).take n
          let bs := bs ++ List.replicate (60 - bs.length) 0
          let t := s2.ptpStamp p ph (s2.fld (R.ETH_TSLAT p) F.ETH_TSLAT_TXLAT)
          let one := if bit x 15 then oneStepAt bs else none
          let bs := match one with
            | some o => oneStep o t bs
            | none => bs
          let s := s2.setEth p { s2.eth p with wire := bs ++ bytesOf (crc32 bs) 4 }
          let s := s.bump (R.ETH_CNTRS p 3) F.ETH_CNTRS_CNT
          let s := if bit x 14 && one.isNone then
              linkPush k [.store (d + 8) (Word.int (BitVec.ofNat 48 t.1)),
                .store (d + 12) (Word.int (BitVec.ofNat 48 t.2))] s
            else s
          txDone p cq 0 (bit x 21) s

/-- R568. -/
def execEthTx (p : Fin 64) (ph : Fin 16) (s : State) : Res := ok (ethSend p ph s)

/-- STAT.LINK follows the port's lanes; a change sets LCHG and raises event 512 + p, and a port that goes down
clears LOCK, R571 and R575. -/
def ethLinkChange (p : Nat) (s : State) : State :=
  let o := R.ETH_STAT p
  let up := s.portUp p
  if s.flag o F.ETH_STAT_LINK = up then s
  else
    let s := (s.setFld o F.ETH_STAT_LINK (b2n up)).setFld o F.ETH_STAT_LCHG 1
    let s := if up then s else s.setFld (R.ETH_PTPCTL p) F.ETH_PTPCTL_LOCK 0
    raise (512 + p) s

/-- R575. -/
def execEthLinkChange (p : Fin 64) (s : State) : Res := ok (ethLinkChange p s)
/-- R569. -/
def execPtpadj (p : Fin 64) (m : Fin 48) (v : Payload) (s : State) : Res :=
  ok (ethWrite p m .u (R.ETH_PTPADJ p) v.toNat s)
/-- R569. -/
def execPtpsecRead (p : Fin 64) (s : State) : Res := ok (ptpLatch p s)

end Sys2Proof.Machine
end

