-- ==== Sys2Proof/Machine/Axis.lean ====
section
/-! DEFINITION. The axes of the Traverse unit: sources, tracking filter, states and registers (04 R106–R122, R149,
17 R668–R670). -/

namespace Sys2Proof.Machine

/-! ### Sources, R107 and R668 -/

/-- The source type and instance an axis runs on: its CFG, or its CASC.ALT source after a takeover, R670. -/
def State.srcOf (s : State) (n : Nat) : Nat × Nat :=
  if s.casc.switched.contains n then (s.fld (R.CASC_ALT n) F.CASC_ALT_SRC, s.fld (R.CASC_ALT n) F.CASC_ALT_INST)
  else (s.fld (R.AXIS_CFG n) F.AXIS_CFG_SRC, s.fld (R.AXIS_CFG n) F.AXIS_CFG_INST)

/-- The local source that a STANDBY device tracks beside the axis's own, R669. -/
def State.altOf (s : State) (n : Nat) : Option (Nat × Nat) :=
  if (s.fld R.CASC_CFG F.CASC_CFG_ROLE == 3 || s.casc.taking) && bit (s.regN R.CASC_TAKEAX) n && !s.casc.switched.contains n then
    some (s.fld (R.CASC_ALT n) F.CASC_ALT_SRC, s.fld (R.CASC_ALT n) F.CASC_ALT_INST)
  else none

/-- The lane whose POS frames an axis takes, R668. -/
def State.cascLane (s : State) (inst : Nat) : Nat :=
  let role := s.fld R.CASC_CFG F.CASC_CFG_ROLE
  if (role = 2 ∨ role = 3)
      ∧ (inst = s.fld R.CASC_CFG F.CASC_CFG_DLANE ∨ inst = s.fld R.CASC_CFG F.CASC_CFG_ALANE) then
    s.fld R.CASC_STAT F.CASC_STAT_CURLANE
  else inst

/-- An encoder input is claimed for a use, R588. -/
def State.encUse (s : State) (e use : Nat) : Bool := decide (e < 16) && s.useOf (R.ENC_CLAIM e) == use

/-- One of the two tracked sources of an axis changed. -/
def modSrc (n : Nat) (alt : Bool) (f : SrcSt → SrcSt) (s : State) : State :=
  let x := s.axis n
  s.setAxis n (if alt then { x with alt := f x.alt } else { x with src := f x.src })

/-- The state of one of the two tracked sources. -/
def Axis.srcSt (x : Axis) (alt : Bool) : SrcSt := if alt then x.alt else x.src

/-- The type and instance of one of the two tracked sources, none while it is not tracked. -/
def State.tracked (s : State) (n : Nat) (alt : Bool) : Option (Nat × Nat) :=
  if (s.axis n).now = .off then none else if alt then s.altOf n else some (s.srcOf n)

/-- The number of a level pair in the forward sequence of R108. -/
def quadPhase (a b : Bool) : Nat := if a then (if b then 2 else 1) else (if b then 3 else 0)

/-- A legal count edge taken by a source, R108. -/
def countEdge (fwd : Bool) (ph : Nat) (x : SrcSt) : SrcSt :=
  if fwd then { x with n := x.n + 1, edge := some { fwd := true, ph := ph, b := (x.n + 1).toNat } }
  else { x with n := x.n - 1, edge := some { fwd := false, ph := ph, b := x.n.toNat } }

/-- QIFILT of a QUAD axis, R116. -/
def State.qifilt (s : State) (n : Nat) : Nat := s.fld (R.AXIS_SRCP n) F.AXIS_SRCP_QIFILT

/-- What an input filter passes: a level that has been stable long enough, else what it passed before, R116. -/
def filtered (need stable : Nat) (new old : Bool) : Bool := if need ≤ stable then new else old

/-- An illegal transition of a tracked source, R116 and R117. -/
def quadGlitch (n : Nat) (alt : Bool) (s : State) : State :=
  let s := modSrc n alt (fun x => { x with
    glitches := s.tick :: x.glitches.filter fun t => decide (s.tick < t + 1024) }) s
  if alt then s
  else (s.setFld (R.AXIS_STAT n) F.AXIS_STAT_GLITCH 1).setAxis n { s.axis n with glcnt := (s.axis n).glcnt + 1 }

/-- One tracked QUAD source takes what its input filters pass in GCLK phase `ph`, R108 and R116. -/
def quadTake (n : Nat) (alt : Bool) (ph : Nat) (a b : Bool) (sa sb : Nat) (s : State) : State :=
  let x := (s.axis n).srcSt alt
  let a' := filtered (s.qifilt n) sa a x.fa
  let b' := filtered (s.qifilt n) sb b x.fb
  let s := modSrc n alt (fun x => { x with
    fa := a'
    fb := b' }) s
  if a' == x.fa && b' == x.fb then s
  else if a' != x.fa && b' != x.fb then quadGlitch n alt s
  else
    let fwd := quadPhase a' b' == (quadPhase x.fa x.fb + 1) % 4
    modSrc n alt (countEdge (fwd != s.flag (R.AXIS_CFG n) F.AXIS_CFG_INV) ph) s

/-- The A and B levels of an encoder input in GCLK phase `ph`, and for how many GCLKs each has been stable, R108 and
R116. (DEDUCED, log entry 80.) -/
def quadEdge (e ph : Nat) (a b : Bool) (sa sb : Nat) (s : State) : State :=
  let o := R.ENC_STAT e
  let s := s.setRegN o (setBits (setBits (s.regN o) 0 1 (b2n a)) 1 1 (b2n b))
  if !s.encUse e 1 then s
  else (List.range 16).foldl (fun s n => [false, true].foldl (fun s alt =>
    if s.tracked n alt = some (1, e) then quadTake n alt ph a b sa sb s else s) s) s

/-- R108. -/
def execQuadCountEdge (e : Fin 16) (a b : PinLevel) (ph : Fin 16) (s : State) : Res :=
  ok (quadEdge e ph a.lvl b.lvl a.stable.toNat b.stable.toNat s)

/-! SSI, R109 and R714. -/

/-- BITS of an SSI axis, R149. -/
def State.ssiBits (s : State) (n : Nat) : Nat :=
  let b := s.fld (R.AXIS_SRCP n) F.AXIS_SRCP_QIFILT
  if b < 8 ∨ 48 < b then 48 else b

/-- The last GCLK of a frame that began in GCLK g. -/
def State.ssiLast (s : State) (n g : Nat) : Nat :=
  g + 2 * (s.fld (R.AXIS_SRCP n) F.AXIS_SRCP_QGLMAX + 1) * s.ssiBits n - 1

/-- A poll, R714: skipped while the previous frame is still being clocked. -/
def ssiPoll (n : Nat) (alt : Bool) (s : State) : State :=
  match s.tracked n alt with
  | some (2, _) =>
    let x := (s.axis n).srcSt alt
    if s.tick < x.pollAt then s
    else
      let busy : Bool := match x.frame with
        | some g => decide (16 * s.tick ≤ s.ssiLast n g)
        | none => false
      let next := s.tick + max 1 (s.fld (R.AXIS_SRCP n) F.AXIS_SRCP_SSIPOLL)
      modSrc n alt (fun x => { x with pollAt := next, frame := if busy then x.frame else some (16 * s.tick) }) s
  | _ => s

/-- R714. -/
def execSsiPoll (n : Fin 16) (alt : Bool) (s : State) : Res := ok (ssiPoll n alt s)

/-- Gray code to binary. -/
def grayDecode (x : Nat) : Nat := (List.range 48).foldl (fun a i => xorN a (x / 2 ^ i)) 0

/-- The code of a frame, R714: Gray decoding, then INV. -/
def State.ssiCode (s : State) (n raw : Nat) : Nat :=
  let w := s.ssiBits n
  let c := raw % 2 ^ w
  let c := if s.flag (R.AXIS_SRCP n) F.AXIS_SRCP_QZPOL then grayDecode c else c
  if s.flag (R.AXIS_CFG n) F.AXIS_CFG_INV then 2 ^ w - 1 - c else c

/-- A valid code unwrapped, R109. -/
def unwrap (w c : Nat) (x : SrcSt) : SrcSt :=
  let u := match x.code with
    | none => BitVec.ofNat 36 c
    | some p => x.u + BitVec.ofInt 36 (signedOf w (c + 2 ^ w - p))
  { x with code := some c, u := u }

/-- A frame's last clock period ends, R107, R109, R117 and R714: `low` says that the data line was low before the
first clock edge. -/
def ssiFrame (n : Nat) (alt : Bool) (raw : Nat) (low : Bool) (s : State) : State :=
  match s.tracked n alt, ((s.axis n).srcSt alt).frame with
  | some (2, inst), some g =>
    if 16 * s.tick + 15 < s.ssiLast n g then s
    else
      let s := modSrc n alt (fun x => { x with frame := none }) s
      if low || !s.encUse inst 2 then s
      else
        let age : Int := 16 * (s.tick + 1) - (g + s.fld (R.AXIS_SRCP n) F.AXIS_SRCP_SSIDLY : Int)
        let c := s.ssiCode n raw
        let w := s.ssiBits n
        modSrc n alt (fun x =>
          let x := unwrap w c x
          { x with meas := some { base := x.u.toNat * 2 ^ 32, age := age }, quiet := 0 }) s
  | _, _ => s

/-- R714. -/
def execSsiFrameComplete (n : Fin 16) (alt : Bool) (raw : BitVec 48) (low : Bool) (s : State) : Res :=
  ok (ssiFrame n alt raw.toNat low s)

/-! MAINS, R107, R109 and R586. -/

/-- A code delivered to a MAINS source, seen so that the chosen edge is a rise through zero. A crossing is armed by a
code below zero by MHYST or more, and lies between the two samples that straddle zero. (DESIGN CHOICE, log entry 81.) -/
def mainsTake (hyst : Nat) (g : Nat) (v : Int) (x : SrcSt) : SrcSt :=
  let y : SrcSt := { x with
    sample := some (g, v)
    armed := x.armed || decide (v < 0 ∧ v ≤ -(hyst : Int)) }
  match x.sample with
  | some (g0, v0) =>
    if x.armed ∧ v0 < 0 ∧ 0 ≤ v then
      { y with
        armed := false
        cross := some ⟨g0, v0, g, v⟩ }
    else y
  | none => y

/-- The crossings that a MAINS axis counts are rising ones, MEDGE, R109. -/
def State.mainsRise (s : State) (n : Nat) : Bool := !bit (s.regN (R.AXIS_SRCP n)) 16

/-- A code delivered by an ADC channel in use MAINS reaches the axes that name the channel, R586. -/
def mainsSample (c g : Nat) (code : BitVec 12) (s : State) : State :=
  (List.range 16).foldl (fun s n => [false, true].foldl (fun s alt =>
    if s.tracked n alt = some (3, c) then
      let p := s.regN (R.AXIS_SRCP n)
      modSrc n alt (mainsTake (bits p 0 12) g (if s.mainsRise n then code.toInt else -code.toInt)) s
    else s) s) s

/-- The measurement of a crossing at the end of tick t: its instant is interpolated between its two samples, R107. -/
def Crossing.meas (x : Crossing) (t base : Nat) : Meas :=
  let d := x.v1 - x.v0
  { base := base
    age := (16 * (t + 1) - x.g0 : Int) * d + (x.g1 - x.g0 : Int) * x.v0
    den := d.toNat }

/-- A crossing in a direction seen by a MAINS source is counted if MEDGE names the direction, R107 and R109. A MAINS axis whose channel is not claimed for MAINS
sees none, R586. -/
def mainsCrossing (n : Nat) (alt rise : Bool) (s : State) : State :=
  match s.tracked n alt, ((s.axis n).srcSt alt).cross with
  | some (3, inst), some x =>
    if inst < 32 ∧ s.useOf (R.ADC_CLAIM inst) = 2 ∧ rise = s.mainsRise n then
      modSrc n alt (fun y => { y with
        n := y.n + 1
        meas := some (x.meas s.tick ((y.n + 1).toNat * 2 ^ 32))
        quiet := 0
        cross := none }) s
    else s
  | _, _ => s

/-- R107. -/
def execMainsCrossing (n : Fin 16) (alt rise : Bool) (s : State) : Res := ok (mainsCrossing n alt rise s)

/-- The end of a conversion, R587, with what a MAINS axis makes of its code. -/
def adcDelivered (c : Nat) (s : State) : State :=
  let t := adcDone c s
  match s.convs c with
  | [] => t
  | v :: vs => if s.useOf (R.ADC_CLAIM c) = 2 ∧ t.convs c = vs then mainsSample c v.at' v.code t else t

/-- R587. -/
def execAdcConversionDone (c : Fin 32) (s : State) : Res := ok (adcDelivered c s)

/-- The measurement of a source in this tick, R107: `vel` is the axis's VEL. -/
def State.measure (s : State) (n src inst : Nat) (x : SrcSt) (vel : Int) : Option (BitVec 68) :=
  match src with
  | 1 => x.edge.map fun e => BitVec.ofInt 68 ((e.b * 2 ^ 32 : Nat) + vel * (16 - e.ph : Int) / 16)
  | 4 =>
    if inst < 64 then
      some (BitVec.ofNat 68 (s.ptpClock inst / 2 ^ 32 * 2 ^ 32 / 2 ^ s.fld (R.AXIS_SRCP n) F.AXIS_SRCP_PTPS))
    else none
  | 2 | 3 | 5 => x.meas.map fun m => BitVec.ofInt 68 ((m.base : Int) + vel * m.age / (16 * m.den : Nat))
  | _ => none

/-- The source-fault condition of R117 for the present source of an axis. An INST that names no encoder, ADC or site
gives a source in fault, which measures nothing. (DESIGN CHOICE, log entry 83.) -/
def State.faultNow (s : State) (n : Nat) : Bool :=
  let (src, inst) := s.srcOf n
  let x := s.axis n
  let lossto := x.lat.time.toNat % 2 ^ 24
  let late := lossto != 0 && decide (lossto ≤ x.src.quiet)
  match src with
  | 1 =>
    s.encUse inst 1 &&
      (s.fld (R.ENC_STAT inst) F.ENC_STAT_LOS % 4 != 0
        || decide (s.fld (R.AXIS_SRCP n) F.AXIS_SRCP_QGLMAX
            < (x.src.glitches.filter fun t => decide (s.tick < t + 1024)).length))
  | 4 => late || decide (64 ≤ inst) || !s.flag (R.ETH_PTPCTL inst) F.ETH_PTPCTL_LOCK
  | 2 | 3 | 5 => late
  | _ => false

/-! ### The tracking filter, R112 to R115 -/

/-- `sw` of R112. -/
def sw68 (x : BitVec 68) : Int := x.toInt

/-- sat48 of R112. -/
def sat48 (x : Int) : Int := satSigned 48 x

/-- A position bounded to the current count of a QUAD axis, R112; `ofs` is the shift of R670. -/
def quadBound (n : BitVec 36) (ofs p : BitVec 68) : BitVec 68 :=
  let lo := n.setWidth 68 * 0x1_0000_0000 + ofs
  let hi := lo + 0x1_0000_0000
  let p := if sw68 (p - lo) < 0 then lo else p
  if sw68 (p - hi) > 0 then hi else p

/-- What became of a tick's measurement. -/
inductive Taken where
  | none
  | accepted (rev : Bool)
  | rejected
  | stepped (e : Int)
  deriving DecidableEq, Repr

/-- Whether it was accepted, R115. -/
def Taken.ok : Taken → Bool
  | .accepted _ => true | .stepped _ => true | _ => false

/-- The update of R112 before the bound, with the gate of R115: `gain`, `gate` and `stepn` are the axis's
settings. (DEDUCED, log entry 18.) -/
def filterStep (quad : Bool) (gain gate stepn : Nat) (m : Option (BitVec 68)) (x : Axis) : Axis × Taken :=
  let dt := min (x.dt + 1) (2 ^ 32 - 1)
  let q0 := x.pos + BitVec.ofInt 68 x.vel
  match m with
  | none => ({ x with pos := q0, dt := dt }, .none)
  | some m =>
    let rev : Bool := quad && match x.src.edge with
      | some e => decide (x.vel = 0) || e.fwd != decide (0 < x.vel)
      | none => false
    let vel := if rev then 0 else x.vel
    let acc := if rev then 0 else x.acc
    let q := if rev then x.pos else q0
    let e := sw68 (m - q)
    if !quad && gate != 0 && decide ((gate * 2 ^ 20 : Int) < |e|) then
      if stepn != 0 && decide (stepn ≤ x.rejcnt) then
        ({ x with pos := m, acc := 0, dt := 0, rejcnt := 0 }, .stepped e)
      else ({ x with pos := q0, dt := dt, rejcnt := min (x.rejcnt + 1) 255 }, .rejected)
    else
      let v' := sat48 (vel + e * bits gain 16 16 / (2 ^ 16 * dt))
      let a' := sat48 (acc + ((v' - vel) * 2 ^ 16 / dt - acc) * bits gain 32 16 / 2 ^ 16)
      ({ x with pos := q + BitVec.ofInt 68 (e * bits gain 0 16 / 2 ^ 16), vel := v', acc := a', dt := 0,
                rejcnt := 0 }, .accepted rev)

/-- The bound of a QUAD axis after the update, R112. -/
def quadAfter (ofs : BitVec 68) (x : Axis) : Axis :=
  let x := { x with pos := quadBound x.src.n ofs x.pos }
  if x.dt = 0 then x
  else
    let lim : Int := 2 ^ 32 / x.dt
    { x with vel := max (-lim) (min lim x.vel) }

/-- The update of a SYNTH axis, R114. -/
def synthStep (x : Axis) : Axis :=
  let ramp : Int := x.lat.synr.toNat
  let step := max (-ramp) (min ramp (x.lat.synv.toInt - x.vel))
  let v := sat48 (x.vel + step)
  { x with vel := v, acc := sat48 (step * 2 ^ 16), pos := x.pos + BitVec.ofInt 68 v }

/-! ### States, R118 and R119 -/

/-- A change of state: the axis's event and an entry of code 0x01. -/
def axisTo (n : Nat) (new : AxState) (s : State) : State :=
  let old := (s.axis n).st
  if old = new then s
  else logCairn .traverse 0x01 [⟨4, n⟩, ⟨3, old.code⟩, ⟨3, new.code⟩]
    (raise n (s.setAxis n { s.axis n with st := new }))

/-- The state in which this tick's update will run is kept when the state changes within the tick.
(DESIGN CHOICE, log entry 16.) -/
def holdRun (n : Nat) (s : State) : State :=
  let x := s.axis n
  s.setAxis n { x with runAs := some (x.runAs.getD x.st) }

/-- Cairn entry 0x09 of R151. -/
def axisReject (n off : Nat) (s : State) : State := logCairn .traverse 0x09 [⟨4, n⟩, dfOff off] s

/-- A source as an axis finds it when it is enabled: the input filters of a QUAD source pass the present levels. -/
def State.freshSrc (s : State) (src : Option (Nat × Nat)) : SrcSt :=
  let v := match src with
    | some (1, e) => if e < 16 then s.regN (R.ENC_STAT e) else 0
    | _ => 0
  { pollAt := s.tick + 1
    fa := bit v 0
    fb := bit v 1
    fz := bit v 2 }

/-- EN written 1 in OFF, R119. -/
def axisEnable (n : Nat) (s : State) : State :=
  let src := (s.srcOf n).1
  if 6 ≤ src then axisReject n (R.AXIS_CFG n) (s.setFld (R.AXIS_STAT n) F.AXIS_STAT_ERRCFG 1)
  else
    let x := s.axis n
    let x := { x with rejcnt := 0, dt := 0, coastFor := 0, src := s.freshSrc (some (s.srcOf n)),
                      alt := s.freshSrc (s.altOf n), runAs := some .off, rebases := [], zhit := false }
    if src ≤ 1 then
      axisTo n .track (s.setAxis n { x with pos := 0, vel := 0, acc := 0, front := 0 })
    else axisTo n .acquire (s.setAxis n x)

/-- EN written 0, R119. -/
def axisDisable (n : Nat) (s : State) : State := if (s.axis n).st = .off then s else axisTo n .off (holdRun n s)

/-- A write of AXIS[n].CFG, R119 and R121: the state that counts is the one the axis has in this tick.
(DESIGN CHOICE, log entry 19.) -/
def axisCfgWrite (n v : Nat) (s : State) : State :=
  let o := R.AXIS_CFG n
  let new := setBits (s.regN o) 0 20 v
  let off := (s.axis n).now = .off
  if ¬ off ∧ setBits new 0 1 0 ≠ setBits (s.regN o) 0 1 0 then axisReject n o s
  else
    let s := s.setRegN o new
    let s := if off then { s with casc := { s.casc with switched := s.casc.switched.filter (· != n) } } else s
    if v % 2 = 0 then axisDisable n s
    else if off then axisEnable n s
    else s

/-- R119. -/
def execAxisEnable (n : Fin 16) (v : Payload) (s : State) : Res := 
  ok (unlessRestoring (axisCfgWrite n (setBits v.toNat 0 1 1)) s)
/-- R119. -/
def execAxisDisable (n : Fin 16) (v : Payload) (s : State) : Res := 
  ok (unlessRestoring (axisCfgWrite n (setBits v.toNat 0 1 0)) s)

/-- A write of SETPOS, R120: applied at the end of the tick, or rejected. -/
def setposWrite (n : Nat) (v : BitVec 48) (s : State) : State :=
  let x := s.axis n
  if x.now.live then
    logCairn .traverse 0x03 [⟨4, n⟩, ⟨48, v.toNat⟩] (s.setAxis n { x with rebases := x.rebases ++ [v] })
  else axisReject n (R.AXIS_SETPOS n) (s.setFld (R.AXIS_STAT n) F.AXIS_STAT_ERRCFG 1)

/-- R120. -/
def execSetpos (n : Fin 16) (v : Payload) (s : State) : Res := ok (unlessRestoring (setposWrite n v) s)

/-- COASTMAX as it acts in this tick, R121. -/
def Axis.coastmax (x : Axis) : Nat := bits x.lat.time.toNat 24 24

/-- A source fault of a TRACK axis, R117 and R119; with COASTMAX = 0 it goes on to LOST. -/
def sourceFault (n : Nat) (s : State) : State :=
  if (s.axis n).st = .track ∧ (s.axis n).now = .track ∧ s.faultNow n then
    let s := holdRun n (s.setFld (R.AXIS_STAT n) F.AXIS_STAT_LOSS 1)
    let s := axisTo n .coast (s.setAxis n { s.axis n with coastFor := 0 })
    if (s.axis n).coastmax = 0 then axisTo n .lost s else s
  else s

/-- R117. -/
def execSourceFault (n : Fin 16) (s : State) : Res := ok (sourceFault n s)


/-- The Z level of an encoder input, stable for `sz` GCLKs, R589: in use QUAD with an enabled QUAD axis, an edge that
passes the axis's filter into its active level captures; otherwise, in use QUAD or IN, both edges raise the event. -/
def zEdge (e : Nat) (lvl : Bool) (sz : Nat) (s : State) : State :=
  let o := R.ENC_STAT e
  let moved := bit (s.regN o) 2 != lvl
  let s := s.setRegN o (setBits (s.regN o) 2 1 (b2n lvl))
  let use := s.useOf (R.ENC_CLAIM e)
  let named := (List.range 16).filter fun n => (s.axis n).st != .off && s.srcOf n == (1, e)
  let pass := named.filter fun n => filtered (s.qifilt n) sz lvl (s.axis n).src.fz != (s.axis n).src.fz
  let hit := pass.filter fun n => lvl != s.flag (R.AXIS_SRCP n) F.AXIS_SRCP_QZPOL
  let ev : Bool := if use = 1 ∧ named ≠ [] then !hit.isEmpty else moved && (use == 1 || use == 3)
  let s := if use = 1 then pass.foldl (fun s n => modSrc n false (fun x => { x with fz := lvl }) s) s else s
  let s := if use = 1 then hit.foldl (fun s n => s.setAxis n { s.axis n with zhit := true }) s else s
  if ev && s.flag (R.ENC_CFG e) F.ENC_CFG_EVZ then raise (656 + e) s else s

/-- R589 and R149. -/
def execZEdge (e : Fin 16) (z : PinLevel) (s : State) : Res := ok (zEdge e z.lvl z.stable.toNat s)

/-! ### The end of a tick, R112 to R122 -/

/-- The shift of an axis that runs on its local source, R670. -/
def State.ofsOf (s : State) (n : Nat) : BitVec 68 :=
  if s.casc.switched.contains n then tget (fun _ => 0) s.casc.altofs n else 0

/-- A rebase, R120. -/
def rebase (quad : Bool) (v : BitVec 48) (x : Axis) : Axis :=
  { x with pos := v.setWidth 68 * 0x10_0000, rejcnt := 0,
           src := if quad then { x.src with n := BitVec.ofNat 36 (v.toNat / 4096) } else x.src }

/-- What a tick's measurement leaves in STAT and in the log, R113 and R115. -/
def noteTaken (n : Nat) (t : Taken) (s : State) : State :=
  let o := R.AXIS_STAT n
  match t with
  | .none => s
  | .accepted rev => if rev then s.setFld o F.AXIS_STAT_REV 1 else s
  | .rejected => s.setFld o F.AXIS_STAT_REJ 1
  | .stepped e =>
    logCairn .traverse 0x02 [⟨4, n⟩, ⟨48, patternOf 48 (sat48 (e / 2 ^ 20))⟩] (s.setFld o F.AXIS_STAT_STEP 1)

/-- The update of R112 with this tick's measurement as it stands so far. -/
def State.filterNow (s : State) (n src inst : Nat) (run : AxState) : Axis × Taken :=
  let x := s.axis n
  let m := (s.measure n src inst x.src x.vel).map (· + s.ofsOf n)
  let m := if run = .coast ∧ s.faultNow n then none else m
  filterStep (src == 1) x.lat.gain.toNat x.lat.gate.toNat (s.fld (R.AXIS_CFG n) F.AXIS_CFG_STEPN) m x

/-- The tick is the last of COASTMAX ticks spent in COAST, R119: the axis is LOST from its end, unless a measurement is
accepted in it. (DESIGN CHOICE, log entry 17.) -/
def coastTimeout (n : Nat) (s : State) : State :=
  let x := s.axis n
  let src := s.srcOf n
  if x.st = .coast ∧ x.runAs = none ∧ x.coastmax ≤ x.coastFor + 1
      ∧ ¬ (s.filterNow n src.1 src.2 .coast).2.ok then
    axisTo n .lost (holdRun n s)
  else s

/-- R119. -/
def execCoastTimeout (n : Fin 16) (s : State) : Res := ok (coastTimeout n s)

/-- ALTOFS of a STANDBY device, R669: both sources gave a measurement and the CASCADE one, `m`, was accepted. -/
def altofsUpdate (n src : Nat) (m : Option (BitVec 68)) (t : Taken) (vel : Int) (s : State) : State :=
  match src, m, s.altOf n with
  | 5, some m, some (asrc, ainst) =>
    match s.measure n asrc ainst (s.axis n).alt vel with
    | some l =>
      if t.ok then
        let d := m - l
        { (s.setRegN (R.CASC_ALTOFS n) (d.toNat / 2 ^ 20)) with
            casc := { s.casc with altofs := tset (fun _ => 0) s.casc.altofs n d } }
      else s
    | none => s
  | _, _, _ => s

/-- The update of a live axis whose source is not SYNTH, R112, R115 and R119. -/
def trackTick (n src inst : Nat) (run : AxState) (s : State) : State :=
  let x := s.axis n
  let quad := src == 1
  let m := (s.measure n src inst x.src x.vel).map (· + s.ofsOf n)
  let m := if run = .coast ∧ s.faultNow n then none else m
  let (y, t) := s.filterNow n src inst run
  let y := if quad then quadAfter (s.ofsOf n) y else y
  let s := altofsUpdate n src m t x.vel s
  let s := noteTaken n t (s.setAxis n y)
  if run = .coast then
    if t.ok then (if x.runAs.isNone then axisTo n .track s else s)
    else s.setAxis n { s.axis n with coastFor := (s.axis n).coastFor + 1 }
  else s

/-- The update of an axis in ACQUIRE, R119: the first valid measurement. A PTP measurement is valid while its source
does not fault. -/
def acquireTick (n src inst : Nat) (s : State) : State :=
  let x := s.axis n
  match s.measure n src inst x.src x.vel with
  | some m =>
    if x.runAs.isSome || (src == 4 && s.faultNow n) then s
    else axisTo n .track (s.setAxis n { x with pos := m, vel := 0, acc := 0, dt := 0 })
  | none => s

/-- The Z capture and the rebases of a tick, R120 and R149. (DEDUCED, log entry 20.) -/
def rebaseTick (n : Nat) (quad : Bool) (s : State) : State :=
  let x := s.axis n
  let o := R.AXIS_CFG n
  let zm := s.fld o F.AXIS_CFG_ZMODE
  let s := if x.zhit && zm != 0 then s.setReg (R.AXIS_ZCAP n) x.bearing else s
  let s := if x.zhit && zm == 2 && x.st.live then
      logCairn .traverse 0x03 [⟨4, n⟩, ⟨48, 0⟩]
        ((s.setFld o F.AXIS_CFG_ZMODE 1).setAxis n (rebase quad 0 x))
    else s
  x.rebases.foldl (fun s v => s.setAxis n (rebase quad v (s.axis n))) s

/-- What a tick's end leaves of an axis: the frontier of R122, the latched settings of R121, and nothing of what
belonged to the tick. -/
def axisClose (s : State) (n src : Nat) (x : Axis) : Axis :=
  let x := if x.st = .lost then { x with vel := 0, acc := 0 } else x
  let f := x.pos + BitVec.ofInt 68 x.vel
  let front := if x.st.live then (if src = 1 then quadBound x.src.n (s.ofsOf n) f else f) else x.pos
  { x with
    front := front, zhit := false, rebases := [], runAs := none,
    src := { x.src with edge := none, meas := none, quiet := if x.st = .off then 0 else x.src.quiet + 1 },
    alt := { x.alt with edge := none, meas := none, quiet := if x.st = .off then 0 else x.alt.quiet + 1 },
    lat := { gain := s.reg (R.AXIS_GAIN n), gate := s.reg (R.AXIS_GATE n), time := s.reg (R.AXIS_TIME n),
             synv := s.reg (R.AXIS_SYNV n), synr := s.reg (R.AXIS_SYNR n) } }

/-- The end of a tick for one axis. -/
def axisTick (n : Nat) (s : State) : State :=
  let (src, inst) := s.srcOf n
  let x := s.axis n
  let run := x.runAs.getD x.st
  let s := match run with
    | .acquire => acquireTick n src inst s
    | .track | .coast => if src = 0 then s.setAxis n (synthStep x) else trackTick n src inst run s
    | _ => s
  let s := rebaseTick n (src == 1) s
  s.setAxis n (axisClose s n src (s.axis n))

/-! ### Registers of an axis, R149 -/

/-- An axis register read. CNT of a source that R149 does not list reads its edge count. (DESIGN CHOICE, log entry
86.) -/
def axisRead (off : Nat) (s : State) : Nat :=
  let n := (off - 0x200000) / 64
  let x := s.axis n
  match (off - 0x200000) % 64 with
  | 0x20 => x.bearing.toNat
  | 0x24 => patternOf 48 x.velNow
  | 0x28 => patternOf 48 x.accNow
  | 0x2C => if (s.srcOf n).1 = 2 then x.src.u.toNat else x.src.n.toNat
  | 0x30 =>
    setBits (setBits (setBits (s.regN off) 0 3 x.now.code) 16 8 x.rejcnt) 24 24 x.glcnt.toNat
  | 0x3C => x.front.toNat / 2 ^ 20
  | _ => s.regN off

/-- An axis register written, R120 and R121. -/
def axisWrite (lv : Level) (off v : Nat) (s : State) : State :=
  let n := (off - 0x200000) / 64
  match (off - 0x200000) % 64 with
  | 0x00 => axisCfgWrite n v s
  | 0x10 =>
    let t := s.writeCodes lv off v
    if (s.axis n).now ≠ .off ∧ t.regN off ≠ s.regN off then axisReject n off s else t
  | 0x34 => setposWrite n (BitVec.ofNat 48 v) s
  | _ => s.writeCodes lv off v

end Sys2Proof.Machine
end

