-- ==== Sys2Proof/Machine/Shake.lean ====
section
/-! DEFINITION. SHAKE256 of FIPS 202, which 07 R264 and 16 R620 name. (PRESUMED, log entry 96.) -/

namespace Sys2Proof.Machine

/-- The 25 lanes of Keccak-f[1600], lane (x, y) at x + 5y. -/
abbrev Lanes := List (BitVec 64)

/-- A lane. -/
def laneOf (a : Lanes) (x y : Nat) : BitVec 64 := a.getD (x % 5 + 5 * (y % 5)) 0

/-- Lanes given by a function of x and y. -/
def lanesBy (f : Nat → Nat → BitVec 64) : Lanes := (List.range 25).map fun i => f (i % 5) (i / 5)

/-- The step theta. -/
def keccakTheta (a : Lanes) : Lanes :=
  let c := (List.range 5).map fun x => (List.range 5).foldl (fun v y => v ^^^ laneOf a x y) 0
  lanesBy fun x y => laneOf a x y ^^^ c.getD ((x + 4) % 5) 0 ^^^ (c.getD ((x + 1) % 5) 0).rotateLeft 1

/-- The rotations of the step rho, lane (x, y) at x + 5y. -/
def keccakRot : List Nat :=
  [0, 1, 62, 28, 27, 36, 44, 6, 55, 20, 3, 10, 43, 25, 39, 41, 45, 15, 21, 8, 18, 2, 61, 56, 14]

/-- The steps rho and pi. -/
def keccakRhoPi (a : Lanes) : Lanes :=
  lanesBy fun x y => (laneOf a (x + 3 * y) x).rotateLeft (keccakRot.getD ((x + 3 * y) % 5 + 5 * x) 0)

/-- The step chi. -/
def keccakChi (a : Lanes) : Lanes :=
  lanesBy fun x y => laneOf a x y ^^^ (~~~(laneOf a (x + 1) y) &&& laneOf a (x + 2) y)

/-- The round constants of the step iota. -/
def keccakRc : List (BitVec 64) :=
  [0x0000000000000001, 0x0000000000008082, 0x800000000000808A, 0x8000000080008000, 0x000000000000808B,
    0x0000000080000001, 0x8000000080008081, 0x8000000000008009, 0x000000000000008A, 0x0000000000000088,
    0x0000000080008009, 0x000000008000000A, 0x000000008000808B, 0x800000000000008B, 0x8000000000008089,
    0x8000000000008003, 0x8000000000008002, 0x8000000000000080, 0x000000000000800A, 0x800000008000000A,
    0x8000000080008081, 0x8000000000008080, 0x0000000080000001, 0x8000000080008008]

/-- One round. -/
def keccakRound (a : Lanes) (rc : BitVec 64) : Lanes :=
  match keccakChi (keccakRhoPi (keccakTheta a)) with
  | [] => []
  | l :: ls => (l ^^^ rc) :: ls

/-- The permutation Keccak-f[1600]. -/
def keccakF (a : Lanes) : Lanes := keccakRc.foldl keccakRound a

/-- Up to eight bytes as a lane, the first one lowest. -/
def bytesLane : List (BitVec 8) → BitVec 64
  | [] => 0
  | b :: bs => b.setWidth 64 ||| bytesLane bs <<< 8

/-- A block of 136 bytes taken into the state. -/
def absorb (a : Lanes) (block : List (BitVec 8)) : Lanes :=
  keccakF (lanesBy fun x y =>
    let i := x + 5 * y
    laneOf a x y ^^^ (if i < 17 then bytesLane ((block.drop (8 * i)).take 8) else 0))

/-- Blocks taken in turn, `n` of them. -/
def absorbAll : Nat → List (BitVec 8) → Lanes → Lanes
  | 0, _, a => a
  | n + 1, m, a => absorbAll n (m.drop 136) (absorb a (m.take 136))

/-- The bytes of a state that are output. -/
def squeezed (a : Lanes) : List (BitVec 8) :=
  (a.take 17).flatMap fun l => (List.range 8).map fun k => l.extractLsb' (8 * k) 8

/-- Output of `n` blocks. -/
def squeeze : Nat → Lanes → List (BitVec 8)
  | 0, _ => []
  | n + 1, a => squeezed a ++ squeeze n (keccakF a)

/-- The message with the suffix of SHAKE and the padding, to whole blocks. -/
def shakePad (m : List (BitVec 8)) : List (BitVec 8) :=
  let k := 136 - m.length % 136
  m ++ (if k = 1 then [0x9F] else 0x1F :: List.replicate (k - 2) 0 ++ [0x80])

/-- The first `n` bytes of SHAKE256. -/
def shake256 (m : List (BitVec 8)) (n : Nat) : List (BitVec 8) :=
  let p := shakePad m
  (squeeze ((n + 135) / 136) (absorbAll (p.length / 136) p (List.replicate 25 0))).take n

end Sys2Proof.Machine
end

