-- ==== Sys2Proof/Machine/Ed448.lean ====
section
/-! DEFINITION. Ed448 signatures, which 16 R619, R620, R629 and R631 take from RFC 8032. (PRESUMED, log entry 96: the
RFC is not printed in the spec.) -/

namespace Sys2Proof.Machine

/-! ### The field and the curve -/

/-- The prime of the field. -/
def edP : Nat := 2 ^ 448 - 2 ^ 224 - 1
/-- The order of the base point. -/
def edL : Nat :=
  2 ^ 446 - 13818066809895115352007386748515426880336692474882178609894547503885
/-- The constant d of x² + y² = 1 + d·x²·y², −39081. -/
def edD : Nat := edP - 39081

/-- A difference in the field. -/
def edSub (a b : Nat) : Nat := (a + edP - b % edP) % edP

/-- A power in the field; `n` bounds the bits of the exponent. -/
def edPow (a : Nat) : Nat → Nat → Nat
  | 0, _ => 1
  | n + 1, e =>
    let h := edPow a n (e / 2)
    let q := h * h % edP
    if e % 2 = 1 then q * a % edP else q

/-- An inverse in the field. -/
def edInv (a : Nat) : Nat := edPow (a % edP) 448 (edP - 2)

/-- A point with projective coordinates. -/
structure EdPoint where
  x : Nat
  y : Nat
  z : Nat
  deriving DecidableEq, Repr

/-- The neutral point. -/
def edZero : EdPoint := ⟨0, 1, 1⟩

/-- The base point. -/
def edBase : EdPoint :=
  ⟨224580040295924300187604334099896036246789641632564134246125461686950415467406032909029192869357953282578032075146446173674602635247710,
    298819210078481492676017930443930673437544040154080242095928241372331506189835876003536878655418784733982303233503462500531545062832660,
    1⟩

/-- The sum of two points; it serves for doubling as well. -/
def edAdd (p q : EdPoint) : EdPoint :=
  let a := p.z * q.z % edP
  let b := a * a % edP
  let c := p.x * q.x % edP
  let d := p.y * q.y % edP
  let e := edD * (c * d % edP) % edP
  let f := edSub b e
  let g := (b + e) % edP
  let h := (p.x + p.y) * (q.x + q.y) % edP
  ⟨a * f % edP * edSub h (c + d) % edP, a * g % edP * edSub d c % edP, f * g % edP⟩

/-- A multiple of a point; `n` bounds the bits of the factor. -/
def edMul (p : EdPoint) : Nat → Nat → EdPoint
  | 0, _ => edZero
  | n + 1, k =>
    let h := edMul p n (k / 2)
    let d := edAdd h h
    if k % 2 = 1 then edAdd d p else d

/-- Two points are the same. -/
def edSame (p q : EdPoint) : Bool := p.x * q.z % edP == q.x * p.z % edP && p.y * q.z % edP == q.y * p.z % edP

/-- The 57 bytes of a point: y, with the lowest bit of x on top. -/
def edEncode (p : EdPoint) : List (BitVec 8) :=
  let i := edInv p.z
  bytesOf (p.y * i % edP + p.x * i % edP % 2 * 2 ^ 455) 57

/-- The point of 57 bytes. -/
def edDecode (bs : List (BitVec 8)) : Option EdPoint :=
  let n := numOf bs
  let y := n % 2 ^ 455
  let sign := n / 2 ^ 455 % 2
  let u := edSub (y * y % edP) 1
  let v := edSub (edD * (y * y % edP) % edP) 1
  let u3v := u * u % edP * u % edP * v % edP
  let x := u3v * edPow (u3v * u % edP * u % edP * v % edP * v % edP) 446 ((edP - 3) / 4) % edP
  if bs.length ≠ 57 ∨ edP ≤ y ∨ v * (x * x % edP) % edP ≠ u then none
  else if x = 0 ∧ sign = 1 then none
  else some ⟨if x % 2 = sign then x else edP - x, y, 1⟩

/-! ### Keys and signatures -/

/-- The prefix "SigEd448" with its flag and the context. -/
def edDom (ctx : List (BitVec 8)) : List (BitVec 8) :=
  [0x53, 0x69, 0x67, 0x45, 0x64, 0x34, 0x34, 0x38, 0, BitVec.ofNat 8 ctx.length] ++ ctx

/-- The scalar of a private key. -/
def edScalar (key : List (BitVec 8)) : Nat :=
  let n := numOf ((shake256 key 114).take 57)
  n % 2 ^ 447 / 4 * 4 + 2 ^ 447

/-- A hash as a scalar modulo the order. -/
def edHash (bs : List (BitVec 8)) : Nat := numOf (shake256 bs 114) % edL

/-- The public key of a private key. -/
def ed448Public (key : List (BitVec 8)) : List (BitVec 8) := edEncode (edMul edBase 448 (edScalar key))

/-- The signature of a message with a private key and a context. -/
def ed448Sign (key ctx msg : List (BitVec 8)) : List (BitVec 8) :=
  let r := edHash (edDom ctx ++ (shake256 key 114).drop 57 ++ msg)
  let rb := edEncode (edMul edBase 446 r)
  let k := edHash (edDom ctx ++ rb ++ ed448Public key ++ msg)
  rb ++ bytesOf ((r + k * edScalar key) % edL) 57

/-- A signature of a message verifies with a public key and a context. -/
def ed448Verify (key ctx msg sig : List (BitVec 8)) : Bool :=
  match edDecode key, edDecode (sig.take 57) with
  | some a, some r =>
    let sv := numOf (sig.drop 57)
    let k := edHash (edDom ctx ++ sig.take 57 ++ key ++ msg)
    sig.length == 114 && decide (sv < edL)
      && edSame (edMul (edMul edBase 446 sv) 3 4) (edMul (edAdd r (edMul a 446 k)) 3 4)
  | _, _ => false

end Sys2Proof.Machine
end

