-- ==== Sys2Proof/Machine/Memory.lean ====
section
/-! DEFINITION. The commands of the HBM controllers and chambers (08 R276–R309, R321–R325). -/

namespace Sys2Proof.Machine

/-! ### Training and single accesses -/

/-- The spare rows that a stack reports of a pseudo-channel, R322: those it came with less its hard repairs, R291. -/
def State.sparesLeft (s : State) (st q : Nat) : Nat :=
  (Config.spareRows (32 * st + q)).toNat - ((s.hbm st).hard.filter fun r => r.1 == q).length

/-- Training of a stack ends, R285 and R322: TRAINED is set and the stack reports its spare rows. -/
def hbmTrain (st : Nat) (s : State) : State :=
  (List.range 32).foldl (fun t q => t.setFld (R.PC_SPARE st q) F.PC_SPARE_SPARE (s.sparesLeft st q))
    (s.setFld (R.HBM_STAT st) F.HBM_STAT_TRAINED 1)

/-- R285. -/
def execHbmTrained (st : Fin 6) (s : State) : Res := ok (hbmTrain st s)

/-- Targets that hold words. -/
def Target.stores : Target → Bool
  | .hbm _ => true | .cham _ => true | .nvs => true | .rom => true | .lbuf _ => true | _ => false

/-- A response on its way to a master. -/
def respond (m a : Nat) (wr : Bool) (va : Nat) (r : Ans) (s : State) : State :=
  { s with junc := { s.junc with
      rsps := s.junc.rsps ++ [{ m := m, a := a, st := r.st, w := r.w, wr := wr, va := va }] } }

/-- The address that a store error of an access shows in EVAL, R459: a core's own. -/
def evalAddr (m a : Nat) : Nat := if m < 16 then a else 0

/-- One access of a master to a target that holds words, answered to the master; an access that waits has no
other effect. -/
def storageRow (m a : Nat) (op : JOp) (s : State) : Res :=
  if !s.barred m && (targetOf a).stores then
    match memAccess m .u a op s with
    | (.wait, s) => ok s
    | (.done r, s) => ok (respond m a op.writes (evalAddr m a) r s)
  else ok s

/-- A word is read and decoded, R56 and R57. -/
def execWordRead (m : Fin 48) (a : PAddr) (s : State) : Res := storageRow m a.toNat .rd s
/-- A word is stored, R53 and R55. -/
def execWordWrite (m : Fin 48) (a : PAddr) (w : Word) (s : State) : Res := storageRow m a.toNat (.wr w) s
/-- A sample store, R62 and R64. -/
def execSampleStore (m : Fin 48) (a : PAddr) (v : BitVec 12) (s : State) : Res := storageRow m a.toNat (.samp v) s
/-- A field write, R196. -/
def execFieldWrite (m : Fin 48) (a : PAddr) (w : Word) (mask : BitVec 4) (et : BitVec 3) (s : State) : Res :=
  storageRow m a.toNat (.field w mask.toNat et.toNat) s

/-- A gallery has a slot that is not FREE. -/
def Gallery.busy (g : Gallery) : Bool := g.slots.any fun x => x.2.st != .free

/-! ### Scrubbing, R288 and R309 -/

/-- A word visited by a scrubber: rewritten when corrected, reported when uncorrectable, skipped when locked. -/
def scrubWord (w : Nat) (s : State) : State :=
  if (s.lockedBy w).isSome then s
  else match decodeContainer (s.cont w) with
    | .clean _ => s
    | .corrected x => noteCorrected w (s.putWord w x)
    | .uncorrectable =>
      logCairn .memory 0x03 [dfTargetOfWord w, dfAddr (4 * w)] (raiseOn (dieOfWord w) 132 (countUncorrectable w s))

/-- The scrubber of a pseudo-channel visits its granule, R288, unless the visit is not due, or a soft repair of the
pseudo-channel runs, for which it waits, R290. -/
def scrubGranule (st q : Nat) (s : State) : State :=
  let h := s.hbm st
  let p := tget (fun _ => {}) h.scrubs q
  if s.tick < p.due ∨ (h.running.any fun r => !r.hard && r.q == q) then s
  else
    let g := hbmGranule (32 * st + q) p.next
    let s := (List.range 8).foldl (fun s e => scrubWord (8 * g + e) s) s
    s.setHbm st { s.hbm st with scrubs := tset (fun _ => {}) (s.hbm st).scrubs q {
      next := (p.next + 1) % 0xC00000
      due := s.tick + max 1 (s.fld (R.HBM_CFG st) F.HBM_CFG_SCRINT) } }

/-- The scrubber visits the pseudo-channels of a stack, R288; it pauses while the stack is quiesced. -/
def hbmScrub (st : Nat) (s : State) : State :=
  if s.flag (R.HBM_CFG st) F.HBM_CFG_SCREN && s.flag (R.HBM_STAT st) F.HBM_STAT_TRAINED
      && !s.flag (R.HBM_QUIESCE st) F.HBM_QUIESCE_Q then
    (List.range 32).foldl (fun s q => scrubGranule st q s) s
  else s

/-- R288. -/
def execHbmScrubVisit (st : Fin 6) (s : State) : Res := ok (hbmScrub st s)

/-- A chamber's scrubber visits one block of 32 words, R309, once a GCLK of the current tick reaches the visit's. -/
def chamScrubVisit (n : Nat) (s : State) : State :=
  let p := (s.chamber n).scrub
  if s.flag (R.CHAM_CFG n) F.CHAM_CFG_SCREN ∧ p.due < 16 * (s.tick + 1) then
    let w0 := (0x200_0000_0000 + n * 0x800000) / 4 + 32 * p.next
    let s := (List.range 32).foldl (fun s e => scrubWord (w0 + e) s) s
    s.setChamber n { s.chamber n with scrub := {
      next := (p.next + 1) % 0x10000
      due := max p.due (16 * s.tick) + max 1 (s.fld (R.CHAM_CFG n) F.CHAM_CFG_SCRINT) } }
  else s

/-- R309. -/
def execChamberScrubVisit (n : Fin 16) (s : State) : Res := ok (chamScrubVisit n s)

/-! ### Repair and quiesce, R290 and R291 -/

/-- The detail values of a repair, R325. -/
def repairDetail (st q bank row : Nat) : List DF := [⟨3, st⟩, ⟨5, q⟩, ⟨5, bank⟩, ⟨15, row⟩]

/-- Why a GO is refused: the RES value, R290, R291 and R321. -/
def repairRefusal (s : State) (st q bank row : Nat) (hard : Bool) : Option Nat :=
  if s.flag (R.HBM_STAT st) F.HBM_STAT_PPRBUSY || (hard && !s.flag (R.HBM_QUIESCE st) F.HBM_QUIESCE_Q) then some 3
  else if row > 24575 then some 4
  else if hard && s.fld (R.PC_SPARE st q) F.PC_SPARE_SPARE == 0 then some 2
  else if !hard && (s.hbm st).soft.contains (32 * q + bank) then some 2
  else none

/-- A write of HBM[s].PPR, R290, R291 and R321. -/
def pprWrite (st : Nat) (lv : Level) (v : Nat) (s : State) : State :=
  let s := s.writeCodes lv (R.HBM_PPR st) v
  let o := R.HBM_PPR st
  if bits v F.HBM_PPR_GO.lo 1 = 1 then
    let q := s.fld o F.HBM_PPR_PCQ
    let bank := s.fld o F.HBM_PPR_BANK
    let row := s.fld o F.HBM_PPR_ROW
    let hard := s.flag o F.HBM_PPR_HARD
    match repairRefusal s st q bank row hard with
    | some r => logCairn .memory 0x05 (repairDetail st q bank row ++ [⟨3, r⟩]) (s.setFld o F.HBM_PPR_RES r)
    | none =>
      (s.setFld (R.HBM_STAT st) F.HBM_STAT_PPRBUSY 1).setHbm st
        { s.hbm st with running := some { hard := hard, q := q, bank := bank, row := row } }
  else s

/-- A PPR write with the given HARD bit and GO set, otherwise no such command. (DESIGN CHOICE, log entry 39.) -/
def repairRow (hard : Bool) (st : Fin 6) (lv : Level) (v : Payload) (s : State) : Res :=
  if bits v.toNat F.HBM_PPR_GO.lo 1 = 1 ∧ bits v.toNat F.HBM_PPR_HARD.lo 1 = b2n hard then
    ok (pprWrite st lv v.toNat s)
  else ok s

/-- R290. -/
def execSoftRepair (st : Fin 6) (lv : Level) (v : Payload) (s : State) : Res := repairRow false st lv v s
/-- R291. -/
def execHardRepair (st : Fin 6) (lv : Level) (v : Payload) (s : State) : Res := repairRow true st lv v s

/-- The words of a row, R281 and R282. -/
def rowWords (st : Nat) (r : Repair) : List Nat :=
  (List.range 16).flatMap fun col =>
    let g := hbmGranule (32 * st + r.q) (512 * r.row + 16 * xorN r.bank (r.row % 32) + col)
    (List.range 8).map fun e => 8 * g + e

/-- A running repair ends; `good` is what the stack reports. The replaced row holds free containers, R290. -/
def repairEnd (st : Nat) (good : Bool) (s : State) : State :=
  match (s.hbm st).running with
  | none => s
  | some r =>
    let s := (s.setFld (R.HBM_STAT st) F.HBM_STAT_PPRBUSY 0).setHbm st { s.hbm st with running := none }
    let res := if good then 1 else 5
    let s := s.setFld (R.HBM_PPR st) F.HBM_PPR_RES res
    let s := if good then
        let s := { (rowWords st r).foldl (fun s w => s.setCont w (Config.repairedRow s.fresh w)) s with fresh := s.fresh + 1 }
        if r.hard then
          (s.setFld (R.PC_SPARE st r.q) F.PC_SPARE_SPARE (s.fld (R.PC_SPARE st r.q) F.PC_SPARE_SPARE - 1)).setHbm st
            { s.hbm st with hard := (r.q, r.bank, r.row) :: (s.hbm st).hard }
        else s.setHbm st { s.hbm st with soft := (32 * r.q + r.bank) :: (s.hbm st).soft }
      else s
    if r.hard ∨ ¬ good then logCairn .memory 0x05 (repairDetail st r.q r.bank r.row ++ [⟨3, res⟩]) s
    else logCairn .memory 0x04 (repairDetail st r.q r.bank r.row) s

/-- R290 and R291. -/
def execRepairDone (st : Fin 6) (good : Bool) (s : State) : Res := ok (repairEnd st good s)

/-- A write of HBM[s].QUIESCE, R291. -/
def execQuiesceWrite (st : Fin 6) (lv : Level) (v : Payload) (s : State) : Res :=
  ok (s.writeCodes lv (R.HBM_QUIESCE st) v.toNat)

/-- The stack reports a temperature, R292: the event comes when 95 °C is exceeded anew and TEMPHI is clear. -/
def tempReport (st : Nat) (temp : BitVec 8) (s : State) : State :=
  let o := R.HBM_STAT st
  let was := signedOf 8 (s.fld o F.HBM_STAT_TEMP)
  let s := s.setFld o F.HBM_STAT_TEMP temp.toNat
  if temp.toInt > 95 ∧ was ≤ 95 ∧ ¬ s.flag o F.HBM_STAT_TEMPHI then
    logCairn .memory 0x09 [⟨3, st⟩, ⟨8, temp.toNat⟩] (raise (155 + st) (s.setFld o F.HBM_STAT_TEMPHI 1))
  else s

/-- R292. -/
def execHbmTemperatureHigh (st : Fin 6) (temp : BitVec 8) (s : State) : Res := ok (tempReport st temp s)

end Sys2Proof.Machine
end

