-- ==== Sys2Proof/Machine/Cairn.lean ====
section
/-! DEFINITION. The Cairn log's output side: accepting, reading and software entries (17 R639–R647). -/

namespace Sys2Proof.Machine

/-- The entry at an index. -/
def State.cairnAt (s : State) (i : Nat) : CairnEnt := tget (fun _ => {}) s.cairn.ring (i % 65536)

/-- NEXT − ACK, R644. -/
def State.cairnLag (s : State) : Nat :=
  (s.fld R.CAIRN_SEQ F.CAIRN_SEQ_NEXT + 2 ^ 32 - s.fld R.CAIRN_ACK F.CAIRN_ACK_ACK) % 2 ^ 32

/-- A flag of CAIRN.STAT set by the log; its event is raised when it was clear, R644. -/
def cairnFlag (f : Fld) (ev : Nat) (s : State) : State :=
  if s.flag R.CAIRN_STAT f then s else raise ev (s.setFld R.CAIRN_STAT f 1)

/-- An entry that overwrites one not yet consumed, R644. -/
def cairnOverrun (s : State) : State :=
  if 65536 ≤ s.cairnLag then
    let was := s.flag R.CAIRN_STAT F.CAIRN_STAT_OVR
    let seq := s.fld R.CAIRN_SEQ F.CAIRN_SEQ_NEXT
    let s := cairnFlag F.CAIRN_STAT_OVR 761 (s.bump R.CAIRN_OVRCNT F.CAIRN_OVRCNT_OVRCNT)
    if was then s else logCairn .cairn 0x01 [⟨32, seq + 0xFFFF0000⟩] s
  else s

/-- The entry as stored, R640. -/
def CairnIn.stored (e : CairnIn) (seq : Nat) (drop : Bool) : CairnEnt :=
  { tick := e.tick, pos0 := e.pos0, detail := e.detail,
    e2 := BitVec.ofNat 48 (e.code + e.src * 2 ^ 8 + b2n e.cont * 2 ^ 13 + b2n drop * 2 ^ 14 + seq * 2 ^ 16) }

/-- An entry put at the next sequence number, R639 and R643. -/
def cairnPut (e : CairnIn) (drop : Bool) (s : State) : State :=
  let seq := s.fld R.CAIRN_SEQ F.CAIRN_SEQ_NEXT
  let r := tset (fun _ => {}) s.cairn.ring (seq % 65536) (e.stored seq drop)
  { s with cairn := { s.cairn with dropped := false, ring := r } }.bump R.CAIRN_SEQ F.CAIRN_SEQ_NEXT

/-- WMARK judged after an entry, R644. -/
def cairnMark (s : State) : State :=
  let thr := s.fld R.CAIRN_CFG F.CAIRN_CFG_WMTHR
  if thr ≠ 0 ∧ thr ≤ s.cairnLag then cairnFlag F.CAIRN_STAT_WMARK 760 s else s

/-- MATCH judged for an entry, R644. -/
def cairnMatch (e : CairnIn) (s : State) : State :=
  if s.flag R.CAIRN_CFG F.CAIRN_CFG_MEN && e.src == s.fld R.CAIRN_CFG F.CAIRN_CFG_MSRC
      && e.code == s.fld R.CAIRN_CFG F.CAIRN_CFG_MCODE then cairnFlag F.CAIRN_STAT_MATCH 762 s
  else s

/-- One entry accepted, R639 and R644. -/
def cairnTake (s : State) : State :=
  if s.cairn.frozen then s
  else match s.cairn.queue with
  | [] => s
  | e :: q =>
    let t := cairnOverrun { s with cairn := { s.cairn with queue := q } }
    cairnMatch e (cairnMark (cairnPut e s.cairn.dropped t))

/-- The entries that the log has accepted in this tick. -/
def State.cairnInTick (s : State) : Nat := if s.cairn.lastTick = s.tick then s.cairn.inTick else 0

/-- One entry accepted in a GCLK of this tick: at most one a GCLK, R643. -/
def cairnAccept (s : State) : State :=
  if s.cairn.queue = [] ∨ 16 ≤ s.cairnInTick then s
  else cairnTake { s with cairn := { s.cairn with lastTick := s.tick, inTick := s.cairnInTick + 1 } }

/-- R643. -/
def execCairnEntryAccept (s : State) : Res := ok (cairnAccept s)

/-- Word Ek of the entry at RIDX, R645. -/
def State.rdat (s : State) (k : Nat) : Payload :=
  let e := s.cairnAt (s.fld R.CAIRN_RIDX F.CAIRN_RIDX_RIDX)
  match k with
  | 0 => e.tick
  | 1 => e.pos0
  | 2 => e.e2
  | _ => e.detail

/-- RIDX after a read of RDAT3, R645. -/
def rdat3Read (s : State) : State := s.bump R.CAIRN_RIDX F.CAIRN_RIDX_RIDX

/-- A write of SWENT, R646. -/
def swentWrite (v : Nat) (s : State) : State := logCairn .software (v % 256) [⟨40, v / 256⟩] s

/-- R646. -/
def execSwent (v : Payload) (s : State) : Res := ok (swentWrite v.toNat s)

end Sys2Proof.Machine
end

