-- ==== Sys2Proof/Machine/ControlStore.lean ====
section
/-! DEFINITION. The control stores of the cores and of the gallery sequencers: microwords, ROM and patch RAM, the match
registers, and a run of a routine (07 R252–R258, R265, R268). -/

namespace Sys2Proof.Machine

/-! ### Microwords and their addresses, R252 and R253 -/

/-- A microword's fields. -/
structure Microword where
  uop : BitVec 6
  fa : BitVec 6
  fb : BitVec 6
  fc : BitVec 6
  deriving DecidableEq, Repr

/-- The fields of 24 bits. -/
def microword (w : BitVec 24) : Microword :=
  { uop := w.extractLsb' 18 6
    fa := w.extractLsb' 12 6
    fb := w.extractLsb' 6 6
    fc := w.extractLsb' 0 6 }

/-- What has a control store: a Lantern core, or the gallery sequencers with their one image, R258. -/
inductive UcUnit where
  | lantern (n : Nat)
  | sequencer
  deriving DecidableEq, Repr

/-- ROM words, which begin at micro-address 0. -/
def UcUnit.rom : UcUnit → Nat
  | .lantern _ => 0x1000
  | .sequencer => 0x2000

/-- Patch words, which follow them. -/
def UcUnit.patches : UcUnit → Nat
  | .lantern _ => 512
  | .sequencer => 1024

/-- The control store has the micro-address. -/
def UcUnit.has (u : UcUnit) (a : Nat) : Bool := decide (a < u.rom + u.patches)

/-- The unit that a constant of Config names. -/
def UcUnit.isSeq : UcUnit → Bool
  | .lantern _ => false
  | .sequencer => true

/-! ### Matching, R256 and R257 -/

/-- A register of core n's control store as it is in effect, R260. -/
def State.ucReg (s : State) (n off : Nat) : Nat := ((s.core n).ucHeld.lookup off).getD (s.regN off)

/-- A patch entry's microword. -/
def State.patchWord (s : State) (u : UcUnit) (e : Nat) : BitVec 24 :=
  match u with
  | .lantern n => BitVec.ofNat 24 (s.ucReg n (R.UC_LPATCH n e))
  | .sequencer => BitVec.ofNat 24 (s.fld (R.UC_GPATCH e) F.UC_GPATCH_UWORD)

/-- A match register: EN, ROMA and PADDR. -/
def State.matchReg (s : State) (u : UcUnit) (k : Nat) : Bool × Nat × Nat :=
  match u with
  | .lantern n =>
    let v := s.ucReg n (R.UC_LMATCH n k)
    (bit v 23, bits v 0 13, bits v 13 10)
  | .sequencer =>
    let r := R.UC_GMATCH k
    (s.flag r F.UC_GMATCH_EN, s.fld r F.UC_GMATCH_ROMA, s.fld r F.UC_GMATCH_PADDR)

/-- Match register k takes a fetch from a micro-address: only a ROM address is matched. -/
def State.ucMatches (s : State) (u : UcUnit) (a k : Nat) : Bool :=
  let r := s.matchReg u k
  decide (a < u.rom) && r.1 && r.2.1 == a

/-- The patch entry that replaces a ROM word: that of the lowest-numbered register that matches. -/
def State.ucMatch (s : State) (u : UcUnit) (a : Nat) : Option Nat :=
  ((List.range 16).find? (s.ucMatches u a)).map fun k => (s.matchReg u k).2.2 % u.patches

/-- No match register of a unit is enabled, as after reset, R265. -/
def State.unpatched (s : State) (u : UcUnit) : Bool := (List.range 16).all fun k => !(s.matchReg u k).1

/-- A micro-fetch: the micro-address at which the microword stands and the microword; none from outside both ranges,
R255 and R256. -/
def State.microFetch (s : State) (u : UcUnit) (a : Nat) : Option (Nat × Microword) :=
  if !u.has a then none
  else if u.rom ≤ a then some (a, microword (s.patchWord u (a - u.rom)))
  else match s.ucMatch u a with
    | some e => some (u.rom + e, microword (s.patchWord u e))
    | none => some (a, microword (Config.microRom u.isSeq a))

/-! ### Runs, R254

What a UOP does belongs to each stepping's ROM. A routine's way through an unmatched ROM is a constant of Config; a run
that a match takes into patch RAM goes on microword by microword under constants of Config. (DESIGN CHOICE, log
entry 15.) -/

/-- What the fetches of a routine come to: the ROM's own routine, a run that patch words took part in, or a micro-address
fault. -/
inductive UcRun where
  | rom
  | patched
  | fault (mpc : Nat)
  deriving DecidableEq, Repr

/-- At most `k` microwords from a micro-address: a micro-jump names the next one, else it follows. -/
def microRun (u : UcUnit) : Nat → Nat → State → UcRun
  | 0, _, _ => .patched
  | k + 1, a, s =>
    match s.microFetch u a with
    | none => .fault a
    | some (m, w) =>
      let w := w.uop ++ w.fa ++ w.fb ++ w.fc
      if Config.microLast w (s.fresh + k) then .patched
      else microRun u k ((Config.microJump w (s.fresh + k)).getD (m + 1)) s

/-- A routine run from a micro-address: in ROM it follows its way until a fetch matches. -/
def runFrom (u : UcUnit) (routine a : Nat) (s : State) : UcRun × State :=
  if !u.has a then (.fault a, s)
  else if s.unpatched u && decide (a < u.rom) then (.rom, s)
  else
    let way := (Config.microWay u.isSeq routine a s.fresh).map fun x => x.toNat % u.rom
    match (if u.rom ≤ a then some a else ((a :: way).findSome? (s.ucMatch u)).map (u.rom + ·)) with
    | none => (.rom, s)
    | some p => let r := s.freeNat; (microRun u r.1 p r.2, r.2)

/-- A routine run from its first microword, which lies in ROM; where no match register is enabled, no fetch leaves the
ROM. -/
def runRoutine (u : UcUnit) (routine : Nat) (s : State) : UcRun × State :=
  if s.unpatched u then (.rom, s)
  else runFrom u routine ((Config.microStart u.isSeq routine).toNat % u.rom) s

end Sys2Proof.Machine
end

