-- ==== Sys2Proof/Machine/Decimal.lean ====
section
/-! DEFINITION. Packed decimal (03 R102–R105). -/

namespace Sys2Proof.Machine

/-- Validity of a DEC payload: 11 digits and a sign of 0xC or 0xD, R102. -/
def decValid (p : Nat) : Bool :=
  ((List.range 11).all fun k => decide (bits p (4 * k + 4) 4 ≤ 9))
    && (bits p 0 4 == 0xC || bits p 0 4 == 0xD)

/-- The magnitude of the low `n` digits, R49. -/
def decMag (p : Nat) : Nat → Nat
  | 0 => 0
  | n + 1 => decMag p n + bits p (4 * n + 4) 4 * 10 ^ n

/-- The value of a valid DEC payload, R102. -/
def decValue (p : Nat) : Int := if bits p 0 4 = 0xD then -(decMag p 11 : Int) else decMag p 11

/-- The digits of a magnitude placed as R49 places them. -/
def decDigits (m : Nat) : Nat → Nat
  | 0 => 0
  | n + 1 => decDigits m n + (m / 10 ^ n % 10) * 2 ^ (4 * n + 4)

/-- A DEC payload of a magnitude below 10^11 and a sign; zero carries 0xC, R105. -/
def decPack (neg : Bool) (m : Nat) : Nat :=
  decDigits m 11 + (if neg && m != 0 then 0xD else 0xC)

/-- A decimal result with its DOV flag: the low 11 digits, or the bound when saturating, R104. -/
def decResult (saturate : Bool) (v : Int) : Nat × Bool :=
  let m := v.natAbs
  if m ≤ 99999999999 then (decPack (decide (v < 0)) m, false)
  else (decPack (decide (v < 0)) (if saturate then 99999999999 else m % 10 ^ 11), true)

end Sys2Proof.Machine
end

