-- ==== Sys2Proof/Machine/Fp32.lean ====
section
/-! DEFINITION. Binary32 arithmetic (03 R85–R101). -/

namespace Sys2Proof.Machine

/-- Rounding directions, R73. -/
inductive FRound where
  | rne | rtz | rup | rdn
  deriving DecidableEq, Repr

/-- The encoding of R73. -/
def FRound.decode (x : Nat) : FRound :=
  match x % 4 with
  | 0 => .rne
  | 1 => .rtz
  | 2 => .rup
  | _ => .rdn

/-- Direction and flush mode of an operation, R73 and R87. -/
structure FMode where
  frm : FRound
  ftz : Bool
  deriving DecidableEq, Repr

/-- A binary32 datum: `fin s m e` is (−1)^s · m · 2^e with m ≠ 0. -/
inductive FVal where
  | nan (signalling : Bool)
  | inf (s : Bool)
  | zero (s : Bool)
  | fin (s : Bool) (m : Nat) (e : Int)
  deriving DecidableEq, Repr

/-- The canonical NaN, R88. -/
def fpNaN : Nat := 0x7FC00000
/-- Infinity of a sign, R89. -/
def fpInf (s : Bool) : Nat := if s then 0xFF800000 else 0x7F800000
/-- Zero of a sign. -/
def fpZero (s : Bool) : Nat := if s then 0x80000000 else 0
/-- The largest finite value of a sign (MX of R89). -/
def fpMax (s : Bool) : Nat := if s then 0xFF7FFFFF else 0x7F7FFFFF

/-- The datum of a bit pattern; bits above 31 are ignored (R50). -/
def fpDecode (x : Nat) : FVal :=
  let s := bit x 31
  let ex := bits x 23 8
  let fr := bits x 0 23
  if ex = 255 then (if fr = 0 then .inf s else .nan (!bit x 22))
  else if ex = 0 then (if fr = 0 then .zero s else .fin s fr (-149))
  else .fin s (2 ^ 23 + fr) ((ex : Int) - 150)

/-- A subnormal pattern. -/
def fpSubnormal (x : Nat) : Bool := bits x 23 8 == 0 && bits x 0 23 != 0

/-- An operand as the operation takes it: subnormals flushed under FTZ, R87. -/
def fpTake (md : FMode) (x : Nat) : FVal :=
  if md.ftz && fpSubnormal x then .zero (bit x 31) else fpDecode x

/-- The number of significant bits of a magnitude. -/
def bitLen (m : Nat) : Nat := if m = 0 then 0 else Nat.log2 m + 1

/-- A magnitude m·2^e (more when `sticky`) rounded to a multiple of 2^q, in units of 2^q, and whether
it was inexact. -/
def roundAt (frm : FRound) (s : Bool) (m : Nat) (e q : Int) (sticky : Bool) : Nat × Bool :=
  if q ≤ e then (m * 2 ^ (e - q).toNat, sticky)
  else
    let d := (q - e).toNat
    let keep := m / 2 ^ d
    let rem := m % 2 ^ d
    let half := 2 ^ (d - 1)
    let inex := rem != 0 || sticky
    let up := match frm with
      | .rne => decide (rem > half) || (rem == half && (sticky || keep % 2 == 1))
      | .rtz => false
      | .rup => inex && !s
      | .rdn => inex && s
    (if up then keep + 1 else keep, inex)

/-- The result of an overflow, R99. -/
def fpOverflow (frm : FRound) (s : Bool) : Nat :=
  match frm with
  | .rne => fpInf s
  | .rtz => fpMax s
  | .rup => if s then fpMax s else fpInf s
  | .rdn => if s then fpInf s else fpMax s

/-- Round an exact non-zero magnitude to binary32, with the flags of R86, R87, R89 and R99. -/
def fpRound (md : FMode) (s : Bool) (m : Nat) (e : Int) (sticky : Bool) : Nat × Flg :=
  let top : Int := e + bitLen m - 1
  -- tininess after rounding, as if the exponent range were unbounded, R86
  let unb := roundAt md.frm s m e (top - 23) sticky
  let topUnb : Int := if unb.1 = 2 ^ 24 then top + 1 else top
  let tiny := decide (topUnb < -126)
  if tiny && md.ftz then (fpZero s, { uf := true, nx := true })
  else
    let q : Int := max (top - 23) (-149)
    let r := roundAt md.frm s m e q sticky
    let sgn := if s then 2 ^ 31 else 0
    if r.1 = 0 then (fpZero s, { uf := r.2, nx := r.2 })
    else if r.1 < 2 ^ 23 then (sgn + r.1, { uf := r.2, nx := r.2 })
    else
      let mm := if r.1 = 2 ^ 24 then 2 ^ 23 else r.1
      let qq := if r.1 = 2 ^ 24 then q + 1 else q
      if qq + 150 ≥ 255 then (fpOverflow md.frm s, { of := true, nx := true })
      else (sgn + (qq + 150).toNat * 2 ^ 23 + (mm - 2 ^ 23), { uf := tiny && r.2, nx := r.2 })

/-- Whether the exact non-zero magnitude m·2^e is tiny under R86 (used by R430). -/
def fpTiny (md : FMode) (s : Bool) (m : Nat) (e : Int) (sticky : Bool) : Bool :=
  let top : Int := e + bitLen m - 1
  let unb := roundAt md.frm s m e (top - 23) sticky
  decide ((if unb.1 = 2 ^ 24 then top + 1 else top) < -126)

/-- A NaN result: IV when any operand is signalling, R88. -/
def fpNaNOf (l : List FVal) : Nat × Flg :=
  (fpNaN, { iv := l.any (fun v => match v with | .nan true => true | _ => false) })

/-- NaN of either kind. -/
def FVal.isNaN : FVal → Bool
  | .nan _ => true
  | _ => false

/-- The sign and exact signed sum of two finite magnitudes, as an integer in units of 2^e. -/
def fpSum (s1 : Bool) (m1 : Nat) (e1 : Int) (s2 : Bool) (m2 : Nat) (e2 : Int) : Int × Int :=
  let e := min e1 e2
  let a : Int := (m1 * 2 ^ (e1 - e).toNat : Nat)
  let b : Int := (m2 * 2 ^ (e2 - e).toNat : Nat)
  ((if s1 then -a else a) + (if s2 then -b else b), e)

/-- The sign of an exact zero sum of opposite signs, R90. -/
def zeroSign (md : FMode) : Bool := md.frm == .rdn

/-- Add two data, R85 and R90. -/
def fpAddV (md : FMode) (a b : FVal) : Nat × Flg :=
  match a, b with
  | .nan _, _ => fpNaNOf [a, b]
  | _, .nan _ => fpNaNOf [a, b]
  | .inf s, .inf t => if s = t then (fpInf s, {}) else (fpNaN, { iv := true })
  | .inf s, _ => (fpInf s, {})
  | _, .inf t => (fpInf t, {})
  | .zero s, .zero t => (fpZero (if s = t then s else zeroSign md), {})
  | .zero _, .fin t m e => fpRound md t m e false
  | .fin s m e, .zero _ => fpRound md s m e false
  | .fin s1 m1 e1, .fin s2 m2 e2 =>
    let r := fpSum s1 m1 e1 s2 m2 e2
    if r.1 = 0 then (fpZero (zeroSign md), {})
    else fpRound md (decide (r.1 < 0)) r.1.natAbs r.2 false

/-- Negate a datum (subtraction is addition of the negation, R91). -/
def FVal.neg : FVal → FVal
  | .nan q => .nan q
  | .inf s => .inf (!s)
  | .zero s => .zero (!s)
  | .fin s m e => .fin (!s) m e

def fpAdd (md : FMode) (x y : Nat) : Nat × Flg := fpAddV md (fpTake md x) (fpTake md y)
def fpSub (md : FMode) (x y : Nat) : Nat × Flg := fpAddV md (fpTake md x) (fpTake md y).neg

/-- Multiply, R85 and R90. -/
def fpMulV (md : FMode) (a b : FVal) : Nat × Flg :=
  match a, b with
  | .nan _, _ => fpNaNOf [a, b]
  | _, .nan _ => fpNaNOf [a, b]
  | .inf _, .zero _ => (fpNaN, { iv := true })
  | .zero _, .inf _ => (fpNaN, { iv := true })
  | .inf s, .inf t => (fpInf (s != t), {})
  | .inf s, .fin t _ _ => (fpInf (s != t), {})
  | .fin s _ _, .inf t => (fpInf (s != t), {})
  | .zero s, .zero t => (fpZero (s != t), {})
  | .zero s, .fin t _ _ => (fpZero (s != t), {})
  | .fin s _ _, .zero t => (fpZero (s != t), {})
  | .fin s m e, .fin t n f => fpRound md (s != t) (m * n) (e + f) false

def fpMul (md : FMode) (x y : Nat) : Nat × Flg := fpMulV md (fpTake md x) (fpTake md y)

/-- Divide, R90 and R94. The quotient carries more than 60 bits and a sticky remainder. -/
def fpDivV (md : FMode) (a b : FVal) : Nat × Flg :=
  match a, b with
  | .nan _, _ => fpNaNOf [a, b]
  | _, .nan _ => fpNaNOf [a, b]
  | .inf _, .inf _ => (fpNaN, { iv := true })
  | .zero _, .zero _ => (fpNaN, { iv := true })
  | .inf s, .zero t => (fpInf (s != t), {})
  | .inf s, .fin t _ _ => (fpInf (s != t), {})
  | .fin s _ _, .zero t => (fpInf (s != t), { dz := true })
  | .zero s, .inf t => (fpZero (s != t), {})
  | .zero s, .fin t _ _ => (fpZero (s != t), {})
  | .fin s _ _, .inf t => (fpZero (s != t), {})
  | .fin s m e, .fin t n f =>
    fpRound md (s != t) (m * 2 ^ 64 / n) (e - f - 64) (m * 2 ^ 64 % n != 0)

def fpDiv (md : FMode) (x y : Nat) : Nat × Flg := fpDivV md (fpTake md x) (fpTake md y)

/-- The integer square root of `n`, `n < 4^k`, bit by bit. -/
def isqrt (n : Nat) : Nat → Nat → Nat
  | 0, r => r
  | k + 1, r => if (r + 2 ^ k) * (r + 2 ^ k) ≤ n then isqrt n k (r + 2 ^ k) else isqrt n k r

/-- Square root, R90 and R95. -/
def fpSqrtV (md : FMode) (a : FVal) : Nat × Flg :=
  match a with
  | .nan _ => fpNaNOf [a]
  | .zero s => (fpZero s, {})
  | .inf s => if s then (fpNaN, { iv := true }) else (fpInf false, {})
  | .fin s m e =>
    if s then (fpNaN, { iv := true })
    else
      let odd := e % 2 ≠ 0
      let m2 := m * 2 ^ 64 * (if odd then 2 else 1)
      let e2 := (if odd then e - 1 else e) - 64
      let r := isqrt m2 50 0
      fpRound md false r (e2 / 2) (r * r != m2)

def fpSqrt (md : FMode) (x : Nat) : Nat × Flg := fpSqrtV md (fpTake md x)

/-- Fused multiply-add a × b + c, rounded once, R85, R90 and R96. -/
def fpFmaV (md : FMode) (a b c : FVal) : Nat × Flg :=
  let zeroInf := match a, b with
    | .zero _, .inf _ => true
    | .inf _, .zero _ => true
    | _, _ => false
  if zeroInf then (fpNaN, { iv := true })
  else if a.isNaN || b.isNaN || c.isNaN then fpNaNOf [a, b, c]
  else
    let sgnOf : FVal → Bool := fun v => match v with
      | .nan _ => false | .inf s => s | .zero s => s | .fin s _ _ => s
    let s := sgnOf a != sgnOf b
    match a, b, c with
    | .fin _ m e, .fin _ n f, .fin t k g =>
      let r := fpSum s (m * n) (e + f) t k g
      if r.1 = 0 then (fpZero (zeroSign md), {})
      else fpRound md (decide (r.1 < 0)) r.1.natAbs r.2 false
    | .fin _ m e, .fin _ n f, .zero _ => fpRound md s (m * n) (e + f) false
    | .fin _ _ _, .fin _ _ _, .inf t => (fpInf t, {})
    | .inf _, _, .inf t => if s = t then (fpInf s, {}) else (fpNaN, { iv := true })
    | _, .inf _, .inf t => if s = t then (fpInf s, {}) else (fpNaN, { iv := true })
    | .inf _, _, _ => (fpInf s, {})
    | _, .inf _, _ => (fpInf s, {})
    | _, _, c => fpAddV md (.zero s) c

def fpFma (md : FMode) (x y z : Nat) : Nat × Flg := fpFmaV md (fpTake md x) (fpTake md y) (fpTake md z)

/-- Three-way order of two non-NaN data: −1, 0 or 1; −0 equals +0, R100. -/
def fpOrder (a b : FVal) : Int :=
  let v : FVal → Int × Int × Int := fun x => match x with
    | .inf s => (if s then -1 else 1, 0, 0)
    | .fin s m e => (0, if s then -(m : Int) else m, e)
    | _ => (0, 0, 0)
  let x := v a
  let y := v b
  if x.1 ≠ y.1 then (if x.1 < y.1 then -1 else 1)
  else
    let e := min x.2.2 y.2.2
    let p := x.2.1 * 2 ^ (x.2.2 - e).toNat
    let q := y.2.1 * 2 ^ (y.2.2 - e).toNat
    if p < q then -1 else if p = q then 0 else 1

/-- The six comparisons, R100. -/
inductive Cmp where
  | eq | ne | lt | le | gt | ge
  deriving DecidableEq, Repr

/-- What a comparison says of an order of −1, 0 or 1. -/
def Cmp.holds (c : Cmp) (o : Int) : Bool :=
  match c with
  | .eq => o == 0 | .ne => o != 0 | .lt => o == -1 | .le => o != 1 | .gt => o == 1 | .ge => o != -1

/-- A binary32 comparison with its flags, R100. -/
def fpCmp (md : FMode) (c : Cmp) (x y : Nat) : Bool × Flg :=
  let a := fpTake md x
  let b := fpTake md y
  if a.isNaN || b.isNaN then
    match c with
    | .eq => (false, (fpNaNOf [a, b]).2)
    | .ne => (true, (fpNaNOf [a, b]).2)
    | _ => (false, { iv := true })
  else (c.holds (fpOrder a b), {})

/-- The pattern of a datum that an operation delivers unrounded. -/
def fpPattern (md : FMode) (x : Nat) : Nat :=
  if md.ftz && fpSubnormal x then fpZero (bit x 31) else x % 2 ^ 32

/-- MIN and MAX, R100; MIN of −0 and +0 is −0 and MAX is +0. -/
def fpMinMax (md : FMode) (wantMax : Bool) (x y : Nat) : Nat × Flg :=
  let a := fpTake md x
  let b := fpTake md y
  if a.isNaN || b.isNaN then fpNaNOf [a, b]
  else
    let o := fpOrder a b
    let xs := bit x 31
    if o = 0 then
      (if (xs && !wantMax) || (!xs && wantMax) then fpPattern md x else fpPattern md y, {})
    else if (o = -1) = !wantMax then (fpPattern md x, {}) else (fpPattern md y, {})

/-- A datum that an operation delivers unchanged, R87 and R88: flushed under FTZ, a NaN in canonical form. -/
def fpDeliver (md : FMode) (x : Nat) : Nat := if (fpDecode x).isNaN then fpNaN else fpPattern md x

/-- Neither zero after the flush of R87; a NaN is not zero, R171. -/
def fpNonZero (md : FMode) (x : Nat) : Bool :=
  match fpTake md x with
  | .zero _ => false
  | _ => true

/-- SELZ, and SELNZ where `nz`, R87, R88 and R171. -/
def fpSelect (md : FMode) (nz : Bool) (x s : Nat) : Nat × Flg :=
  let r := if nz then (if fpNonZero md x then fpDeliver md s else 0)
    else (if fpNonZero md x then fpDeliver md x else fpDeliver md s)
  (r, (fpNaNOf [fpTake md x, fpTake md s]).2)

/-- FABS and FNEG, R87 and R411: never flushed, never a flag, a NaN gives the canonical NaN. -/
def fpSignOp (neg : Bool) (x : Nat) : Nat :=
  if (fpDecode x).isNaN then fpNaN
  else if neg then setBits (x % 2 ^ 32) 31 1 (1 - b2n (bit x 31)) else x % 2 ^ 31

/-- An exact signed value s·m·2^e rounded to an integer, and whether it was inexact. -/
def fpToIntegral (frm : FRound) (s : Bool) (m : Nat) (e : Int) : Int × Bool :=
  let r := roundAt frm s m e 0 false
  (if s then -(r.1 : Int) else r.1, r.2)

/-- Conversion to a fixed-point type, R97 and R98: I48 raises IV out of range, the others SAT. -/
def fpToFixed (md : FMode) (t : EType) (x : Nat) : Int × Flg :=
  let oob : Flg := if t = .i48 then { iv := true } else { sat := true }
  match fpTake md x with
  | .nan _ => (0, { iv := true })
  | .inf s => (if s then t.mint else t.maxt, oob)
  | .zero _ => (0, {})
  | .fin s m e =>
    let r := fpToIntegral md.frm s m e
    if r.1 > t.maxt then (t.maxt, oob)
    else if r.1 < t.mint then (t.mint, oob)
    else (r.1, { nx := r.2 })

/-- Conversion of an integer to binary32, R101. -/
def fpOfInt (md : FMode) (v : Int) : Nat × Flg :=
  if v = 0 then (0, {}) else fpRound md (decide (v < 0)) v.natAbs 0 false

end Sys2Proof.Machine
end

