-- ==== Sys2Proof/Machine/GChain.lean ====
section
/-! DEFINITION. The chain of a gallery instruction: its operations, constants, accumulators and reductions
(05 R159–R176). Fixed-point values are integers; binary32 and decimal values are their patterns. -/

namespace Sys2Proof.Machine

/-- What a chain reads beside its element: rounding and saturation of w9, FTZ of R77, and the copied LUT. -/
structure ChainEnv where
  d : Desc
  ftz : Bool
  lut : List (Word × Bool)

/-- The binary32 mode, R77. -/
def ChainEnv.fmode (v : ChainEnv) : FMode := ⟨FRound.decode v.d.rnd, v.ftz⟩
/-- The fixed-point rounding mode. -/
def ChainEnv.xmode (v : ChainEnv) : XRound := XRound.decode v.d.rnd

/-- The elements of one index: the streams' values under ETYPE. -/
structure Elem where
  a : Int := 0
  b : Int := 0
  c : Int := 0
  dd : Int := 0
  deriving DecidableEq, Repr

/-- A constant under the type in force, R159. -/
def constValue (t : EType) (k : Nat) : Int :=
  match t with
  | .s12u => (k % 4096 : Nat)
  | .s12s => signedOf 12 k
  | .h16s => signedOf 16 k
  | .p24s | .i48 => signedOf 24 k
  | .fp => (k * 256 : Nat)
  | .dec => (k : Nat)

/-- The side operand of step k, R161. -/
def sideValue (d : Desc) (e : Elem) (t : EType) (k sel : Nat) : Int :=
  match sel with
  | 0 => e.a
  | 1 => e.b
  | 2 => e.c
  | _ => if d.fed = 4 then e.dd else constValue t (if k < 3 then d.k0 else d.k1)

/-- A constant taken under DEC that fails the check of R102, R159. -/
def Desc.badConst (d : Desc) (t : EType) (sel : Nat) (s : Int) : Bool :=
  t == .dec && (d.names sel).isNone && !decValid s.toNat

/-- A value is not zero, R171: both binary32 zeros are zero, a NaN is not. -/
def notZero (t : EType) (x : Int) : Bool :=
  if t = .fp then (match fpDecode x.toNat with
    | .zero _ => false
    | _ => true) else x != 0

/-- The outcome of one operation: a value with its flags, or a fault. -/
inductive OpOut where
  | val (x : Int) (f : Flg)
  /-- A fault of a cause of R233; `lut` is the table word that raised it, R715. -/
  | bad (cause : Nat) (lut : Option Nat)

/-- A binary32 result. -/
def OpOut.fp (r : Nat × Flg) : OpOut := .val r.1 r.2

/-- A comparison's result in the type in force, R171. -/
def cmpValue (t : EType) (b : Bool) : Int := if b then (if t = .fp then 0x3F800000 else 1) else 0

/-- The comparison that an operation code names. -/
def cmpOf (op : Nat) : Cmp :=
  match op with
  | 0x20 => .eq | 0x21 => .ne | 0x22 => .lt | 0x23 => .le | 0x24 => .gt | _ => .ge

/-- What a fixed-point comparison says. -/
def cmpFixed (c : Cmp) (x s : Int) : Bool := c.holds (if x < s then -1 else if x = s then 0 else 1)

/-- A bitwise operation on w-bit patterns. -/
def bitwise (t : EType) (f : Nat → Nat → Nat) (x s : Int) : Int :=
  valueOf t (f (patternOf t.width x) (patternOf t.width s))

/-- The fixed-point operations, R82, R83, R166, R169 and R171. -/
def fixedOp (v : ChainEnv) (t : EType) (op : Nat) (x s : Int) : Int × Flg :=
  let fit (num : Int) (den : Nat) := fixResult t v.xmode v.d.satm num den
  let n := shiftCount t s
  match op with
  | 0x01 => fit (x + s) 1
  | 0x02 => fit (x - s) 1
  | 0x03 => fit (s - x) 1
  | 0x04 => fit (-x) 1
  | 0x05 => fit |x| 1
  | 0x06 => fit |x - s| 1
  | 0x07 => (min x s, {})
  | 0x08 => (max x s, {})
  | 0x09 => (bitwise t (· &&& ·) x s, {})
  | 0x0A => (bitwise t (· ||| ·) x s, {})
  | 0x0B => (bitwise t (· ^^^ ·) x s, {})
  | 0x10 | 0x12 => fit (x * s) 1
  | 0x11 => fit (x * s) (if t = .s12u then 2 ^ 12 else 2 ^ (t.width - 1))
  | 0x18 => fit (x * 2 ^ n) 1
  | 0x19 => fit x (2 ^ n)
  | 0x26 => (if x = 0 then s else x, {})
  | 0x27 => (if x = 0 then 0 else s, {})
  | 0x30 =>
    if s = 0 then (if 0 ≤ x then t.maxt else t.mint, { sat := true })
    else fit (if s < 0 then -x else x) s.natAbs
  | _ => (cmpValue t (cmpFixed (cmpOf op) x s), {})

/-- The binary32 operations, R85 to R100 and R171; `c` is the addend of FMA, R173. -/
def fpOp (v : ChainEnv) (op : Nat) (x s c : Nat) : Nat × Flg :=
  let m := v.fmode
  match op with
  | 0x28 => fpAdd m x s
  | 0x29 => fpSub m x s
  | 0x2A => fpSub m s x
  | 0x2B => fpMul m x s
  | 0x2C => fpFma m x s c
  | 0x2D => fpMinMax m false x s
  | 0x2E => fpMinMax m true x s
  | 0x2F => (fpSignOp false x, {})
  | 0x31 => fpDiv m x s
  | 0x32 => fpSqrt m x
  | 0x26 => fpSelect m false x s
  | 0x27 => fpSelect m true x s
  | _ => let r := fpCmp m (cmpOf op) x s; ((cmpValue .fp r.1).toNat, r.2)

/-- A CVT step, R172. -/
def cvtOp (v : ChainEnv) (t u : EType) (x : Int) : Int × Flg :=
  if t = u then (x, {})
  else if u = .fp then let r := fpOfInt v.fmode x; (r.1, r.2)
  else if t = .fp then fpToFixed v.fmode u x.toNat
  else fixResult u v.xmode v.d.satm x 1

/-- A decimal step, R174. -/
def decOp (v : ChainEnv) (sub : Bool) (x s : Nat) : OpOut :=
  if !decValid x || !decValid s then .bad 0x04 none
  else
    let r := decResult v.d.satm (if sub then decValue x - decValue s else decValue x + decValue s)
    .val r.1 { dov := r.2 }

/-- The entry of a LUT step, R170: cause 0x06 for a word held as UNI for an uncorrectable read, 0x03 for a tag. -/
def lutOp (v : ChainEnv) (t : EType) (x : Int) : OpOut :=
  let j := (x % 4096).toNat
  let (w, bad) := v.lut.getD (j / 4) (Word.uni0, false)
  if bad then .bad 0x06 (some (j / 4))
  else if w.tag.poisoned || (v.d.tcm != 2 && w.tag != Tags.quad && w.tag != Tags.raw) then .bad 0x03 (some (j / 4))
  else .val (valueOf t (bits w.pay.toNat (12 * (j % 4)) 12)) {}

/-- The accumulator lanes of a type, R168. -/
def macLanes (t : EType) : Nat :=
  match t with
  | .s12u | .s12s => 128 | .h16s => 96 | .p24s => 64 | _ => 32

/-- A chain under way. -/
structure ChainSt where
  x : Int
  /-- `x` is an exact product of MULW, R167. -/
  wide : Bool := false
  acc : Tab Int
  flags : Flg := {}
  active : Bool := true

/-- The next step that is not NOP shifts, R167. -/
def Desc.nextShifts (d : Desc) (k : Nat) : Bool :=
  match (List.range 6).find? fun j => decide (k < j) && d.op j != 0 with
  | some j => d.op j == 0x18 || d.op j == 0x19
  | none => false

/-- The addend of FMA: element i of stream C, read under ETYPE. (DESIGN CHOICE, log entry 28.) -/
def fmaAddend (d : Desc) (c : Int) : Nat := if d.et = .fp then c.toNat else Config.mixedAddend (bits (d.w 9) 24 3) c

/-- A MAC or MACS step, R168; it stores its sum unless `keep` is false. -/
def macStep (v : ChainEnv) (keep : Bool) (t : EType) (op i : Nat) (s : Int) (c : ChainSt) : ChainSt :=
  let lane := i % macLanes t
  let a := accFit v.d.satm (tget (fun _ => 0) c.acc lane + c.x * s)
  let r := fixResult t v.xmode v.d.satm a.1 (2 ^ (if op = 0x15 then v.d.k1 % 64 else 0))
  { c with
    x := r.1, acc := if keep then tset (fun _ => 0) c.acc lane a.1 else c.acc,
    flags := (c.flags.or { sat := a.2 }).or r.2 }

/-- One step of the chain, R162: the new state, or a fault. -/
def chainStep (v : ChainEnv) (keep : Bool) (i : Nat) (e : Elem) (k : Nat) (c : ChainSt) :
    Except (Nat × Option Nat) ChainSt :=
  let op := v.d.op k
  let t := v.d.typeAt v.d.et k
  let s := sideValue v.d e t k (v.d.sel k)
  let put (o : OpOut) : Except (Nat × Option Nat) ChainSt :=
    match o with
    | .val x f =>
      .ok { c with
        x := x, wide := false, flags := c.flags.or f,
        active := if v.d.msrc = 4 ∧ v.d.cmpStep = some k then notZero t x != v.d.minv else c.active }
    | .bad n l => .error (n, l)
  if op = 0 ∨ opClass op = .red then .ok c
  else if op = 0x12 ∧ v.d.nextShifts k then .ok { c with x := c.x * s, wide := true }
  else if op = 0x14 ∨ op = 0x15 then .ok (macStep v keep t op i s c)
  else if op = 0x0C then
    (if v.d.badConst t (v.d.sel k) s then .error (0x04, none) else put (.val s {}))
  else match cvtTo op with
    | some u => let r := cvtOp v t u c.x; put (.val r.1 r.2)
    | none =>
      if op = 0x34 then put (lutOp v t c.x)
      else if op = 0x3D ∨ op = 0x3E then put (decOp v (op == 0x3E) c.x.toNat s.toNat)
      else if t = .fp then put (.fp (fpOp v op c.x.toNat s.toNat (fmaAddend v.d e.c)))
      else let r := fixedOp v t op c.x s; put (.val r.1 r.2)

/-- The steps from k on. -/
def chainRun (v : ChainEnv) (keep : Bool) (i : Nat) (e : Elem) : List Nat → ChainSt →
    Except (Nat × Nat × Option Nat) ChainSt
  | [], c => .ok c
  | k :: ks, c =>
    match chainStep v keep i e k c with
    | .ok c => chainRun v keep i e ks c
    | .error (n, l) => .error (n, k, l)

/-- The reduction's value with no active element, R175. -/
def redIdentity (op : Nat) (t : EType) : Int :=
  match op with
  | 0x39 => if t = .fp then fpInf false else t.maxt
  | 0x3A => if t = .fp then fpInf true else t.mint
  | 0x3C => -1
  | _ => 0

/-- One active element folded into the reduction, R175. -/
def redFold (v : ChainEnv) (op : Nat) (t : EType) (i : Nat) (old x : Int) : Int × Flg :=
  let fp (r : Nat × Flg) : Int × Flg := (r.1, r.2)
  let hit : Bool := if t = .fp then fpNonZero v.fmode x.toNat else x != 0
  let iv : Flg := if t = .fp then (fpNaNOf [fpTake v.fmode x.toNat]).2 else {}
  match op with
  | 0x38 => if t = .fp then fp (fpAdd v.fmode old.toNat x.toNat) else fixResult .i48 .trunc v.d.satm (old + x) 1
  | 0x39 => if t = .fp then fp (fpMinMax v.fmode false old.toNat x.toNat) else (min old x, {})
  | 0x3A => if t = .fp then fp (fpMinMax v.fmode true old.toNat x.toNat) else (max old x, {})
  | 0x3B => (if hit then old + 1 else old, iv)
  | _ => (if old < 0 ∧ hit then i else old, iv)

/-- What the chain makes of one element. -/
structure ChainRes where
  x : Int
  active : Bool
  acc : Tab Int
  red : Option Int
  flags : Flg

/-- The reduction after an element. -/
def redAfter (v : ChainEnv) (i : Nat) (red : Option Int) (c : ChainSt) : Option Int × Flg :=
  match v.d.redStep with
  | none => (red, {})
  | some k =>
    if !c.active then (red, {})
    else
      let t := v.d.typeAt v.d.et k
      let r := redFold v (v.d.op k) t i (red.getD (redIdentity (v.d.op k) t)) c.x
      (some r.1, r.2)

/-- Element i through the chain, R162; a fault gives its cause, its step and the LUT word. Under PRED a masked-off
element stores no sum, R168; the mask is judged with every sum stored. (DESIGN CHOICE, log entry 88.) With stream A OFF the
element is the pattern 0 in every type. (DESIGN CHOICE, log entry 87.) -/
def chainElem (v : ChainEnv) (i : Nat) (e : Elem) (acc : Tab Int) (red : Option Int) :
    Except (Nat × Nat × Option Nat) ChainRes :=
  let start : ChainSt := { x := if v.d.on 0 then e.a else 0, acc := acc }
  match chainRun v true i e (List.range 6) start with
  | .error f => .error f
  | .ok c =>
    if c.active then
      let r := redAfter v i red c
      .ok { x := c.x, active := true, acc := c.acc, red := r.1, flags := c.flags.or r.2 }
    else match chainRun v false i e (List.range 6) start with
      | .error f => .error f
      | .ok b => .ok { x := c.x, active := false, acc := acc, red := red, flags := b.flags }

/-- The word that a RED result is, R175 and R176. -/
def redWord (d : Desc) (red : Option Int) : Option Word :=
  d.redStep.map fun k =>
    let t := d.typeAt d.et k
    let v := red.getD (redIdentity (d.op k) t)
    if t = .fp ∧ d.op k ≤ 0x3A then ⟨Tags.fp, BitVec.ofNat 48 v.toNat⟩ else Word.int (BitVec.ofInt 48 v)

end Sys2Proof.Machine
end

