-- ==== Sys2Proof/Machine/Translate.lean ====
section
/-! DEFINITION. Address translation, the same for cores and galleries: TLB entries, permissions, loading and
invalidating, and the A and D update (13 R490–R515). -/

namespace Sys2Proof.Machine

/-! ### Entries, R493 and R494 -/

/-- An entry's page size as a power of two of samples. -/
def TlbE.shift (e : TlbE) : Nat := if bit e.pte.toNat 12 then 24 else 16
/-- An entry is valid. -/
def TlbE.valid (e : TlbE) : Bool := bit e.pte.toNat 0
/-- The valid entry's page holds an address, R494. -/
def TlbE.hits (va : Nat) (e : TlbE) : Bool := e.valid && va / 2 ^ e.shift == e.vpn.toNat * 0x10000 / 2 ^ e.shift
/-- The physical sample address of a virtual one in the entry's page, R494. -/
def TlbE.phys (va : Nat) (e : TlbE) : Nat := bits e.pte.toNat e.shift (42 - e.shift) * 2 ^ e.shift + va % 2 ^ e.shift
/-- The page is a side-effect page, R493. -/
def TlbE.se (e : TlbE) : Bool := bit e.pte.toNat 6
/-- The entry with its valid bit cleared. -/
def TlbE.drop (e : TlbE) : TlbE := { e with pte := BitVec.ofNat 48 (setBits e.pte.toNat 0 1 0) }

/-- Entry i of a TLB. -/
def tlbAt (t : Tab TlbE) (i : Nat) : TlbE := tget (fun _ => {}) t i
/-- Entry i replaced. -/
def tlbPut (t : Tab TlbE) (i : Nat) (e : TlbE) : Tab TlbE := tset (fun _ => {}) t i e
/-- The entry that matches an address, R499. -/
def tlbFind (t : Tab TlbE) (va : Nat) : Option Nat := (t.find? fun x => x.2.hits va).map (·.1)
/-- Entry i invalidated. -/
def tlbDrop (t : Tab TlbE) (i : Nat) : Tab TlbE := tlbPut t i (tlbAt t i).drop

/-! ### Loading and invalidating, R495 to R497 -/

/-- Every valid entry that satisfies `p` invalidated. -/
def tlbDropIf (p : TlbE → Bool) (t : Tab TlbE) : Tab TlbE :=
  (t.filter fun x => x.2.valid && p x.2).foldl (fun t x => tlbDrop t x.1) t

/-- TLBI and GTLBI: the entries whose page holds the address. -/
def tlbInval (va : Nat) (t : Tab TlbE) : Tab TlbE := tlbDropIf (TlbE.hits va) t

/-- TLBIA and GTLBIA. -/
def tlbInvalAll (t : Tab TlbE) : Tab TlbE := tlbDropIf (fun _ => true) t

/-- Two pages overlap. -/
def TlbE.overlaps (a b : TlbE) : Bool :=
  let k := max a.shift b.shift
  a.vpn.toNat * 0x10000 / 2 ^ k == b.vpn.toNat * 0x10000 / 2 ^ k

/-- The entry that a load makes of its operands; the VPN keeps the bits of its page size. -/
def tlbNew (pte va ptea : Payload) : TlbE :=
  let k := if bit pte.toNat 12 then 24 else 16
  { vpn := BitVec.ofNat 32 (va.toNat / 2 ^ k * 2 ^ k / 0x10000), pte := pte, ptea := ptea.setWidth 42 }

/-- TLBW and GTLBW, R496: the TLB, NEXT and the entry written. `n` is the number of entries. -/
def tlbLoad (n wired next : Nat) (e : TlbE) (t : Tab TlbE) : Tab TlbE × Nat × Nat :=
  let hit := (t.filter fun x => x.2.valid && x.2.overlaps e).map (·.1)
  let t := hit.foldl tlbDrop t
  match hit with
  | i :: _ => (tlbPut t i e, next, i)
  | [] =>
    match ((List.range n).filter (wired ≤ ·)).find? fun i => !(tlbAt t i).valid with
    | some i => (tlbPut t i e, next, i)
    | none =>
      let i := max next wired
      (tlbPut t i e, if i + 1 = n then wired else i + 1, i)

/-- Why a TLB load is refused, R495. -/
inductive TlbBad where
  | tag (operand : Nat)
  | ill
  | addr
  | align
  deriving DecidableEq, Repr

/-- The checks of R495 on the operands wa, wb and wc. -/
def tlbCheck (a b c : Word) : Option TlbBad :=
  if a.tag ≠ Tags.pte then some (.tag 0)
  else if b.tag ≠ Tags.addr ∧ b.tag ≠ Tags.raw then some (.tag 1)
  else if c.tag ≠ Tags.addr ∧ c.tag ≠ Tags.int ∧ c.tag ≠ Tags.raw then some (.tag 2)
  else if bits a.pay.toNat 8 2 = 3 ∨ (bit a.pay.toNat 12 ∧ bits a.pay.toNat 16 8 ≠ 0) then some .ill
  else if c.pay.toNat ≥ 2 ^ 42 then some .addr
  else if c.pay.toNat % 4 ≠ 0 then some .align
  else none

/-! ### Permissions, R500, R501 and R505 -/

/-- The kinds of access that R500 tells apart. -/
inductive AccKind where
  | fetch | load | desc | store | rmw | sealWr | sealRd | clean | inval
  deriving DecidableEq, Repr

/-- Whether the page grants the access, R500. -/
def AccKind.granted (k : AccKind) (pte : Nat) : Bool :=
  let r := bit pte 1
  let w := bit pte 2
  let ss := bit pte 7
  match k with
  | .fetch => bit pte 3 && !bit pte 6 && !ss
  | .load | .clean => r
  | .desc => r && !bit pte 6
  | .store | .inval => w && !ss
  | .rmw => r && w && !ss
  | .sealWr => w && ss
  | .sealRd => r && ss

/-- The privilege rules of R501; `sg` is STAT.SG. -/
def levelGrants (lv : Level) (sg : Bool) (pte : Nat) : Bool :=
  match lv with
  | .u => bit pte 4
  | .s => !(bit pte 4 && (sg || bit pte 5))
  | .m => true

/-- Whether the access writes, R505 and R499. -/
def AccKind.writes : AccKind → Bool
  | .store => true | .rmw => true | .sealWr => true | .inval => true | _ => false

/-- Whether the access requires an A and D update, R505. -/
def AccKind.needsUpdate (k : AccKind) (pte : Nat) : Bool :=
  match k with
  | .clean | .inval => false
  | _ => !bit pte 10 || (k.writes && !bit pte 11)

/-- The bits that the update ORs in, R505. -/
def AccKind.adBits (k : AccKind) : Payload := if k.writes then 0xC00 else 0x400

/-! ### The A and D update, R506 to R509 -/

/-- What an update comes to. -/
inductive AdOut where
  | wait | done | stale | loc
  | bad (st : Status)
  deriving DecidableEq, Repr

/-- The update sent through `acc`, the way in which its requester reaches storage, R506 to R509. -/
def adUpdate (acc : Nat → JOp → State → BusOut × State) (k : AccKind) (e : TlbE) (s : State) : AdOut × State :=
  let a := e.ptea.toNat
  if !(targetOf a).owns then (.loc, s)
  else
    let match' := Word.int (e.pte &&& 0x3FFFFFF1000)
    match acc a (.pteupd match' (Word.int k.adBits)) s with
    | (.wait, s) => (.wait, s)
    | (.done r, s) =>
      if r.st ≠ .ok then (.bad r.st, s)
      else if pteJudge r.w.pay e.pte r.w.tag then (.done, s)
      else (.stale, s)

/-- A TLB entry after a successful update, R508. -/
def TlbE.updated (k : AccKind) (e : TlbE) : TlbE := { e with pte := e.pte ||| k.adBits }

end Sys2Proof.Machine
end

