-- ==== Sys2Proof/Machine/GExec.lean ====
section
/-! DEFINITION. The elements of a gallery instruction: its accesses, streams, relay inputs, result words and element
faults (05 R163, R177–R200, R205, 06 R223, R231–R234, R239–R243, R715). -/

namespace Sys2Proof.Machine

/-! ### Slots -/

/-- Slot sl of gallery g. -/
def State.slot (s : State) (g sl : Nat) : Slot := tget (fun _ => {}) (s.gal g).slots sl
/-- A slot replaced. -/
def State.setSlot (s : State) (g sl : Nat) (x : Slot) : State :=
  s.setGal g { s.gal g with slots := tset (fun _ => {}) (s.gal g).slots sl x }

/-! ### Accesses -/

/-- What a fault of R233 reports: cause, stream and step of R250, the address and its tag under R715, and the
side-effect words read so far for its element. -/
structure EFault where
  cause : Nat
  elem : Nat := 0
  stream : Nat
  step : Nat := 0
  addr : Nat := 0
  tag : Tag := Tags.addr
  se : List Word := []
  /-- The side-effect words read for the elements of the group, by element, R240. -/
  ses : List (Nat × List Word) := []
  deriving DecidableEq, Repr

/-- What an access, or a piece of an element's work, comes to. -/
inductive Acc (α : Type) where
  | wait (s : State)
  | bad (f : EFault) (s : State)
  | got (x : α) (s : State)

/-- An access of gallery g: over the gallery port into its own chamber, R183, else over the Junction. -/
def galAccess (g : Nat) (lv : Level) (a : Nat) (op : JOp) (s : State) (se : Bool := false) : BusOut × State :=
  if targetOf a = .cham g then storageAccess true (16 + g) a op s else memAccess (16 + g) lv a op s se

/-- The physical address of an offset in gallery g's chamber. -/
def chamAddr (g off : Nat) : Nat := 0x200_0000_0000 + g * 0x800000 + off

/-- The owner of a gallery, R206. -/
def State.galOwner (s : State) (g : Nat) : Nat := s.fld (R.GAL_CFG g) F.GAL_CFG_OWNER

/-- A PTE-location outcome of a gallery: reported to the owner core, R233 and R508. -/
def galPteloc (g : Nat) (ptea va : Nat) (s : State) : State :=
  let o := s.galOwner g
  let s := s.setCore o { s.core o with pteloc := (s.core o).pteloc ++ [BitVec.ofNat 48 ptea] }
  logCairn .translate 0x01 [dfMaster (16 + g), dfAddr ptea, ⟨48, va⟩] s

/-- A TLB entry of gallery g replaced. -/
def galTlbPut (g i : Nat) (e : TlbE) (s : State) : State :=
  s.setGal g { s.gal g with tlb := tlbPut (s.gal g).tlb i e }

/-- A virtual address translated by gallery g's TLB, R499 to R508: the physical address, and whether the page is
an SE page. -/
def galTranslate (g : Nat) (lv : Level) (k : AccKind) (va stream : Nat) (s : State) : Acc (Nat × Bool) :=
  let fault (c : Nat) : EFault := { cause := c, stream := stream, addr := va }
  match tlbFind (s.gal g).tlb va with
  | none => .bad (fault 0x01) s
  | some i =>
    let e := tlbAt (s.gal g).tlb i
    if !k.granted e.pte.toNat || !levelGrants lv false e.pte.toNat then .bad (fault 0x02) s
    else if !k.needsUpdate e.pte.toNat then .got (e.phys va, e.se) s
    else match adUpdate (fun a op s => galAccess g lv a op s) k e s with
      | (.wait, s) => .wait s
      | (.done, s) => .got (e.phys va, e.se) (galTlbPut g i (e.updated k) s)
      | (.stale, s) => .bad (fault 0x09) (galTlbPut g i e.drop s)
      | (.loc, s) =>
        .bad { fault 0x0A with addr := e.ptea.toNat } (galPteloc g e.ptea.toNat va (galTlbPut g i e.drop s))
      | (.bad st, s) =>
        .bad { fault (if st = .uncor then 0x06 else 0x07) with addr := e.ptea.toNat }
          (logCairn .translate 0x02 [dfMaster (16 + g), dfAddr e.ptea.toNat, dfStatus st] s)

/-! ### Relay inputs, R187 to R189 and R223 -/

/-- The relay input of stream x of gallery g. -/
def State.relayIn (s : State) (g x : Nat) : RelayIn := tget (fun _ => {}) (s.gal g).relay x
/-- A relay input replaced. -/
def State.setRelayIn (s : State) (g x : Nat) (r : RelayIn) : State :=
  s.setGal g { s.gal g with relay := tset (fun _ => {}) (s.gal g).relay x r }

/-- The number of a source's next pair at an input. -/
def RelayIn.fresh (r : RelayIn) (src : Nat) : Nat :=
  (r.pairs.filter (·.src == src)).foldl (fun k p => max k (p.k + 1)) 0

/-- The pairs changed by a function where a condition first holds. -/
def modFirst (p : RPair → Bool) (f : RPair → RPair) : List RPair → List RPair
  | [] => []
  | x :: xs => if p x then f x :: xs else x :: modFirst p f xs

/-- A sending instruction issued in slot sl of gallery g: it joins the first pair from g without a sender, R187. -/
def relaySender (g sl dst x : Nat) (s : State) : State :=
  let r := s.relayIn dst x
  let free (p : RPair) : Bool := p.src == g && p.snd.isNone && !p.sDone
  let ps := if r.pairs.any free then modFirst free (fun p => { p with snd := some sl }) r.pairs
    else r.pairs ++ [{ src := g, k := r.fresh g, snd := some sl }]
  s.setRelayIn dst x { r with pairs := ps }

/-- A receiving instruction issued in slot sl of gallery g for stream x, from gallery src, R187 and R223. -/
def relayReceiver (g sl x src : Nat) (s : State) : State :=
  let r := s.relayIn g x
  let free (p : RPair) : Bool := p.src == src && p.rcv.isNone && !p.rDone
  match r.pairs.find? free with
  | some q => s.setRelayIn g x { pairs := modFirst free (fun p => { p with rcv := some sl }) r.pairs,
                                 order := r.order ++ [(src, q.k)] }
  | none => let k := r.fresh src
    s.setRelayIn g x { pairs := r.pairs ++ [{ src := src, k := k, rcv := some sl }], order := r.order ++ [(src, k)] }

/-- The relay streams of an accepted instruction. -/
def relayIssue (g sl : Nat) (d : Desc) (s : State) : State :=
  let s := if d.on 3 && d.space 3 == 2 then relaySender g sl (d.loc 3 % 16) (bits (d.loc 3) 4 2) s else s
  (List.range 3).foldl (fun s x =>
    if d.on x && d.space x == 2 then relayReceiver g sl x (d.loc x % 16) s else s) s

/-- A pair that neither side needs any more is dropped. -/
def RelayIn.tidy (r : RelayIn) : RelayIn :=
  { r with pairs := r.pairs.filter fun p => !(p.sDone && p.rDone && p.flight.isEmpty) }

/-- Two galleries lie on different dies, so that a relay stream between them crosses Passage as STREAM to the relay port
of the receiver's die, R331 and R357. -/
def crossDie (g dst : Nat) : Bool := hasPath (16 + g) (.relay (dst / 4))

/-- The STID of a relay stream, R357. -/
def relayStid (dst x : Nat) : Nat := 4 * (dst % 4) + x

/-- A STREAM that arrives at the relay port of a die for a stream that is no longer open, R357. -/
def relayDiscard (dst x : Nat) (s : State) : State :=
  logCairn .passage 0x08 [dfUnit 11 (dst / 4), ⟨8, relayStid dst x⟩] s

/-- The relay streams of an ended instruction: its sending stream ends, and what it has not consumed is discarded,
R189. -/
def relayEnd (g sl : Nat) (d : Desc) (s : State) : State :=
  let s := if d.on 3 && d.space 3 == 2 then
      let dst := d.loc 3 % 16
      let x := bits (d.loc 3) 4 2
      let r := s.relayIn dst x
      s.setRelayIn dst x (RelayIn.tidy { r with
        pairs := modFirst (fun p => p.src == g && p.snd == some sl && !p.sDone)
          (fun p => { p with sDone := true }) r.pairs })
    else s
  (List.range 3).foldl (fun s x =>
    if d.on x && d.space x == 2 then
      let r := s.relayIn g x
      match r.pairs.find? fun p => p.rcv == some sl && !p.rDone with
      | none => s
      | some q => s.setRelayIn g x (RelayIn.tidy {
          pairs := modFirst (fun p => p.rcv == some sl && !p.rDone)
            (fun p => { p with rDone := true, buf := [], flight := if crossDie p.src g then p.flight else [] }) r.pairs,
          order := r.order.erase (q.src, q.k) })
    else s) s

/-- A word sent to a relay input, R188 and R223: none while the sender must hold it. (DEDUCED, log entry 30.) -/
def relaySend (g sl dst x : Nat) (w : Word) (s : State) : Option State :=
  let r := s.relayIn dst x
  let mine (p : RPair) : Bool := p.src == g && p.snd == some sl && !p.sDone
  match r.pairs.find? mine with
  | none => some s
  | some p =>
    if p.rDone && !crossDie g dst then some s
    else if !p.rDone && (p.rcv.isNone || r.order.head? != some (p.src, p.k) || decide (256 ≤ p.buf.length + p.flight.length)) then none
    else if s.pathDown (dieOfMaster (16 + g)) (dieOfTarget (.relay (dst / 4))) then some s
    else some (s.setRelayIn dst x { r with pairs := modFirst mine (fun p => { p with flight := p.flight ++ [w] }) r.pairs })

/-- A sent relay word arrives at its input; one whose receiver has ended is discarded, R357. -/
def relayArrive (g x : Nat) (s : State) : State :=
  let r := s.relayIn g x
  let late := (r.pairs.find? fun p => !p.flight.isEmpty).any (·.rDone)
  let s := s.setRelayIn g x (RelayIn.tidy { r with
    pairs := modFirst (fun p => !p.flight.isEmpty)
      (fun p => { p with buf := if p.rDone then p.buf else p.buf ++ p.flight.take 1, flight := p.flight.drop 1 })
      r.pairs })
  if late then relayDiscard g x s else s

/-- Word `want` of the pair that slot sl receives on stream x, R188 and R189. -/
inductive RelayGet where
  | wait | ended
  | word (w : Word)

/-- The state of a wanted relay word. -/
def State.relayGet (s : State) (g sl x want : Nat) : RelayGet :=
  match (s.relayIn g x).pairs.find? fun p => p.rcv == some sl && !p.rDone with
  | none => .ended
  | some p =>
    match (if p.head ≤ want then p.buf[want - p.head]? else none) with
    | some w => .word w
    | none => if p.sDone && p.flight.isEmpty then .ended else .wait

/-- Relay words below number `upto` leave the inputs of slot sl, R188. -/
def relayRelease (g sl : Nat) (d : Desc) (upto : Nat) (s : State) : State :=
  (List.range 3).foldl (fun s x =>
    if d.on x && d.space x == 2 then
      let r := s.relayIn g x
      s.setRelayIn g x { r with
        pairs := modFirst (fun p => p.rcv == some sl && !p.rDone)
          (fun p => let n := min (upto - p.head) p.buf.length
          { p with head := p.head + n, buf := p.buf.drop n }) r.pairs }
    else s) s

/-! ### Reading elements, R163, R177 to R186, R192 and R205 -/

/-- What is remembered while an element is read: the last word per stream, the SE words with the position reached,
whether an SE access was made, the streams' values and the tag of the stream A word. -/
structure RdSt where
  cache : Tab (Option (Nat × Word × Bool))
  se : List Word := []
  sePos : Nat := 0
  newSe : Bool := false
  idx : Tab (Option Int) := []
  val : Tab (Option Int) := []
  atag : Tag := Tags.raw

/-- The slot whose element is read. -/
structure GCtx where
  g : Nat
  sl : Nat
  lv : Level
  d : Desc

/-- The kinds of tag check of R45. -/
inductive TagKind where
  | data | index
  deriving DecidableEq

/-- The tag check of an input word, R45 and R46: whether it fails. -/
def GCtx.tagBad (c : GCtx) (k : TagKind) (t : Tag) : Bool :=
  t.poisoned || match k with
    | .index => t != Tags.int && t != Tags.raw
    | .data => c.d.tcm == 0 && t != c.d.et.tag && t != Tags.raw

/-- A word checked: cause 0x06 for the UNI of an uncorrectable read, 0x03 for another tag. -/
def GCtx.checkWord (c : GCtx) (k : TagKind) (f : EFault) (w : Word) (ep : Bool) (r : RdSt) (s : State) :
    Acc (Word × RdSt) :=
  if c.tagBad k w.tag then .bad { f with cause := if ep then 0x06 else 0x03, se := r.se } s else .got (w, r) s

/-- The place of an element offset, R181: its address and its field. -/
def place (base : Nat) (n : Nat) (k : Int) : Int × Nat :=
  if n = 4 then ((base : Int) + k, (((base : Int) + k) % 4).toNat)
  else ((base : Int) + 4 * (k / (n : Int)), (k % (n : Int)).toNat)

/-- The element offset of element i, R180: `ix` is the index of an INDEX stream and `f` the field of a structure. -/
def Desc.offset (d : Desc) (x i : Nat) (ix : Int) (f : Nat) : Int :=
  let c := d.ctl x
  match d.form x with
  | 2 => i * signedOf 32 (bits c 5 32)
  | 3 => ((i / bits c 5 16 : Nat) : Int) * signedOf 24 (bits c 21 24) + (i % bits c 5 16 : Nat)
  | 4 => ((bits c 25 20 + i) % bits c 5 20 : Nat)
  | 5 => ix
  | 6 => (d.nf x * i + f : Nat)
  | _ => i

/-- An address in a stream's space resolved: the physical address, or a fault of R182 or of translation. -/
def GCtx.resolve (c : GCtx) (x : Nat) (k : AccKind) (a : Int) (stream : Nat) (s : State) : Acc (Nat × Bool) :=
  let shown := (a % (2 : Int) ^ 48).toNat
  if c.d.space x = 0 then
    if a < 0 ∨ (2 : Int) ^ 48 ≤ a then .bad { cause := 0x01, stream := stream, addr := shown } s
    else galTranslate c.g c.lv k a.toNat stream s
  else if a < 0 ∨ (2 : Int) ^ 23 ≤ a then
    .bad { cause := 0x02, stream := stream, addr := shown, tag := Tags.raw } s
  else .got (chamAddr c.g a.toNat, false) s

/-- The word that holds an address of stream x read and checked: SE words already read are taken first, R241, and
the last word of a stream is not read again, also after the commit of the element that read it. (DESIGN CHOICE, log
entry 82.) -/
def GCtx.readWord (c : GCtx) (x key : Nat) (k : TagKind) (a : Int) (stream : Nat) (r : RdSt) (s : State) :
    Acc (Word × RdSt) :=
  match c.resolve x .load a stream s with
  | .wait s => .wait s
  | .bad f s => .bad { f with se := r.se } s
  | .got (pa, se) s =>
    let pa := pa / 4 * 4
    let f : EFault := { cause := 0x07, stream := stream, addr := (a % (2 : Int) ^ 48).toNat,
                        tag := if c.d.space x = 0 then Tags.addr else Tags.raw, se := r.se }
    match (if se then r.se[r.sePos]? else none) with
    | some w => c.checkWord k f w false { r with sePos := r.sePos + 1 } s
    | none =>
      match (if se then none else tget (fun _ => none) r.cache key) with
      | some (p, w, ep) =>
        if p = pa then c.checkWord k f w ep r s
        else match galAccess c.g c.lv pa .rd s se with
          | (.wait, s) => .wait s
          | (.done q, s) =>
            if q.st ≠ .ok then .bad f s
            else c.checkWord k f q.w q.ep { r with cache := tset (fun _ => none) r.cache key (some (pa, q.w, q.ep)) } s
      | none =>
        match galAccess c.g c.lv pa .rd s se with
        | (.wait, s) => .wait s
        | (.done q, s) =>
          if q.st ≠ .ok then .bad f s
          else if se then
            c.checkWord k f q.w q.ep { r with se := r.se ++ [q.w], sePos := r.sePos + 1, newSe := true } s
          else c.checkWord k f q.w q.ep { r with cache := tset (fun _ => none) r.cache key (some (pa, q.w, q.ep)) } s

/-- The index of element i on index stream x (1 B, 2 C), R184; read once per element. -/
def GCtx.readIndex (c : GCtx) (x i : Nat) (r : RdSt) (s : State) : Acc (Int × RdSt) :=
  match tget (fun _ => none) r.idx x with
  | some v => .got (v, r) s
  | none =>
    match c.readWord x (x + 4) .index (place (c.d.base x) 1 (c.d.offset x i 0 0)).1 x r s with
    | .wait s => .wait s
    | .bad f s => .bad f s
    | .got (w, r) s =>
      let v := signedOf 48 w.pay.toNat
      .got (v, { r with idx := tset (fun _ => none) r.idx x (some v) }) s

/-- The value of element i of stream x under ETYPE, R163, R181, R185 and R188: 0 A, 1 B, 2 C, 3 D; `code` is the
stream that a fault reports. -/
def GCtx.readElem (c : GCtx) (x code i : Nat) (r : RdSt) (s : State) : Acc (Int × RdSt) :=
  match tget (fun _ => none) r.val x with
  | some v => .got (v, r) s
  | none =>
    let fed := decide (x < c.d.fed)
    let y := if fed then 0 else x
    let n := c.d.et.perWord
    let keep (w : Word) (k : Nat) (r : RdSt) (s : State) : Acc (Int × RdSt) :=
      let v := valueOf c.d.et (fieldOf c.d.et w.pay.toNat k)
      let v := if c.d.et.fixed then v else if c.d.et = .fp then (w.pay.toNat % 2 ^ 32 : Nat) else (w.pay.toNat : Nat)
      .got (v, { r with val := tset (fun _ => none) r.val x (some v), atag := if x = 0 then w.tag else r.atag }) s
    if c.d.space y = 2 then
      match s.relayGet c.g c.sl y (i / n) with
      | .wait => .wait s
      | .ended => .bad { cause := 0x08, stream := code, tag := Tags.raw, se := r.se } s
      | .word w =>
        match c.checkWord .data { cause := 0x03, stream := code, tag := Tags.raw } w false r s with
        | .got (w, r) s => keep w (i % n) r s
        | .bad f s => .bad f s
        | .wait s => .wait s
    else
      let go (ix : Int) (r : RdSt) (s : State) : Acc (Int × RdSt) :=
        let p := place (c.d.base y) n (c.d.offset y i ix (if fed then x else 0))
        match c.readWord y y .data p.1 code r s with
        | .wait s => .wait s
        | .bad f s => .bad f s
        | .got (w, r) s => keep w p.2 r s
      if c.d.form y = 5 then
        match c.readIndex (c.d.isrc y) i r s with
        | .wait s => .wait s
        | .bad f s => .bad f s
        | .got (ix, r) s => go ix r s
      else go 0 r s

/-- A mask element is not zero, R192. -/
def maskNotZero (t : EType) (v : Int) : Bool := if t = .dec then v / 16 != 0 else notZero t v

/-- What is read in turn, R205: index streams B and C, then A with its fields, B and C; each with the stream number
of R250. Every active stream that is no index stream is read, and stream C under FMA though it be one (R173).
(DEDUCED, log entry 27.) -/
def Desc.reads (d : Desc) : List (Bool × Nat × Nat) :=
  ((List.range 3).filter (d.isIndex ·)).map (fun x => (true, x, x))
    ++ ([(0, 3), (3, 3), (1, 4), (2, 5)].filter fun p =>
        decide (p.1 < d.fed)
          || (p.1 != 3 && d.on p.1 && (!d.isIndex p.1 || (p.1 == 2 && d.hasFma)))).map (fun p => (false, p.1, p.2))

/-- The streams of an element read in turn. -/
def GCtx.readAll (c : GCtx) (i : Nat) : List (Bool × Nat × Nat) → RdSt → State → Acc RdSt
  | [], r, s => .got r s
  | (ix, x, code) :: rest, r, s =>
    match (if ix then c.readIndex x i r s else c.readElem x code i r s) with
    | .wait s => .wait s
    | .bad f s => .bad f s
    | .got (_, r) s => c.readAll i rest r s

/-- The inputs of element i, R193 and R205: none when it is masked off under MSRC 1 to 3. -/
def GCtx.readInputs (c : GCtx) (i : Nat) (r : RdSt) (s : State) : Acc (Option Elem × RdSt) :=
  let rest (r : RdSt) (s : State) : Acc (Option Elem × RdSt) :=
    match c.readAll i c.d.reads r s with
    | .wait s => .wait s
    | .bad f s => .bad f s
    | .got r s =>
      let v (x : Nat) : Int := (tget (fun _ => none) r.val x).getD 0
      .got (some { a := v 0, b := v 1, c := v 2, dd := v 3 }, r) s
  if 1 ≤ c.d.msrc ∧ c.d.msrc ≤ 3 then
    match c.readElem c.d.msrc 0 i r s with
    | .wait s => .wait s
    | .bad f s => .bad f s
    | .got (v, r) s => if maskNotZero c.d.et v = c.d.minv then .got (none, r) s else rest r s
  else rest r s

/-! ### Result words, R186, R188, R194 to R199 -/

/-- Results per sample of PACK, R197: 12, 6 or 3. -/
def Desc.packM (d : Desc) : Nat := match d.pack with
  | 1 => 12 | 2 => 6 | _ => 3
/-- Bits per packed result: 1, 2 or 4. -/
def Desc.packB (d : Desc) : Nat := 12 / d.packM
/-- Whether the result goes out word by word in element order. -/
def Desc.flows (d : Desc) : Bool := d.on 3 && decide (2 ≤ d.space 3)
/-- Whether elements write result words at all. -/
def Desc.writes (d : Desc) : Bool := d.on 3 && d.redStep.isNone

/-- The word and field of result index i and field f of a structure store. -/
def Desc.resPlace (d : Desc) (i : Nat) (ix : Int) (f : Nat) : Int × Nat :=
  let n := d.perWord 3
  if d.flows then (((i / n : Nat) : Int), i % n)
  else
    let p := place (d.base 3) n (d.offset 3 i ix f)
    if n = 4 then (p.1 - p.2, p.2) else p

/-- The bit pattern of a value in a field of the final type. -/
def Desc.pattern (d : Desc) (x : Int) : Nat := patternOf d.ft.width x

/-- A packed result and its SAT flag, R198. -/
def Desc.packed (d : Desc) (x : Int) : Nat × Bool :=
  let b := d.packB
  if d.satm then
    if x < 0 then (0, true) else if (2 : Int) ^ b ≤ x then (2 ^ b - 1, true) else (x.toNat, false)
  else (patternOf b x, false)

/-- The source that SELf names, under the final type, R186. -/
def Desc.storeSource (d : Desc) (e : Elem) (sel : Nat) : Int := sideValue d e d.ft 0 sel

/-- The fields that an element writes: word, field and bits; none where a masked-off element leaves its field of a
flowing word at zero. -/
def Desc.targets (d : Desc) (i : Nat) (ix : Int) (x : Option Int) (e : Elem) : List (Int × Nat × Option Nat) :=
  if !d.writes then []
  else if d.pack ≠ 0 then
    let m := d.packM
    let p := d.resPlace (i / m) ix 0
    [(p.1, p.2, some ((x.map fun v => (d.packed v).1).getD 0 * 2 ^ (d.packB * (i % m))))]
  else match x with
    | none => if d.flows then let p := d.resPlace i ix 0; [(p.1, p.2, none)] else []
    | some v =>
      if d.form 3 = 6 then
        (List.range (d.nf 3)).map fun f =>
          let p := d.resPlace i ix f
          (p.1, p.2, some (d.pattern (if f = 0 then v else d.storeSource e (d.self f))))
      else let p := d.resPlace i ix 0; [(p.1, p.2, some (d.pattern v))]

/-- A field put into a word under construction. (DEDUCED, log entry 26.) -/
def WRec.put (d : Desc) (i : Nat) (atag : Tag) (f : Nat) (v : Option Nat) (w : WRec) : WRec :=
  let wd := if d.pack = 0 then d.ft.width else 12
  { w with
    mask := setBits w.mask f 1 1,
    pay := match v with
      | none => w.pay
      | some v => if d.pack = 0 then setBits w.pay (wd * f) wd v else w.pay + v * 2 ^ (12 * f),
    lo := match w.lo, v with
      | none, some _ => some (i, atag, if d.perWord 3 = 4 then f else 0)
      | l, _ => l }

/-- A target merged into the words under construction. -/
def mergeTarget (d : Desc) (i : Nat) (atag : Tag) (t : Int × Nat × Option Nat) (l : List WRec) : List WRec :=
  if l.any (·.key == t.1) then l.map fun w => if w.key == t.1 then w.put d i atag t.2.1 t.2.2 else w
  else l ++ [({ key := t.1, mask := 0, pay := 0, lo := none } : WRec).put d i atag t.2.1 t.2.2]

/-- The targets continue the words under construction: one lies in one of them, and none writes a field a second
time but the sample being packed. -/
def continues (d : Desc) (i : Nat) (l : List WRec) (ts : List (Int × Nat × Option Nat)) : Bool :=
  ts.any (fun t => l.any (·.key == t.1)) &&
    ts.all fun t => l.all fun w => w.key != t.1 || !bit w.mask t.2.1 || (d.pack != 0 && i % d.packM != 0)

/-- The word and the field of the packed sample that element i − 1 leaves unfinished, R197. -/
def Desc.cutAt (d : Desc) (i : Nat) : Option (Int × Nat) :=
  if d.pack ≠ 0 ∧ d.writes ∧ i % d.packM ≠ 0 then some (d.resPlace ((i - 1) / d.packM) 0 0) else none

/-- The bits of one unfinished sample of a word, from which its later elements go on. -/
def WRec.sample (f : Nat) (w : WRec) : WRec :=
  { w with
    mask := 2 ^ f
    pay := setBits 0 (12 * f) 12 (bits w.pay (12 * f) 12)
    lo := none }

/-- Every word is complete. -/
def allFull (d : Desc) (i : Nat) (l : List WRec) : Bool :=
  (d.pack == 0 || i % d.packM == d.packM - 1) && l.all (·.mask == 2 ^ d.perWord 3 - 1)

/-- The tag of a result word written whole, R195 and R198; that of a flowing word none of whose elements is written is
the final type's. (DESIGN CHOICE, log entry 90.) -/
def WRec.tag (d : Desc) (w : WRec) : Tag :=
  if d.pack ≠ 0 then Tags.quad
  else match w.lo with
    | some (_, t, _) => if d.tcm = 2 ∧ d.on 0 then t else d.ft.tag
    | none => d.ft.tag

/-- The cause of a refused result write, R233: TREF is a tag fault of a read-modify-write alone. -/
def writeCause (rmw : Bool) (st : Status) : Nat := match st with
  | .tref => if rmw then 0x03 else 0x07
  | .uncor => 0x06
  | _ => 0x07

/-- A result word stored at an address of the result stream's space: `mask` none writes it whole, R196, R234 and
R242. -/
def GCtx.store (c : GCtx) (a : Int) (w : Word) (mask : Option Nat) (et elem smp : Nat) (s : State) : Acc Unit :=
  let shown (n : Int) : Nat := (n % (2 : Int) ^ 48).toNat
  let tag := if c.d.space 3 = 0 then Tags.addr else Tags.raw
  match c.resolve 3 .store a 7 s with
  | .wait s => .wait s
  | .bad f s => .bad { f with elem := elem, addr := if f.addr = shown a then shown (a + smp) else f.addr } s
  | .got (pa, se) s =>
    let f : EFault := { cause := 0x02, stream := 7, elem := elem, addr := shown a, tag := tag }
    let save : Bool := match targetOf pa with
      | .cham _ => decide (0x7F0000 ≤ pa % 0x800000)
      | _ => false
    if save then .bad f s
    else if mask.isSome && se then .bad { f with cause := 0x05 } s
    else
      let op : JOp := match mask with
        | none => .wr w
        | some m => .field w m et
      match galAccess c.g c.lv pa op s se with
      | (.wait, s) => .wait s
      | (.done q, s) => if q.st = .ok then .got () s else .bad { f with cause := writeCause mask.isSome q.st } s

/-- The lane segment of a slot queued as one frame, R191 and R547. -/
def flushSeg (g sl : Nat) (d : Desc) (s : State) : State :=
  let x := s.slot g sl
  if x.seg.isEmpty then s
  else
    let (l, e) := d.segTarget x.segNo
    let c := d.ctl 3
    let f := dataFrame (bit c 33) e (bits c 34 4) (BitVec.ofNat 48 (d.loc 3)) true x.late x.seg
    queueFrame l .gallery f (s.setSlot g sl { x with seg := [], segNo := x.segNo + 1 })

/-- A result word for a lane, R545 and R547. (DEDUCED, log entry 31.) -/
def GCtx.laneWord (c : GCtx) (w : Word) (elem : Nat) (s : State) : Acc Unit :=
  let x := s.slot c.g c.sl
  let (l, e) := c.d.segTarget x.segNo
  if !s.flag (R.LANE_TXCFG l) F.LANE_TXCFG_GAL then
    .bad { cause := 0x07, elem := elem, stream := 7, tag := Tags.raw } (logCairn .link 0x0A [⟨8, l⟩, ⟨4, e⟩] s)
  else if s.pathDown (galDie c.g) (laneDie l) then
    .bad { cause := 0x07, elem := elem, stream := 7, tag := Tags.raw } s
  else if s.laneSpace l = 0 then .wait s
  else
    let x := { x with seg := x.seg ++ [w] }
    let s := s.setSlot c.g c.sl x
    .got () (if bits (c.d.ctl 3) 23 10 ≤ x.seg.length then flushSeg c.g c.sl c.d s else s)

/-- One result word written, R188, R191 and R196. A flowing word that is not yet whole stays with the slot unless the
stream ends with it; neither is one whose packed sample `cut` is unfinished (R197). -/
def GCtx.writeRec (c : GCtx) (last : Bool) (cut : Option (Int × Nat)) (w : WRec) (s : State) : Acc Unit :=
  let here : Option Nat := match cut with
    | some (k, f) => if k = w.key ∧ ¬ last then some f else none
    | none => none
  let full := w.mask == 2 ^ c.d.perWord 3 - 1 && here.isNone
  let elem := (w.lo.map (·.1)).getD 0
  let word : Word := ⟨w.tag c.d, BitVec.ofNat 48 w.pay⟩
  if c.d.flows then
    if !full && !last then .got () (s.setSlot c.g c.sl { s.slot c.g c.sl with part := some w })
    else
      let s := s.setSlot c.g c.sl { s.slot c.g c.sl with part := none }
      if c.d.space 3 = 3 then c.laneWord word elem s
      else match relaySend c.g c.sl (c.d.loc 3 % 16) (bits (c.d.loc 3) 4 2) word s with
        | some s => .got () s
        | none => .wait s
  else if w.lo.isNone then .got () s
  else
    let et := if c.d.pack ≠ 0 then 0 else match c.d.ft with
      | .s12u => 0 | .s12s => 1 | .h16s => 2 | .p24s => 3 | .i48 => 4 | .fp => 5 | .dec => 6
    let s := s.setSlot c.g c.sl { s.slot c.g c.sl with part := here.map fun f => w.sample f }
    c.store w.key (if full then word else ⟨if c.d.pack ≠ 0 then Tags.quad else c.d.ft.tag, word.pay⟩)
      (if full then none else some w.mask) et elem ((w.lo.map (·.2.2)).getD 0) s

/-- Result words written in turn; `s0` is the state before the first. A refused word leaves none of them written, so
that no result of the faulting element is (R232): the elements below it are written by a pass of their own. -/
def GCtx.writeRecs (c : GCtx) (last : Bool) (cut : Option (Int × Nat)) (s0 : State) : List WRec → State → Acc Unit
  | [], s => .got () s
  | w :: ws, s => match c.writeRec last cut w s with
    | .got _ s => c.writeRecs last cut s0 ws s
    | .wait s => .wait s
    | .bad f s => match c.writeRec last cut w s0 with
      | .bad f s => .bad f s
      | _ => .bad f s

/-! ### Groups of elements that commit together, R231, R240 -/

/-- What a group holds so far: the next element, its words, and the slot's running values. -/
structure GroupSt where
  next : Nat
  recs : List WRec
  acc : Tab Int
  red : Option Int
  flags : Flg
  cache : Tab (Option (Nat × Word × Bool))
  /-- Side-effect words read, by element. -/
  ses : List (Nat × List Word) := []

/-- One element's work: the words it targets, and the group's values after it. -/
structure ElemWork where
  ts : List (Int × Nat × Option Nat)
  atag : Tag
  newSe : Bool
  g : GroupSt

/-- A field of a structure store takes a decimal constant that fails the check of R102, R159. -/
def Desc.badStore (d : Desc) (e : Elem) : Bool :=
  d.writes && d.form 3 == 6 && (List.range (d.nf 3)).any fun f =>
    decide (1 ≤ f) && d.badConst d.ft (d.self f) (d.storeSource e (d.self f))

/-- The words that an element has read from side-effect pages, noted. -/
def noteSe (i : Nat) (ws : List Word) (l : List (Nat × List Word)) : List (Nat × List Word) :=
  if ws.isEmpty then l else l ++ [(i, ws)]

/-- Element i read and evaluated, R162 and R205. -/
def GCtx.elemWork (c : GCtx) (v : ChainEnv) (se : List Word) (a : GroupSt) (s : State) : Acc ElemWork :=
  let i := a.next
  match c.readInputs i { cache := a.cache, se := se } s with
  | .wait s => .wait s
  | .bad f s => .bad { f with elem := i, ses := a.ses } s
  | .got (none, r) s =>
    .got { ts := c.d.targets i 0 none {}, atag := r.atag, newSe := r.newSe,
           g := { a with next := i + 1, cache := r.cache, ses := noteSe i r.se a.ses } } s
  | .got (some e, r) s =>
    match chainElem v i e a.acc a.red with
    | .error (cause, k, l) =>
      .bad { cause := cause, elem := i, stream := 6, step := k, se := r.se, ses := a.ses,
             addr := match l with
               | some j => 4096 * bits c.d.k1 0 11 + 4 * j
               | none => 0,
             tag := Tags.raw } s
    | .ok q =>
      if q.active ∧ c.d.badStore e then
        .bad { cause := 0x04, elem := i, stream := 7, tag := Tags.raw, se := r.se, ses := a.ses } s
      else
      let ix := (tget (fun _ => none) r.idx (c.d.isrc 3)).getD 0
      let x := if q.active then some q.x else none
      let sat := c.d.pack != 0 && c.d.writes && (match x with
        | some v => (c.d.packed v).2
        | none => false)
      .got { ts := c.d.targets i ix x e, atag := if c.d.on 0 then r.atag else c.d.ft.tag, newSe := r.newSe,
             g := { a with next := i + 1, acc := q.acc, red := q.red, cache := r.cache,
                           ses := noteSe i r.se a.ses,
                           flags := (a.flags.or q.flags).or { sat := sat } } } s

/-- Whether a word of the result stream lies on an SE page, R240. -/
def GCtx.onSe (c : GCtx) (s : State) (l : List WRec) : Bool :=
  c.d.on 3 && c.d.space 3 == 0 && l.any fun w => match tlbFind (s.gal c.g).tlb (w.key % (2 : Int) ^ 48).toNat with
    | some i => (tlbAt (s.gal c.g).tlb i).se
    | none => false

/-- The side-effect words that element i of a slot has already read, R241. -/
def Slot.seOf (x : Slot) (i : Nat) : List Word :=
  if i = x.done then x.seWords else ((x.seHeld.find? (·.1 == i)).map (·.2)).getD []

/-- Elements taken into a group until its words are whole, below element `lim`; `first` is its first element. -/
def GCtx.gather (c : GCtx) (v : ChainEnv) (lim first : Nat) : Nat → GroupSt → State → Acc GroupSt
  | 0, a, s => .got a s
  | n + 1, a, s =>
    if lim ≤ a.next then .got a s
    else
      let se := (s.slot c.g c.sl).seOf a.next
      match c.elemWork v se a s with
      | .wait s => .wait s
      | .bad f s => .bad f s
      | .got w s' =>
        if a.next ≠ first ∧ w.newSe ∧ ¬ c.onSe s a.recs then .got a s
        else if w.ts.isEmpty then
          if a.recs.isEmpty then .got w.g s' else c.gather v lim first n w.g s'
        else if ¬ a.recs.isEmpty ∧ ¬ continues c.d a.next a.recs w.ts then .got a s
        else
          let recs := w.ts.foldl (fun l t => mergeTarget c.d a.next w.atag t l) a.recs
          let b := { w.g with recs := recs }
          if allFull c.d a.next recs then .got b s' else c.gather v lim first n b s'

/-- What the elements of a group leave in their slot when they commit, R230 and R231; the deadline monitor sees the
commit of the last element, R142. -/
def commitSlot (a : GroupSt) (len : Nat) (x : Slot) : Slot :=
  { x with
    done := a.next
    acc := a.acc
    red := a.red
    flags := a.flags
    cache := a.cache
    seWords := if a.next = x.done then x.seWords else x.seOf a.next
    seHeld := x.seHeld.filter (a.next < ·.1)
    mv := x.mv && a.next == x.done
    watched := x.watched && a.next != len }

/-- The sequencer's routine of a slot's elements, R254: a slot that goes on from micro-state is at its MPC, R237. -/
def State.sequencer (s : State) (g sl : Nat) : UcRun × State :=
  let x := s.slot g sl
  if x.mv then runFrom .sequencer 0 x.mpc.toNat s else runRoutine .sequencer 0 s

/-- The results of a routine that patch words took part in are free. (DESIGN CHOICE, log entry 15.) -/
def GroupSt.patched (k : Nat) (a : GroupSt) : GroupSt :=
  let x (i : Nat) : Nat := Config.freeNat (k + i)
  { a with
    recs := a.recs.mapIdx fun i w => { w with pay := x (i + 3) % 2 ^ 48 }
    acc := a.acc.map fun p => (p.1, signedOf 96 (x 0))
    red := a.red.map fun _ => signedOf 48 (x 1)
    flags := Flg.ofNat (x 2) }

/-- The next group of a slot, evaluated, written and committed; `lim` bounds its elements. -/
def groupPass (g sl lim : Nat) (s : State) : Acc Unit :=
  let x := s.slot g sl
  let c : GCtx := { g := g, sl := sl, lv := x.lvl, d := x.desc }
  let v : ChainEnv := { d := x.desc, ftz := x.ftz, lut := x.lut }
  let a : GroupSt := { next := x.done, recs := x.part.toList, acc := x.acc, red := x.red, flags := x.flags,
                       cache := x.cache }
  match c.gather v (min lim x.desc.len) x.done 48 a s with
  | .wait s => .wait s
  | .bad f s => .bad f s
  | .got a s =>
    let a := if (s.sequencer g sl).1 = .rom then a else a.patched s.fresh
    let last := a.next == x.desc.len
    match c.writeRecs last (x.desc.cutAt a.next) s a.recs s with
    | .wait s => .wait s
    | .bad f s =>
      let e := max f.elem x.done
      .bad { f with elem := e, se := ((a.ses.find? (·.1 == e)).map (·.2)).getD [], ses := a.ses } s
    | .got _ s =>
      let s := s.setSlot g sl (commitSlot a x.desc.len (s.slot g sl))
      let s := if last && x.desc.space 3 == 3 && x.desc.on 3 then flushSeg g sl x.desc s else s
      let n := x.desc.et.perWord
      .got () (relayRelease g sl x.desc (if last then (a.next + n - 1) / n else a.next / n) s)

/-- The RED result written, R175 and R176; nothing for a chain without one or a result stream that is OFF. A refusal names
element LEN. (DESIGN CHOICE, log entry 93.) -/
def redWrite (g sl : Nat) (s : State) : Acc Unit :=
  let x := s.slot g sl
  match redWord x.desc x.red with
  | none => .got () s
  | some w =>
    if x.desc.on 3 then
      ({ g := g, sl := sl, lv := x.lvl, d := x.desc } : GCtx).store (x.desc.base 3) w none 4 x.desc.len 0 s
    else .got () s

end Sys2Proof.Machine
end

