-- ==== Sys2Proof/Machine/Gallery.lean ====
section
/-! DEFINITION. Slots, tokens, issue, completion records, save areas and quarantine of the galleries
(05 R202, R203, 06 R206–R251, 04 R143, R144). -/

namespace Sys2Proof.Machine

/-! ### The scoreboard and READY, R214 and R221 -/

/-- The scoreboard bit of a token in gallery g; token 0 is always posted. -/
def State.token (s : State) (g t : Nat) : Bool := t == 0 || tget (fun _ => true) (s.gal g).sb t

/-- A scoreboard bit written. -/
def putToken (g t : Nat) (b : Bool) (s : State) : State :=
  if t = 0 then s else s.setGal g { s.gal g with sb := tset (fun _ => true) (s.gal g).sb t b }

/-- A slot enters READY, R221. -/
def enterReady (g sl : Nat) (s : State) : State :=
  let y := s.gal g
  (s.setGal g { y with readies := y.readies + 1 }).setSlot g sl
    { s.slot g sl with st := .ready, since := y.readies }

/-! ### Completion records, R225 to R229 -/

/-- CRLEN of a gallery. -/
def State.crlen (s : State) (g : Nat) : Nat := s.fld (R.GAL_CRCTL g) F.GAL_CRCTL_CRLEN

/-- Records that the ring can still take, R228. (DEDUCED, log entry 33.) -/
def State.crSpace (s : State) (g : Nat) : Nat :=
  let n := s.crlen g
  (s.fld (R.GAL_CRTAIL g) F.GAL_CRTAIL_TAIL % n + n - s.fld (R.GAL_CRHEAD g) F.GAL_CRHEAD_HEAD - 1) % n

/-- The words of a record, R227. -/
def recordWords (g sl ph : Nat) (r : CRec) : List Word :=
  [Word.int (BitVec.ofNat 48 (r.token + sl * 2 ^ 16 + r.st.code * 2 ^ 21 + g * 2 ^ 24 + b2n r.fb * 2 ^ 28 + ph * 2 ^ 47)),
   Word.int (BitVec.ofNat 48 (r.done % 2 ^ 24 + r.flags * 2 ^ 24)), Word.int r.tick, Word.addr r.desc]

/-- Words written by a gallery in turn: it waits, or whether every write was accepted. -/
def galWrites (g : Nat) : Nat → List Word → State → Got Bool
  | _, [], s => .got true s
  | a, w :: ws, s =>
    match galAccess g .m a (.wr w) s with
    | (.wait, s) => .wait s
    | (.done q, s) =>
      match galWrites g (a + 4) ws s with
      | .wait s => .wait s
      | .got b s => .got (b && q.st == .ok) s

/-- HEAD advanced, R228. -/
def headNext (g : Nat) (s : State) : State :=
  let o := R.GAL_CRHEAD g
  let h := (s.fld o F.GAL_CRHEAD_HEAD + 1) % s.crlen g
  let s := s.setFld o F.GAL_CRHEAD_HEAD h
  if h = 0 then s.setFld o F.GAL_CRHEAD_PH (1 - s.fld o F.GAL_CRHEAD_PH) else s

/-- A slot whose record has gone: the next slot leaves the order, and a slot in RETIRE without records is FREE. -/
def recordGone (g sl : Nat) (s : State) : State :=
  let x := s.slot g sl
  let x := { x with recs := x.recs.drop 1 }
  let x := if x.st = .retire ∧ x.recs = [] then { x with st := .free } else x
  let s := s.setSlot g sl x
  let y := s.gal g
  let y := { y with retiring := y.retiring.drop 1 }
  s.setGal g { y with fullNoted := y.fullNoted && !y.retiring.isEmpty }

/-- The record of the first slot in ending order written, when the ring has space and the write does not wait, R227
to R229. -/
def writeRecord (g : Nat) (s : State) : State :=
  match (s.gal g).retiring with
  | [] => s
  | sl :: _ =>
    match (s.slot g sl).recs with
    | [] => recordGone g sl s
    | r :: _ =>
      if s.crlen g < 2 ∨ s.crSpace g = 0 ∨ s.pf.halted then s
      else
        let o := R.GAL_CRHEAD g
        let a := s.fld (R.GAL_CRBASE g) F.GAL_CRBASE_CRBASE / 4 * 4 + 16 * s.fld o F.GAL_CRHEAD_HEAD
        match galWrites g (a % 2 ^ 42) (recordWords g sl (s.fld o F.GAL_CRHEAD_PH) r) s with
        | .wait s' => keepWaiting s s'
        | .got good s =>
          let s := if good then s
            else logCairn .gallery 0x07 [⟨4, g⟩, dfAddr a] (s.setFld (R.GAL_STAT g) F.GAL_STAT_CRERR 1)
          let s := headNext g s
          let s := if r.cev then raise (84 + g) s else s
          recordGone g sl s

/-- R229: `sl` is the first slot in ending order. -/
def execRetireRecordWrite (g : Fin 16) (sl : Fin 32) (s : State) : Res :=
  ok (if (s.gal g).retiring.head? = some sl.val then writeRecord g s else s)

/-- The registers of a slot after its instruction has ended keep the progress and the descriptor's fields. -/
def slotEnded (zero : Bool) (x : Slot) : Slot :=
  { st := .retire, desc := x.desc, daddr := x.daddr, lvl := x.lvl, core := x.core, ftz := x.ftz, fb := x.fb,
    prio := x.prio, late := x.late, done := x.done, zeroDone := zero, recs := x.recs, owes := x.owes }

/-- The record of an ended slot joins the records to be written; an ending that finds the ring full sets CRFULL,
R229. -/
def queueRecord (g sl : Nat) (r : CRec) (s : State) : State :=
  let y := s.gal g
  let full := s.crSpace g ≤ y.retiring.length
  let s := s.setSlot g sl { s.slot g sl with recs := (s.slot g sl).recs ++ [r] }
  let s := s.setGal g { s.gal g with retiring := y.retiring ++ [sl], fullNoted := y.fullNoted || full }
  if full then
    let s := s.setFld (R.GAL_STAT g) F.GAL_STAT_CRFULL 1
    if y.fullNoted then s
    else logCairn .gallery 0x06 [⟨4, g⟩, ⟨16, s.fld (R.GAL_CRHEAD g) F.GAL_CRHEAD_HEAD⟩,
      ⟨16, s.fld (R.GAL_CRTAIL g) F.GAL_CRTAIL_TAIL⟩] s
  else writeRecord g s

/-- The record of an ended instruction: written, kept in RETIRE, or not asked for, R225 and R229. -/
def galRecord (g sl : Nat) (r : CRec) (s : State) : State :=
  if s.crlen g < 2 then
    let s := if r.cev then raise (84 + g) s else s
    let y := s.slot g sl
    s.setSlot g sl { y with st := if y.recs = [] then .free else .retire }
  else queueRecord g sl r s

/-- The record of the instruction of a slot as it ends now, R227. -/
def State.recordOf (s : State) (g sl : Nat) (st : EndSt) : CRec :=
  let x := s.slot g sl
  { token := x.desc.own
    st := st
    fb := x.fb
    done := x.done
    flags := x.flags.toNat
    tick := s.tickP
    desc := x.daddr
    cev := x.desc.cev }

/-- An instruction leaves the pipes and its slot's run state: its relay stream ends and ENDCNT counts, R213 and R225. -/
def galLeave (g sl : Nat) (st : EndSt) (s : State) : State :=
  let x := s.slot g sl
  let s := (relayEnd g sl x.desc s).bump (R.GAL_ENDCNT g) F.GAL_ENDCNT_ENDCNT
  let zero := x.desc.len == 0 && (st == .complete || st == .late)
  s.setSlot g sl { slotEnded zero x with owes := if st = .substituted then x.desc.own else 0 }

/-! ### Tokens and release, R158, R214 to R220 -/

/-- A token that an ending in gallery g posts, under a function that sets it there: elsewhere once it has travelled,
R216 and R226. -/
def postWith (set : Nat → Nat → State → State) (g t : Nat) (s : State) : State :=
  if t = 0 then s
  else
    let s := set g t s
    { s with moves := s.moves ++ [{ token := t, src := g }] }

/-- An instruction ends, R213, R225 and R226: its relay stream ends, OWN is posted (a substituted one's when its
fallback ends), and its record is written, waits in RETIRE, or is not asked for. -/
def galEndWith (set : Nat → Nat → State → State) (g sl : Nat) (st : EndSt) (s : State) : State :=
  let x := s.slot g sl
  let r := s.recordOf g sl st
  let s := galLeave g sl st s
  let s := if st = .substituted then s else postWith set g x.desc.own (postWith set g x.owes s)
  galRecord g sl r s

/-- An instruction without elements completes once it is READY, R158, unless its RED write waits or faults. -/
def zeroWith (set : Nat → Nat → State → State) (g sl : Nat) (s : State) : State :=
  let x := s.slot g sl
  if x.desc.len = 0 ∧ x.st = .ready ∧ ¬ s.pf.halted then
    match redWrite g sl s with
    | .got _ s => galEndWith set g sl (if x.late then .late else .complete) s
    | .wait s' => keepWaiting s s'
    | .bad _ _ => s
  else s

/-- A slot in WAIT takes the posted tokens, R217, and is READY once nothing is waited for. -/
def judgeWith (set : Nat → Nat → State → State) (g sl : Nat) (s : State) : State :=
  let x := s.slot g sl
  if x.st ≠ .wait then s
  else
    let x := { x with aw0 := x.aw0 && !s.token g x.desc.await0, aw1 := x.aw1 && !s.token g x.desc.await1 }
    let s := s.setSlot g sl x
    if x.aw0 || x.aw1 || x.sbw then s else zeroWith set g sl (enterReady g sl s)

/-- A token set in one scoreboard, R215; the instructions without elements that it releases post their own tokens in
turn, each at most once. -/
def setTokens : Nat → Nat → Nat → State → State
  | 0, g, t, s => putToken g t true s
  | n + 1, g, t, s => (List.range 32).foldl (fun s sl => judgeWith (setTokens n) g sl s) (putToken g t true s)

/-- A token set in one scoreboard, R215. -/
def setToken (g t : Nat) (s : State) : State := if s.pf.halted then s else setTokens 33 g t s

/-- A slot in WAIT judged. -/
def judgeWait (g sl : Nat) (s : State) : State := judgeWith setToken g sl s

/-- OWN posted by an ending in gallery g: there at once, elsewhere once it has travelled, R216 and R226. -/
def postToken (g t : Nat) (s : State) : State := postWith setToken g t s

/-- An instruction ends. -/
def galEnd (g sl : Nat) (st : EndSt) (s : State) : State := galEndWith setToken g sl st s

/-- The oldest token set on its way reaches the other 15 scoreboards, R216, but for those across a link that is down,
R28. -/
def propagateToken (s : State) : State :=
  match s.moves with
  | [] => s
  | m :: ms =>
    (List.range 16).foldl (fun s g =>
      if g = m.src ∨ s.pathDown (galDie m.src) (galDie g) then s else setToken g m.token s) { s with moves := ms }

/-- R216. -/
def execTokenSetPropagate (s : State) : Res := ok (propagateToken s)
/-- A write of GAL[n].TOKPOST, R215. -/
def execTokpost (g : Fin 16) (v : Payload) (s : State) : Res := ok (setToken g (v.toNat % 2 ^ 16) s)
/-- A write of GAL[n].TOKCLR, R215. -/
def execTokclr (g : Fin 16) (v : Payload) (s : State) : Res := ok (putToken g (v.toNat % 2 ^ 16) false s)

/-- The start condition met at the last evaluation takes effect, R220. -/
def startMet (g sl : Nat) (s : State) : State :=
  let x := s.slot g sl
  if x.st = .wait ∧ x.sbw ∧ x.sbmet then judgeWait g sl (s.setSlot g sl { x with sbw := false }) else s

/-- R220. -/
def execStartBearingMet (g : Fin 16) (sl : Fin 32) (s : State) : Res := ok (startMet g sl s)

/-- A sent relay word arrives, R188. -/
def execRelayWordReceive (g : Fin 16) (x : Fin 3) (s : State) : Res := ok (relayArrive g x s)

/-! ### Descriptors and acceptance, R152, R203, R204, R209 to R211 -/

/-- Words read by a gallery in turn: it waits, or the words, each with whether its read failed and whether it was
uncorrectable. -/
def galReads (g : Nat) (lv : Level) : List Nat → State → Got (List (Word × Bool × Bool))
  | [], s => .got [] s
  | a :: as, s =>
    match galAccess g lv a .rd s with
    | (.wait, s) => .wait s
    | (.done q, s) =>
      match galReads g lv as s with
      | .wait s => .wait s
      | .got ws s => .got ((q.w, q.st == .ok, q.ep) :: ws) s

/-- The outcome of fetching and checking a descriptor: the SUB code of R459 where it is refused. -/
inductive DescGet where
  | wait (s : State)
  | bad (code : Nat) (s : State)
  | got (d : Desc) (lut : List (Word × Bool)) (s : State)

/-- The words of a descriptor's LUT table, R170. -/
def lutWords (g : Nat) (d : Desc) : List Nat :=
  if d.hasLut then (List.range 1024).map fun w => chamAddr g (4096 * bits d.k1 0 11 + 4 * w) else []

/-- The LUT table copied over the gallery port, R170. -/
def copyLut (g : Nat) (d : Desc) (s : State) : Got (List (Word × Bool)) :=
  match galReads g .m (lutWords g d) s with
  | .wait s => .wait s
  | .got ws s => .got (ws.map fun w => (w.1, w.2.2 || !w.2.1)) s

/-- A descriptor at 16 physical addresses fetched and checked, R41, R153 and R204. (DEDUCED, log entry 34.) -/
def checkDesc (g : Nat) (lv : Level) (as : List Nat) (s : State) : DescGet :=
  match galReads g lv as s with
  | .wait s => .wait s
  | .got ws s =>
    if ws.any (!·.2.1) then .bad 0x11 s
    else if ws.any (·.1.tag != Tags.desc) then .bad 0x10 s
    else
      let d : Desc := ws.map (·.1.pay)
      match d.check g with
      | some c => .bad c s
      | none => .got d [] s

/-- A descriptor that has passed its checks with its LUT copy, which is made at acceptance, R170. -/
def DescGet.withLut (g : Nat) : DescGet → DescGet
  | .got d _ s => match copyLut g d s with
    | .wait s => .wait s
    | .got l s => .got d l s
  | r => r

/-- A descriptor fetched, checked and about to be accepted. -/
def fetchDesc (g : Nat) (lv : Level) (as : List Nat) (s : State) : DescGet := (checkDesc g lv as s).withLut g

/-- The physical addresses of a linked or fallback descriptor, translated word by word, R203 and R243. -/
def transDesc (g : Nat) (lv : Level) (va : Nat) : Nat → State → Acc (List Nat)
  | 0, s => .got [] s
  | n + 1, s =>
    match galTranslate g lv .desc (va % 2 ^ 48) 0 s with
    | .wait s => .wait s
    | .bad f s => .bad f s
    | .got (pa, _) s =>
      match transDesc g lv (va + 4) n s with
      | .got as s => .got (pa :: as) s
      | o => o

/-- A linked or fallback descriptor fetched and checked; an address that is not word-aligned makes no access, R60. -/
def fetchVirtual (g : Nat) (lv : Level) (va : Nat) (s : State) : DescGet :=
  if va % 4 ≠ 0 then .bad 0x11 s
  else match transDesc g lv va 16 s with
  | .wait s => .wait s
  | .bad _ s => .bad 0x11 s
  | .got as s => checkDesc g lv as s

/-- The lowest FREE slot. -/
def State.freeSlot (s : State) (g : Nat) : Option Nat := (List.range 32).find? fun sl => (s.slot g sl).st == .free

/-- A slot takes an instruction, R210, R211 and R144: OWN is cleared everywhere, the relay pairs form, a link is
noted, and the slot is in WAIT or READY. `fb` marks a fallback, which waits for nothing and runs at `prio`. -/
def galAccept (g sl : Nat) (d : Desc) (lut : List (Word × Bool)) (q : GReq) (fb : Bool) (prio : Nat) (s : State) :
    State :=
  let s := (List.range 16).foldl (fun s i =>
    if s.pathDown (galDie g) (galDie i) then s else putToken i d.own false s) s
  let old := s.slot g sl
  let x : Slot := {
    st := .wait, desc := d, daddr := q.va, lvl := q.lv, core := q.core, ftz := q.ftz, fb := fb, prio := prio, lut := lut,
    aw0 := !fb && d.await0 != 0, aw1 := !fb && d.await1 != 0, sbw := !fb && d.sben, watched := d.dpol != 0,
    recs := old.recs, owes := old.owes }
  let s := relayIssue g sl d (s.setSlot g sl x)
  let s := if d.w 15 = 0 then s
    else s.setGal g { s.gal g with links := (s.gal g).links ++ [{ q with va := BitVec.ofNat 48 (d.w 15) }] }
  judgeWait g sl s

/-- The reply word of R208. -/
def replyWord (st sl : Nat) : Word := Word.int (BitVec.ofNat 48 (sl + 32 * st))

/-- The judgement of a GISS: it waits, a reply word, or the SUB of a gallery-descriptor fault. -/
inductive Judged where
  | wait (s : State)
  | reply (w : Word) (s : State)
  | fault (sub : Nat) (s : State)

/-- A request refused with NOTOWNER (3) or QUARANTINED (2), R206 and R209. -/
def galRefuse (g core st : Nat) (s : State) : State := logCairn .gallery 0x02 [⟨4, g⟩, ⟨4, core⟩, ⟨4, st⟩] s

/-- A GISS judged, R209. -/
def judgeGiss (g : Nat) (q : GReq) (s : State) : Judged :=
  if (s.gal g).quar then .reply (replyWord 2 0) (galRefuse g q.core 2 s)
  else if q.core ≠ s.galOwner g then .reply (replyWord 3 0) (galRefuse g q.core 3 s)
  else match s.freeSlot g with
    | none => .reply (replyWord 1 0) (s.bump (R.GAL_FULLCNT g) F.GAL_FULLCNT_FULLCNT)
    | some sl =>
      match fetchDesc g q.lv ((List.range 16).map fun i => q.pa + 4 * i) s with
      | .wait s' => .wait (keepWaiting s s')
      | .bad c s => .fault (c + 256 * g) s
      | .got d lut s => .reply (replyWord 0 sl) (galAccept g sl d lut q false d.prio s)

/-- The waiting link takes the lowest FREE slot, R211. -/
def placeLink (g : Nat) (s : State) : State :=
  match (s.gal g).linkWait, s.freeSlot g with
  | some (q, d), some sl =>
    match copyLut g d s with
    | .wait s' => keepWaiting s s'
    | .got lut s => galAccept g sl d lut q false d.prio (s.setGal g { s.gal g with linkWait := none })
  | _, _ => s

/-- A linked descriptor is fetched and judged, R203 and R211: its fault is reported to the issuing core, or it takes a
slot, or waits for one; the next link is fetched once none waits. (DEDUCED, log entry 34.) -/
def issueLink (g : Nat) (s : State) : State :=
  match (s.gal g).linkWait, (s.gal g).links with
  | some _, _ => placeLink g s
  | none, [] => s
  | none, q :: qs =>
    match fetchVirtual g q.lv q.va.toNat s with
    | .wait s' => keepWaiting s s'
    | .bad c s =>
      let s := s.setGal g { s.gal g with links := qs }
      s.setCore q.core { s.core q.core with
        linkFault := (s.core q.core).linkFault ++ [(q.va, c + 256 * g + 4096)] }
    | .got d _ s =>
      let y := s.gal g
      placeLink g (s.setGal g { y with
        links := qs
        linkWait := some (q, d) })

/-- A fallback that cannot run: OWN of the cancelled instruction is posted, whose record carries CANCELLED, and the slot
is free, R202 and R226. -/
def fbFail (g sl : Nat) (w : FbWait) (s : State) : State :=
  let x := s.slot g sl
  let s := s.setSlot g sl { x with
    fbWait := none
    owes := 0 }
  galRecord g sl { w.entry with st := .cancelled } (postToken g x.owes s)

/-- What the fetch of a fallback came to: it waits, it failed with a code, or it runs in its slot, R144 and R202. -/
def fbTry (g sl : Nat) (w : FbWait) (s : State) : Got (Option Nat) :=
  let x := s.slot g sl
  match (fetchVirtual g x.lvl w.va.toNat s).withLut g with
  | .wait s => .wait s
  | .bad c s => .got (some c) (fbFail g sl w s)
  | .got d lut s =>
    let s := galRecord g sl { w.entry with st := .substituted } (s.setSlot g sl { s.slot g sl with fbWait := none })
    .got none (galAccept g sl d lut { core := x.core, lv := x.lvl, ftz := x.ftz, va := w.va, pa := 0 } true w.prio s)

/-- A fallback whose fetch waited is tried again; a check that fails now writes an entry of its own: the miss has been
logged. (DESIGN CHOICE, log entry 79.) -/
def fbAgain (g sl : Nat) (s : State) : State :=
  match (s.slot g sl).fbWait with
  | none => s
  | some w => match fbTry g sl w s with
    | .wait s' => keepWaiting s s'
    | .got none s => s
    | .got (some c) s =>
      logCairn .traverse 0x05 [⟨2, 0⟩, ⟨20, 32 * g + sl⟩, ⟨2, 1⟩, ⟨4, (s.slot g sl).desc.daxis⟩, ⟨8, c⟩] s

/-- R211: fallbacks whose fetch waited go first. -/
def execLinkedDescriptorIssue (g : Fin 16) (s : State) : Res :=
  ok (if (s.gal g).quar then s
    else
      let l := ((s.gal g).slots.filter fun x => x.2.fbWait.isSome).map (·.1)
      issueLink g (forEach l (fbAgain g.val) s))

/-! ### Selection, preemption and the save area, R221, R222, R234 to R237 -/

/-- The slot in RUN. -/
def State.runSlot (s : State) (g : Nat) : Option Nat := (List.range 32).find? fun sl => (s.slot g sl).st == .run

/-- Slot a goes before slot b at a selection, R221. -/
def Slot.before (a b : Slot) : Bool := decide (b.prio < a.prio) || (a.prio == b.prio && decide (a.since < b.since))

/-- The READY slot to be selected. -/
def State.pickSlot (s : State) (g : Nat) : Option Nat :=
  ((List.range 32).filter fun sl => (s.slot g sl).st == .ready).foldl (fun b sl => match b with
    | none => some sl
    | some c => if (s.slot g sl).before (s.slot g c) then some sl else some c) none

/-- The offset of a slot's save area and of its accumulator area, R234. -/
def saveOff (sl : Nat) : Nat := 0x7F0000 + 0x100 * sl
/-- R234. -/
def accOff (sl : Nat) : Nat := 0x7F2000 + 0x400 * sl

/-- The words of a save area, R235: `mt` is the micro-state of a fault inside a routine. -/
def saveWords (sl : Nat) (x : Slot) (cause : Nat) (se : List Word) (pre : Bool) (sw1 : Word)
    (mt : Option (BitVec 14 × Word × Word)) : List Word :=
  let se := se.take 6
  let sw0 := x.done % 2 ^ 24 + cause * 2 ^ 24 + se.length * 2 ^ 32 + b2n mt.isSome * 2 ^ 35 + b2n pre * 2 ^ 36
    + b2n x.desc.hasMac * 2 ^ 37 + sl * 2 ^ 38
  let m : Word × Word × Word := match mt with
    | some (pc, a, b) => (Word.raw (pc.setWidth 48), a, b)
    | none => (Word.raw 0, Word.raw 0, Word.raw 0)
  let ws := [Word.raw (BitVec.ofNat 48 sw0), sw1, m.1, m.2.1, m.2.2, (redWord x.desc x.red).getD (Word.raw 0),
    Word.raw (BitVec.ofNat 48 x.flags.toNat), Word.raw 0] ++ se
  ws ++ List.replicate (64 - ws.length) (Word.raw 0)

/-- The words of the accumulator area, R236. -/
def accWords (x : Slot) : List Word :=
  (List.range 128).flatMap fun l =>
    let p := patternOf 96 (tget (fun _ => 0) x.acc l)
    [Word.raw (BitVec.ofNat 48 p), Word.raw (BitVec.ofNat 48 (p / 2 ^ 48))]

/-- The state of a slot written to its save area, R235 and R236. -/
def saveSlot (g sl : Nat) (cause : Nat) (se : List Word) (pre : Bool) (sw1 : Word)
    (mt : Option (BitVec 14 × Word × Word)) (s : State) : Got Unit :=
  let x := s.slot g sl
  match galWrites g (chamAddr g (saveOff sl)) (saveWords sl x cause se pre sw1 mt) s with
  | .wait s => .wait s
  | .got _ s =>
    if x.desc.hasMac then
      match galWrites g (chamAddr g (accOff sl)) (accWords x) s with
      | .wait s => .wait s
      | .got _ s => .got () s
    else .got () s

/-- A saved slot as its save area gives it back, R237. -/
def restoredSlot (ws acc : List Word) (x : Slot) : Slot :=
  let p (i : Nat) : Nat := (ws.getD i Word.uni0).pay.toNat
  let a (i : Nat) : Nat := (acc.getD i Word.uni0).pay.toNat
  let w (i : Nat) : Word := ws.getD i Word.uni0
  { x with
    done := bits (p 0) 0 24, mv := bit (p 0) 35, saved := false,
    mpc := BitVec.ofNat 14 (p 2), mt0 := w 3, mt1 := w 4,
    red := x.desc.redStep.map fun _ => if (ws.getD 5 Word.uni0).tag = Tags.fp then (p 5 : Int) else signedOf 48 (p 5),
    flags := Flg.ofNat (p 6), seWords := (ws.drop 8).take (min (bits (p 0) 32 3) 6),
    acc := if bit (p 0) 37 then
        (List.range 128).foldl (fun t l => tset (fun _ => 0) t l (signedOf 96 (a (2 * l) + a (2 * l + 1) * 2 ^ 48))) []
      else x.acc }

/-- The area of a slot read back, and after a GRESUME (SW0.PRE = 0) the LUT table copied anew, R170 and R237. -/
def restoreSlot (g sl : Nat) (s : State) : Got Unit :=
  let x := s.slot g sl
  let at' (o n : Nat) : List Nat := (List.range n).map fun i => chamAddr g (o + 4 * i)
  match galReads g .m (at' (saveOff sl) 14) s with
  | .wait s => .wait s
  | .got ws s =>
    let ws := ws.map (·.1)
    let hasAcc := bit (ws.headD Word.uni0).pay.toNat 37
    match galReads g .m (if hasAcc then at' (accOff sl) 256 else []) s with
    | .wait s => .wait s
    | .got acc s =>
      let y := restoredSlot ws (acc.map (·.1)) x
      if bit (ws.headD Word.uni0).pay.toNat 36 then .got () (s.setSlot g sl y)
      else match copyLut g x.desc s with
        | .wait s => .wait s
        | .got l s => .got () (s.setSlot g sl { y with lut := l })

/-- A READY slot selected, R221; a saved one is restored first. -/
def selectSlot (g : Nat) (s : State) : State :=
  if (s.gal g).quar || (s.runSlot g).isSome then s
  else match s.pickSlot g with
    | none => s
    | some sl =>
      let run (s : State) : State := s.setSlot g sl { s.slot g sl with st := .run, cache := [] }
      if (s.slot g sl).saved then
        match restoreSlot g sl s with
        | .wait s' => keepWaiting s s'
        | .got _ s => run s
      else run s

/-- R221. -/
def execSlotSelect (g : Fin 16) (s : State) : Res := ok (selectSlot g s)

/-- The RUN slot preempted by a READY slot of higher PRIO, R222; not once its last element has committed. -/
def preempt (g : Nat) (s : State) : State :=
  match s.runSlot g with
  | none => s
  | some sl =>
    let x := s.slot g sl
    let higher := (List.range 32).any fun i => (s.slot g i).st == .ready && decide (x.prio < (s.slot g i).prio)
    if !s.flag (R.GAL_CFG g) F.GAL_CFG_PREN || !higher || decide (x.desc.len ≤ x.done) then s
    else match saveSlot g sl 0 x.seWords true (Word.raw 0) none s with
      | .wait s' => keepWaiting s s'
      | .got _ s => s.setSlot g sl { s.slot g sl with st := .ready, saved := true, cache := [], mv := false }

/-- R222. -/
def execPreempt (g : Fin 16) (s : State) : Res := ok (preempt g s)

/-! ### Quarantine, R244 to R246 -/

/-- Quarantine takes effect, R244 and R245: `why` is the reason of R713. (DEDUCED, log entry 35.) -/
def quarantine (g why : Nat) (s : State) : State :=
  if (s.gal g).quar then s
  else
    let s := logCairn .gallery 0x04 [⟨4, g⟩, ⟨2, why⟩, ⟨5, (s.runSlot g).getD 0⟩] (raise (116 + g) s)
    let s := s.setGal g { s.gal g with quar := true, ierr := why != 0, links := [], linkWait := none }
    let s := if why = 0 then s
      else
        let o := s.galOwner g
        s.setCore o { s.core o with mcheck := (s.core o).mcheck ++ [{ sub := 3, eval := BitVec.ofNat 48 g }] }
    let s := (List.range 32).foldl (fun s sl =>
      let x := s.slot g sl
      match x.fbWait with
      | some w => fbFail g sl w s
      | none => if x.st = .free ∨ x.st = .retire then s else galEnd g sl .quarantined s) s
    let shut (r : RelayIn) : RelayIn := RelayIn.tidy
      { pairs := r.pairs.map fun p =>
          { p with rDone := true, buf := [], flight := if crossDie p.src g then p.flight else [] }
        order := [] }
    (List.range 3).foldl (fun s x => s.setRelayIn g x (shut (s.relayIn g x))) s

/-- A micro-fault entry of gallery g, R255 and R275; how the entry names its unit is not stated. -/
def microEntry (g : Nat) (ma : Bool) (mpc : Nat) (s : State) : State :=
  let (u, s) := s.freeNat
  logOn (galDie g) .ucode (if ma then 0x04 else 0x05) [⟨16, u⟩, ⟨14, mpc⟩] s

/-- The gallery's sequencer fetches from outside its control store, R255. -/
def microQuarantine (g mpc : Nat) (s : State) : State := quarantine g 2 (microEntry g true mpc s)

/-! ### Commit, fault and completion, R225, R231 to R233 -/

/-- The RUN slot of a gallery whose pipes are in service. -/
def State.running (s : State) (g : Nat) : Option Nat := if (s.gal g).quar || s.pf.halted then none else s.runSlot g

/-- The next elements of the RUN slot commit, R231; nothing happens while an access waits, and a fault is not taken
here. -/
def elementCommit (g : Nat) (s : State) : State :=
  match s.running g with
  | none => s
  | some sl =>
    let x := s.slot g sl
    if x.desc.len ≤ x.done then s
    else match s.sequencer g sl with
      | (.fault a, _) => microQuarantine g a s
      | (_, t) => match groupPass g sl x.desc.len t with
        | .got _ s => s
        | .wait s' => keepWaiting s s'
        | .bad _ _ => s

/-- R231. -/
def execElementCommit (g : Fin 16) (s : State) : Res := ok (elementCommit g s)

/-- The fault that the RUN slot meets next, with its lower elements committed, R232: none where it meets none, or
where an access waits. -/
inductive FaultRun where
  | none
  | wait (s : State)
  | fault (f : EFault) (s : State)

/-- Side-effect words of a list that are not held already join those held. -/
def heldWith (old new : List (Nat × List Word)) : List (Nat × List Word) :=
  old.filter (fun p => !(new.any fun q => q.1 == p.1)) ++ new

/-- The side-effect reads of a pass that is not repeated stand, R240 and R241. -/
def holdSe (g sl : Nat) (f : EFault) (s : State) : State :=
  let x := s.slot g sl
  let l := heldWith x.seHeld (noteSe f.elem f.se f.ses)
  s.setSlot g sl { x with
    seWords := ((l.find? (·.1 == x.done)).map (·.2)).getD x.seWords
    seHeld := l.filter (x.done < ·.1) }

/-- The search for the fault: a pass that faults above its first element is repeated with the elements below it
alone, whose part of a result word is so written at once. -/
def faultRun (g sl : Nat) : Nat → Nat → State → FaultRun
  | 0, _, _ => .none
  | n + 1, lim, s =>
    let x := s.slot g sl
    if x.desc.len ≤ x.done then
      match redWrite g sl s with
      | .bad f s => .fault f s
      | .wait s => .wait s
      | .got _ _ => .none
    else match groupPass g sl lim s with
      | .wait s => .wait s
      | .bad f s' =>
      if f.elem = x.done then .fault f s'
      else faultRun g sl n f.elem (if f.se.isEmpty then s else holdSe g sl f s')
      | .got _ s' => if lim = x.desc.len then .none else faultRun g sl n x.desc.len s'

/-- The slot is suspended on a fault, R232 to R236. (DEDUCED, log entry 32.) -/
def suspend (g sl : Nat) (f : EFault) (mt : Option (BitVec 14 × Word × Word)) (s : State) : Got Unit :=
  let sw1 : Word := ⟨f.tag, BitVec.ofNat 48 f.addr⟩
  match saveSlot g sl f.cause f.se false sw1 mt s with
  | .wait s => .wait s
  | .got _ s =>
    let s := s.setSlot g sl { s.slot g sl with
      st := .susp, saved := true, cache := [], seWords := f.se.take 6, mv := mt.isSome,
      mpc := (mt.map (·.1)).getD 0,
      seHeld := heldWith (s.slot g sl).seHeld (f.ses.filter (f.elem < ·.1)),
      fault := { cause := f.cause, elem := f.elem, stream := f.stream, step := f.step, faddr := BitVec.ofNat 48 f.addr } }
    let s := raise (100 + g) s
    .got () (if f.cause = 0x06 ∨ f.cause = 0x07 ∨ f.cause = 0x0A then
        logCairn .gallery 0x08 [⟨4, g⟩, ⟨5, sl⟩, ⟨24, f.elem⟩, ⟨48, f.addr⟩] s
      else s)

/-- The RUN slot takes the fault it meets, R232; `mt` is the micro-state when it lies inside a routine, R272, whose
micro-address the control store has. -/
def elementFault (g : Nat) (mt : Option (BitVec 14 × Word × Word)) (s : State) : State :=
  match s.running g with
  | none => s
  | some sl =>
    if mt.any fun m => !UcUnit.sequencer.has m.1.toNat then s
    else match s.sequencer g sl with
    | (.fault a, _) => microQuarantine g a s
    | (_, t) => match faultRun g sl 100 (s.slot g sl).desc.len t with
    | .none => s
    | .wait s' => keepWaiting s s'
    | .fault f s' => match suspend g sl f mt s' with
      | .wait s' => keepWaiting s s'
      | .got _ s => s

/-- R232. -/
def execElementFault (g : Fin 16) (mt : Option (BitVec 14 × Word × Word)) (s : State) : Res := ok (elementFault g mt s)

/-- The RUN slot completes once every element has committed and its RED result is written, R225. -/
def instructionComplete (g : Nat) (s : State) : State :=
  match s.running g with
  | none => s
  | some sl =>
    let x := s.slot g sl
    if x.done < x.desc.len then s
    else match redWrite g sl s with
      | .got _ s => galEnd g sl (if x.late then .late else .complete) s
      | .wait s' => keepWaiting s s'
      | .bad _ _ => s

/-- R225. -/
def execInstructionComplete (g : Fin 16) (s : State) : Res := ok (instructionComplete g s)

/-! ### GRESUME, ABORT and deadline policies, R237, R238, R143 and R144 -/

/-- A GRESUME judged, R237: the reply word. The register offset of the entry for a refused GRESUME is not stated. -/
def judgeResume (g core sl : Nat) (s : State) : Word × State :=
  if (s.gal g).quar then (replyWord 2 0, galRefuse g core 2 s)
  else if core ≠ s.galOwner g then (replyWord 3 0, galRefuse g core 3 s)
  else if (s.slot g sl).st ≠ .susp then
    let (r, s) := s.freeNat
    (replyWord 4 0, logCairn .gallery 0x01 [⟨4, g⟩, ⟨5, sl⟩, ⟨26, r⟩] s)
  else (replyWord 0 sl, enterReady g sl (s.setSlot g sl { s.slot g sl with fault := {} }))

/-- ABORT of a slot, R238. -/
def abortSlot (g sl : Nat) (s : State) : State :=
  let x := s.slot g sl
  if x.st = .free ∨ x.st = .retire then
    logCairn .gallery 0x01 [⟨4, g⟩, ⟨5, sl⟩, dfOff (R.SLOT_CMD g sl)] (s.setFld (R.GAL_ERR g) F.GAL_ERR_STERR 1)
  else galEnd g sl .aborted (logCairn .gallery 0x09 [⟨4, g⟩, ⟨5, sl⟩, ⟨24, x.done⟩] s)

/-- R238. -/
def execAbort (g : Fin 16) (sl : Fin 32) (s : State) : Res := ok (abortSlot g sl s)

/-- The deadline policy in force: a fallback whose own policy is SUBSTITUTE runs under FINISH, R144. -/
def Slot.policy (x : Slot) : Nat := if x.fb && x.desc.dpol == 3 then 2 else x.desc.dpol

/-- A deadline miss applied to a slot, R143, R144 and R202: the policy applied and, where a fallback's check failed,
its code. The miss acts on whatever remains of the item. Under SUBSTITUTE the instruction ends at once, and a fallback
whose fetch waits holds the slot. -/
def galMiss (g sl : Nat) (policy : Nat) (s : State) : (Nat × Option Nat) × State :=
  let x := s.slot g sl
  if x.st = .free ∨ x.st = .retire then ((policy, none), s)
  else
    let s := s.setSlot g sl { x with watched := false }
    if policy = 2 then ((2, none), s.setSlot g sl { s.slot g sl with late := true })
    else if policy = 1 then ((1, none), galEnd g sl .cancelled s)
    else
      let va := (s.fld (R.GAL_FBBASE g) F.GAL_FBBASE_FBBASE + 64 * x.desc.fbidx) % 2 ^ 48
      let w : FbWait := ⟨BitVec.ofNat 48 va, x.prio, s.recordOf g sl .substituted⟩
      let s := galLeave g sl .substituted s
      let s := s.setSlot g sl { s.slot g sl with fbWait := some w }
      match fbTry g sl w s with
      | .wait s' => ((3, none), keepWaiting s s')
      | .got none s => ((3, none), s)
      | .got (some c) s => ((1, some c), s)

/-! ### The gallery TLB from its owner, R206, R243, R420 -/

/-- A TLB instruction of a core that is not the owner, R206. -/
def galTlbRefuse (g core : Nat) (s : State) : State := logCairn .gallery 0x03 [⟨4, g⟩, ⟨4, core⟩] s

/-- GTLBW after the operand checks, R495, R496. -/
def galTlbLoad (g core : Nat) (a b c : Payload) (s : State) : State :=
  if core ≠ s.galOwner g then galTlbRefuse g core s
  else
    let y := s.gal g
    let r := tlbLoad 512 (s.fld (R.GAL_TLBCFG g) F.GAL_TLBCFG_WIRED) y.next (tlbNew a b c) y.tlb
    s.setGal g { y with tlb := r.1, next := r.2.1 }

/-- GTLBI and GTLBIA, R497: `va` none invalidates every entry. -/
def galTlbInval (g core : Nat) (va : Option Nat) (s : State) : State :=
  if core ≠ s.galOwner g then galTlbRefuse g core s
  else
    let y := s.gal g
    s.setGal g { y with tlb := match va with
      | some a => tlbInval a y.tlb
      | none => tlbInvalAll y.tlb }

/-! ### Quarantine as commands, R244 to R246 -/

/-- R244 and R255: reason 0 is an M-level write of CFG.QUAR; reason 2 is a micro-address fault (`ma`), which lies outside
the ranges of R253, or a control-store word that fails its check, which lies inside. -/
def execQuarantineEnter (g : Fin 16) (why : Fin 4) (ma : Bool) (mpc : BitVec 14) (s : State) : Res :=
  ok (if (s.gal g).quar then s
    else
      if why.val = 2 ∧ ma = UcUnit.sequencer.has mpc.toNat then s
      else
        let s := if why.val = 0 then s.setFld (R.GAL_CFG g) F.GAL_CFG_QUAR 1
          else if why.val = 2 then microEntry g ma mpc.toNat s else s
        quarantine g why s)

/-- An M-level write of 0 to CFG.QUAR of a quarantined gallery, R246. -/
def leaveQuarantine (g : Nat) (s : State) : State :=
  let s := s.setFld (R.GAL_CFG g) F.GAL_CFG_QUAR 0
  if (s.gal g).quar then s.setGal g { s.gal g with resetting := true } else s

/-- R246. -/
def execQuarantineLeave (g : Fin 16) (s : State) : Res := ok (leaveQuarantine g s)

/-- The reset of a gallery that leaves quarantine ends, R246. -/
def quarantineDone (g : Nat) (s : State) : State :=
  let y := s.gal g
  if y.resetting then
    let s := s.setGal g { y with
      slots := [], sb := [], tlb := tlbInvalAll y.tlb, quar := false, resetting := false, ierr := false, retiring := [],
      fullNoted := false, links := [], linkWait := none }
    logCairn .gallery 0x05 [⟨4, g⟩] s
  else s

/-- R246. -/
def execQuarantineResetDone (g : Fin 16) (s : State) : Res := ok (quarantineDone g s)

/-! ### Registers, R249, R250 and R514 -/

/-- A write rejected with STATE, R207 and R228: the entry's slot is not stated. (DESIGN CHOICE, log entry 36.) -/
def galStateReject (g off : Nat) (s : State) : State :=
  let (r, s) := s.freeNat
  logCairn .gallery 0x01 [⟨4, g⟩, ⟨5, r⟩, dfOff off] (s.setFld (R.GAL_ERR g) F.GAL_ERR_STERR 1)

/-- A write of GAL[n].CFG, R207, R244 and R246: one that changes OWNER while a slot is not FREE is rejected. -/
def galCfgWrite (g : Nat) (lv : Level) (v : Nat) (s : State) : State :=
  let o := R.GAL_CFG g
  let owner := v % 16
  if lv ≠ .m then s.setFld o F.GAL_CFG_PREN (bits v 5 1)
  else if owner ≠ s.galOwner g ∧ (s.gal g).busy then galStateReject g o s
  else
    let s := if owner = s.galOwner g then s
      else (s.setFld o F.GAL_CFG_OWNER owner).setGal g { s.gal g with tlb := tlbInvalAll (s.gal g).tlb }
    let s := s.setFld o F.GAL_CFG_PREN (bits v 5 1)
    if bit v 4 then (if (s.gal g).quar then (s.setFld o F.GAL_CFG_QUAR 1).setGal g { s.gal g with resetting := false } else quarantine g 0 (s.setFld o F.GAL_CFG_QUAR 1))
    else leaveQuarantine g s

/-- An M-level write that names an owner, R207. -/
def execGalOwnerWrite (g o : Fin 16) (s : State) : Res :=
  ok (galCfgWrite g .m (setBits (s.regN (R.GAL_CFG g)) 0 4 o) s)

/-- A write of CRBASE or CRCTL, R228. -/
def ringConfig (g off : Nat) (lv : Level) (v : Nat) (s : State) : State :=
  if (s.gal g).busy then galStateReject g off s
  else
    let s := s.writeCodes lv off v
    let s := (s.setFld (R.GAL_CRHEAD g) F.GAL_CRHEAD_HEAD 0).setFld (R.GAL_CRHEAD g) F.GAL_CRHEAD_PH 1
    s.setFld (R.GAL_CRTAIL g) F.GAL_CRTAIL_TAIL 0

/-- R228. -/
def execCrRingConfigWrite (g : Fin 16) (ctl : Bool) (v : Payload) (s : State) : Res :=
  ok (ringConfig g (if ctl then R.GAL_CRCTL g else R.GAL_CRBASE g) .m v.toNat s)

/-- A write of CRTAIL, taken modulo CRLEN, R228. -/
def crTailWrite (g v : Nat) (s : State) : State :=
  let v := v % 2 ^ 16
  s.setFld (R.GAL_CRTAIL g) F.GAL_CRTAIL_TAIL (if s.crlen g = 0 then v else v % s.crlen g)

/-- R228. -/
def execCrtailWrite (g : Fin 16) (v : Payload) (s : State) : Res := ok (crTailWrite g v.toNat s)

/-- GAL[n].STAT, R249. -/
def galStat (g : Nat) (s : State) : Nat :=
  let y := s.gal g
  let susp := ((List.range 32).map fun sl => if (s.slot g sl).st = .susp then 2 ^ sl else 0).sum
  let occ := ((List.range 32).filter fun sl => (s.slot g sl).st != .free).length
  susp + (s.runSlot g).getD 0 * 2 ^ 32 + b2n (s.runSlot g).isSome * 2 ^ 37 + occ * 2 ^ 38
    + bits (s.regN (R.GAL_STAT g)) 44 2 * 2 ^ 44 + b2n (!y.quar) * 2 ^ 46 + b2n y.ierr * 2 ^ 47

/-- PCT of a slot, R230. -/
def Slot.pct (x : Slot) : Nat :=
  if x.desc.len = 0 then (if x.zeroDone then 10000 else 0) else x.done * 10000 / x.desc.len

/-- A slot register read, R250. -/
def slotRead (g sl k : Nat) (s : State) : Nat :=
  let x := s.slot g sl
  match k with
  | 0x00 => x.st.code + x.desc.prio * 8 + b2n x.fb * 64 + b2n x.late * 128 + b2n x.aw0 * 256 + b2n x.aw1 * 512
      + b2n x.sbw * 1024 + lvlCode x.lvl * 2048
  | 0x04 => x.done % 2 ^ 24 + x.pct * 2 ^ 24
  | 0x08 => x.fault.cause + x.fault.elem % 2 ^ 24 * 2 ^ 8 + x.fault.stream * 2 ^ 32 + x.fault.step * 2 ^ 35
  | 0x0C => x.fault.faddr.toNat
  | 0x10 => x.daddr.toNat
  | 0x14 => x.desc.w 13
  | _ => 0

/-- A TLB entry's register read, R513 and R514: 0 VA, 1 PTE, 2 PTEA. -/
def TlbE.read (e : TlbE) (k : Nat) : Nat :=
  match k with
  | 0 => e.vpn.toNat * 0x10000 | 1 => e.pte.toNat | 2 => e.ptea.toNat | _ => 0

/-- A gallery register read. -/
def galRead (off : Nat) (s : State) : Nat :=
  let g := (off - 0x1000000) / 0x40000
  let o := (off - 0x1000000) % 0x40000
  if o = 0x004 then galStat g s
  else if o = 0x00C then setBits (s.regN off) 0 2 0
  else if o = 0x040 then setBits (s.regN off) 16 9 (s.gal g).next
  else if 0x1000 ≤ o ∧ o < 0x1800 then slotRead g ((o - 0x1000) / 0x40) (o % 0x40) s
  else if 0x2000 ≤ o ∧ o < 0x4000 then (tlbAt (s.gal g).tlb ((o - 0x2000) / 0x10)).read (o % 0x10 / 4)
  else s.regN off

/-- A gallery register written. -/
def galWrite (lv : Level) (off v : Nat) (s : State) : State :=
  let g := (off - 0x1000000) / 0x40000
  let o := (off - 0x1000000) % 0x40000
  if o = 0x000 then galCfgWrite g lv v s
  else if o = 0x00C ∨ o = 0x010 then ringConfig g off lv v s
  else if o = 0x018 then crTailWrite g v s
  else if o = 0x01C then setToken g (v % 2 ^ 16) s
  else if o = 0x020 then putToken g (v % 2 ^ 16) false s
  else if 0x1000 ≤ o ∧ o < 0x1800 then
    (if o % 0x40 = 0x18 ∧ bit v 0 then abortSlot g ((o - 0x1000) / 0x40) s else s)
  else if 0x2000 ≤ o ∧ o < 0x4000 then s
  else s.writeCodes lv off v

end Sys2Proof.Machine
end

