-- ==== Sys2Proof/Machine/Junction.lean ====
section
/-! DEFINITION. The Junction's commands (09 R326–R344): arbitration, responses, enable, priorities and slices. -/

namespace Sys2Proof.Machine

/-- The first of the waiting requests of a port; the oldest of one master goes first. -/
def pickReq (s : State) (t : Nat) (last : Option Nat) : List JReq → Option JReq
  | [] => none
  | r :: rs => match pickReq s t last rs with
    | none => some r
    | some q => if q.m = r.m ∨ goesBefore s t last r q then some r else some q

/-- The first request with the given contents removed. -/
def dropReq (r : JReq) (l : List JReq) : List JReq := l.erase r

/-- A waiting request granted: none while its target makes it wait, else it is performed and its response goes to its
master. -/
def grantReq (ra : Nat → Level → Nat → JOp → State → Ans × State) (t : Nat) (r : JReq) (s : State) : Bool × State :=
  match busPerform ra r.m r.lv r.a r.op s r.se false with
  | (.wait, s') => (false, s')
  | (.done a, s') =>
    let s' := respond r.m r.a r.op.writes r.va a s'
    let s' := ({ s' with junc := { s'.junc with waiting := dropReq r s'.junc.waiting } }).granted t r.m
    (true, if s.starved r then s'.bump R.JUNC_STARVCNT F.JUNC_STARVCNT_STARVCNT else s')

/-- Requests granted until the capacity `n` is used up, R334; one that its target makes wait stays, with those of its
master behind it. `used` counts grants by master, at most 32 of one master, R279. -/
def grantRound (ra : Nat → Level → Nat → JOp → State → Ans × State) (t : Nat) :
    Nat → List JReq → List Nat → State → State
  | 0, _, _, s => s
  | n + 1, cand, used, s =>
    match pickReq s t (s.port t).last cand with
    | none => s
    | some r =>
      if 32 ≤ (used.filter (· == r.m)).length then grantRound ra t n (cand.filter fun q => q.m != r.m) used s
      else
        match grantReq ra t r s with
        | (false, s) => grantRound ra t n (cand.filter fun q => q.m != r.m) used s
        | (true, s) => grantRound ra t n (dropReq r cand) (r.m :: used) s

/-- The waiting requests of a port. -/
def State.atPort (s : State) (t : Nat) : List JReq := s.junc.waiting.filter fun r => (s.portOf r.m r.a).id == t

/-- The requests that a port may grant in a GCLK, R335: those that arrived earlier; and, ahead of them, one that arrives
now from the parked master at a port that granted nothing in the previous GCLK. -/
def State.grantable (s : State) (t : Nat) : List JReq × List JReq :=
  let l := s.atPort t
  (l.filter fun r => r.fresh && !(s.port t).busy && s.parkedOn t r.m && !(l.any fun q => q.m == r.m && !q.fresh),
    l.filter fun r => !r.fresh)

/-- The words that a port grants in a GCLK: up to 80 at an HBM stack port, one elsewhere, and one in boot mode
(R279, R334, R339). -/
def State.capacity (s : State) (t : Nat) : Nat := if t < 6 ∧ s.flag R.JUNC_CTL F.JUNC_CTL_EN then 80 else 1

/-- A GCLK passes at a port: its requests no longer arrive, R335. -/
def portGclk (t : Nat) (s : State) : State :=
  { s with junc := { s.junc with
    waiting := s.junc.waiting.map fun r => if (s.portOf r.m r.a).id = t then { r with fresh := false } else r } }

/-- The grants of a port in one GCLK, R334 and R335; none while the Junction drains, nor in boot mode before the port
may grant again, R339. Waiting requests of the sites are tried again as well. -/
def junctionGrant (ra : Nat → Level → Nat → JOp → State → Ans × State) (t : Nat) (s : State) : State :=
  if s.junc.draining then s
  else if (s.port t).gap ≠ 0 then
    portGclk t (s.setPort t { s.port t with gap := (s.port t).gap - 1, busy := false })
  else
    let g := s.grantable t
    let s := s.setPort t { s.port t with busy := false }
    let n := s.capacity t
    let s := match g.1 with
      | [] => grantRound ra t n g.2 [] s
      | r :: _ => match grantReq ra t r s with
        | (true, s) => grantRound ra t (n - 1) g.2 [r.m] s
        | (false, s) => grantRound ra t n g.2 [] s
    let s := portGclk t s
    (List.range 2).foldl (fun s x => siteServe x s) s

/-- An error response to a word of a COPY, R135, R151 and R713: `va` holds twice the entry index, and which word it
was; WIDX is logged as the physical sample address of the first word. -/
def copyError (va a : Nat) (s : State) : State :=
  logCairn .traverse 0x08 [⟨16, va / 2⟩, ⟨42, a + 2 ^ 42 - 4 * (va % 2)⟩] (s.setFld R.GAZ_STATUS F.GAZ_STATUS_CPERR 1)

/-- A response reaches its master, R343; a core's store that received another status than OK raises ASTORE at
the next boundary, R485. -/
def junctionResponse (m : Nat) (s : State) : State :=
  match s.junc.rsps.find? fun r => r.m == m with
  | none => s
  | some r =>
    let j := s.junc
    let s := { s with junc := { j with
      rsps := j.rsps.erase r, delivered := tset (fun _ => none) j.delivered m (some r) } }
    if m < 16 ∧ r.wr ∧ r.st ≠ .ok ∧ (s.core m).astore = none then
      s.setCore m { s.core m with astore := some (BitVec.ofNat 48 r.va, r.st.code) }
    else if m = 39 ∧ r.st ≠ .ok then copyError r.va r.a s
    else s

/-- R343. -/
def execJunctionResponse (m : Fin 48) (s : State) : Res := ok (junctionResponse m s)

/-- An access that has no target, or no path to its target, R332 and R344. -/
def execDefaultTargetAccess (m : Fin 48) (a : PAddr) (wr : Bool) (s : State) : Res :=
  let t := targetOf a.toNat
  ok (if s.barred m ∨ s.outranked m a.toNat (if wr then .wr Word.uni0 else .rd) then s
    else if t = .default ∨ (s.junc.isolated ∧ ¬ t.inSaveDomain) then
      respond m a.toNat wr (evalAddr m a.toNat) { st := .jerr } ((defaultAccess m a.toNat wr none s).granted 37 m)
    else if hasPath m t then s
    else
      respond m a.toNat wr (evalAddr m a.toNat) { st := .jerr } ((defaultAccess m a.toNat wr (some t) s).granted 37 m))

/-- A write of JUNC.CTL, R339: EN stays 1 once it is 1; a write of 1 makes the Junction drain.
(DEDUCED, log entry 43.) -/
def junCtlWrite (v : Nat) (s : State) : State :=
  if s.mlock || s.flag R.JUNC_CTL F.JUNC_CTL_EN || v % 2 == 0 then s
  else { (s.setFld R.JUNC_CTL F.JUNC_CTL_EN 1) with junc := { s.junc with draining := true } }

/-- R339. -/
def execJunctionEnable (v : Payload) (s : State) : Res := ok (junCtlWrite v.toNat s)

/-- Once no granted transaction waits for its response, at a customer site either, the slices are applied and the Junction runs at full
rate, R339. -/
def junctionFullRate (s : State) : State :=
  if s.junc.draining && s.junc.rsps.isEmpty && (s.site 0).reqs.isEmpty && (s.site 1).reqs.isEmpty then
    let j := s.junc
    let sl := (List.range 48).foldl (fun t m => tset (fun _ => 0) t m (s.reg (R.JUNC_SLICE m))) j.slices
    { (s.setFld R.JUNC_STAT F.JUNC_STAT_ACTIVE 1) with junc := { j with draining := false, slices := sl } }
  else s

/-- R339. -/
def execJunctionFullRate (s : State) : Res := ok (junctionFullRate s)

/-- A write of JUNC.SLICE, R340. -/
def sliceWrite (m : Nat) (lv : Level) (v : Nat) (s : State) : State :=
  if s.flag R.JUNC_CTL F.JUNC_CTL_EN then
    logCairn .junction 0x02 [dfMaster m] (s.setFld R.JUNC_STAT F.JUNC_STAT_STERR 1)
  else s.writeCodes lv (R.JUNC_SLICE m) v

/-- R340. -/
def execSliceWrite (m : Fin 48) (lv : Level) (v : Payload) (s : State) : Res := ok (sliceWrite m lv v.toNat s)

/-- A write of JUNC.PRI[m][g], or of JUNC.PARK[m], R337. -/
def execPriParkWrite (park : Bool) (m : Fin 48) (g : Fin 4) (lv : Level) (v : Payload) (s : State) : Res :=
  ok (if park then (if m.val < 38 then s.writeCodes lv (R.JUNC_PARK m) v.toNat else s)
    else s.writeCodes lv (if g.val < 3 then R.JUNC_PRI m g else R.JUNC_PRI3 m) v.toNat)

end Sys2Proof.Machine
end

