-- ==== Sys2Proof/Machine/Calendar.lean ====
section
/-! DEFINITION. The Gazetteer: entries, arming, due entries and fires (04 R123–R139, R145). -/

namespace Sys2Proof.Machine

/-! ### Entries, R123 and R124 -/

/-- STATE of entry i: 0 IDLE, 1 ARMED, 2 FIRED, 3 PENDING. -/
def State.entSt (s : State) (i : Nat) : Nat := s.fld (R.ENT_W2 i) F.ENT_W2_STATE
/-- STATE replaced. -/
def setEntSt (i v : Nat) (s : State) : State := s.setFld (R.ENT_W2 i) F.ENT_W2_STATE v
/-- A field of word 1. -/
def State.ent1 (s : State) (i : Nat) (f : Fld) : Nat := s.fld (R.ENT_W1 i) f
/-- The parameters of word 2. -/
def State.entP (s : State) (i : Nat) : Nat := s.fld (R.ENT_W2 i) F.ENT_W2_PARAM

/-- The entry is ARMED or PENDING. -/
def State.entLive (s : State) (i : Nat) : Bool := s.entSt i % 2 == 1

/-- Whether a register is word 2 of an entry whose STATE is odd. -/
def isLiveW2 (x : Nat × BitVec 48) : Bool :=
  decide (0x300000 ≤ x.1) && decide (x.1 < 0x400000) && x.1 % 16 == 8 && bit x.2.toNat 46

/-- The ARMED and PENDING entries in index order. -/
def State.liveEnts (s : State) : List Nat := (s.regs.filter isLiveW2).map fun x => (x.1 - 0x300000) / 16

/-- The monitor's marks of an entry. -/
def State.mark (s : State) (i : Nat) : GazMark := tget (fun _ => {}) s.trav.marks i
/-- The marks replaced. -/
def setMark (i : Nat) (k : GazMark) (s : State) : State :=
  { s with trav := { s.trav with marks := tset (fun _ => {}) s.trav.marks i k } }
/-- The waiting fires replaced. -/
def setFires (l : List Fire) (s : State) : State := { s with trav := { s.trav with fires := l } }

/-- A waiting fire is entry i's own. -/
def Fire.own (f : Fire) (i : Nat) : Bool := f.i == i && !f.fb

/-! ### Arming, R125 to R127 -/

/-- A refused write of word k of entry i, R126. -/
def gazRefuse (i k : Nat) (s : State) : State :=
  logCairn .traverse 0x06 [⟨16, i⟩, ⟨2, k⟩] (s.setFld R.GAZ_STATUS F.GAZ_STATUS_REJ 1)

/-- The entry goes to IDLE and its own waiting fire is discarded, R125; its marks go with it. -/
def gazDisarm (i : Nat) (s : State) : State :=
  setFires (s.trav.fires.filter fun f => !f.own i) (setMark i {} (setEntSt i 0 s))

/-- Why an arm is refused, R125. -/
def State.armRefused (s : State) (i : Nat) : Bool :=
  s.entLive i || s.ent1 i F.ENT_W1_DIR == 0 || s.ent1 i F.ENT_W1_ACTION == 7
    || (s.ent1 i F.ENT_W1_DPOL == 3 && i == 65535)

/-- A write of word 2, R125. (DEDUCED, log entry 22.) -/
def gazW2 (i v : Nat) (s : State) : State :=
  if bits v 46 2 = 1 then
    if s.armRefused i then gazRefuse i 2 s
    else setMark i {} (s.setRegN (R.ENT_W2 i) v)
  else (gazDisarm i s).setFld (R.ENT_W2 i) F.ENT_W2_PARAM v

/-- A write of word k of an entry, R125 and R126. -/
def gazWrite (i k v : Nat) (s : State) : State :=
  if k = 2 then gazW2 i v s
  else if s.entLive i then gazRefuse i k s
  else s.setRegN (R.ENT_W0 i + 4 * k) v

/-- R125: a write of W2 with STATE 0b01. -/
def execGazArm (i : Fin 65536) (v : Payload) (s : State) : Res := 
  ok (unlessRestoring (gazWrite i 2 (setBits v.toNat 46 2 1)) s)
/-- R125: a write of W2 with another STATE. -/
def execGazDisarm (i : Fin 65536) (v : Payload) (s : State) : Res :=
  ok (unlessRestoring (gazWrite i 2 (if bits v.toNat 46 2 = 1 then setBits v.toNat 46 2 0 else v.toNat)) s)
/-- R126 and R125. -/
def execGazEntryWrite (i : Fin 65536) (k : Fin 4) (v : Payload) (s : State) : Res :=
  ok (unlessRestoring (gazWrite i k v.toNat) s)

/-! ### Evaluation, R128 to R130 -/

/-- X_eff of entry i, R128. -/
def State.xEff (s : State) (i : Nat) : BitVec 68 :=
  let v := (s.axis (s.ent1 i F.ENT_W1_AXIS)).vel
  BitVec.ofInt 68 (((s.reg (R.ENT_W0 i)).toNat * 2 ^ 20 : Nat) - v * s.ent1 i F.ENT_W1_LEAD / 10)

/-- P_t × 2^20. -/
def Axis.base (x : Axis) : BitVec 68 := x.bearing.setWidth 68 * 0x10_0000

/-- The side of X_eff to the frontier. -/
def State.xSide (s : State) (i : Nat) : Side :=
  sideOf 68 (s.xEff i).toNat (s.axis (s.ent1 i F.ENT_W1_AXIS)).front.toNat

/-- A side as a mark holds it. -/
def Side.code : Side → Nat
  | .equal => 0 | .ahead => 1 | .behind => 2

/-- Whether entry i is due, and the mark after the evaluation, R129. -/
def State.gazDue (s : State) (i : Nat) : Bool × GazMark :=
  let k := s.mark i
  let sd := s.xSide i
  match s.ent1 i F.ENT_W1_DIR with
  | 1 => (sd != .ahead, k)
  | 2 => (sd != .behind, k)
  | 3 => match k.side with
    | none => (sd == .equal, { k with side := some sd.code })
    | some c => (sd == .equal || sd.code != c, k)
  | _ => (false, k)

/-- On time, R130: strictly beyond P_t × 2^20 in the direction of motion and not beyond the frontier. -/
def State.gazOnTime (s : State) (i : Nat) : Bool :=
  let x := s.axis (s.ent1 i F.ENT_W1_AXIS)
  let p := sideOf 68 (s.xEff i).toNat x.base.toNat
  let t := s.xSide i
  if 0 < x.vel then p == .ahead && t != .ahead
  else if x.vel < 0 then p == .behind && t != .behind
  else false

/-- The fire of a due entry, R130, R131 and R135. -/
def State.gazFireOf (s : State) (i : Nat) : Fire :=
  let n := s.ent1 i F.ENT_W1_AXIS
  let x := s.axis n
  let d := sw68 (s.xEff i - x.base)
  let t := (sw68 (x.front - x.base)).natAbs
  let on := s.gazOnTime i
  let v := x.vel.natAbs
  { i := i, fb := false, evalAt := s.tick,
    late0 := if on then 0 else if v = 0 then 65535 else (d.natAbs + v - 1) / v,
    onTime := on, k := if on then (16 * d.natAbs + t - 1) / t - 1 else 0,
    still := v == 0, num := if x.vel < 0 then -d else d, den := v, axis := n }

/-- The evaluation of one entry at the end of a tick. -/
def gazEval (i : Nat) (s : State) : State :=
  if (s.trav.fires.any (·.own i)) || !(s.axis (s.ent1 i F.ENT_W1_AXIS)).st.live || s.entSt i != 1 then s
  else
    let r := s.gazDue i
    let s := setMark i r.2 s
    if r.1 then setFires (s.trav.fires ++ [s.gazFireOf i]) s else s

/-! ### Firing, R131 to R135 -/

/-- The order of R131; an entry's fallback fire goes before its own. -/
def Fire.before (a b : Fire) : Bool :=
  if a.evalAt ≠ b.evalAt then decide (a.evalAt < b.evalAt)
  else if a.still != b.still then a.still
  else if !a.still && a.num * b.den ≠ b.num * a.den then decide (a.num * b.den < b.num * a.den)
  else if a.axis ≠ b.axis then decide (a.axis < b.axis)
  else if a.i ≠ b.i then decide (a.i < b.i)
  else a.fb && !b.fb

/-- A fire put into the order. -/
def insertFire (f : Fire) : List Fire → List Fire
  | [] => [f]
  | g :: l => if f.before g then f :: g :: l else g :: insertFire f l

/-- The waiting fires in order. -/
def sortFires (l : List Fire) : List Fire := l.foldl (fun l f => insertFire f l) []

/-- A comparator action of this tick. -/
structure CmpFire where
  c : Nat
  op : Nat
  width : Nat
  ph : Nat
  i : Nat
  deriving DecidableEq, Repr

/-- A fire that goes ahead, and what remains waiting. -/
structure Round where
  go : List Fire := []
  left : List Fire := []
  deriving DecidableEq, Repr

/-- The fires of this tick, R131 and R145: at most 64, each entry once, an entry whose axis is not live held. -/
def State.pickFires (s : State) (l : List Fire) : Round :=
  l.foldl (fun r f =>
    if r.go.length < 64 ∧ ¬ (r.go.any fun g => g.i == f.i)
        ∧ (f.fb ∨ (s.axis (s.ent1 f.i F.ENT_W1_AXIS)).now.live) then { r with go := r.go ++ [f] }
    else { r with left := r.left ++ [f] }) {}

/-- One word of a COPY, written as master 39; a write that waits goes to the Junction queue, R135.
(DEDUCED, log entry 25.) -/
def copyWord (i k a : Nat) (w : Word) (s : State) : State :=
  match memAccess 39 .m a (.wr w) s with
  | (.wait, s) =>
    { s with junc := { s.junc with
        waiting := s.junc.waiting ++ [{ m := 39, lv := .m, a := a, op := .wr w, arr := s.tick, va := 2 * i + k }] } }
  | (.done r, s) =>
    if r.st = .ok then s else copyError (2 * i + k) a s

/-- The action of a fire at phase ph, R135; comparator actions are collected. A fallback fire of an entry with the
reserved ACTION 7 performs nothing. (DESIGN CHOICE, log entry 84.) -/
def gazAction (i ph : Nat) (late : Bool) (c : List CmpFire) (s : State) : List CmpFire × State :=
  let p := s.entP i
  match s.ent1 i F.ENT_W1_ACTION with
  | 1 => (c, raise (16 + p % 64) s)
  | 2 => (c, if s.sideDown (galDie (p % 16)) then s else setToken (p % 16) (bits p 4 16) s)
  | 3 =>
    let f : CmpFire := { c := p % 256, op := bits p 8 2, width := bits p 10 16, ph := ph, i := i }
    if c.any fun g => g.c == f.c then
      ((c.filter fun g => g.c != f.c) ++ [f],
        logCairn .traverse 0x07 [⟨8, f.c⟩, ⟨16, i⟩] (s.setFld R.GAZ_STATUS F.GAZ_STATUS_COLL 1))
    else (c ++ [f], s)
  | 4 => (c, msgAsk (p % 256) (bits p 8 12) late s)
  | 5 => (c, adcFire (p % 2 ^ 32) (16 * s.tick + ph) i s)
  | 6 =>
    let x := s.axis (s.ent1 i F.ENT_W1_AXIS)
    let a := p % 2 ^ 40 * 4
    let s := copyWord i 0 a ⟨Tags.bear, x.bearing⟩ s
    (c, copyWord i 1 ((a + 4) % 2 ^ 42) (Word.int (BitVec.ofInt 48 x.velNow)) s)
  | _ => (c, s)

/-- What an own fire leaves of its entry, R133. -/
def gazAfter (i : Nat) (s : State) : State :=
  let s := setMark i {} s
  if s.ent1 i F.ENT_W1_DPOL = 0 ∧ s.reg (R.ENT_W3 i) ≠ 0 then
    setEntSt i 1 (s.setReg (R.ENT_W0 i) (s.reg (R.ENT_W0 i) + s.reg (R.ENT_W3 i)))
  else setEntSt i 2 s

/-- One fire, R130 to R135. -/
def gazFireOne (f : Fire) (c : List CmpFire) (s : State) : List CmpFire × State :=
  let i := f.i
  let tol := s.ent1 i F.ENT_W1_TOL
  let skip := s.ent1 i F.ENT_W1_LSKIP == 1
  let ln := min 65535 (s.tick - (f.evalAt + 1) + f.late0)
  let bad : Bool := tol != 0xFFF && decide (tol < ln)
  let mark := !f.fb && (s.mark i).missed
  let s := if bad then
      logCairn .traverse 0x04 [⟨16, i⟩, ⟨16, ln⟩, dfBit skip]
        (((raise 80 s).bump R.GAZ_LATECNT F.GAZ_LATECNT_LATECNT).setFld R.GAZ_STATUS F.GAZ_STATUS_LATE 1)
    else s
  let s := (s.bump R.GAZ_FIRECNT F.GAZ_FIRECNT_FIRECNT).setRegN R.GAZ_LASTFIRE (i + ln * 2 ^ 16 + b2n mark * 2 ^ 32)
  let s := if mark then logCairn .traverse 0x0B [⟨16, i⟩, ⟨16, ln⟩, ⟨4, s.ent1 i F.ENT_W1_DAXIS⟩] s else s
  let r := if bad && skip then (c, s) else gazAction i (if ln = 0 then f.k else 0) mark c s
  (r.1, if f.fb then r.2 else gazAfter i r.2)

/-- The comparator actions of a tick by phase and comparator, R138. -/
def insertCmp (f : CmpFire) : List CmpFire → List CmpFire
  | [] => [f]
  | g :: l => if f.ph < g.ph ∨ (f.ph = g.ph ∧ f.c < g.c) then f :: g :: l else g :: insertCmp f l

/-- All the fires of a tick: once per tick, after its misses, R131 and R143. -/
def gazFire (s : State) : State :=
  if s.trav.fired || s.trav.stopped || !s.trav.misses.isEmpty then s
  else
    let r := s.pickFires (sortFires s.trav.fires)
    let s := setFires r.left { s with trav := { s.trav with fired := true } }
    let s := r.left.foldl (fun s f => if f.fb then s else setEntSt f.i 3 s) s
    let cs := r.go.foldl (fun cs f => gazFireOne f cs.1 cs.2) (([], s) : List CmpFire × State)
    (cs.1.foldl (fun l f => insertCmp f l) []).foldl
      (fun s f => cmpAct f.c f.op f.width (16 * s.tick + f.ph) f.i s) cs.2

/-- R131. -/
def execGazFire (s : State) : Res := ok (gazFire s)

end Sys2Proof.Machine
end

