-- ==== Sys2Proof/Machine/Cascade.lean ====
section
/-! DEFINITION. The cascade unit: heartbeats, takeover, deposition and its registers (17 R665–R674, 14 R563). -/

namespace Sys2Proof.Machine

/-- ROLE: 0 NONE, 1 DATUM, 2 FOLLOWER, 3 STANDBY, R665. -/
def State.cascRole (s : State) : Nat := s.fld R.CASC_CFG F.CASC_CFG_ROLE

/-- The unit's registers beside those of the register space changed. -/
def modCasc (f : Casc → Casc) (s : State) : State := { s with casc := f s.casc }

/-- The axis groups of a POS frame: the first word, P and V of each, R554. -/
def posGroups : List Payload → List (Nat × Nat)
  | a :: p :: _ :: l => (a.toNat, p.toNat) :: posGroups l
  | _ => []

/-- A POS frame feeds the CASCADE axes that take their frames from its lane, R107 and R668. -/
def posFeed (l : Nat) (gs : List (Nat × Nat)) (s : State) : State :=
  (List.range 16).foldl (fun s n =>
    match s.tracked n false with
    | some (5, inst) =>
      if s.cascLane inst = l then
        let c := s.fld (R.AXIS_SRCP n) F.AXIS_SRCP_PTPS
        match gs.find? fun g => g.1 % 16 == c with
        | some g => modSrc n false (fun x => { x with
            meas := some { base := g.2 * 2 ^ 20, age := 16 * s.fld (R.AXIS_SRCP n) F.AXIS_SRCP_SSIPOLL },
            quiet := 0 }) s
        | none => s
      else s
    | _ => s) s

/-- ID, DATUM and EPOCH of a group's first word, R666. -/
def beatId (w : Nat) : Nat := bits w 7 3
def beatDatum (w : Nat) : Bool := bit w 10
def beatEpoch (w : Nat) : Nat := bits w 11 16

/-- A frame on this lane is judged as a heartbeat, R667. -/
def State.beatLane (s : State) (l : Nat) : Bool :=
  let r := s.cascRole
  (r == 2 || r == 3) && (l == s.fld R.CASC_STAT F.CASC_STAT_CURLANE
    || (s.flag R.CASC_CFG F.CASC_CFG_ALTEN && l == s.fld R.CASC_CFG F.CASC_CFG_ALANE))

/-- An accepted heartbeat, R667: its tick does not count. -/
def beatTaken (l id epoch : Nat) (s : State) : State :=
  let s := modCasc (fun c => { c with wasOk := true, counted := true })
    ((s.setFld R.CASC_HBAGE F.CASC_HBAGE_HBAGE 0).setFld R.CASC_STAT F.CASC_STAT_HBOK 1)
  let s := if s.fld R.CASC_EPOCH F.CASC_EPOCH_EPOCH < epoch then s.setFld R.CASC_EPOCH F.CASC_EPOCH_EPOCH epoch else s
  let cur := s.fld R.CASC_STAT F.CASC_STAT_CURLANE
  let s := if l = cur then s
    else logCairn .cascade 0x06 [⟨8, cur⟩, ⟨8, l⟩] (raise 781 (s.setFld R.CASC_STAT F.CASC_STAT_CURLANE l))
  if s.casc.lost then
    logCairn .cascade 0x04 [⟨8, s.fld R.CASC_STAT F.CASC_STAT_CURLANE⟩, ⟨3, id⟩]
      (raise 779 (modCasc (fun c => { c with lost := false }) s))
  else s

/-- A DATUM that hears a stronger one, R671. -/
def beatDeposed (id epoch : Nat) (s : State) : State :=
  logCairn .cascade 0x02 [⟨16, epoch⟩, ⟨3, id⟩]
    (raise 777 ((s.setFld R.CASC_CFG F.CASC_CFG_ROLE 0).setFld R.CASC_STAT F.CASC_STAT_DEPOSED 1))

/-- A POS frame on a CASC lane, R563, R667 and R671; the frame of a switch to ALANE is the first that the axes take
from it. -/
def posReceived (l : Nat) (f : YFrame) (s : State) : State :=
  let gs := posGroups (payloadWords f.body)
  match gs with
  | [] => s
  | g :: _ =>
    let id := beatId g.1
    let ep := beatEpoch g.1
    if s.beatLane l && id == s.fld R.CASC_CFG F.CASC_CFG_ID then
      logCairn .cascade 0x05 [⟨8, l⟩] (raise 780 (s.setFld R.CASC_STAT F.CASC_STAT_DUPID 1))
    else
      let own := s.fld R.CASC_EPOCH F.CASC_EPOCH_EPOCH
      posFeed l gs
        (if s.beatLane l && beatDatum g.1 && decide (own ≤ ep) then beatTaken l id ep s
        else if s.cascRole = 1 ∧ beatDatum g.1 ∧ (own < ep ∨ (ep = own ∧ id < s.fld R.CASC_CFG F.CASC_CFG_ID)) then
          beatDeposed id ep s
        else s)

/-- R563. -/
def execPosRx (l : Fin 256) (bs : List (BitVec 8)) (s : State) : Res :=
  ok (laneReceive l bs (fun f s => if f.ty = 3 ∧ s.laneMode l = 6 then posReceived l f s else s) s)

/-- An axis of TAKEAX at the end of the tick of a takeover, R670. -/
def takeAxis (n : Nat) (s : State) : State :=
  let src := s.fld (R.CASC_ALT n) F.CASC_ALT_SRC
  if 1 ≤ src ∧ src ≤ 4 then
    modCasc (fun c => { c with switched := n :: c.switched })
      (s.setAxis n { s.axis n with src := (s.axis n).alt })
  else logCairn .cascade 0x08 [⟨4, n⟩] s

/-- A STANDBY takes the datum role, R670; its axes switch at the end of the tick. -/
def takeover (s : State) : State :=
  let s := (s.setFld R.CASC_CFG F.CASC_CFG_ROLE 1).bump R.CASC_EPOCH F.CASC_EPOCH_EPOCH
  let s := modCasc (fun c => { c with taking := true }) s
  logCairn .cascade 0x01 [⟨16, s.fld R.CASC_EPOCH F.CASC_EPOCH_EPOCH⟩,
    ⟨8, s.fld R.CASC_STAT F.CASC_STAT_CURLANE⟩] (raise 776 (s.setFld R.CASC_STAT F.CASC_STAT_TOOK 1))

/-- HBAGE with this tick counted, saturating. -/
def State.ageNow (s : State) : Nat :=
  let age := s.fld R.CASC_HBAGE F.CASC_HBAGE_HBAGE
  if s.casc.counted then age else min (2 ^ 32 - 1) (age + 1)

/-- HBAGE reaches HBTO in this tick, R667 and R670. (DESIGN CHOICE, log entry 6.) -/
def beatLost (s : State) : State :=
  let r := s.cascRole
  let age := s.ageNow
  if (r = 2 ∨ r = 3) ∧ s.casc.lost = false ∧ max 1 (s.fld R.CASC_CFG F.CASC_CFG_HBTO) ≤ age then
    let s := modCasc (fun c => { c with counted := true }) (s.setFld R.CASC_HBAGE F.CASC_HBAGE_HBAGE age)
    let s := logCairn .cascade 0x03 [⟨8, s.fld R.CASC_STAT F.CASC_STAT_CURLANE⟩, ⟨32, age⟩]
      (raise 778 (modCasc (fun c => { c with lost := true }) (s.setFld R.CASC_STAT F.CASC_STAT_HBOK 0)))
    if r = 3 ∧ s.casc.wasOk then takeover s else s
  else s

/-- The end of a tick: HBAGE counts the ticks since the last heartbeat, and the axes of a device that took the datum role
in this tick switch, R667 and R670. (DEDUCED, log entry 21.) -/
def cascTick (s : State) : State :=
  let r := s.cascRole
  let s := if r = 2 ∨ r = 3 then s.setFld R.CASC_HBAGE F.CASC_HBAGE_HBAGE s.ageNow else s
  let s := if s.casc.taking then
      ((List.range 16).filter fun n => bit (s.regN R.CASC_TAKEAX) n).foldl (fun s n => takeAxis n s) s
    else s
  modCasc (fun c => { c with counted := false, taking := false }) s

/-- R667. -/
def execHeartbeatTimeout (s : State) : Res := ok (beatLost s)

/-- A write rejected while ROLE is not NONE, R672. -/
def cascReject (off : Nat) (s : State) : State :=
  logCairn .cascade 0x07 [dfOff off] (s.setFld R.CASC_STAT F.CASC_STAT_STERR 1)

/-- A write of CASC.CFG at M, R672; with ROLE NONE, CURLANE follows DLANE. (DEDUCED, log entry 78.) -/
def cascCfgWrite (v : Nat) (s : State) : State :=
  let old := s.regN R.CASC_CFG
  let new := setBits old 0 42 v
  if s.cascRole ≠ 0 ∧ setBits new 3 2 0 ≠ setBits old 3 2 0 then cascReject R.CASC_CFG s
  else
    let none := s.cascRole = 0
    let s := modCasc (fun c => { c with wasOk := s.flag R.CASC_STAT F.CASC_STAT_HBOK }) (s.setRegN R.CASC_CFG new)
    if none then s.setFld R.CASC_STAT F.CASC_STAT_CURLANE (s.fld R.CASC_CFG F.CASC_CFG_DLANE) else s

/-- A cascade register written, R672 and R674. -/
def cascWrite (lv : Level) (off v : Nat) (s : State) : State :=
  let guarded := off = R.CASC_EPOCH ∨ off = R.CASC_TAKEAX ∨ (R.CASC_ALT 0 ≤ off ∧ off ≤ R.CASC_ALT 15 ∧ off % 8 = 0)
  if lv ≠ .m then s.writeCodes lv off v
  else if off = R.CASC_CFG then cascCfgWrite v s
  else if guarded ∧ s.cascRole ≠ 0 then cascReject off s
  else s.writeCodes lv off v

/-- R672. -/
def execCascConfigWrite (lv : Level) (off : BitVec 12) (v : Payload) (s : State) : Res :=
  ok (cascWrite lv (R.CASC_CFG + off.toNat) v.toNat s)

end Sys2Proof.Machine
end

