-- ==== Sys2Proof/Machine/Capture.lean ====
section
/-! DEFINITION. What a power-fail save keeps of the axes, the gallery slots and the Gazetteer (17 R657, R659,
R660). -/

namespace Sys2Proof.Machine

/-- A word of the captured image; one not listed is RAW zero. -/
def State.imageAt (s : State) (i : Nat) : Word := tget (fun _ => Word.raw 0) s.pf.image i
/-- A word of the captured image replaced. -/
def setImage (i : Nat) (w : Word) (s : State) : State :=
  { s with pf := { s.pf with image := tset (fun _ => Word.raw 0) s.pf.image i w } }
/-- Words captured from an offset on. -/
def setImages (i : Nat) (ws : List Word) (s : State) : State :=
  (ws.zipIdx).foldl (fun s x => setImage (i + x.2) x.1 s) s

/-- A word whose tag the spec does not state. (DEDUCED, log entry 75.) -/
def openWord (k x : Nat) : Word := ⟨Config.imageTag k, BitVec.ofNat 48 x⟩

/-- The words of axis n, R659. -/
def axisWords (s : State) (n : Nat) : List Word :=
  let x := s.axis n
  let raw (off : Nat) : Word := Word.raw (s.reg off)
  [raw (R.AXIS_CFG n), raw (R.AXIS_GAIN n), raw (R.AXIS_GATE n), raw (R.AXIS_TIME n), raw (R.AXIS_SRCP n),
    raw (R.AXIS_SYNV n), raw (R.AXIS_SYNR n), Word.raw (BitVec.ofNat 48 (axisRead (R.AXIS_STAT n) s)),
    openWord 8 x.pos.toNat, openWord 9 (x.pos.toNat / 2 ^ 48),
    Word.int (BitVec.ofInt 48 x.velNow), Word.int (BitVec.ofInt 48 x.accNow),
    openWord 12 x.src.n.toNat, openWord 13 x.dt,
    Word.bear x.bearing, Word.bear (BitVec.ofNat 48 (x.front.toNat / 2 ^ 20)), Word.bear (s.reg (R.AXIS_ZCAP n))]

/-- The axes captured, R659. -/
def captureAxes (s : State) : State :=
  let s := (List.range 16).foldl (fun s n => setImages (0x40 + 32 * n) (axisWords s n) s) s
  { s with pf := { s.pf with axesDone := true } }

/-- The words of a slot, R660. -/
def slotWords (s : State) (g sl : Nat) : List Word :=
  let x := s.slot g sl
  [Word.int (BitVec.ofNat 48 (slotRead g sl 0x14 s)),
    Word.int (BitVec.ofNat 48 (x.st.code + x.desc.prio * 2 ^ 3 + b2n x.fb * 2 ^ 6 + b2n x.late * 2 ^ 7 + x.done * 2 ^ 8)),
    Word.addr x.daddr, Word.raw (BitVec.ofNat 48 (slotRead g sl 0x08 s))]

/-- The slots captured, R660: none of a FREE slot or a quarantined gallery. -/
def captureSlots (s : State) : State :=
  (List.range 16).foldl (fun s g => if (s.gal g).quar then s else
    (List.range 32).foldl (fun s sl => if (s.slot g sl).st = .free then s
      else setImages (0x640 + 128 * g + 4 * sl) (slotWords s g sl) s) s) s

/-- The Gazetteer captured, R657: the registers of the window that are not at their reset value. -/
def captureGaz (s : State) : State :=
  (s.regs.filter fun x => decide (0x300000 ≤ x.1) && decide (x.1 < 0x400000)).foldl
    (fun s x => setImage (0x4E40 + (x.1 - 0x300000) / 4) (Word.raw x.2) s) s

end Sys2Proof.Machine
end

