-- ==== Sys2Proof/Machine/Deadline.lean ====
section
/-! DEFINITION. The deadline monitor, and what happens at the end of a tick (04 R107–R122, R128, R129, R140–R147,
06 R220, 14 R569, 17 R667). -/

namespace Sys2Proof.Machine

/-! ### Evaluation, R141 and R142 -/

/-- An item with a deadline on axis n misses at this evaluation, R141. -/
def State.misses (s : State) (n : Nat) (d : Payload) : Bool :=
  let x := s.axis n
  match x.st with
  | .off => true
  | .lost => true
  | .acquire => false
  | _ => sideOf 48 x.bearing.toNat d.toNat
      != (if s.flag (R.AXIS_CFG n) F.AXIS_CFG_DDIR then Side.ahead else Side.behind)

/-- The watched slots of a gallery. -/
def State.watchedSlots (s : State) (g : Nat) : List Nat :=
  ((s.gal g).slots.filter fun x => x.2.watched && x.2.st != .free && x.2.st != .retire).map (·.1)

/-- Every watched item that misses, gallery slots first, then messages, then entries. -/
def State.newMisses (s : State) : List Miss :=
  let gal := (List.range 16).flatMap fun g => (s.watchedSlots g).filterMap fun sl =>
    let x := s.slot g sl
    if s.misses x.desc.daxis (x.desc.getD 12 0) then
      some ({ item := .gallery g sl, policy := x.policy, axis := x.desc.daxis } : Miss) else none
  let link := (s.msgsOf (·.watched)).filterMap fun m =>
    match s.msg m with
    | some y => if s.misses y.daxis y.dbear then
        some ({ item := .link y.lane m, policy := y.dpol, axis := y.daxis } : Miss) else none
    | none => none
  let gaz := (s.liveEnts.filter fun i => s.ent1 i F.ENT_W1_DPOL != 0 && !(s.mark i).missed).filterMap fun i =>
    let n := s.ent1 i F.ENT_W1_DAXIS
    if s.misses n (s.reg (R.ENT_W3 i)) then
      some ({ item := .gaz i, policy := s.ent1 i F.ENT_W1_DPOL, axis := n } : Miss) else none
  (gal ++ link ++ gaz).filter fun x => !(s.trav.misses.any fun y => y.item == x.item)

/-- The deadline evaluation of a tick. -/
def dlmEval (s : State) : State := { s with trav := { s.trav with misses := s.trav.misses ++ s.newMisses } }

/-! ### A miss applied, R143 to R147 -/

/-- The item as a detail value, R147 and R713. -/
def MissItem.df : MissItem → List DF
  | .gallery g sl => [⟨2, 0⟩, ⟨20, 32 * g + sl⟩]
  | .link l m => [⟨2, 1⟩, ⟨20, 4096 * l + m⟩]
  | .gaz i => [⟨2, 2⟩, ⟨20, i⟩]

/-- The event of the item's class. -/
def MissItem.event : MissItem → Nat
  | .gallery _ _ => 81 | .link _ _ => 82 | .gaz _ => 83

/-- What the monitor records of a miss; a fallback whose check fails adds its code, R202. -/
def noteMiss (x : Miss) (policy : Nat) (code : Option Nat) (s : State) : State :=
  let s := (s.setFld R.DLM_STATUS F.DLM_STATUS_MISS 1).bump R.DLM_MISSCNT F.DLM_MISSCNT_MISSCNT
  let extra : List DF := match code with
    | some c => [⟨8, c⟩]
    | none => []
  logCairn .traverse 0x05 (x.item.df ++ [⟨2, policy⟩, ⟨4, x.axis⟩] ++ extra) (raise x.item.event s)

/-- A miss of an entry, R143 and R145: what remains of it may be nothing. (DESIGN CHOICE, log entry 23.) -/
def gazMiss (i policy : Nat) (s : State) : State :=
  let was := s.entLive i
  let off := if was then gazDisarm i s else s
  match policy with
  | 2 => if was then setMark i { s.mark i with missed := true } s else s
  | 3 =>
    let n := s.ent1 (i + 1) F.ENT_W1_AXIS
    let f : Fire := { i := i + 1, fb := true, evalAt := s.tick - 1, late0 := 0, onTime := true, k := 0,
                      still := false, num := 0, den := 1, axis := n }
    if was then setFires (off.trav.fires ++ [f]) off else s
  | _ => off

/-- The first of the decided misses is applied. The entry of a link miss names the policy of its MSG, 3 also where the
fallback message cannot be queued. (DESIGN CHOICE, log entry 85.) -/
def deadlineMiss (s : State) : State :=
  if s.trav.stopped then s
  else match s.trav.misses with
  | [] => s
  | x :: l =>
    let t := { s with trav := { s.trav with misses := l } }
    match x.item with
    | .gallery g sl =>
      let r := galMiss g sl x.policy t
      noteMiss x r.1.1 r.1.2 r.2
    | .link _ m => noteMiss x x.policy none (msgMiss m x.policy t)
    | .gaz i => noteMiss x x.policy none (gazMiss i x.policy t)

/-- R143. -/
def execDeadlineMiss (s : State) : Res := ok (deadlineMiss s)

/-! ### The end of a tick -/

/-- Start conditions judged at the end of a tick, R220. -/
def startEval (g sl : Nat) (s : State) : State :=
  let x := s.slot g sl
  let a := s.axis x.desc.saxis
  if x.st = .wait ∧ x.sbw ∧ a.st.live
      ∧ sideOf 48 a.bearing.toNat (x.desc.w 11) ≠ (if x.desc.sdir then Side.ahead else Side.behind) then
    s.setSlot g sl { x with sbmet := true }
  else s

/-- The slots of a gallery that wait for a start bearing. -/
def State.bearingSlots (s : State) (g : Nat) : List Nat :=
  ((s.gal g).slots.filter fun x => x.2.sbw && x.2.st == .wait).map (·.1)

/-- The evaluations of a tick, R128, R141 and R220. -/
def evaluate (s : State) : State :=
  if s.trav.stopped then s
  else
    let s := s.liveEnts.foldl (fun s i => gazEval i s) s
    let s := (List.range 16).foldl (fun s g => (s.bearingSlots g).foldl (fun s sl => startEval g sl s) s) s
    dlmEval s

/-- The end of a tick, R107 to R122: clocks, axes in order, evaluations, and the next tick begins. -/
def tickUpdate (s : State) : State :=
  let s := (List.range 64).foldl (fun s p => ptpTick p s) s
  let s := (List.range 16).foldl (fun s n => axisTick n s) s
  let s := cascTick (evaluate s)
  let s := if s.pf.stage = .saving ∧ s.pf.axesDone = false then captureAxes s else s
  { s with tick := s.tick + 1, trav := { s.trav with fired := false } }

/-- R112. -/
def execTickAxisUpdate (s : State) : Res := ok (tickUpdate s)

/-! ### Global registers, R150 -/

/-- A global register of the block read. -/
def travRead (off : Nat) (s : State) : Nat :=
  if off = R.TRAV_TICK then s.tick % 2 ^ 48
  else if off = R.GAZ_STATUS then
    let fb := (s.trav.fires.filter fun f => f.fb && decide (f.evalAt + 1 < s.tick + b2n s.trav.fired)).length
    let arm := (s.liveEnts.filter fun i => s.entSt i == 1).length
    let pend := (s.liveEnts.filter fun i => s.entSt i == 3).length
    setBits (setBits (s.regN off) 0 17 arm) 24 17 (pend + fb)
  else if off = R.DLM_STATUS then
    let g := ((List.range 16).map fun g => (s.watchedSlots g).length).foldl (· + ·) 0
    setBits (setBits (s.regN off) 0 10 g) 10 13 (s.msgsOf (·.watched)).length
  else s.regN off

end Sys2Proof.Machine
end

