-- ==== Sys2Proof/Machine/HostRegs.lean ====
section
/-! DEFINITION. The registers of the PCIe functions, MSI-X and resets of functions (16 R597, R600, R607–R610, R616,
R635, R636, 18 R688). -/

namespace Sys2Proof.Machine

/-- Function f beside its registers. -/
def State.hostFn (s : State) (f : Nat) : HostFn := tget (fun _ => {}) s.host.fns f
/-- Function f replaced. -/
def State.setHostFn (s : State) (f : Nat) (x : HostFn) : State :=
  { s with host := { s.host with fns := tset (fun _ => {}) s.host.fns f x } }

/-- A refusal with STATE, R616. -/
def hostReject (f off : Nat) (s : State) : State :=
  logCairn .host 0x01 [⟨4, f⟩, dfOff off] (s.setFld (R.FN_STAT f) F.FN_STAT_STERR 1)

/-! ### Identity, R598 -/

/-- What the configuration space of a function says of it. -/
structure PcieId where
  vendor : Nat
  device : Nat
  cls : Nat
  subVendor : Nat
  subId : Nat
  deriving DecidableEq, Repr

/-- R598: the vendor is the one of the identity registers, the subsystem IDs are those of HOST.SUBID. -/
def State.pcieId (s : State) (f : Nat) : PcieId where
  vendor := s.fld R.ID0 F.ID0_PCIVID
  device := if f = 0 then 0x4806 else 0x4807
  cls := 0x120000
  subVendor := s.fld R.HOST_SUBID F.HOST_SUBID_SVID
  subId := s.fld R.HOST_SUBID F.HOST_SUBID_SSID

/-! ### MSI-X, R597 and R608 -/

/-- A dword of the table; a vector is masked after reset. (PRESUMED, log entry 67.) -/
def HostFn.msixAt (x : HostFn) (k : Nat) : BitVec 32 := tget (fun k => if k % 4 = 3 then 1 else 0) x.msix k
/-- A dword of the table replaced. -/
def HostFn.setMsix (x : HostFn) (k : Nat) (v : BitVec 32) : HostFn :=
  { x with msix := tset (fun k => if k % 4 = 3 then 1 else 0) x.msix k v }

/-- Vector v of function f sent, or left pending while it is masked. -/
def sendMsi (f v : Nat) (s : State) : State :=
  let x := s.hostFn f
  let p (b : Nat) : BitVec 16 := BitVec.ofNat 16 (setBits x.pba.toNat v 1 b)
  if bit (x.msixAt (4 * v + 3)).toNat 0 then s.setHostFn f { x with pba := p 1 }
  else
    let addr := (x.msixAt (4 * v)).toNat + 2 ^ 32 * (x.msixAt (4 * v + 1)).toNat
    let m : MsiMsg := { f := f, v := v, addr := BitVec.ofNat 64 addr, data := x.msixAt (4 * v + 2) }
    let s := s.setHostFn f { x with pba := p 0 }
    { s with host := { s.host with msi := some m } }

/-- A dword of the table written; a vector unmasked while it is pending is sent. -/
def msixWrite (f k : Nat) (v : BitVec 32) (s : State) : State :=
  let s := s.setHostFn f ((s.hostFn f).setMsix k v)
  if k % 4 = 3 ∧ bit (s.hostFn f).pba.toNat (k / 4) ∧ ¬ bit v.toNat 0 then sendMsi f (k / 4) s else s

/-- A write of MSIGEN, R608. -/
def msigenWrite (f v : Nat) (s : State) : State := sendMsi f (v % 16) s

/-- R608. -/
def execMsigen (f : Fin 16) (v : Payload) (s : State) : Res := ok (msigenWrite f v.toNat s)

/-- A write of MBDB, R608. -/
def mbdbWrite (f v : Nat) (s : State) : State := if v % 2 = 1 then raise (736 + f) s else s

/-- R608. -/
def execMbdb (f : Fin 16) (s : State) : Res := ok (mbdbWrite f 1 s)

/-! ### Rings, R609 and R610 -/

/-- 2^LOG2, where a value outside 1 to 12 acts as 12. -/
def ringLen (log : Nat) : Nat := 2 ^ (if log = 0 ∨ 12 < log then 12 else log)
/-- SQLEN. -/
def State.sqLen (s : State) (f : Nat) : Nat := ringLen (s.fld (R.FN_CFG f) F.FN_CFG_SQLOG2)
/-- CQLEN. -/
def State.cqLen (s : State) (f : Nat) : Nat := ringLen (s.fld (R.FN_CFG f) F.FN_CFG_CQLOG2)
/-- The difference of two ring indices. -/
def idxSub (a b : Nat) : Nat := (a % 2 ^ 16 + 2 ^ 16 - b % 2 ^ 16) % 2 ^ 16

/-- A status bit of function f set; its event is raised when the bit becomes set, R608. -/
def fnFlag (f : Nat) (b : Fld) (s : State) : State :=
  if s.flag (R.FN_STAT f) b then s else raise (736 + f) (s.setFld (R.FN_STAT f) b 1)

/-- An ignored doorbell, R610; `ring` is 0 for SQDB and 1 for CQDB. -/
def doorbellBad (f ring p : Nat) (s : State) : State :=
  let s := (fnFlag f F.FN_STAT_DBERR s).bump R.HOST_ERRCNT F.HOST_ERRCNT_ERRCNT
  logCairn .host 0x02 [⟨4, f⟩, ⟨1, ring⟩, ⟨16, p⟩] s

/-- A write of SQDB, R610. -/
def sqdbWrite (f v : Nat) (s : State) : State :=
  let p := v % 2 ^ 16
  let o := R.FN_SQIDX f
  if s.sqLen f < idxSub p (s.fld o F.FN_SQIDX_CONS) then doorbellBad f 0 p s
  else if idxSub p (s.fld o F.FN_SQIDX_PROD) < 2 ^ 15 then s.setFld o F.FN_SQIDX_PROD p
  else s

/-- R610. -/
def execSqdb (f : Fin 16) (v : Payload) (s : State) : Res := ok (sqdbWrite f v.toNat s)

/-- A write of CQDB, R610. -/
def cqdbWrite (f v : Nat) (s : State) : State :=
  let p := v % 2 ^ 16
  let o := R.FN_CQIDX f
  let cons := s.fld o F.FN_CQIDX_CONS
  if idxSub p cons ≤ idxSub (s.fld o F.FN_CQIDX_PROD) cons then s.setFld o F.FN_CQIDX_CONS p
  else doorbellBad f 1 p s

/-- R610. -/
def execCqdb (f : Fin 16) (v : Payload) (s : State) : Res := ok (cqdbWrite f v.toNat s)

/-- A write of FN[f].CFG, R609 and R616. -/
def fnCfgWrite (f : Nat) (lv : Level) (v : Nat) (s : State) : State :=
  let o := R.FN_CFG f
  let was := s.flag o F.FN_CFG_EN
  if was && v % 2 == 1 then hostReject f o s
  else
    let s := s.writeCodes lv o v
    if v % 2 = 1 then (s.setReg (R.FN_SQIDX f) 0).setReg (R.FN_CQIDX f) 0 else s

/-- R609. -/
def execFnCfgEnable (f : Fin 16) (v : Payload) (s : State) : Res :=
  ok (fnCfgWrite f .m (setBits v.toNat 0 1 1) s)

/-- A register of a function written, R616 and R635. -/
def fnWrite (lv : Level) (off v : Nat) (s : State) : State :=
  let f := (off - R.FN_CFG 0) / 0x4000
  match off % 0x4000 with
  | 0x000 => fnCfgWrite f lv v s
  | 0x004 => if s.flag (R.FN_CFG f) F.FN_CFG_EN then hostReject f off s else s.writeCodes lv off v
  | 0x008 => if s.flag (R.FN_CFG f) F.FN_CFG_EN then hostReject f off s else s.writeCodes lv off v
  | 0x00C => sqdbWrite f v s
  | 0x010 => cqdbWrite f v s
  | 0x024 => mbdbWrite f v s
  | 0x028 => msigenWrite f v s
  | _ => s.writeCodes lv off v

/-! ### Function-level reset and PERST#, R607 and R688 -/

/-- A command of function f in progress stopped, R607. -/
def stopCmd (f : Nat) (s : State) : State :=
  match s.host.run with
  | some r => if r.f = f then { s with host := { s.host with run := none } } else s
  | none => s

/-- The part of an FLR that concerns function f alone. -/
def flrOne (f : Nat) (s : State) : State :=
  let drop : Bool := match s.sec.att with
    | some a => a.who == .cmd f
    | none => false
  let s := if drop then
      { (s.setFld R.SEC_ATT F.SEC_ATT_BUSY 0) with sec := { s.sec with att := none } }
    else s
  let s := (stopCmd f s).setHostFn f {}
  let s := (s.setFld (R.FN_CFG f) F.FN_CFG_EN 0).setReg (R.FN_SQIDX f) 0
  let s := (s.setReg (R.FN_CQIDX f) 0).setReg (R.FN_MBOX f) 0
  let s := (s.setFld (R.FN_STAT f) F.FN_STAT_BUSY 0).setFld (R.FN_STAT f) F.FN_STAT_FLR 1
  logCairn .host 0x05 [⟨4, f⟩] (raise (736 + f) s)

/-- TotalVFs, R598. -/
def State.totVf (s : State) : Nat := s.fld R.HOST_CTL F.HOST_CTL_TOTVF

/-- An FLR of function f, R607: of the PF, one of every VF as well. (DEDUCED, log entry 69.) -/
def flr (f : Nat) (s : State) : State :=
  if f = 0 then (List.range (s.totVf + 1)).foldl (fun s i => flrOne i s) s else flrOne f s

/-- R607. -/
def execFlr (f : Fin 16) (s : State) : Res := ok (if f.val ≤ s.totVf then flr f s else s)

/-- The registers of a function but SEG. -/
def fnRegs (f : Nat) : List Nat := (List.range 12).map fun k => R.FN_CFG f + 4 * k

/-- PERST#, R688. -/
def perst (s : State) : State :=
  let s := s.setReg R.HOST_LINK 0
  let s := (List.range 16).foldl (fun s f => (fnRegs f).foldl (fun s o => s.setReg o (regReset o)) s) s
  flr 0 s

/-- R688. -/
def execPerst (s : State) : Res := ok (perst s)

/-- The PCIe link trains or is lost, R636. -/
def execPcieLinkChange (up : Bool) (rate : BitVec 3) (width : BitVec 5) (s : State) : Res :=
  ok (s.setRegN R.HOST_LINK (if up then 1 + 2 * rate.toNat + 16 * width.toNat else 0))

/-- HOST.BOOT.GO written 1, R617 and R616. -/
def bootGoWrite (v : Nat) (s : State) : State :=
  if v % 2 = 0 then s
  else if s.sec.boot = .waitGo ∧ ¬ s.sec.go then
    { (s.setFld R.HOST_BOOT F.HOST_BOOT_WAITING 0) with sec := { s.sec with go := true } }
  else hostReject 0 R.HOST_BOOT s

/-- R617. -/
def execHostBootGo (s : State) : Res := ok (bootGoWrite 1 s)

end Sys2Proof.Machine
end

