-- ==== Sys2Proof/Machine/LanternBase.lean ====
section
/-! DEFINITION. A Lantern core's registers, results in flight, advancing cycles and branch prediction
(10 R379–R386, 11 R422–R444). -/

namespace Sys2Proof.Machine

/-! ### Registers -/

/-- A special register's word. -/
def Core.srW (c : Core) (k : Nat) : Word := tget srReset c.sr k
/-- A special register's payload. -/
def Core.srN (c : Core) (k : Nat) : Nat := (c.srW k).pay.toNat
/-- A special register replaced, tag included. -/
def Core.putSr (c : Core) (k : Nat) (w : Word) : Core := { c with sr := tset srReset c.sr k w }
/-- A special register's payload replaced, under the tag that MFSR gives it. -/
def Core.setSr (c : Core) (k v : Nat) : Core := c.putSr k ⟨(srReset k).tag, BitVec.ofNat 48 v⟩

/-- STAT in effect, R456. -/
def Core.stat (c : Core) : Nat := c.srN 0
/-- STAT as MFSR reads it, R442. -/
def Core.statRead (c : Core) : Nat :=
  match c.statPend.getLast? with
  | some x => setBits c.stat 0 5 x.2.toNat
  | none => c.stat
/-- The current level, R455. -/
def Core.pl (c : Core) : Level := lvlOf (bits c.stat 0 2)
/-- STAT.TE. -/
def Core.te (c : Core) : Bool := bit c.stat 2
/-- STAT.IE. -/
def Core.ie (c : Core) : Bool := bit c.stat 3
/-- STAT.DET. -/
def Core.det (c : Core) : Bool := bit c.stat 4
/-- STAT.SG. -/
def Core.sg (c : Core) : Bool := bit c.stat 5
/-- STAT.CPRI. -/
def Core.cpri (c : Core) : Nat := bits c.stat 6 6

/-- The key of a general register: w31 is banked by level, R458. -/
def wKey (lv : Level) (r : Nat) : Nat := if r = 31 then 31 + lvlCode lv else r

/-- A general register of a key; w0 reads INT 0, R379. -/
def Core.wAt (c : Core) (key : Nat) : Word := if key = 0 then Word.int 0 else tget (fun _ => Word.uni0) c.w key
/-- A general register as an instruction reads it. -/
def Core.getW (c : Core) (r : RegNo) : Word := c.wAt (wKey c.pl r.toNat)
/-- Word k of a v register. -/
def Core.getV (c : Core) (r : RegNo) (k : Nat) : Word := tget (fun _ => Word.uni0) c.v (4 * r.toNat + k)
/-- An f register: word 0 of its v register, R380. -/
def Core.getF (c : Core) (r : RegNo) : Word := c.getV r 0
/-- A bank register. -/
def Core.getB (c : Core) (k : Nat) : BitVec 32 := tget (fun _ => 0) c.b k

/-- A general register's word replaced at once; a write of w0 is discarded, R379. -/
def Core.putW (c : Core) (key : Nat) (x : Word) : Core :=
  if key = 0 then c else { c with w := tset (fun _ => Word.uni0) c.w key x }

/-- LOOPST.DEPTH; a value above 4 acts as 4, R386. -/
def Core.depth (c : Core) : Nat := min (bits (c.srN 21) 0 3) 4
/-- ls, le and lc of a loop level, R386. -/
def Core.ls (c : Core) (k : Nat) : Nat := c.srN (24 + k)
def Core.le (c : Core) (k : Nat) : Nat := c.srN (28 + k)
def Core.lc (c : Core) (k : Nat) : Nat := c.srN (32 + k)

/-! ### Landing, R425 to R427 and R75 -/

/-- One register takes its write. -/
def RegWr.land (x : RegWr) (c : Core) : Core :=
  match x with
  | .w i x => c.putW i x
  | .v i x => { c with v := tset (fun _ => Word.uni0) c.v i x }
  | .b i x => { c with b := tset (fun _ => 0) c.b i x }
  | .sr i x => c.putSr i x

/-- Registers take their writes in order. -/
def landWrites (ws : List RegWr) (c : Core) : Core := ws.foldl (fun c x => x.land c) c

/-- Sticky flags set in FPCFG, R75. -/
def Core.addFlags (c : Core) (f : Flg) : Core := c.setSr 19 (c.srN 19 ||| f.toNat * 256)

/-- The results that land at the end of a cycle: registers in program order, then the flags. -/
def landDue (due : List InFlight) (c : Core) : Core :=
  let c := due.foldl (fun c f => landWrites f.writes c) c
  c.addFlags (due.foldl (fun g f => g.or f.flags) {})

/-! ### Prediction, R435 to R437 -/

/-- A counter of the direction predictor; each is 1 after reset. -/
def Core.counter (c : Core) (i : Nat) : Nat := tget (fun _ => 1) c.ctr i

/-- A core's checkpoint, R437. -/
def Core.checkpoint (c : Core) : Check := ⟨c.gh, c.ras.length, c.ras.head?⟩

/-- The return stack with its pointer and the entry at it restored; the entries below stay as they are. -/
def Check.restore (k : Check) (l : List Payload) : List Payload :=
  let l := l.drop (l.length - k.depth)
  match k.top with
  | some t => t :: l.drop 1
  | none => l

/-- One branch resolves: its counter moves, and a misprediction restores the checkpoint. -/
def Branch.resolve (b : Branch) (c : Core) : Core :=
  let c := match b.ctr with
    | none => c
    | some i =>
      let x := c.counter i
      { c with ctr := tset (fun _ => 1) c.ctr i (if b.taken then min 3 (x + 1) else x - 1) }
  if b.wrong then
    { c with
      gh := if b.cond then (2 * b.check.gh + b2n b.taken) % 8192 else b.check.gh
      ras := b.check.restore c.ras }
  else c

/-- The branches that resolve at the end of a cycle. -/
def resolveDue (due : List Branch) (c : Core) : Core := due.foldl (fun c b => b.resolve c) c

/-! ### Advancing cycles, R424 -/

/-- The end of an advancing cycle. -/
def Core.endCycle (c : Core) : Core :=
  let l := c.inflight.map fun f => { f with left := f.left - 1 }
  let bs := c.branches.map fun b => { b with left := b.left - 1 }
  let c := landDue (l.filter (·.left == 0)) c
  let c := resolveDue (bs.filter (·.left == 0)) c
  { c with
    inflight := l.filter (·.left != 0)
    branches := bs.filter (·.left != 0)
    slot0 := none
    divLeft := c.divLeft - 1 }

/-- Several advancing cycles. -/
def Core.cycles : Nat → Core → Core
  | 0, c => c
  | n + 1, c => Core.cycles n c.endCycle

/-- The advancing cycles until every result in flight has landed. -/
def Core.busy (c : Core) : Nat := c.inflight.foldl (fun m f => max m f.left) 0

/-- Every result lands, R428. -/
def Core.landAll (c : Core) : Core := c.cycles c.busy

/-! ### STAT changes, R442 and R443 -/

/-- The execution fields of STAT replaced: privilege, translation enable, interrupt enable and DET. -/
def Core.takeStat (c : Core) (v : Payload) : Core := c.setSr 0 (setBits c.stat 0 5 v.toNat)

/-- The changes that take effect before the next instruction. -/
def Core.dueStat (c : Core) : Core :=
  let c' := (c.statPend.filter (·.1 == 0)).foldl (fun c x => c.takeStat x.2) c
  { c' with statPend := c.statPend.filter (·.1 != 0) }

/-- Every change ended: each written value takes effect, in order. -/
def Core.flushStat (c : Core) : Core :=
  let c' := c.statPend.foldl (fun c x => c.takeStat x.2) c
  { c' with statPend := [] }

/-- One more instruction has gone by. -/
def Core.countStat (c : Core) : Core := { c with statPend := c.statPend.map fun x => (x.1 - 1, x.2) }

/-! ### Writes that wait for a boundary, R260, R488 and R679 -/

/-- Register-space writes applied at a boundary. -/
def Core.atBound (c : Core) : Core :=
  let c' := c.atBoundary.foldl (fun c x => if x.1 < 31 then c.putSr x.1 x.2 else c.putW x.1 x.2) c
  { c' with
    atBoundary := []
    ucHeld := [] }

/-- Whether the core stands between two instructions, R466. -/
def Core.atBoundaryNow (c : Core) : Bool := c.delay.isNone && c.frozen.isNone && c.ad.isNone

/-! ### Pairing and holds, R431 and R433 -/

/-- How an instruction issues. -/
structure Kind where
  unit : UnitKind := .alu
  /-- It is in the table of R432. -/
  alone : Bool := false
  /-- It is a control transfer. -/
  transfer : Bool := false
  deriving DecidableEq, Repr

/-- Two instructions of one cycle may use these units. -/
def unitsFit (a b : UnitKind) : Bool :=
  match a, b with
  | .mem, .mem => false
  | .mul, .mul => false
  | .fpv, .fpv => false
  | .div, .div => false
  | _, _ => true

/-- An address is le of an active loop level. -/
def Core.endsActive (c : Core) (a : Nat) : Bool := (List.range c.depth).any fun k => c.le k == a

/-- The next instruction joins the one in slot 0. -/
def Core.pairs (c : Core) (k : Kind) : Bool :=
  match c.slot0 with
  | none => false
  | some i =>
    !c.det && !i.alone && !k.alone && unitsFit i.kind k.unit && !k.transfer && !c.endsActive i.seq.toNat
      && !i.endsTransfer && !(k.unit == .div && c.divLeft != 0)

/-- The cycles in which an instruction that does not pair holds issue: for the divide unit, and for every earlier
branch when deterministic mode has taken effect (R451). -/
def Core.holds (c : Core) (k : Kind) : Nat :=
  max (if k.unit = .div then c.divLeft else 0)
    (if c.det then c.branches.foldl (fun m b => max m b.left) 0 else 0)

/-- The core in the cycle in which an instruction issues, and the hold cycles before it. -/
def Core.slotFor (c : Core) (k : Kind) : Core × Nat :=
  if c.pairs k then (c, 0)
  else
    let c := if c.slot0.isSome then c.endCycle else c
    (c.cycles (c.holds k), c.holds k)

/-- The core with an instruction's STAT changes in effect, in the cycle in which it issues. -/
def openCycle (n : Nat) (k : Kind) (s : State) : State :=
  let r := (s.core n).dueStat.slotFor k
  (s.bump (R.LANTERN_HOLDCNT n) F.LANTERN_HOLDCNT_HOLDCNT r.2).setCore n r.1

/-! ### Completion -/

/-- What an instruction does beside memory: its writes with their flags, its distance and its occupancy. -/
structure Eff where
  writes : List RegWr := []
  flags : Flg := {}
  dist : Nat := 1
  occ : Nat := 1
  deriving DecidableEq, Repr

/-- The instruction's result put in flight, and its cycle ended where no other may join it; an instruction that
finds slot 0 taken is the second of its cycle; nothing pairs with it where `endsT`, R433. (PRESUMED, log entry 53.) -/
def Core.issue (c : Core) (k : Kind) (seq : Nat) (endsT : Bool) (e : Eff) : Core × Bool :=
  let f : InFlight := ⟨e.occ - 1 + e.dist, e.writes, e.flags⟩
  let c1 : Core := { c with
    inflight := c.inflight ++ [f]
    divLeft := if k.unit = UnitKind.div then e.dist else c.divLeft }
  if c.slot0.isSome then (c1.endCycle, true)
  else if k.alone ∨ c.det then (c1.cycles e.occ, false)
  else
    let i : Slot0 := ⟨k.unit, k.alone, BitVec.ofNat 48 seq, endsT⟩
    ({ c1 with slot0 := some i }, false)

/-- The loop check of R405 after an instruction whose sequential successor is `t`: the levels' registers and the
next address; `k + 1` levels are left to check. -/
def loopCheck (t : Nat) : Nat → Core → Core × Nat
  | 0, c => (c, t)
  | k + 1, c =>
    if t = c.le k then
      if 1 < c.lc k then (c.setSr (32 + k) (c.lc k - 1), c.ls k)
      else loopCheck t k ((c.setSr (32 + k) 0).setSr 21 k)
    else (c, t)

/-- One more instruction has issued: the copies fetched ahead come nearer by one, and those of a path that was left
are gone. -/
def Core.stepBuf (straight : Bool) (c : Core) : Core :=
  { c with fbuf := if straight then (c.fbuf.filter (0 < ·.2.1)).map fun x => (x.1, x.2.1 - 1, x.2.2) else [] }

/-- The instruction counted, R454. -/
def countIssue (n : Nat) (paired : Bool) (s : State) : State :=
  let s := s.bump (R.LANTERN_ISSCNT n) F.LANTERN_ISSCNT_ISSCNT
  let s := s.bump (R.LANTERN_FETCHCNT n) F.LANTERN_FETCHCNT_FETCHCNT
  if paired then s.bump (R.LANTERN_PAIRCNT n) F.LANTERN_PAIRCNT_PAIRCNT else s

end Sys2Proof.Machine
end

