-- ==== Sys2Proof/Machine/March.lean ====
section
/-! DEFINITION. The march engines (08 R310–R320, R324). -/

namespace Sys2Proof.Machine

/-! ### Acceptance, R314 and R315 -/

/-- The run that a GO asks for, R315; BASE and LEN as they stand. The word range is in physical word indices. -/
def marchAsked (s : State) (k v : Nat) : MarchRun :=
  let fb (f : Fld) : Nat := bits v f.lo f.w
  let tgt := fb F.MARCH_CMD_TGT
  let csel := fb F.MARCH_CMD_CSEL
  let base := s.fld (R.MARCH_BASE k) F.MARCH_BASE_BASE
  { mode := fb F.MARCH_CMD_MODE, tgt := tgt, csel := csel, bg := fb F.MARCH_CMD_BG,
    stopf := fb F.MARCH_CMD_STOPF == 1,
    w0 := (if tgt = 0 then 0x200_0000_0000 + (4 * k + csel) * 0x800000 + base else base) / 4,
    len := s.fld (R.MARCH_LEN k) F.MARCH_LEN_LEN }

/-- The PARAM conditions of R315. -/
def marchParamBad (s : State) (k : Nat) (r : MarchRun) : Bool :=
  let base := s.fld (R.MARCH_BASE k) F.MARCH_BASE_BASE
  r.mode == 3 || r.bg == 3 || r.tgt == 3 || base % 32 != 0 || r.len % 8 != 0 || r.len == 0
    || (r.tgt == 0 && decide (base + 4 * r.len > 0x800000))
    || (r.tgt == 1 && decide (base + 4 * r.len > 0x012_0000_0000))
    || (r.tgt == 2 && r.mode != 0)

/-- The STATE condition of R315, row 3. -/
def marchStateBad (s : State) (k : Nat) (r : MarchRun) : Bool :=
  (r.tgt == 0 && (r.mode == 0 || r.mode == 2) && (s.gal (4 * k + r.csel)).busy && !(s.gal (4 * k + r.csel)).quar)
    || (r.tgt == 2 && (List.range 4).any fun i => !(s.gal (4 * k + i)).quar)

/-- Two locked regions overlap. -/
def MarchRun.overlaps (r q : MarchRun) : Bool :=
  r.tgt != 2 && q.tgt != 2 && decide (r.w0 < q.w0 + q.len) && decide (q.w0 < r.w0 + r.len)

/-- The reason of a refusal, R315, none when the march is accepted. -/
def marchRefusal (s : State) (k : Nat) (r : MarchRun) : Option Nat :=
  if (s.march k).run.isSome then some 1
  else if marchParamBad s k r then some 2
  else if marchStateBad s k r then some 3
  else if (List.range 4).any fun i => i != k && match (s.march i).run with
      | some q => r.overlaps q
      | none => false then some 4
  else none

/-- The chamber of a chamber march. -/
def MarchRun.cham (k : Nat) (r : MarchRun) : Nat := 4 * k + r.csel

/-- The results that an accepted march clears, R324. -/
def marchClear (k : Nat) (s : State) : State :=
  [R.MARCH_PROG k, R.MARCH_PCT k, R.MARCH_FADDR k, R.MARCH_FXLO k, R.MARCH_FXHI k, R.MARCH_FAILCNT k,
    R.MARCH_REFCNT k].foldl (fun s o => s.setReg o 0) s

/-- The words of a die's SRAMs with numbers below `n`, R310; the spec states no size. (DESIGN CHOICE, log entry 40.) -/
def sramBefore (n : Nat) : Nat := ((List.range n).map Config.sramWords).sum

/-! ### The elements, R311 and R312 -/

/-- An operation of an element on a word; `inv` takes ~B in place of B. -/
inductive MOp where
  | rd (inv : Bool)
  | wr (inv : Bool)
  | zero
  deriving DecidableEq, Repr

/-- An element of R311: its order, ⇕ being taken as ascending, and its operations per word. -/
structure MElem where
  down : Bool := false
  ops : List MOp := []
  deriving DecidableEq, Repr

/-- The elements of a DESTR test, M0 to M5, and M6 when BG is not 0, R311. -/
def destrElems (bg : Nat) : List MElem :=
  [{ ops := [.wr false] }, { ops := [.rd false, .wr true] }, { ops := [.rd true, .wr false] },
    { down := true, ops := [.rd false, .wr true] }, { down := true, ops := [.rd true, .wr false] },
    { ops := [.rd false] }] ++ if bg = 0 then [] else [{ ops := [.zero] }]

/-- The elements of a march that is no PRESV, R312: FILL writes zeros in one ascending pass. -/
def MarchRun.elems (r : MarchRun) : List MElem := if r.mode = 2 then [{ ops := [.zero] }] else destrElems r.bg

/-- The background B of a word index, R312. -/
def background (bg w : Nat) : Container :=
  match bg with
  | 1 => if w % 2 = 0 then 0x5555_5555_5555_5555 else 0xAAAA_AAAA_AAAA_AAAA
  | 2 => if w % 2 = 0 then 0 else 0xFFFF_FFFF_FFFF_FFFF
  | _ => 0

/-- B or its complement. -/
def pattern (bg w : Nat) (inv : Bool) : Container := if inv then ~~~background bg w else background bg w

/-- The container of a word after an operation. -/
def MOp.on (bg w : Nat) (c : Container) : MOp → Container
  | .rd _ => c
  | .wr inv => pattern bg w inv
  | .zero => 0

/-- The value that a read is compared with. -/
def MOp.expects (bg w : Nat) : MOp → Option Container
  | .rd inv => some (pattern bg w inv)
  | _ => none

/-- The operations performed on the word at offset `i` after `d` word-passes. -/
def MarchRun.opsDone (r : MarchRun) (d i : Nat) : List MOp :=
  let e := d / r.len
  let at' := if (r.elems.getD e {}).down then r.len - 1 - i else i
  (r.elems.take (if at' < d % r.len then e + 1 else e)).flatMap (·.ops)

/-- The container of the word at offset `i`, which held `c`, after `d` word-passes. -/
def MarchRun.leaves (r : MarchRun) (d i : Nat) (c : Container) : Container :=
  (r.opsDone d i).foldl (MOp.on r.bg (r.w0 + i)) c

/-! ### Comparisons, R311, R313 and R317 -/

/-- The position of a word of a die SRAM among the words of the die. -/
def sramPos (word : Nat) : Nat := sramBefore (word / 2 ^ 36) + word % 2 ^ 36

/-- The value that a read of a march is compared with; `x` is what the word held before a PRESV march, R313. -/
def MarchRun.expected (r : MarchRun) (x : Container) (b : BadRead) : Option Container :=
  if r.mode = 1 then (if b.step = 3 then some (~~~x) else if b.step = 5 then some x else none)
  else (r.elems.getD b.step {}).ops.findSome? (MOp.expects r.bg (r.w0 + b.word))

/-- The exclusive or of the expected and the read container. -/
def MarchRun.diff (r : MarchRun) (x : Container) (b : BadRead) : Container :=
  match r.expected x b with
  | some e => e ^^^ b.got
  | none => 0

/-- Where a comparison stands in the order of the march: its word-pass, and a number that rises with time. A die's SRAMs
are taken word after word in the order of R310. (DESIGN CHOICE, log entry 40.) -/
def MarchRun.place (r : MarchRun) (b : BadRead) : Nat × Nat :=
  if r.tgt = 2 then (sramPos b.word, 8 * sramPos b.word + b.step)
  else if r.mode = 1 then (b.word, 16 * (b.word / 8) + (if b.step = 5 then 8 else 0) + b.word % 8)
  else
    let p := b.step * r.len + (if (r.elems.getD b.step {}).down then r.len - 1 - b.word else b.word)
    (p, p)

/-- The comparison of the word at an offset belongs to the march. -/
def MarchRun.has (r : MarchRun) (b : BadRead) : Bool :=
  if r.tgt = 2 then decide (b.word / 2 ^ 36 < 17) && decide (b.word % 2 ^ 36 < Config.sramWords (b.word / 2 ^ 36))
  else decide (b.word < r.len)

/-- The comparisons that fail within `d` word-passes. -/
def MarchRun.failed (r : MarchRun) (s : State) (d : Nat) : List BadRead :=
  (r.bad.eraseDupsBy fun a b => a.word == b.word && a.step == b.step).filter fun b =>
    r.has b && decide ((r.place b).1 < d) && r.diff (s.cont (r.w0 + b.word)) b != 0

/-- The first of some comparisons. -/
def MarchRun.firstOf (r : MarchRun) : List BadRead → Option BadRead
  | [] => none
  | b :: l => match r.firstOf l with
    | none => some b
    | some c => if (r.place b).2 ≤ (r.place c).2 then some b else some c

/-- The work of a march, R316. -/
def MarchRun.total (r : MarchRun) : Nat :=
  if r.tgt = 2 then sramBefore 17 else r.len * (if r.mode = 1 then 1 else r.elems.length)

/-- The word-passes after which a march ends by itself: all of them, or with STOPF those up to the end of the granule of
the first failure, or of the element that found it for DESTR, R317. (DESIGN CHOICE, log entry 40.) -/
def MarchRun.ends (r : MarchRun) (s : State) : Nat :=
  match if r.stopf then r.firstOf (r.failed s r.total) else none with
  | none => r.total
  | some b =>
    if r.tgt = 2 then sramPos b.word + 1
    else if r.mode = 1 then 8 * (b.word / 8 + 1)
    else (b.step + 1) * r.len

/-! ### Progress, R316 and R317 -/

/-- The failures of `d` word-passes recorded: the count, saturating, and the first one's address and difference. -/
def marchRecord (k : Nat) (r : MarchRun) (d : Nat) (s : State) : State :=
  let l := r.failed s d
  match r.firstOf l with
  | none => s
  | some b =>
    let was := s.fld (R.MARCH_FAILCNT k) F.MARCH_FAILCNT_FAILCNT
    let x := (r.diff (s.cont (r.w0 + b.word)) b).toNat
    let s := s.setFld (R.MARCH_FAILCNT k) F.MARCH_FAILCNT_FAILCNT (min l.length (2 ^ 36 - 1))
    let s := s.setFld (R.MARCH_FADDR k) F.MARCH_FADDR_FADDR (if r.tgt = 2 then b.word else 4 * (r.w0 + b.word))
    let s := s.setFld (R.MARCH_FXLO k) F.MARCH_FXLO_FXLO x
    let s := s.setFld (R.MARCH_FXHI k) F.MARCH_FXHI_FXHI (x / 2 ^ 32)
    if was = 0 then s.setFld (R.MARCH_STAT k) F.MARCH_STAT_FAIL 1 else s

/-- PROG and PCT of `d` word-passes, R316. -/
def marchProgress (k : Nat) (r : MarchRun) (d : Nat) (s : State) : State :=
  (s.setFld (R.MARCH_PROG k) F.MARCH_PROG_DONE d).setFld (R.MARCH_PCT k) F.MARCH_PCT_PCT
    (if r.total ≤ d then 10000 else d * 10000 / r.total)

/-- The march stands at `d` word-passes. -/
def marchTo (k : Nat) (r : MarchRun) (d : Nat) (s : State) : State := marchProgress k r d (marchRecord k r d s)

/-- How far a running march has come: anywhere from what was shown last to its end, by granules for PRESV.
(DESIGN CHOICE, log entry 40.) -/
def marchSofar (k : Nat) (r : MarchRun) (s : State) : Nat × State :=
  let f := s.freeNat
  let d := max (s.fld (R.MARCH_PROG k) F.MARCH_PROG_DONE) (min f.1 (r.ends s))
  (if r.mode = 1 then 8 * (d / 8) else d, f.2)

/-- A running march whose registers are read shows its progress; within one tick it shows it once. -/
def marchShow (k : Nat) (s : State) : State :=
  match (s.march k).run with
  | none => s
  | some r =>
    if s.tick ≤ (s.march k).seen then s
    else
      let p := marchSofar k r s
      marchTo k r p.1 (p.2.setMarch k { s.march k with seen := s.tick })

/-- A march accepted, R314 to R316. -/
def marchAccept (k : Nat) (r : MarchRun) (s : State) : State :=
  let r := { r with bad := (Config.marchReads s.fresh).map fun x => ⟨x.1, x.2.1, x.2.2⟩ }
  let s := marchClear k { s with fresh := s.fresh + 1 }
  let s := s.setFld (R.MARCH_TOTAL k) F.MARCH_TOTAL_TOTAL r.total
  let s := s.setFld (R.MARCH_STAT k) F.MARCH_STAT_BUSY 1
  let s := s.setMarch k { run := some r, refusedOne := false, seen := s.tick }
  if r.tgt = 0 then s.setFld (R.CHAM_STAT (r.cham k)) F.CHAM_STAT_LOCKED 1 else s

/-! ### What a march leaves, R311, R313, R318 and R320 -/

/-- The cells of a memory without those of the words w0 to w0 + len − 1, which then read as zero containers. -/
def clearWords (m : List Host.Cell) (w0 len : Nat) : List Host.Cell :=
  m.filter fun c => !(decide (8 * w0 ≤ c.1) && decide (c.1 < 8 * (w0 + len)))

/-- Words that hold what their failing cells hold. -/
def spoil (ws : List Nat) (s : State) : State :=
  { ws.foldl (fun s w => s.setCont w (Config.badCell s.fresh w)) s with fresh := s.fresh + 1 }

/-- A free TLB entry, for the mixture of an aborted march. -/
def mixedTlb (n i : Nat) : TlbE :=
  { vpn := (Config.sramMixture n (3 * i)).setWidth 32
    pte := Config.sramMixture n (3 * i + 1)
    ptea := (Config.sramMixture n (3 * i + 2)).setWidth 42 }

/-- A free slot, for the mixture of an aborted march. -/
def mixedSlot (n i : Nat) : Slot :=
  let v (j : Nat) : BitVec 48 := Config.sramMixture n (2048 + 32 * i + j)
  { st := ([SlotSt.free, .wait, .ready, .run, .susp, .retire].getD ((v 16).toNat % 6) .free)
    desc := (List.range 16).map v
    daddr := v 17
    prio := (v 18).toNat % 16
    done := (v 19).toNat
    acc := (List.range 8).map fun j => (j, (v (20 + j)).toInt) }

/-- The SRAMs of a gallery die after a march: reset, or a mixture of patterns. -/
def marchSrams (k : Nat) (whole : Bool) (s : State) : State :=
  let s := (List.range 4).foldl (fun s i =>
    let g := s.gal (4 * k + i)
    let n := s.fresh + i
    s.setGal (4 * k + i) (if whole then { g with tlb := [], slots := [], relay := [] } else { g with
      tlb := (List.range 512).foldl (fun t j => tset (fun _ => {}) t j (mixedTlb n j)) []
      slots := (List.range 32).foldl (fun t j => tset (fun _ => {}) t j (mixedSlot n j)) []
      relay := [] })) s
  { s with fresh := s.fresh + 4 }

/-- The region of a march that ends after `d` word-passes: what the operations performed leave, and free containers in
words with failing cells. -/
def marchLeaves (k : Nat) (r : MarchRun) (d : Nat) (s : State) : State :=
  if r.tgt = 2 then marchSrams k (decide (r.total ≤ d)) s
  else if r.mode = 1 then
    spoil (((r.failed s d).filter fun b => b.step == 5).map fun b => r.w0 + b.word) s
  else
    let bad := (r.failed s d).map fun b => r.w0 + b.word
    let s := if r.total ≤ d then s.setMem (clearWords s.mem r.w0 r.len)
      else (List.range r.len).foldl (fun s i => s.setCont (r.w0 + i) (r.leaves d i (s.cont (r.w0 + i)))) s
    spoil bad s

/-! ### Ends, R317 and R318 -/

/-- The entry that a march with failures writes. -/
def logFailures (k : Nat) (s : State) : State :=
  let fails := s.fld (R.MARCH_FAILCNT k) F.MARCH_FAILCNT_FAILCNT
  if fails = 0 then s
  else logCairn .memory 0x07 [⟨2, k⟩, ⟨36, fails⟩, dfAddr (s.fld (R.MARCH_FADDR k) F.MARCH_FADDR_FADDR)] s

/-- What every end of a march does, R317. -/
def marchFinish (k : Nat) (r : MarchRun) (s : State) : State :=
  let st := R.MARCH_STAT k
  let s := (s.setFld st F.MARCH_STAT_BUSY 0).setFld st F.MARCH_STAT_DONE 1
  let s := s.setMarch k { s.march k with run := none }
  let s := if r.tgt = 0 then
      (s.setFld (R.CHAM_STAT (r.cham k)) F.CHAM_STAT_LOCKED 0).setFld (R.CHAM_STAT (r.cham k))
        F.CHAM_STAT_MFAIL (b2n (s.fld (R.MARCH_FAILCNT k) F.MARCH_FAILCNT_FAILCNT != 0))
    else s
  logFailures k (raise (161 + k) s)

/-- A march ends after `d` word-passes. -/
def marchStop (k : Nat) (r : MarchRun) (d : Nat) (s : State) : State :=
  marchFinish k r (marchLeaves k r d (marchTo k r d s))

/-- The march that a row names, by its MODE, TARGET and BG, is the one that runs. -/
def MarchRun.isOf (r : MarchRun) (mode tgt bg : Nat) : Bool := r.mode == mode && r.tgt == tgt && r.bg == bg

/-- The march of engine k with this MODE, TARGET and BG ends by itself, R317; where no such march runs none ends. -/
def marchEnd (k mode tgt bg : Nat) (s : State) : State :=
  match (s.march k).run with
  | none => s
  | some r => if r.isOf mode tgt bg then marchStop k r (r.ends s) s else s

/-- A running march is aborted, R318. -/
def marchAbort (k : Nat) (s : State) : State :=
  match (s.march k).run with
  | none => s
  | some r =>
    let p := marchSofar k r s
    marchStop k r p.1 (p.2.setFld (R.MARCH_STAT k) F.MARCH_STAT_ABORTED 1)

/-- A write of MARCH[k].CMD, R315 and R318; ABORT goes before GO. -/
def marchCmdWrite (k : Nat) (lv : Level) (v : Nat) (s : State) : State :=
  let s := s.writeCodes lv (R.MARCH_CMD k) v
  if bits v F.MARCH_CMD_ABORT.lo 1 = 1 then marchAbort k s
  else if bits v F.MARCH_CMD_GO.lo 1 = 1 then
    let r := marchAsked s k v
    match marchRefusal s k r with
    | some rej =>
      let st := R.MARCH_STAT k
      logCairn .memory 0x06 [⟨2, k⟩, ⟨3, rej⟩] ((s.setFld st F.MARCH_STAT_REJ rej).setFld st F.MARCH_STAT_REJV 1)
    | none => marchAccept k r s
  else s

/-- A CMD write with GO and without ABORT, R315. -/
def execMarchGo (k : Fin 4) (lv : Level) (v : Payload) (s : State) : Res :=
  ok (marchCmdWrite k lv (setBits (setBits v.toNat F.MARCH_CMD_ABORT.lo 1 0) F.MARCH_CMD_GO.lo 1 1) s)

/-- A CMD write with ABORT, R318. -/
def execMarchAbort (k : Fin 4) (lv : Level) (v : Payload) (s : State) : Res :=
  ok (marchCmdWrite k lv (setBits v.toNat F.MARCH_CMD_ABORT.lo 1 1) s)

/-- R317. -/
def execMarchEnd (k : Fin 4) (mode tgt bg : BitVec 2) (s : State) : Res :=
  ok (marchEnd k mode.toNat tgt.toNat bg.toNat s)

/-! ### The start-up march, R320 -/

/-- The first failure of a start-up march and the count of failures: in a failing chamber, given by `fm`, or in a die
SRAM. Which one comes first, and how many comparisons fail, is free. (DESIGN CHOICE, log entry 40.) -/
def startupFailures (k fm : Nat) (sf : Bool) (s : State) : State :=
  let c := s.freeNat
  let p := c.2.freeNat
  let o := p.2.freeNat
  let x := o.2.freeNat
  let places := ((List.range 4).filter (bit fm ·)).map (fun i => (false, 0x200_0000_0000 + (4 * k + i) * 0x800000))
    ++ if sf then [(true, 2 ^ 36 * (p.1 / 8 % 17))] else []
  match places[p.1 % places.length]? with
  | none => s
  | some (sram, a) =>
    let fa := if sram then a + o.1 % Config.sramWords (a / 2 ^ 36) else a + 4 * (o.1 % 0x200000)
    let fx := x.1 % (2 ^ 64 - 1) + 1
    let s := x.2.setFld (R.MARCH_FAILCNT k) F.MARCH_FAILCNT_FAILCNT (min (c.1 + 1) (2 ^ 36 - 1))
    let s := s.setFld (R.MARCH_FADDR k) F.MARCH_FADDR_FADDR fa
    let s := s.setFld (R.MARCH_FXLO k) F.MARCH_FXLO_FXLO fx
    let s := s.setFld (R.MARCH_FXHI k) F.MARCH_FXHI_FXHI (fx / 2 ^ 32)
    let s := s.setFld (R.MARCH_STAT k) F.MARCH_STAT_FAIL 1
    let bad := ((List.range 4).filter (bit fm ·)).flatMap fun i =>
      (Config.startupBad s.fresh (4 * k + i)).map fun w => (0x200_0000_0000 + (4 * k + i) * 0x800000) / 4 + w % 0x200000
    spoil (if sram then bad else fa / 4 :: bad) s

/-- The start-up march of the boot ROM, R320: chambers and die SRAMs of a gallery die are zeroed; `fm` has the
failing chambers and `sf` says that a die SRAM failed. The work it shows is free. -/
def startupMarch (k fm : Nat) (sf : Bool) (s : State) : State :=
  let s := marchClear k s
  let s := s.setMem (clearWords s.mem ((0x200_0000_0000 + 4 * k * 0x800000) / 4) (4 * 0x200000))
  let s := marchSrams k true s
  let st := R.MARCH_STAT k
  let s := (s.setFld st F.MARCH_STAT_FAILMAP fm).setFld st F.MARCH_STAT_SRAMFAIL (b2n sf)
  let s := (List.range 4).foldl (fun s i =>
    s.setFld (R.CHAM_STAT (4 * k + i)) F.CHAM_STAT_MFAIL (b2n (bit fm i))) s
  let w := s.freeNat
  let s := (w.2.setFld (R.MARCH_TOTAL k) F.MARCH_TOTAL_TOTAL w.1).setFld (R.MARCH_PROG k) F.MARCH_PROG_DONE w.1
  let s := startupFailures k fm sf (s.setFld (R.MARCH_PCT k) F.MARCH_PCT_PCT 10000)
  logFailures k (raise (161 + k) (s.setFld st F.MARCH_STAT_DONE 1))

end Sys2Proof.Machine
end

