-- ==== Sys2Proof/Machine/Microcode.lean ====
section
/-! DEFINITION. The microcode registers: patch entries and match registers of the cores and of the galleries
(07 R258–R265, R274, R275). -/

namespace Sys2Proof.Machine

/-- The registers of the galleries' shared image, R258. -/
def isGalUcode (off : Nat) : Bool := decide (R.UC_GPATCH 0 ≤ off) && decide (off < R.UC_STAT)

/-- Patch entries and match registers, of cores and galleries. -/
def isUcImage (off : Nat) : Bool := decide (R.UC_LPATCH 0 0 ≤ off) && decide (off < R.UC_STAT)

/-- The masters that may write microcode registers, R259: a core at M and the security engine. -/
def mayWriteUcode (m : Nat) (lv : Level) : Bool := (decide (m < 16) && lv == .m) || m == 35

/-- Every slot of every gallery is FREE, R261. -/
def State.allSlotsFree (s : State) : Bool :=
  s.gals.all fun y => y.2.slots.all fun x => x.2.st == .free

/-- The core whose patch entry or match register stands at an offset. -/
def ucOwner (off : Nat) : Option Nat :=
  if R.UC_LPATCH 0 0 ≤ off ∧ off < R.UC_LMATCH 0 0 then some ((off - R.UC_LPATCH 0 0) / 0x800)
  else if R.UC_LMATCH 0 0 ≤ off ∧ off < R.UC_GPATCH 0 then some ((off - R.UC_LMATCH 0 0) / 0x40)
  else none

/-- A core that is inside an instruction keeps the value that its control store had, R260. -/
def ucHold (off : Nat) (s : State) : State :=
  match ucOwner off with
  | none => s
  | some n =>
    let c := s.core n
    if c.atBoundaryNow ∨ (c.ucHeld.lookup off).isSome then s
    else s.setCore n { c with ucHeld := c.ucHeld ++ [(off, s.regN off)] }

/-- A write of a microcode register, R258 to R262. -/
def ucWrite (m : Nat) (lv : Level) (off v : Nat) (s : State) : Ans × State :=
  if !mayWriteUcode m lv then
    ({ st := .tref }, logCairn .ucode 0x03 [dfOff off, dfMaster m, ⟨2, lvlCode lv⟩] s)
  else if isUcImage off && s.mlock then
    ({ st := .ok }, logCairn .ucode 0x02 [dfOff off, dfMaster m] (s.setFld R.UC_STAT F.UC_STAT_WLOCK 1))
  else if isGalUcode off && !s.allSlotsFree then
    ({ st := .ok }, logCairn .ucode 0x01 [dfOff off] (s.setFld R.UC_STAT F.UC_STAT_WREJ 1))
  else ({ st := .ok }, (ucHold off s).writeCodes lv off v)

/-- The write of one row, with its error response. -/
def ucRow (m : Nat) (lv : Level) (off v : Nat) (s : State) : Res :=
  let r := ucWrite m lv off v s
  ok (if r.1.st = .ok then r.2 else respond m (0x300_0000_0000 + off) true (evalAddr m (0x300_0000_0000 + off)) r.1 r.2)

/-- R258 to R262. -/
def execUcLanternPatchWrite (m : Fin 48) (lv : Level) (n : Fin 16) (isMatch : Bool) (x : Fin 512) (v : Payload)
    (s : State) : Res :=
  ucRow m lv (if isMatch then R.UC_LMATCH n (x.val % 16) else R.UC_LPATCH n x) v.toNat s

/-- R258 to R262. -/
def execUcGalleryPatchWrite (m : Fin 48) (lv : Level) (isMatch : Bool) (x : Fin 1024) (v : Payload) (s : State) : Res :=
  ucRow m lv (if isMatch then R.UC_GMATCH (x.val % 16) else R.UC_GPATCH x) v.toNat s

end Sys2Proof.Machine
end

