-- ==== Sys2Proof/Machine/PowerRegs.lean ====
section
/-! DEFINITION. The power-fail registers: image judgement, restore, invalidation and VHOLD (17 R655, R656, R658,
R661, R663, R664, R673). -/

namespace Sys2Proof.Machine

/-- The first word index of an image slot, R656. -/
def imageBase (k : Nat) : Nat := 0x301_0000_0000 / 4 + k * 0x48000

/-- A word of an image slot as its container decodes. -/
def State.nvsWord (s : State) (k i : Nat) : Word :=
  match decodeContainer (s.cont (imageBase k + i)) with
  | .clean x => x
  | .corrected x => x
  | .uncorrectable => Word.uni0

/-- A slot holds a valid image, R661. (DEDUCED, log entry 76.) -/
def State.imageValid (s : State) (k : Nat) : Bool :=
  (s.nvsWord k 0).pay == 0x0000_5A4E_5046 && bit (s.nvsWord k 5).pay.toNat 0

/-- The sequence number of a slot's image, R658. -/
def State.imageSeq (s : State) (k : Nat) : Nat := (s.nvsWord k 1).pay.toNat % 2 ^ 32

/-- The newest valid slot, R661. -/
def State.newestImage (s : State) : Option Nat :=
  match s.imageValid 0, s.imageValid 1 with
  | true, true => some (if sideOf 32 (s.imageSeq 1) (s.imageSeq 0) = .ahead then 1 else 0)
  | true, false => some 0
  | false, true => some 1
  | false, false => none

/-- The header words that judging both slots reads, R661 and R663: word 0 of each, word 5 of one that holds the magic,
word 1 of a valid one, and word 4 of the newest where the image is looked into. (DEDUCED, log entry 76.) -/
def State.judgedWords (s : State) (newest : Bool) : List Nat :=
  (List.range 2).flatMap (fun k => [imageBase k]
      ++ (if (s.nvsWord k 0).pay == 0x0000_5A4E_5046 then [imageBase k + 5] else [])
      ++ (if s.imageValid k then [imageBase k + 1] else []))
    ++ (match s.newestImage with
      | some k => if newest then [imageBase k + 4] else []
      | none => [])

/-- The slots are read by the saver: an uncorrectable header word is reported, R57. -/
def judgeReads (newest : Bool) (s : State) : State :=
  (s.judgedWords newest).foldl (fun s w => (readWordAt 38 w s).2) s

/-- The slots judged at a power-on reset, R663. -/
def imageJudge (s : State) : State :=
  let s := judgeReads true s
  match s.newestImage with
  | none => logCairn .power 0x07 [] s
  | some k =>
    let q := s.imageSeq k
    let h := (s.nvsWord k 4).pay.toNat
    let s := (s.setFld R.PF_STAT F.PF_STAT_IMGV 1).setFld R.PF_STAT F.PF_STAT_SLOT k
    let s := logCairn .power 0x03 [⟨1, k⟩, ⟨32, q⟩] (raise 769 (s.setFld R.PF_IMGSEQ F.PF_IMGSEQ_SEQ q))
    if h % 2 ^ 16 ≠ 0xFFFF ∨ bits h 29 19 ≠ 0 then raise 771 s else s

/-- A write of the block rejected or refused, R664 and R673. -/
def pfRefuse (off m : Nat) (s : State) : State := logCairn .power 0x05 [dfOff off, dfMaster m] s

/-- A rejection with STATE, R664. -/
def pfReject (m : Nat) (s : State) : State := pfRefuse R.PF_CMD m (s.setFld R.PF_STAT F.PF_STAT_STERR 1)

/-- Why a restore is rejected, R664. -/
def State.restoreBad (s : State) : Bool :=
  !s.flag R.PF_STAT F.PF_STAT_IMGV || s.flag R.PF_STAT F.PF_STAT_RESTORED
    || (List.range 16).any (fun n => (s.axis n).st != .off) || !s.liveEnts.isEmpty || s.pf.restoring

/-- PF.CMD.RESTORE written 1 at M. -/
def restoreGo (m : Nat) (s : State) : State :=
  if s.restoreBad then pfReject m s else { s with pf := { s.pf with restoring := true } }

/-- PF.CMD.INVAL written 1 at M: COMMIT cleared in both slots. -/
def imageInval (m : Nat) (s : State) : State :=
  if s.pf.restoring then pfReject m s
  else (List.range 2).foldl (fun s k => s.putWord (imageBase k + 5) (Word.int 0)) s

/-- A write of PF.CMD, R664 and R673. -/
def pfCmdWrite (m : Nat) (lv : Level) (v : Nat) (s : State) : State :=
  if lv ≠ .m then pfRefuse R.PF_CMD m s
  else
    let s := if bit v 0 then restoreGo m s else s
    if bit v 1 then imageInval m s else s

/-- A power-fail register written, R673. -/
def pfWrite (m : Nat) (lv : Level) (off v : Nat) (s : State) : State :=
  if off = R.PF_CMD then pfCmdWrite m lv v s
  else if off = R.PF_CFG ∧ lv ≠ .m then pfRefuse off m s
  else s.writeCodes lv off v

/-- R664. -/
def execRestore (m : Fin 48) (lv : Level) (s : State) : Res := ok (pfCmdWrite m lv 1 s)
/-- R664. -/
def execInval (m : Fin 48) (lv : Level) (s : State) : Res := ok (pfCmdWrite m lv 2 s)

/-- A register loaded from a word of the image, read by the saver. -/
def loadReg (k i off : Nat) (f : Nat → Nat) (s : State) : State :=
  match readWordAt 38 (imageBase k + i) s with
  | ((w, _), s) => s.setRegN off (f w.pay.toNat)

/-- Words 0 to 6 of an axis, R664. -/
def loadAxis (k n : Nat) (s : State) : State :=
  let i := 0x40 + 32 * n
  let s := loadReg k i (R.AXIS_CFG n) (fun v => setBits (setBits 0 0 20 v) 0 1 0) s
  let s := loadReg k (i + 1) (R.AXIS_GAIN n) id s
  let s := loadReg k (i + 2) (R.AXIS_GATE n) id s
  let s := loadReg k (i + 3) (R.AXIS_TIME n) id s
  let s := loadReg k (i + 4) (R.AXIS_SRCP n) (fun v => setBits (setBits 0 0 44 v) 17 3 0) s
  let s := loadReg k (i + 5) (R.AXIS_SYNV n) id s
  loadReg k (i + 6) (R.AXIS_SYNR n) id s

/-- The words of a Gazetteer entry; PENDING becomes ARMED, R664. -/
def loadEntry (k i : Nat) (s : State) : State :=
  let o := 0x4E40 + 4 * i
  let s := loadReg k o (R.ENT_W0 i) id s
  let s := loadReg k (o + 1) (R.ENT_W1 i) id s
  let s := loadReg k (o + 2) (R.ENT_W2 i) (fun v => if bits v 46 2 = 3 then setBits v 46 2 1 else v) s
  loadReg k (o + 3) (R.ENT_W3 i) id s

/-- The restore completes, R664. -/
def restoreDone (s : State) : State :=
  if !s.pf.restoring then s
  else
    let k := s.fld R.PF_STAT F.PF_STAT_SLOT
    let s := (List.range 16).foldl (fun s n => loadAxis k n s) s
    let s := (List.range 65536).foldl (fun s i => loadEntry k i s) s
    let s := { (s.setFld R.PF_STAT F.PF_STAT_RESTORED 1) with pf := { s.pf with restoring := false } }
    logCairn .power 0x04 [⟨1, k⟩, ⟨32, s.fld R.PF_IMGSEQ F.PF_IMGSEQ_SEQ⟩] (raise 768 s)

/-- R664. -/
def execRestoreDone (s : State) : Res := ok (restoreDone s)

/-- VHOLD falls below its threshold outside a save, R655. -/
def vholdLow (s : State) : State :=
  if s.pf.stage = .none then
    logCairn .power 0x06 [] (raise 770
      ((s.setFld R.PF_STAT F.PF_STAT_VHOK 0).setFld R.PF_STAT F.PF_STAT_VHLOW 1))
  else s

/-- R655. -/
def execVholdLow (s : State) : Res := ok (vholdLow s)

end Sys2Proof.Machine
end

