-- ==== Sys2Proof/Machine/Security.lean ====
section
/-! DEFINITION. The security engine's registers, the lock and its digests, core starts, debug, JTAG and SMBus
(07 R264, 16 R626–R634, R637). -/

namespace Sys2Proof.Machine

/-! ### Digests, R264, R626 and R629 -/

/-- The low three bytes of a register, R264. -/
def State.emit3 (s : State) (off : Nat) : List (BitVec 8) := bytesOf (s.regN off) 3

/-- The string that the patch digest is taken over, R264. -/
def State.patchBytes (s : State) : List (BitVec 8) :=
  ((List.range 16).flatMap fun n =>
    ((List.range 512).flatMap fun e => s.emit3 (R.UC_LPATCH n e))
      ++ (List.range 16).flatMap fun m => s.emit3 (R.UC_LMATCH n m))
    ++ ((List.range 1024).flatMap fun e => s.emit3 (R.UC_GPATCH e))
    ++ (List.range 16).flatMap fun m => s.emit3 (R.UC_GMATCH m)

/-- Bytes laid out 6 to a register from an offset on: a digest of 64 bytes or a key of 57. -/
def putBytes (reg : Nat → Nat) (n : Nat) (bs : List (BitVec 8)) (s : State) : State :=
  (List.range n).foldl (fun s j => s.setRegN (reg j) (numOf ((bs.drop (6 * j)).take 6))) s

/-- MLOCK set, R626; `digests` is false after a failed self-test, R627. -/
def mlockSet (digests : Bool) (s : State) : State :=
  if s.mlock then s
  else
    let s := (s.setFld R.SEC_LOCK F.SEC_LOCK_MLOCK 1).setFld R.UC_STAT F.UC_STAT_LOCKED 1
    let s := if digests then putBytes R.UC_PDIG 11 (shake256 s.patchBytes 64) s else s
    if digests && s.sec.verified then putBytes R.SEC_IDIG 11 s.sec.digest s else s

/-- The identity private key, R629. -/
def State.idKey (s : State) : List (BitVec 8) :=
  shake256 (s.fuses.seed ++ [0x49, 0x41, 0x5A, 0x34, 0x38, 0x30, 0x36, 0x2D, 0x49, 0x44]) 57

/-! ### Starting cores, R628 -/

/-- A core waits in the boot ROM. -/
def State.coreWaits (s : State) (n : Nat) : Bool := (s.core n).inRom && (n != 0 || s.sec.boot == .halted)

/-- A core started at an address: at M, TE, IE and DET clear, TBASE at its reset value. (DESIGN CHOICE, log entry 9.) -/
def startCore (pc : Nat) (n : Nat) (s : State) : State :=
  let c := s.core n
  let sr := tset srReset (tset srReset c.sr 0 (srReset 0)) 5 (srReset 5)
  s.setCore n { c with pc := BitVec.ofNat 48 pc, sr := sr, statPend := [], inRom := false }

/-- A refused write of the block, R637. -/
def secRefuse (off m : Nat) (s : State) : State := logCairn .security 0x06 [dfOff off, dfMaster m] s

/-- A write of CSGO, R628: rejected where it names a core that is not waiting. (DEDUCED, log entry 73.) -/
def csgoWrite (m v : Nat) (s : State) : State :=
  let cs := (List.range 16).filter (bit v ·)
  if cs.all (s.coreWaits ·) then cs.foldl (fun s n => startCore (s.fld R.SEC_CSPC F.SEC_CSPC_PC) n s) s
  else secRefuse R.SEC_CSGO m s

/-- A write of SEC.ATT, R630 and R616. -/
def attWrite (m : Nat) (lv : Level) (v : Nat) (s : State) : State :=
  let busy := s.flag R.SEC_ATT F.SEC_ATT_BUSY
  let s := s.writeCodes lv R.SEC_ATT v
  if v % 2 = 0 then s
  else if busy then secRefuse R.SEC_ATT m s
  else
    { (s.setFld R.SEC_ATT F.SEC_ATT_BUSY 1) with sec := { s.sec with
        att := some { who := .reg, dst := (s.reg R.SEC_ATTDST).setWidth 42,
                      n0 := s.reg (R.SEC_NONCE 0), n1 := s.reg (R.SEC_NONCE 1) } } }

/-- A register of the block written, R637. -/
def secWrite (m : Nat) (lv : Level) (off v : Nat) (s : State) : State :=
  if lv ≠ .m then secRefuse off m s
  else if off = R.SEC_LOCK then (if bit v 1 then mlockSet true s else s)
  else if off = R.SEC_CSGO then csgoWrite m v s
  else if off = R.SEC_ATT then attWrite m lv v s
  else s.writeCodes lv off v

/-- R626. -/
def execMlockSet (m : Fin 48) (lv : Level) (s : State) : Res := ok (secWrite m lv R.SEC_LOCK 2 s)
/-- R628. -/
def execCsgo (m : Fin 48) (lv : Level) (v : Payload) (s : State) : Res := ok (secWrite m lv R.SEC_CSGO v.toNat s)
/-- R630. -/
def execAttGo (m : Fin 48) (lv : Level) (s : State) : Res := ok (secWrite m lv R.SEC_ATT 1 s)

/-! ### Debug, JTAG and SMBus, R632 to R634 -/

/-- A debug instruction selected, R632. -/
def debugSelect (ins : Nat) (s : State) : State :=
  if s.debugOpen then
    let was := s.flag R.SEC_DBG F.SEC_DBG_ACTIVE
    let s := { (s.setFld R.SEC_DBG F.SEC_DBG_ACTIVE 1) with dbg := { s.dbg with locked := false } }
    if was then s else raise 753 s
  else logCairn .security 0x05 [⟨16, ins⟩] { s with dbg := { s.dbg with locked := true } }

/-- R632. -/
def execDebugSessionOpen (ins : BitVec 16) (s : State) : Res := ok (debugSelect ins.toNat s)
/-- The session ends, R637. -/
def execDebugSessionClose (s : State) : Res := ok (s.setFld R.SEC_DBG F.SEC_DBG_ACTIVE 0)

/-- The identification code, R633; bit 0 is 1 as IEEE 1149.1 has it. (PRESUMED, log entry 74.) -/
def State.idcode (s : State) : Nat :=
  1 + s.fld R.ID0 F.ID0_JMFR * 2 + 0x4806 * 2 ^ 12 + s.fld R.ID1 F.ID1_STEPL % 16 * 2 ^ 28

/-- A standard instruction selected, with what its data register captured. -/
def jtag (i : JtagIns) (tdo : Nat) (s : State) : State := { s with dbg := { s.dbg with ins := i, tdo := tdo } }

/-- R633. -/
def execIdcode (s : State) : Res := ok (jtag .idcode s.idcode s)
/-- R633. -/
def execBypass (s : State) : Res := ok (jtag .bypass 0 s)
/-- R633: the boundary chain is not printed, so what it captures is free. -/
def execSamplePreload (s : State) : Res :=
  let (x, s) := s.freeNat
  ok (jtag .sample x s)

/-- The address that the SMBus target answers at, R634. -/
def State.smbusAddr (s : State) : Nat := 0x58 + s.sec.smba

/-- The data of an SMBus Block Read. -/
def smbusRead (bs : List (BitVec 8)) (s : State) : State := { s with dbg := { s.dbg with smbus := bs } }

/-- R634. -/
def execSmbusReadBoot (s : State) : Res := ok (smbusRead (bytesOf (s.regN R.SEC_BOOT) 6) s)
/-- R634. -/
def execSmbusReadTemp (s : State) : Res :=
  ok (smbusRead ((List.range 6).map fun st => BitVec.ofNat 8 (s.fld (R.HBM_STAT st) F.HBM_STAT_TEMP)) s)
/-- R634. -/
def execSmbusReadIdpub (s : State) : Res :=
  ok (smbusRead (((List.range 10).flatMap fun j => bytesOf (s.regN (R.SEC_IDPUB j)) 6).take 57) s)

end Sys2Proof.Machine
end

