-- ==== Sys2Proof/Machine/RegSpace.lean ====
section
/-! DEFINITION. Register space as every master reaches it: which register an offset is, what a read returns and
what a write does (18 R677–R690, 12 R487 and R488, 13 R513). -/

namespace Sys2Proof.Machine

/-! ### The registers of a Lantern block -/

/-- A word of a w31 bank as register space shows it: 0 while it holds UNI, R488. -/
def bankRead (w : Word) : Nat := if w.tag = Tags.uni then 0 else w.pay.toNat

/-- A register of core n's block read; the phase of CYCLE within a tick is free. -/
def lanternRead (n o : Nat) (s : State) : Nat × State :=
  let c := s.core n
  let off := 0x800000 + 0x10000 * n + o
  if o = 0x58 then
    let r := s.freeNat
    ((16 * s.tick + r.1 % 16) % 2 ^ 48, r.2)
  else if o = 0x5C then (s.regN off, s)
  else if o < 0x90 then (c.srN (o / 4), s)
  else if 0x304 ≤ o ∧ o < 0x310 then (bankRead (c.wAt (31 + (o - 0x304) / 4)), s)
  else if o = 0x310 then
    (match c.halt with
      | some h => 1 + 2 * h
      | none => 0, s)
  else if o = 0x400 then (setBits (s.regN off) 8 7 c.tlbNext, s)
  else if o = 0x40C then (b2n c.rfl', s)
  else if 0x1000 ≤ o ∧ o < 0x1800 then ((tlbAt c.tlb ((o - 0x1000) / 0x10)).read (o % 0x10 / 4), s)
  else (s.regN off, s)

/-- A register-space write of a register that holds a tag: at once, or at the core's next boundary. `key` is 16 to 18
for EMSTATE0 to EMSTATE2 and 31 to 33 for the w31 banks. -/
def coreKeyWrite (n key : Nat) (w : Word) (s : State) : State :=
  let c := s.core n
  let own := key < 31 ∨ key = 31 + lvlCode c.pl
  let c := { c with atBoundary := c.atBoundary ++ [(key, w)] }
  let c' := if c.atBoundaryNow ∨ ¬ own then c.atBound else c
  s.setCore n c'

/-- The codes of a register applied to a value that does not lie in the register table. -/
def codesAt (lv : Level) (lock : Bool) (off old v : Nat) : Nat :=
  match regAt off with
  | some (r, _) => rowWrite lv lock r.fields old v
  | none => old

/-- A register of core n's block written, R488, R513 and R679. -/
def lanternWrite (n o : Nat) (lv : Level) (v : Nat) (s : State) : State :=
  let c := s.core n
  let off := 0x800000 + 0x10000 * n + o
  if o = 0x4C then s.setCore n (c.setSr 19 (codesAt lv s.mlock off (c.srN 19) v))
  else if o = 0x40 ∨ o = 0x44 ∨ o = 0x48 then
    if lv ≠ .m then s
    else if o = 0x40 then coreKeyWrite n 16 (Word.int (BitVec.ofNat 48 (v % 2 ^ 14))) s
    else coreKeyWrite n (o / 4) (Word.raw (BitVec.ofNat 48 v)) s
  else if o < 0x90 then s
  else if 0x304 ≤ o ∧ o < 0x310 then
    if lv = .m then coreKeyWrite n (31 + (o - 0x304) / 4) (Word.raw (BitVec.ofNat 48 v)) s else s
  else s.writeCodes lv off v

/-! ### Blocks with rules of their own -/

/-- A correction counter written: the threshold may fire again, R286. -/
def rearm (u : Nat) (s : State) : State := { s with thrFired := s.thrFired.filter (· != u) }

/-- A register of the HBM block written. -/
def hbmRegWrite (lv : Level) (off v : Nat) (s : State) : State :=
  let st := (off - 0x2000000) / 0x10000
  let o := off % 0x10000
  if o = 0x8 then pprWrite st lv v s
  else if 0x1000 ≤ o ∧ o % 0x20 = 0 then rearm (32 * st + (o - 0x1000) / 0x20) (s.writeCodes lv off v)
  else s.writeCodes lv off v

/-- A register of the chamber and march block written. -/
def chamRegWrite (lv : Level) (off v : Nat) (s : State) : State :=
  if off < 0x2810000 then
    let s := s.writeCodes lv off v
    if off % 0x100 = 4 then rearm (192 + (off - 0x2800000) / 0x100) s else s
  else if off % 0x100 = 0 then marchCmdWrite ((off - 0x2810000) / 0x100) lv v s
  else s.writeCodes lv off v

/-- A register of a lane written, R522. -/
def laneRegWrite (m : Nat) (lv : Level) (off v : Nat) (s : State) : State :=
  let l := (off - 0x3000000) / 0x4000
  match off % 0x4000 with
  | 0x000 => laneCfgWrite l m lv v s
  | 0x008 => laneClaimWrite l m v s
  | 0x014 => txcfgWrite l m v s
  | 0x018 => msgqWrite l m v s
  | 0x01C => laneCmdWrite l m v s
  | o =>
    if o = 0x00C ∨ o = 0x010 ∨ (0x100 ≤ o ∧ o < 0x140) then ownerWrite l m off (·.writeCodes lv off v) s
    else s.writeCodes lv off v

/-- A register of the Ethernet and link DMA block written. -/
def linkRegWrite (m : Nat) (lv : Level) (off v : Nat) (s : State) : State :=
  if off < 0x3440000 then ethWrite ((off - 0x3400000) / 0x1000) m lv off v s
  else if 0x3441000 ≤ off ∧ off < 0x3442000 then
    let i := off - 0x3441000
    queueWrite (i / 0x800) (i % 0x800 / 0x40) off v s
  else s.writeCodes lv off v

/-- A register of the Passage block written; whether the rail then lies within its window is free.
(DESIGN CHOICE, log entry 45.) -/
def passRegWrite (lv : Level) (off v : Nat) (s : State) : State :=
  let x := (off - 0x3800000) / 0x1000
  if off = R.SITE_CTL 0 ∨ off = R.SITE_CTL 1 then siteCtlWrite x lv v s
  else if off = R.SITE_VMON 0 ∨ off = R.SITE_VMON 1 then
    let r := s.freeNat
    vmonWrite x lv v (r.1 % 2 == 1) r.2
  else s.writeCodes lv off v

/-- A register of the Cairn and power-fail block written. -/
def cairnRegWrite (m : Nat) (lv : Level) (off v : Nat) (s : State) : State :=
  if off = R.CAIRN_SWENT then swentWrite v s
  else if R.PF_CFG ≤ off then pfWrite m lv off v s
  else s.writeCodes lv off v

/-! ### The whole of register space -/

/-- A register that no block with an error response of its own holds, written. -/
def plainRegWrite (m : Nat) (lv : Level) (off v : Nat) (s : State) : State :=
  if off < 0x100000 then s
  else if off < 0x200000 then
    if off = R.JUNC_CTL then junCtlWrite v s
    else if R.JUNC_SLICE 0 ≤ off ∧ off < R.JUNC_SLICE 48 then sliceWrite ((off - R.JUNC_SLICE 0) / 4) lv v s
    else s.writeCodes lv off v
  else if off < 0x200400 then axisWrite lv off v s
  else if off < 0x300000 then s.writeCodes lv off v
  else if off < 0x400000 then gazWrite ((off - 0x300000) / 16) (off % 16 / 4) v s
  else if off < 0x800000 then evcWrite m lv off v s
  else if off < 0x900000 then lanternWrite ((off - 0x800000) / 0x10000) (off % 0x10000) lv v s
  else if off < 0x2000000 then galWrite lv off v s
  else if off < 0x2800000 then hbmRegWrite lv off v s
  else if off < 0x3000000 then chamRegWrite lv off v s
  else if off < 0x3400000 then laneRegWrite m lv off v s
  else if off < 0x3800000 then linkRegWrite m lv off v s
  else if off < 0x3A00000 then passRegWrite lv off v s
  else if off < 0x3C00000 then pinWrite m lv off v s
  else if off < R.HOST_CTL then fnWrite lv off v s
  else if off = R.HOST_BOOT then bootGoWrite v s
  else if 0x3E00000 ≤ off ∧ off < 0x3F00000 then cairnRegWrite m lv off v s
  else if 0x3F00000 ≤ off then cascWrite lv off v s
  else s.writeCodes lv off v

/-- A register write, R680 to R683. -/
def regSpaceWrite (m : Nat) (lv : Level) (off : Nat) (w : Word) (s : State) : Ans × State :=
  let v := w.pay.toNat
  if w.tag.poisoned then ({ st := .tref }, s)
  else if (regAt off).isNone then ({ st := .ok }, s)
  else if 0x3F80000 ≤ off then ucWrite m lv off v s
  else if 0x3D00000 ≤ off ∧ off < 0x3E00000 then ({ st := .ok }, secWrite m lv off v s)
  else ({ st := .ok }, plainRegWrite m lv off v s)

/-- A register of a march engine read: a running march shows its progress, R316. -/
def marchRead (off : Nat) (s : State) : Nat × State :=
  let s := marchShow ((off - 0x2810000) / 0x100) s
  (s.regN off, s)

/-- A register read, R680 and R685. -/
def regSpaceRead (off : Nat) (s : State) : Nat × State :=
  if (regAt off).isNone then (0, s)
  else if 0x200000 ≤ off ∧ off < 0x200400 then (axisRead off s, s)
  else if 0x200400 ≤ off ∧ off < 0x300000 then (travRead off s, s)
  else if 0x400000 ≤ off ∧ off < 0x800000 then (evcRead off s, s)
  else if 0x800000 ≤ off ∧ off < 0x900000 then lanternRead ((off - 0x800000) / 0x10000) (off % 0x10000) s
  else if 0x1000000 ≤ off ∧ off < 0x1400000 then (galRead off s, s)
  else if 0x2810000 ≤ off ∧ off < 0x2810400 then marchRead off s
  else if 0x3400000 ≤ off ∧ off < 0x3440000 then ethRead ((off - 0x3400000) / 0x1000) off s
  else if 0x3A00000 ≤ off ∧ off < 0x3C00000 then (pinRead off s, s)
  else if R.CAIRN_RDAT 0 ≤ off ∧ off < R.CAIRN_RDAT 3 then
    ((s.rdat ((off - R.CAIRN_RDAT 0) / 4)).toNat, s)
  else if off = R.CAIRN_RDAT 3 then ((s.rdat 3).toNat, rdat3Read s)
  else (s.regN off, s)

/-- An access to register space: reads carry RAW (R21), and only words are served (R682). -/
def regAccess (m : Nat) (lv : Level) (off : Nat) (op : JOp) (s : State) : Ans × State :=
  match op with
  | .rd =>
    let r := regSpaceRead off s
    ({ st := .ok, w := Word.raw (BitVec.ofNat 48 r.1) }, r.2)
  | .wr w => regSpaceWrite m lv off w s
  | _ => ({ st := .tref }, s)

/-- An access of a master through the Junction, R326 to R344. -/
def bus (m : Nat) (lv : Level) (a : Nat) (op : JOp) (s : State) (se : Bool := false) (ep : Bool := false) :
    BusOut × State :=
  busAccess regAccess m lv a op s se ep

/-! ### Rows -/

/-- The level at which a master makes a register access, R681: a core's is its own, and the security engine, the debug
access port and the power-fail saver access at M. -/
def accessLevel (m : Nat) (lv : Level) (s : State) : Level :=
  if m < 16 then (s.core m).pl else if m = 35 ∨ m = 36 ∨ m = 38 then .m else lv

/-- R645: a master reads RDAT3, and the word goes to it. -/
def execRdat3Read (m : Fin 48) (s : State) : Res :=
  let a := 0x300_0000_0000 + R.CAIRN_RDAT 3
  ok (if s.barred m then s else match bus m (accessLevel m .u s) a .rd s with
    | (.wait, s1) => keepWaiting s s1
    | (.done r, s1) => respond m a false 0 r s1)

/-- A write to the register at an offset by a master, R681 to R684; the master receives its response. -/
def execRegisterWrite (m : Fin 48) (lv : Level) (off : BitVec 26) (w : Word) (s : State) : Res :=
  let a := 0x300_0000_0000 + off.toNat
  ok (if s.barred m then s else match bus m (accessLevel m lv s) a (.wr w) s with
    | (.wait, s1) => keepWaiting s s1
    | (.done r, s1) => respond m a true (evalAddr m a) r s1)

/-- R334; waiting STREAM transactions of the sites are tried again as well. -/
def execJunctionGrant (t : Fin 38) (s : State) : Res :=
  ok ((List.range 2).foldl (fun s k => linkServe k (streamServe k s)) (junctionGrant regAccess t s))

end Sys2Proof.Machine
end

