-- ==== Sys2Proof/Machine/Boot.lean ====
section
/-! DEFINITION. The boot ROM: images, their verification, the configuration block, the patch section, the load table,
the start-up march and the release (16 R617–R629). -/

namespace Sys2Proof.Machine

/-! ### Steps -/

/-- What a step of the ROM comes to. -/
inductive Stg where
  | wait (s : State)
  /-- A failure with its code, R627. -/
  | fail (code : Nat) (s : State)
  | ok (s : State)

/-- One step after another. -/
def Stg.andThen (r : Stg) (f : State → Stg) : Stg :=
  match r with
  | .ok s => f s
  | r => r

/-- Several steps in order. -/
def steps (fs : List (State → Stg)) (s : State) : Stg := fs.foldl Stg.andThen (.ok s)

/-- The ROM, on L0 at M, writes a word: whether it was accepted. (DEDUCED, log entry 72.) -/
def romWrite (a : Nat) (w : Word) (s : State) : Got Bool :=
  match bus 0 .m a (.wr w) s with
  | (.wait, s) => .wait s
  | (.done r, s) => .got (r.st == .ok) s

/-- The ROM reads words in turn; one that is not answered OK reads as UNI zero. -/
def romReads (a : Nat) : Nat → State → Got (List Word)
  | 0, s => .got [] s
  | n + 1, s => match bus 0 .m a .rd s with
    | (.wait, s) => .wait s
    | (.done r, s) => match romReads (a + 4) n s with
      | .got ws s => .got (r.w :: ws) s
      | .wait s => .wait s

/-- The ROM writes words in turn. -/
def romWrites (a : Nat) : List Word → State → Stg
  | [], s => .ok s
  | w :: ws, s => match romWrite a w s with
    | .wait s => .wait s
    | .got _ s => romWrites (a + 4) ws s

/-- The staging area, R618. -/
def stageBase : Nat := 0x011_F000_0000

/-! ### Images, R618 to R620 -/

/-- Payload of header word i. -/
def hdr (h : List Word) (i : Nat) : Nat := (h.getD i Word.uni0).pay.toNat
/-- NW. -/
def imgNw (h : List Word) : Nat := bits (hdr h 2) 0 26
/-- NW lies within 32 and 2^26 − 19. -/
def nwGood (n : Nat) : Bool := decide (32 ≤ n) && decide (n ≤ 2 ^ 26 - 19)
/-- The 8 bytes of a word in the layout of R599. -/
def layout (w : Word) : List (BitVec 8) := bytesOf w.pay.toNat 6 ++ [w.tag.setWidth 8, 0]
/-- The image digest, R619. -/
def imgDigest (ws : List Word) : List (BitVec 8) := shake256 (ws.flatMap layout) 64
/-- The 57 key bytes. -/
def imgKey (h : List Word) : List (BitVec 8) := (((h.drop 13).take 10).flatMap fun w => bytesOf w.pay.toNat 6).take 57
/-- KSLOT. -/
def imgKslot (h : List Word) : Nat := bits (hdr h 12) 0 2
/-- SVN. -/
def imgSvn (h : List Word) : Nat := bits (hdr h 3) 0 7

/-- A word of a flash copy, R617. -/
def State.flashWord (s : State) (copy i : Nat) : Word :=
  let c := contAt s.flash (copy * 0x400_0000 + i)
  ⟨BitVec.ofNat 4 (bits c.toNat 48 4), BitVec.ofNat 48 c.toNat⟩

/-- Load from a flash copy: the image, or its header alone where NW is invalid. -/
def loadFlash (copy : Nat) (responds : Bool) (s : State) : Stg :=
  if !responds then .fail 1 s
  else
    let nw := bits (s.flashWord copy 2).pay.toNat 0 26
    let n := if nwGood nw then nw + 19 else 32
    romWrites stageBase ((List.range n).map (s.flashWord copy)) s

/-- The stepping check passes, R621. -/
def stepGood (h : List Word) (s : State) : Bool :=
  let any := bit (hdr h 1) 16
  if any then bits (hdr h 7) 0 26 == 0
  else bits (hdr h 1) 8 8 == s.fld R.ID1 F.ID1_STEPD + s.fld R.ID1 F.ID1_STEPL * 16

/-- The key is one whose hash is fused and that is not revoked, R620. -/
def keyGood (h : List Word) (s : State) : Bool :=
  shake256 (imgKey h) 32 == s.fuses.keyHash.getD (imgKslot h) [] && !s.fuses.revoked.getD (imgKslot h) true

/-- The checks of Verify in their order, R621: the code of the first that fails. -/
def verifyCode (ws : List Word) (s : State) : Option Nat :=
  let nw := imgNw ws
  let sig := ((ws.drop nw).flatMap fun w => bytesOf w.pay.toNat 6).take 114
  if hdr ws 0 ≠ 0x0000_5A4E_5354 ∨ bits (hdr ws 1) 0 8 ≠ 1 ∨ ¬ nwGood nw then some 1
  else if ¬ stepGood ws s then some 2
  else if ¬ keyGood ws s then some 3
  else if ¬ ed448Verify (imgKey ws) [] ((ws.take nw).flatMap layout) sig then some 4
  else if imgSvn ws < s.fuses.svnMin then some 5
  else none

/-- What Verify establishes. -/
def verified (ws : List Word) (s : State) : State :=
  let s := s.setFld R.SEC_SVN F.SEC_SVN_SVN (imgSvn ws)
  { s with sec := { s.sec with
      digest := imgDigest (ws.take (imgNw ws))
      verified := true
      kslot := imgKslot ws
      svn := imgSvn ws } }

/-- The staged image read: its header, then words 0 to NW + 18 where NW is valid. -/
def stagedImage (s : State) : Got (List Word) :=
  match romReads stageBase 32 s with
  | .wait s => .wait s
  | .got h s => if nwGood (imgNw h) then romReads stageBase (imgNw h + 19) s else .got h s

/-- Verify. -/
def verifyStep (s : State) : Stg :=
  match stagedImage s with
  | .wait s => .wait s
  | .got ws s => match verifyCode ws s with
    | some c => .fail c s
    | none => .ok (verified ws s)

/-! ### Configure, R622 -/

/-- The rejections with STATE that units log: source and code. -/
def isStateReject (e : CairnIn) : Bool :=
  [(0x01, 0x09), (0x02, 0x01), (0x03, 0x01), (0x05, 0x02), (0x06, 0x09), (0x0A, 0x01), (0x0B, 0x03), (0x0C, 0x01),
    (0x0F, 0x05), (0x10, 0x07)].contains (e.src, e.code)

/-- Whether a write of a register at M is rejected with STATE. -/
def State.rejects (s : State) (off v : Nat) : Bool :=
  let s := { s with cairn := {} }
  (bus 0 .m (0x300_0000_0000 + off) (.wr (Word.raw (BitVec.ofNat 48 v))) s).2.cairn.queue.any isStateReject

/-- The entry of a record refused or rejected. -/
def noteRecord (i : Nat) (d : DF) (s : State) : State := logCairn .security 0x04 [⟨26, i⟩, d] s

/-- A register written by a record. -/
def cfgReg (i off v : Nat) (s : State) : Stg :=
  let rej := s.rejects off v
  match romWrite (0x300_0000_0000 + off) (Word.raw (BitVec.ofNat 48 v)) s with
  | .wait s => .wait s
  | .got false s => .fail 6 s
  | .got true s =>
    if rej then
      let r := s.freeNat
      .ok (noteRecord i ⟨4, r.1⟩ r.2)
    else .ok s

/-- SOFTREP; `good` is what the stack reports. -/
def cfgRepair (i p v : Nat) (good : Bool) (s : State) : Stg :=
  let st := bits p 0 3
  if 6 ≤ st then .ok s
  else
    let s := pprWrite st .m (bits p 3 5 + bits p 8 5 * 2 ^ 5 + bits v 0 15 * 2 ^ 10 + 2 ^ 26) s
    match s.fld (R.HBM_PPR st) F.HBM_PPR_RES, (s.hbm st).running.isSome with
    | 4, false => .fail 6 s
    | 2, false => .ok (noteRecord i ⟨3, 2⟩ s)
    | _, _ => .ok (repairEnd st good s)

/-- KREV of a slot blown. -/
def revokeKey (k : Nat) (s : State) : State := { s with fuses := { s.fuses with revoked := s.fuses.revoked.set k true } }

/-- SVNMIN raised to the image's SVN; SEC.SVN reports the fuses. (DEDUCED, log entry 72.) -/
def raiseSvn (s : State) : State :=
  let n := max s.fuses.svnMin s.sec.svn
  { (s.setFld R.SEC_SVN F.SEC_SVN_SVNMIN n) with fuses := { s.fuses with svnMin := n } }

/-- A record of the configuration block, but END. -/
def cfgRecord (good : Bool) (i kind p v : Nat) (s : State) : Stg :=
  match kind with
  | 0x01 => if bits p 0 6 < 48 then cfgReg i (R.JUNC_SLICE (bits p 0 6)) v s else .ok s
  | 0x02 =>
    if bits p 0 6 < 48 then
      cfgReg i (if bits p 6 2 < 3 then R.JUNC_PRI (bits p 0 6) (bits p 6 2) else R.JUNC_PRI3 (bits p 0 6)) v s
    else .ok s
  | 0x03 => if bits p 0 6 < 38 then cfgReg i (R.JUNC_PARK (bits p 0 6)) v s else .ok s
  | 0x04 => cfgRepair i p v good s
  | 0x05 =>
    let off := bits p 0 26
    if off % 4 ≠ 0 ∨ (0x3D00000 ≤ off ∧ off < 0x3E00000) then .fail 6 s else cfgReg i off v s
  | 0x06 => .ok (raiseSvn s)
  | 0x07 => if bits p 0 2 = s.sec.kslot then .fail 6 s else .ok (revokeKey (bits p 0 2) s)
  | 0x08 => if v / 2 ≠ 0 then .fail 6 s else .ok (s.setFld R.SEC_DBG F.SEC_DBG_EN v)
  | _ => .fail 6 s

/-- Records of two words from a staging offset on, in order; the operation says whether to go on. -/
def records (f : Nat → Nat → Nat → State → Stg × Bool) (off : Nat) : Nat → Nat → State → Stg
  | 0, _, s => .ok s
  | n + 1, i, s => match romReads (stageBase + 4 * (off + 2 * i)) 2 s with
    | .wait s => .wait s
    | .got ws s => match f i (hdr ws 0) (hdr ws 1) s with
      | (.ok s, true) => records f off n (i + 1) s
      | (r, _) => r

/-- Configure: records up to END or the record count. -/
def configureStep (good : Bool) (h : List Word) (s : State) : Stg :=
  records (fun i a v s => if a % 256 = 0 then (.ok s, false) else (cfgRecord good i (a % 256) (a / 256) v s, true))
    (bits (hdr h 4) 0 26) (bits (hdr h 5) 0 26) 0 s

/-- Re-digest. -/
def redigestStep (s : State) : Stg :=
  match stagedImage s with
  | .wait s => .wait s
  | .got ws s => if imgDigest (ws.take (imgNw ws)) = s.sec.digest then .ok s else .fail 8 s

/-- Enable, R339. -/
def enableStep (s : State) : Stg := .ok (junctionFullRate (junCtlWrite 1 s))

/-! ### Patch, R623 -/

/-- Registers written with one value. -/
def patchRegs (offs : List Nat) (v : Nat) (s : State) : Stg :=
  steps (offs.map fun off s => match romWrite (0x300_0000_0000 + off) (Word.raw (BitVec.ofNat 48 v)) s with
    | .wait s => .wait s
    | .got _ s => .ok s) s

/-- A patch record. -/
def patchRecord (a v : Nat) (s : State) : Stg :=
  let ns := if bit a 12 then List.range 16 else [bits a 8 4]
  let i := bits a 13 10
  let v := v % 2 ^ 24
  match a % 256 with
  | 1 => if i < 512 then patchRegs (ns.map fun n => R.UC_LPATCH n i) v s else .fail 6 s
  | 2 => if i < 16 then patchRegs (ns.map fun n => R.UC_LMATCH n i) v s else .fail 6 s
  | 3 => patchRegs [R.UC_GPATCH i] v s
  | 4 => if i < 16 then patchRegs [R.UC_GMATCH i] v s else .fail 6 s
  | _ => .fail 6 s

/-- Patch. -/
def patchStep (h : List Word) (s : State) : Stg :=
  records (fun _ a v s => (patchRecord a v s, true)) (bits (hdr h 6) 0 26) (bits (hdr h 7) 0 26) 0 s

/-! ### Copy, R624 -/

/-- Words copied with their tags. -/
def romCopy (src dst : Nat) : Nat → State → Stg
  | 0, s => .ok s
  | n + 1, s => match romReads src 1 s with
    | .wait s => .wait s
    | .got ws s => match romWrite dst (ws.headD Word.uni0) s with
      | .wait s => .wait s
      | .got _ s => romCopy (src + 4) (dst + 4) n s

/-- A destination that lies in HBM outside the staging area. -/
def loadDstGood (a n : Nat) : Bool := a % 4 == 0 && decide (a + 4 * n ≤ stageBase)

/-- A load record. -/
def loadRecord (nw a l : Nat) (s : State) : Stg :=
  let src := bits l 0 26
  let n := bits l 26 22
  if nw < src + n ∨ ¬ loadDstGood a n then .fail 7 s else romCopy (stageBase + 4 * src) a n s

/-- Copy. -/
def copyStep (h : List Word) (s : State) : Stg :=
  records (fun _ a l s => (loadRecord (imgNw h) a l s, true)) (bits (hdr h 8) 0 26) (bits (hdr h 9) 0 26) 0 s

/-! ### March, lock and release, R320, R625, R626 and R628 -/

/-- A gallery put back in service. -/
def unquarantine (g : Nat) (s : State) : State := quarantineDone g (leaveQuarantine g s)

/-- The galleries that stay quarantined. -/
def badGals (fm sram : Nat) : List Nat := (List.range 16).filter fun g => bit fm g || bit sram (g / 4)

/-- The mask of some galleries. -/
def galMask (gs : List Nat) : Nat := (gs.map (2 ^ ·)).sum

/-- March: `fm` has the failing chambers and `sram` the dies with a failing SRAM. -/
def marchStep (fm sram : Nat) (h : List Word) (s : State) : Stg :=
  let s := (List.range 16).foldl (fun s g => quarantine g 0 (s.setFld (R.GAL_CFG g) F.GAL_CFG_QUAR 1)) s
  let s := (List.range 4).foldl (fun s k => startupMarch k (bits fm (4 * k) 4) (bit sram k) s) s
  let bad := badGals fm sram
  let s := (List.range 16).foldl (fun s g => if bad.contains g then s else unquarantine g s) s
  if bad = [] then .ok s
  else
    let q := galMask bad
    let s := logCairn .security 0x03 [⟨16, q⟩] (s.setFld R.SEC_BOOT F.SEC_BOOT_QMASK q)
    if bit (hdr h 1) 17 then .fail 9 s else .ok s

/-- Lock and Release. -/
def releaseStep (h : List Word) (s : State) : Stg :=
  let s := mlockSet true s
  let s := (s.setFld R.HOST_CTL F.HOST_CTL_OPEN 1).setFld R.SEC_BOOT F.SEC_BOOT_OK 1
  let s := ((List.range 16).filter fun n => n == 0 || bit (hdr h 11) n).foldl
    (fun s n => startCore (bits (hdr h 10) 0 42) n s) s
  let s := logCairn .security 0x02 [⟨2, s.sec.src⟩, ⟨7, s.sec.svn⟩, ⟨2, s.sec.kslot⟩] s
  .ok { s with sec := { s.sec with boot := .released } }

/-- What the row says of the hardware: which stacks train, whether the flash responds, what the start-up march finds
and what a stack reports of a soft repair. -/
structure BootHw where
  test : Bool
  trained : BitVec 6
  flash : Bool
  fm : BitVec 16
  sram : BitVec 4
  good : Bool
  deriving DecidableEq, Repr

/-- Everything from Configure on, for the verified image in the staging area. -/
def bootImage (b : BootHw) (s : State) : Stg :=
  match romReads stageBase 32 s with
  | .wait s => .wait s
  | .got h s => steps [configureStep b.good h, redigestStep, enableStep, patchStep h, copyStep h,
      marchStep b.fm.toNat b.sram.toNat h, releaseStep h] s

/-! ### Failures and sources, R617, R621 and R627 -/

/-- The straps name PCIe among the sources. -/
def State.bootsPcie (s : State) : Bool := s.sec.bootsel != 0
/-- The straps name the flash copies among the sources. -/
def State.bootsFlash (s : State) : Bool := s.sec.bootsel != 1

/-- A code recorded. -/
def bootCode (c : Nat) (s : State) : State :=
  let s := s.setFld R.SEC_BOOT F.SEC_BOOT_CODE c
  if s.bootsPcie then s.setFld R.HOST_BOOT F.HOST_BOOT_CODE c else s

/-- A source being tried. -/
def trySource (x : Nat) (s : State) : State :=
  let s := s.setFld R.SEC_BOOT F.SEC_BOOT_SRC x
  { s with sec := { s.sec with src := x } }

/-- Boot halts. -/
def bootHalt (c : Nat) (s : State) : State :=
  let s := mlockSet (c != 11) (logCairn .security 0x01 [⟨8, c⟩, ⟨2, s.sec.src⟩] (bootCode c s))
  { s with sec := { s.sec with boot := .halted } }

/-- The ROM waits for a PCIe image. -/
def awaitGo (s : State) : State :=
  let s := s.setFld R.HOST_BOOT F.HOST_BOOT_WAITING 1
  { s with sec := { s.sec with boot := .waitGo, go := false } }

/-- What the last steps leave: boot waits for an access, halts or has released. -/
def Stg.settle (s0 : State) : Stg → State
  | .wait s => keepWaiting s0 s
  | .fail c s => bootHalt c s
  | .ok s => s

/-- The identity key, R629. -/
def identity (s : State) : State := putBytes R.SEC_IDPUB 10 (ed448Public s.idKey) s

/-- Train: the stacks that train now; whether all six have trained. -/
def trainAll (t : Nat) (s : State) : State :=
  (List.range 6).foldl (fun s st =>
    if bit t st then hbmTrain st s else s) s

/-- Every stack has trained. -/
def State.allTrained (s : State) : Bool := (List.range 6).all fun st => s.flag (R.HBM_STAT st) F.HBM_STAT_TRAINED

/-- Load and Verify from a flash copy. -/
def flashSource (copy : Nat) (b : BootHw) (s : State) : Stg := (loadFlash copy b.flash (trySource copy s)).andThen verifyStep

/-- No flash copy passed: PCIe, or the halt of the last source. -/
def afterFlash (c : Nat) (s : State) : State := if s.bootsPcie then awaitGo (trySource 2 s) else bootHalt c s

/-- The flash copies in order. -/
def bootFlash (b : BootHw) (s0 s : State) : State :=
  match flashSource 0 b s with
  | .wait s => keepWaiting s0 s
  | .ok s => (bootImage b s).settle s0
  | .fail _ s => match flashSource 1 b s with
    | .wait s => keepWaiting s0 s
    | .ok s => (bootImage b s).settle s0
    | .fail c s => afterFlash c s

/-- Boot from reset, R621. -/
def bootStart (b : BootHw) (s : State) : State :=
  if !b.test then bootHalt 11 s
  else
    let s1 := trainAll b.trained.toNat (identity (linksTrain s))
    if !s1.allTrained then bootHalt 10 s1
    else if s1.bootsFlash then bootFlash b s s1
    else awaitGo (trySource 2 s1)

/-- The staged PCIe image, R617 and R627: one that fails before Configure sets the code, and the ROM waits again. -/
def bootPcie (b : BootHw) (s : State) : State :=
  match verifyStep s with
  | .wait s1 => keepWaiting s s1
  | .fail c s1 => awaitGo (bootCode c s1)
  | .ok s1 => (bootImage b { s1 with sec := { s1.sec with go := false } }).settle s

/-- R621: the ROM runs as far as it can. -/
def execBootRom (test : Bool) (trained : BitVec 6) (flash : Bool) (fm : BitVec 16) (sram : BitVec 4) (good : Bool)
    (s : State) : Res :=
  let b : BootHw := ⟨test, trained, flash, fm, sram, good⟩
  ok (match s.sec.boot with
    | .notRun => bootStart b s
    | .waitGo => if s.sec.go then bootPcie b s else s
    | _ => s)

end Sys2Proof.Machine
end

