-- ==== Sys2Proof/Machine/HostBar.lean ====
section
/-! DEFINITION. BAR accesses of the PCIe functions (16 R599–R606). -/

namespace Sys2Proof.Machine

/-! ### What a request asks for -/

/-- What lies at a word of 8 window bytes. -/
inductive BarWord where
  /-- A device word: its physical address and its register access level where it is one. -/
  | dev (a : Nat)
  /-- Dword 2k and 2k + 1 of the MSI-X table. -/
  | msix (k : Nat)
  | pba
  deriving DecidableEq, Repr

/-- BAR0 of function f, R600; in the boot window the PF serves HOST.LINK and HOST.BOOT alone, R606. -/
def bar0Word (f w : Nat) (s : State) : Option BarWord :=
  let reg (off : Nat) : BarWord := .dev (0x300_0000_0000 + off)
  if f = 0 then
    if w < 0x100_0000 then
      if s.flag R.HOST_CTL F.HOST_CTL_OPEN ∨ 4 * w = R.HOST_LINK ∨ 4 * w = R.HOST_BOOT then some (reg (4 * w)) else none
    else if ¬ s.flag R.HOST_CTL F.HOST_CTL_OPEN then none
    else if 0x100_0000 ≤ w ∧ w < 0x100_0020 then some (.msix (w - 0x100_0000))
    else if w = 0x100_0200 then some .pba
    else none
  else if w < 0x1000 then some (reg (R.FN_CFG f + 4 * w))
  else if 0x1000 ≤ w ∧ w < 0x1020 then some (.msix (w - 0x1000))
  else if w = 0x1200 then some .pba
  else none

/-- BAR2: the physical address of a word, where its segment permits the access, R603 and R606. -/
def bar2Word (f w : Nat) (wr : Bool) (s : State) : Option BarWord :=
  let i := w / 2 ^ 26
  let at' (base : Nat) : BarWord := .dev (base * 2 ^ 28 + w % 2 ^ 26 * 4)
  if s.flag R.HOST_CTL F.HOST_CTL_OPEN then
    let r := R.FN_SEG f i
    if s.flag r F.FN_SEG_V ∧ s.flag r (if wr then F.FN_SEG_WR else F.FN_SEG_RD) then some (at' (s.fld r F.FN_SEG_BASE))
    else none
  else if f = 0 ∧ i = 0 then some (at' 0x11F)
  else none

/-- Function f answers at all: the PF, and a VF that is enabled, R598 and R606. -/
def State.fnServed (s : State) (f : Nat) : Bool :=
  f == 0 || (decide (f ≤ s.totVf) && s.flag R.HOST_CTL F.HOST_CTL_OPEN)

/-- The level of a function's register accesses, R601. -/
def State.fnLevel (s : State) (f : Nat) : Level := if f = 0 then lvlOf (s.fld R.HOST_CTL F.HOST_CTL_PFLVL) else .u

/-! ### Failures, R600, R605 and R606 -/

/-- The completion of a request: of a read its answer, of a posted write none. -/
def complPci (c : PcieCpl) (s : State) : State := { s with host := { s.host with cpl := some c } }

/-- A request refused: counted and logged; `st` is the status it received, which is free where it received none. -/
def barRefused (f bar a : Nat) (st : Option Status) (c : PcieCpl) (s : State) : State :=
  let r := s.freeNat
  let s := r.2.bump R.HOST_ERRCNT F.HOST_ERRCNT_ERRCNT
  let x := match st with
    | some st => st.code
    | none => r.1
  complPci c (logCairn .host 0x04 [⟨4, f⟩, ⟨3, bar⟩, dfAddr a, ⟨4, x⟩] s)

/-- A request that failed, R605: its address and BADACC as well. -/
def barFailed (f bar a : Nat) (st : Option Status) (c : PcieCpl) (s : State) : State :=
  barRefused f bar a st c ((s.setRegN (R.FN_ERRADDR f) a).setFld (R.FN_STAT f) F.FN_STAT_BADACC 1)

/-- The completion of a failed access. -/
def failCpl (wr : Bool) (st : Status) : PcieCpl := if wr then .posted else if st = .jerr then .unsupported else .abort

/-! ### Reads, R599 -/

/-- The 8 window bytes of a device word. -/
def barBytes (w : Word) : List (BitVec 8) := bytesOf w.pay.toNat 6 ++ [w.tag.setWidth 8, 0]

/-- What reading or writing words comes to. -/
inductive BarOut where
  | wait (s : State)
  | bad (a : Nat) (st : Status) (s : State)
  | done (bs : List (BitVec 8)) (s : State)

/-- The 8 bytes of a mapped word read. -/
def barRead1 (f : Nat) (x : BarWord) (w : Nat) (s : State) : BarOut :=
  match x with
  | .dev a => match bus 34 (s.fnLevel f) a .rd s with
    | (.wait, s) => .wait s
    | (.done r, s) => if r.st = .ok then .done (barBytes r.w) s else .bad (8 * w) r.st s
  | .msix k => .done (bytesOf ((s.hostFn f).msixAt (2 * k)).toNat 4 ++ bytesOf ((s.hostFn f).msixAt (2 * k + 1)).toNat 4) s
  | .pba => .done (bytesOf (s.hostFn f).pba.toNat 8) s

/-- Mapped words read in ascending order. -/
def barReads (f : Nat) : List (Nat × BarWord) → State → BarOut
  | [], s => .done [] s
  | (w, x) :: ws, s => match barRead1 f x w s with
    | .done bs s => match barReads f ws s with
      | .done bs' s => .done (bs ++ bs') s
      | o => o
    | o => o

/-! ### Writes, R601, R602 and R604 -/

/-- The tag with which a BAR2 write is stored. -/
def barTag (tagp : Bool) (t : Tag) : Tag :=
  if t.reserved then Tags.uni
  else if !tagp && (t == Tags.addr || t == Tags.code || t == Tags.pte || t == Tags.desc || t == Tags.sealT) then Tags.raw
  else t

/-- A dword of the MSI-X table with its enabled bytes replaced; of the vector control only the mask is held. -/
def mergeDword (old : BitVec 32) (k : Nat) (bs : List (Option (BitVec 8))) : BitVec 32 :=
  let v := numOf (((bytesOf old.toNat 4).zip bs).map fun x => x.2.getD x.1)
  BitVec.ofNat 32 (if k % 4 = 3 then v % 2 else v)

/-- A dword of the MSI-X table written, where a byte of it is enabled. -/
def msixBytes (f k : Nat) (bs : List (Option (BitVec 8))) (s : State) : State :=
  if bs.any (·.isSome) then msixWrite f k (mergeDword ((s.hostFn f).msixAt k) k bs) s else s

/-- The device word that 8 bytes with their enables make, where bytes 0 to 6 are all enabled. -/
def wordOf (bs : List (Option (BitVec 8))) : Word :=
  let b (i : Nat) : BitVec 8 := (bs.getD i none).getD 0
  ⟨(b 6).setWidth 4, BitVec.ofNat 48 (numOf ((List.range 6).map b))⟩

/-- Whether only some of bytes 0 to 6 are enabled, R602. -/
def partialWord (bs : List (Option (BitVec 8))) : Bool :=
  let e := bs.take 7
  e.any (·.isSome) && e.any (·.isNone)

/-- 8 bytes of a write to a mapped word; `bar2` with its segment's TAGP, else a BAR0 access. -/
def barWrite1 (f : Nat) (tagp : Option Bool) (w : Nat) (x : BarWord) (bs : List (Option (BitVec 8))) (s : State) : BarOut :=
  match x with
  | .msix k => .done [] (msixBytes f (2 * k + 1) (bs.drop 4) (msixBytes f (2 * k) (bs.take 4) s))
  | .pba => .done [] s
  | .dev a =>
    if (bs.take 7).all (·.isSome) then
      let v := wordOf bs
      let v := match tagp with
        | some p => ⟨barTag p v.tag, v.pay⟩
        | none => Word.raw v.pay
      match bus 34 (s.fnLevel f) a (.wr v) s with
      | (.wait, s) => .wait s
      | (.done r, s) => if r.st = .ok then .done [] s else .bad (8 * w) r.st s
    else .done [] s

/-- Mapped words written in ascending order, up to the first that fails. -/
def barWrites (f : Nat) (tagp : Option Bool) : List (Nat × BarWord × List (Option (BitVec 8))) → State → BarOut
  | [], s => .done [] s
  | (w, x, bs) :: ws, s => match barWrite1 f tagp w x bs s with
    | .done _ s => barWrites f tagp ws s
    | o => o

/-- The partial words of a write: PARTW, and one entry for the TLP, R602. -/
def notePartial (f : Nat) (ws : List (Nat × BarWord × List (Option (BitVec 8)))) (s : State) : State :=
  match ws.find? fun x => match x.2.1 with
      | .dev _ => partialWord x.2.2
      | _ => false with
  | none => s
  | some x => logCairn .host 0x03 [⟨4, f⟩, dfAddr (8 * x.1)] (fnFlag f F.FN_STAT_PARTW s)

/-! ### The two rows -/

/-- The window words that bytes `a` to `a + n - 1` touch. -/
def touched (a n : Nat) : List Nat := (List.range ((a + n + 7) / 8 - a / 8)).map (a / 8 + ·)

/-- Every touched word with what lies there; none where one is not served. -/
def mapWords (f : Nat → Option BarWord) : List Nat → Option (List (Nat × BarWord))
  | [] => some []
  | w :: ws => match f w, mapWords f ws with
    | some x, some xs => some ((w, x) :: xs)
    | _, _ => none

/-- The enabled bytes of a write, cut into window words from the first touched one. -/
def chunks8 (a : Nat) (bs : List (Option (BitVec 8))) : List (List (Option (BitVec 8))) :=
  let l := List.replicate (a % 8) none ++ bs
  let l := l ++ List.replicate ((8 - l.length % 8) % 8) none
  (List.range (l.length / 8)).map fun i => (l.drop (8 * i)).take 8

/-- What a read or a write leaves. -/
def barFinish (f bar a n : Nat) (wr : Bool) (s0 : State) : BarOut → State
  | .wait s => keepWaiting s0 s
  | .bad e st s => barFailed f bar e (some st) (failCpl wr st) s
  | .done bs s => complPci (if wr then .posted else .data ((bs.drop (a % 8)).take n)) s

/-- A request whose words are mapped performed. -/
def barRun (f bar a : Nat) (tagp : Option Bool) (op : PciOp) (ws : List (Nat × BarWord)) (s : State) : State :=
  match op with
  | .rd n => barFinish f bar a n false s (barReads f ws s)
  | .wr bs =>
    let xs := (ws.zip (chunks8 a bs)).map fun x => (x.1.1, x.1.2, x.2)
    match barWrites f tagp xs s with
    | .wait s1 => keepWaiting s s1
    | o => notePartial f xs (barFinish f bar a 0 true s o)

/-- The bytes of a request. -/
def pciSize : PciOp → Nat
  | .rd n => n
  | .wr bs => bs.length
/-- The request is a write. -/
def pciWr : PciOp → Bool
  | .rd _ => false
  | .wr _ => true
/-- The completion of an Unsupported Request. -/
def pciUnsup (op : PciOp) : PcieCpl := if pciWr op then .posted else .unsupported

/-- A request to BAR0, R600 to R602. -/
def bar0 (f a : Nat) (op : PciOp) (s : State) : State :=
  if !s.fnServed f then barRefused f 0 a none (pciUnsup op) s
  else match mapWords (bar0Word f · s) (touched a (pciSize op)) with
    | none => barRefused f 0 a none (pciUnsup op) s
    | some ws => barRun f 0 a none op ws s

/-- The TAGP of a BAR2 address. -/
def State.tagp (s : State) (f a : Nat) : Bool := s.flag (R.FN_SEG f (a / 2 ^ 29)) F.FN_SEG_TAGP

/-- A request to BAR2, R603 to R605. (DEDUCED, log entry 68.) -/
def bar2 (f a : Nat) (op : PciOp) (s : State) : State :=
  if !s.fnServed f then barRefused f 2 a none (pciUnsup op) s
  else match mapWords (bar2Word f · (pciWr op) s) (touched a (pciSize op)) with
    | none =>
      if s.flag R.HOST_CTL F.HOST_CTL_OPEN then barFailed f 2 a none (pciUnsup op) s else barRefused f 2 a none (pciUnsup op) s
    | some ws => barRun f 2 a (some (s.tagp f a)) op ws s

/-- R600 to R602, R606. -/
def execBar0Access (f : Fin 16) (a : BitVec 33) (op : PciOp) (s : State) : Res := ok (bar0 f a.toNat op s)
/-- R602 to R606. -/
def execBar2Access (f : Fin 16) (a : BitVec 33) (op : PciOp) (s : State) : Res := ok (bar2 f a.toNat op s)

end Sys2Proof.Machine
end

