-- ==== Sys2Proof/Machine/HostCmd.lean ====
section
/-! DEFINITION. The command processor of the PCIe functions, the identifier history and the attestation report
(16 R609–R615, R630, R631). -/

namespace Sys2Proof.Machine

/-! ### Choosing, R613 -/

/-- A function with a command to serve. -/
def State.fnReady (s : State) (f : Nat) : Bool :=
  s.flag (R.FN_CFG f) F.FN_CFG_EN && s.fld (R.FN_SQIDX f) F.FN_SQIDX_CONS != s.fld (R.FN_SQIDX f) F.FN_SQIDX_PROD

/-- The function that is served next, in rotation. (DEDUCED, log entry 70.) -/
def State.nextFn (s : State) : Option Nat :=
  ((List.range 16).map fun i => (s.host.lastFn + 1 + i) % 16).find? (s.fnReady ·)

/-- A command is in progress. -/
def State.cmdRuns (s : State) : Bool :=
  match s.sec.att with
  | some a => match a.who with
    | .cmd _ => true
    | .reg => false
  | none => false

/-- The function's CQ has space. -/
def State.cqSpace (s : State) (f : Nat) : Bool :=
  decide (idxSub (s.fld (R.FN_CQIDX f) F.FN_CQIDX_PROD) (s.fld (R.FN_CQIDX f) F.FN_CQIDX_CONS) < s.cqLen f)

/-! ### Reading and judging a command, R611 -/

/-- Words read in turn at a level: they wait, or the words, or the status that ended them. -/
def hostReads (lv : Level) (a : Nat) : Nat → State → Got (Except Status (List Word))
  | 0, s => .got (.ok []) s
  | n + 1, s => match bus 34 lv a .rd s with
    | (.wait, s) => .wait s
    | (.done r, s) =>
      if r.st ≠ .ok then .got (.error r.st) s
      else match hostReads lv (a + 4) n s with
        | .got (.ok ws) s => .got (.ok (r.w :: ws)) s
        | o => o

/-- A command's words. -/
structure Cmd where
  ws : List Word
  deriving DecidableEq, Repr

/-- Word k of a command. -/
def Cmd.c (x : Cmd) (k : Nat) : Word := x.ws.getD k Word.uni0
/-- Payload of word k. -/
def Cmd.n (x : Cmd) (k : Nat) : Nat := (x.c k).pay.toNat
def Cmd.op (x : Cmd) : Nat := bits (x.n 0) 0 8
def Cmd.cev (x : Cmd) : Bool := bit (x.n 0) 8
def Cmd.id (x : Cmd) : BitVec 64 := BitVec.ofNat 64 (x.n 1 + bits (x.n 2) 0 16 * 2 ^ 48)
def Cmd.src (x : Cmd) : Nat := x.n 3
def Cmd.dst (x : Cmd) : Nat := x.n 4
def Cmd.len (x : Cmd) : Nat := x.n 5

/-- Every tag, field and range rule of R611 holds. -/
def Cmd.good (x : Cmd) : Bool :=
  ([0, 1, 2, 5].all fun k => (x.c k).tag == Tags.int || (x.c k).tag == Tags.raw)
    && ([3, 4].all fun k => ((x.c k).tag == Tags.addr || (x.c k).tag == Tags.int || (x.c k).tag == Tags.raw)
        && decide (x.n k < 2 ^ 42) && x.n k % 4 == 0)
    && x.n 0 / 2 ^ 9 == 0 && x.n 2 / 2 ^ 16 == 0 && x.n 5 / 2 ^ 24 == 0

/-! ### Completions, R613 to R615 -/

/-- CQLOG2 as it acts, R609. -/
def State.cqLog (s : State) (f : Nat) : Nat :=
  let l := s.fld (R.FN_CFG f) F.FN_CFG_CQLOG2
  if l = 0 ∨ 12 < l then 12 else l

/-- The four words of a completion, R614. -/
def complWords (f : Nat) (k : Compl) (s : State) : List Word :=
  let prod := s.fld (R.FN_CQIDX f) F.FN_CQIDX_PROD
  let ph := 1 - bits prod (s.cqLog f) 1
  let id := k.id.toNat
  [s.fld (R.FN_SQIDX f) F.FN_SQIDX_CONS + k.st * 2 ^ 16 + k.jst * 2 ^ 24 + b2n k.replay * 2 ^ 28 + ph * 2 ^ 47,
    id % 2 ^ 48, id / 2 ^ 48, k.done].map fun x => Word.int (BitVec.ofNat 48 x)

/-- Words written in turn: they wait, or how many were accepted and the status that ended them. -/
def hostWrites (m : Nat) (lv : Level) (a : Nat) : List Word → State → Got (Nat × Status)
  | [], s => .got (0, .ok) s
  | w :: ws, s => match bus m lv a (.wr w) s with
    | (.wait, s) => .wait s
    | (.done r, s) =>
      if r.st ≠ .ok then .got (0, r.st) s
      else match hostWrites m lv (a + 4) ws s with
        | .got x s => .got (x.1 + 1, x.2) s
        | .wait s => .wait s

/-- The identifier enters the function's history, R615. -/
def remember (f : Nat) (k : Compl) (s : State) : State :=
  if k.id = 0 ∨ k.replay then s
  else
    let x := s.hostFn f
    let e : HistEnt := ⟨k.id, k.st, k.jst, k.done⟩
    s.setHostFn f { x with hist := (e :: x.hist).take 4096 }

/-- A completion accepted: the indices, the history, the rotation and CEV. -/
def accepted (f : Nat) (k : Compl) (s : State) : State :=
  let s := (s.bump (R.FN_CQIDX f) F.FN_CQIDX_PROD).bump (R.FN_SQIDX f) F.FN_SQIDX_CONS
  let s := remember f k { s with host := { s.host with lastFn := f } }
  if k.cev then sendMsi f 0 s else s

/-- A command goes on when its next access can be made. -/
def keepCmd (r : HostRun) (s : State) : State :=
  { (s.setFld (R.FN_STAT r.f) F.FN_STAT_BUSY 1) with host := { s.host with run := some r } }

/-- No command is in progress any more. -/
def dropCmd (f : Nat) (s : State) : State :=
  { (s.setFld (R.FN_STAT f) F.FN_STAT_BUSY 0) with host := { s.host with run := none } }

/-- The address of the next completion of function f, R609. -/
def State.cqSlot (s : State) (f : Nat) : Nat :=
  s.fld (R.FN_CQBASE f) F.FN_CQBASE_BASE + 16 * (s.fld (R.FN_CQIDX f) F.FN_CQIDX_PROD % s.cqLen f)

/-- The completion of a command written, R613: until that write is accepted the command is in progress. -/
def finishCmd (r : HostRun) (k : Compl) (s : State) : State :=
  let r := { r with compl := some k }
  match hostWrites 34 (s.fnLevel r.f) (s.cqSlot r.f) (complWords r.f k s) s with
  | .wait s1 => keepCmd r (keepWaiting s s1)
  | .got (_, .ok) s => accepted r.f k (dropCmd r.f s)
  | .got _ s => keepCmd r s

/-! ### Commands, R612 -/

/-- How far the work of a command has come: its next access waits, or it is over with a status; with the words
written. -/
inductive Work where
  | wait (done : Nat) (s : State)
  | over (done : Nat) (st : Status) (s : State)

/-- Words copied one at a time in ascending order, `k` of them already. -/
def copyWords (lv : Level) (src dst : Nat) : Nat → Nat → State → Work
  | 0, k, s => .over k .ok s
  | n + 1, k, s => match bus 34 lv (src + 4 * k) .rd s with
    | (.wait, s1) => .wait k (keepWaiting s s1)
    | (.done r, s1) =>
      if r.st ≠ .ok then .over k r.st s1
      else match bus 34 lv (dst + 4 * k) (.wr r.w) s1 false r.ep with
        | (.wait, s2) => .wait k (keepWaiting s s2)
        | (.done q, s2) => if q.st ≠ .ok then .over k q.st s2 else copyWords lv src dst n (k + 1) s2

/-- Words filled in ascending order, `k` of them already. -/
def fillWords (lv : Level) (dst : Nat) (w : Word) : Nat → Nat → State → Work
  | 0, k, s => .over k .ok s
  | n + 1, k, s => match bus 34 lv (dst + 4 * k) (.wr w) s with
    | (.wait, s1) => .wait k (keepWaiting s s1)
    | (.done q, s1) => if q.st ≠ .ok then .over k q.st s1 else fillWords lv dst w n (k + 1) s1

/-- The status of a completion: OK or ACCESS. -/
def complOf (x : Cmd) (r : Nat × Status) : Compl :=
  { id := x.id
    st := if r.2 = .ok then 0 else 2
    jst := r.2.code
    done := r.1
    cev := x.cev }

/-- A command whose words or range break a rule. -/
def paramOf (x : Cmd) : Compl := { id := x.id, st := 1, cev := x.cev }

/-- The work of a COPY or a FILL done as far as it goes, and its completion. -/
def workOn (r : HostRun) (s : State) : State :=
  let x : Cmd := ⟨r.ws⟩
  let w := if r.op = 1 then copyWords (s.fnLevel r.f) x.src x.dst (x.len - r.done) r.done s
    else fillWords (s.fnLevel r.f) x.dst (x.c 6) (x.len - r.done) r.done s
  match w with
  | .wait k s => keepCmd { r with done := k } s
  | .over k st s => finishCmd { r with done := k } (complOf x (k, st)) s

/-- An attestation report fits in HBM or a chamber, R630. -/
def reportFits (a : Nat) : Bool :=
  (List.range 46).all fun i => match targetOf (a + 4 * i) with
    | .hbm _ => true
    | .cham _ => true
    | _ => false

/-- ATTEST: it waits while the security engine is busy, R613. -/
def cmdAttest (r : HostRun) (s : State) : State :=
  let x : Cmd := ⟨r.ws⟩
  if !reportFits x.dst then finishCmd r (paramOf x) s
  else if s.flag R.SEC_ATT F.SEC_ATT_BUSY then s
  else
    let s := (s.setFld R.SEC_ATT F.SEC_ATT_BUSY 1).setFld (R.FN_STAT r.f) F.FN_STAT_BUSY 1
    let a : Attest := ⟨.cmd r.f, BitVec.ofNat 42 x.dst, (x.c 6).pay, (x.c 7).pay, x.id, x.cev⟩
    { s with sec := { s.sec with att := some a } }

/-- A command by its OP. -/
def cmdRun (r : HostRun) (s : State) : State :=
  let x : Cmd := ⟨r.ws⟩
  if !x.good then finishCmd r (paramOf x) s
  else match r.op with
    | 0 => finishCmd r (complOf x (0, .ok)) s
    | 1 => workOn r s
    | 2 => workOn r s
    | 3 => cmdAttest r s
    | _ => finishCmd r (paramOf x) s

/-- A stored completion returned, R615. -/
def replayOf (x : Cmd) (e : HistEnt) : Compl :=
  { id := x.id
    st := e.st
    jst := e.jst
    done := e.done
    replay := true
    cev := x.cev }

/-- The entry of the function's history with a command's identifier. -/
def State.histFind (s : State) (f : Nat) (x : Cmd) : Option HistEnt :=
  if x.id = 0 then none else (s.hostFn f).hist.find? (·.id == x.id)

/-- A command read from the ring performed and completed. -/
def serveRead (r : HostRun) (s : State) : State :=
  let x : Cmd := ⟨r.ws⟩
  match s.histFind r.f x with
  | some e => finishCmd r (replayOf x e) s
  | none => cmdRun r s

/-- A command in progress goes on. -/
def runOn (r : HostRun) (s : State) : State :=
  match r.compl with
  | some k => finishCmd r k s
  | none => workOn r s

/-- The command of function f at CONS served, if the processor serves that function next and the command's OP is one
of the row's; a command in progress goes on. -/
def serve (f : Nat) (mine : Nat → Bool) (s : State) : State :=
  match s.host.run with
  | some r => if r.f = f ∧ mine r.op then runOn r s else s
  | none =>
    if s.nextFn ≠ some f ∨ s.cmdRuns ∨ ¬ s.cqSpace f then s
    else
      let slot := s.fld (R.FN_SQIDX f) F.FN_SQIDX_CONS % s.sqLen f
      let a := s.fld (R.FN_SQBASE f) F.FN_SQBASE_BASE + 32 * slot
      match hostReads (s.fnLevel f) a 8 s with
      | .wait s1 => keepWaiting s s1
      | .got (.error st) s1 => finishCmd { f := f, op := 0 } { st := 2, jst := st.code } s1
      | .got (.ok ws) s1 =>
        let op := Cmd.op ⟨ws⟩
        if mine op then serveRead { f := f, op := op, ws := ws } s1 else s

/-- R612. -/
def execCommandNop (f : Fin 16) (s : State) : Res := ok (serve f (· == 0) s)
/-- R612. (DESIGN CHOICE, log entry 12.) -/
def execCommandCopy (f : Fin 16) (s : State) : Res := ok (serve f (· == 1) s)
/-- R612. -/
def execCommandFill (f : Fin 16) (s : State) : Res := ok (serve f (· == 2) s)
/-- R612 and R630. -/
def execCommandAttest (f : Fin 16) (s : State) : Res := ok (serve f (· == 3) s)
/-- R612. -/
def execCommandReserved (f : Fin 16) (s : State) : Res := ok (serve f (decide <| 4 ≤ ·) s)

/-! ### The attestation report, R630 and R631 -/

/-- A25. -/
def attestStatus (s : State) : Nat :=
  b2n s.mlock + 2 * b2n s.debugOpen + 4 * b2n s.fuses.dbgDis + 8 * s.fld R.SEC_DBG F.SEC_DBG_EN
    + s.fld R.SEC_SVN F.SEC_SVN_SVN * 2 ^ 4 + s.fld R.SEC_SVN F.SEC_SVN_SVNMIN * 2 ^ 11 + s.sec.kslot * 2 ^ 18
    + s.fld R.SEC_BOOT F.SEC_BOOT_SRC * 2 ^ 20
    + ((List.range 16).map fun g => b2n (s.gal g).quar * 2 ^ g).sum * 2 ^ 22

/-- A0 to A26. -/
def attestBody (a : Attest) (s : State) : List Word :=
  let step := s.fld R.ID1 F.ID1_STEPD + s.fld R.ID1 F.ID1_STEPL * 16
  [Word.int (BitVec.ofNat 48 (1 + step * 256)), Word.raw a.n0, Word.raw a.n1]
    ++ ((List.range 11).map fun j => Word.raw (s.reg (R.SEC_IDIG j)))
    ++ ((List.range 11).map fun j => Word.raw (s.reg (R.UC_PDIG j)))
    ++ [Word.int (BitVec.ofNat 48 (attestStatus s)), Word.int s.tickP]

/-- The ASCII bytes "IAZ4806-ATT". -/
def attContext : List (BitVec 8) := [0x49, 0x41, 0x5A, 0x34, 0x38, 0x30, 0x36, 0x2D, 0x41, 0x54, 0x54]

/-- Bytes laid out 6 to a RAW word, under R599. -/
def rawWords (n : Nat) (bs : List (BitVec 8)) : List Word :=
  (List.range n).map fun j => Word.raw (BitVec.ofNat 48 (numOf ((bs.drop (6 * j)).take 6)))

/-- The key that signs: a device whose self-test failed derived none, R627, and what it signs with is free.
(DESIGN CHOICE, log entry 71.) -/
def signKey (s : State) : List (BitVec 8) × State :=
  if s.fld R.SEC_BOOT F.SEC_BOOT_CODE = 11 then
    let r := s.freeNat
    (bytesOf r.1 57, r.2)
  else (s.idKey, s)

/-- The 46 words of a report. -/
def reportWords (a : Attest) (s : State) : List Word × State :=
  let body := attestBody a s
  let k := signKey s
  (body ++ rawWords 19 (ed448Sign k.1 attContext (body.flatMap barBytes)), k.2)

/-- The report written: how many words were accepted, and the status that ended them. -/
def writeReport (a : Attest) (s : State) : Got (Nat × Status) :=
  if reportFits a.dst.toNat then
    let r := reportWords a s
    hostWrites 35 .m a.dst.toNat r.1 r.2
  else .got (0, .jerr) s

/-- An attestation ended: the engine is free. -/
def attestFree (s : State) : State := { (s.setFld R.SEC_ATT F.SEC_ATT_BUSY 0) with sec := { s.sec with att := none } }

/-- The running attestation ends, R630. -/
def attestEnd (a : Attest) (r : Nat × Status) (s : State) : State :=
  match a.who with
  | .reg =>
    let s := attestFree s
    if r.2 = .ok then raise 752 (s.setFld R.SEC_ATT F.SEC_ATT_DONE 1) else s.setFld R.SEC_ATT F.SEC_ATT_ERR 1
  | .cmd f =>
    let k : Compl := { id := a.id, st := if r.2 = .ok then 0 else 2, jst := r.2.code, done := r.1, cev := a.cev }
    finishCmd { f := f, op := 3 } k ((attestFree s).setFld (R.FN_STAT f) F.FN_STAT_BUSY 0)

/-- R630 and R631. -/
def execAttestDone (s : State) : Res :=
  ok (match s.sec.att with
    | none => s
    | some a => match writeReport a s with
      | .wait s1 => keepWaiting s s1
      | .got r s1 => attestEnd a r s1)

end Sys2Proof.Machine
end

