-- ==== Sys2Proof/Machine/Flags.lean ====
section
/-! DEFINITION. FPCFG of a Lantern core: its modes, its sticky flags (02 R72–R76), and the operands that lengthen a
binary32 result's distance (11 R430). -/

namespace Sys2Proof.Machine

/-- FPCFG.FTZ. -/
def Core.ftz (c : Core) : Bool := bit (c.srN 19) 0
/-- The binary32 mode of FPCFG, R72 and R73. -/
def Core.fmode (c : Core) : FMode := ⟨FRound.decode (bits (c.srN 19) 1 2), c.ftz⟩
/-- FPCFG.XRM, R74. -/
def Core.xrm (c : Core) : Nat := bits (c.srN 19) 3 2
/-- FPCFG.FRM. -/
def Core.frm (c : Core) : Nat := bits (c.srN 19) 1 2

/-- An exact product is tiny, R86. -/
def tinyMul (md : FMode) (a b : FVal) : Bool :=
  match a, b with
  | .fin s m e, .fin t n f => fpTiny md (s != t) (m * n) (e + f) false
  | _, _ => false

/-- An exact quotient is tiny. -/
def tinyDiv (md : FMode) (a b : FVal) : Bool :=
  match a, b with
  | .fin s m e, .fin t n f => fpTiny md (s != t) (m * 2 ^ 64 / n) (e - f - 64) (m * 2 ^ 64 % n != 0)
  | _, _ => false

/-- An exact a × b + c is tiny. -/
def tinyFma (md : FMode) (a b c : FVal) : Bool :=
  match a, b, c with
  | .fin s m e, .fin t n f, .fin u k g =>
    let r := fpSum (s != t) (m * n) (e + f) u k g
    r.1 != 0 && fpTiny md (decide (r.1 < 0)) r.1.natAbs r.2 false
  | .fin s m e, .fin t n f, .zero _ => fpTiny md (s != t) (m * n) (e + f) false
  | .zero _, _, .fin s m e => fpTiny md s m e false
  | _, .zero _, .fin s m e => fpTiny md s m e false
  | _, _, _ => false

/-- The cycles that R430 adds to a distance: two when FTZ is 0 and an operand is subnormal or the result tiny. -/
def slowBy (md : FMode) (xs : List Nat) (tiny : Bool) : Nat :=
  if !md.ftz && (xs.any fpSubnormal || tiny) then 2 else 0

end Sys2Proof.Machine
end

