-- ==== Sys2Proof/Machine/LanternCode.lean ====
section
/-! DEFINITION. The encoding of Lantern instructions (10 R387–R392): the decoder that instruction fetch uses, and an
encoder from the same tables. -/

namespace Sys2Proof.Machine

/-- A w-bit field. -/
def fBits (x lo : Nat) (w : Nat) : BitVec w := BitVec.ofNat w (bits x lo w)
/-- A register field. -/
def fReg (x lo : Nat) : RegNo := fBits x lo 5
/-- A gallery field. -/
def fGal (x lo : Nat) : Fin 16 := Fin.ofNat 16 (bits x lo 4)
/-- An instruction whose zero fields are zero. -/
def whenB (b : Bool) (i : Instr) : Option Instr := if b then some i else none

/-- The 24-bit instruction that a field holds, R389 to R391; none is illegal; `next48`
says that the instruction after it takes 48 bits. (DEDUCED, log entry 46.) -/
def decode24 (n : Fin 16) (next48 : Bool) (x : Nat) : Option Instr :=
  match bits x 1 8 with
  | 0x00 => whenB (bits x 9 15 == 0) (.nop n)
  | 0x01 => whenB (bits x 19 5 == 0) (.mov n (fReg x 9) (fReg x 14))
  | 0x02 => some (.add n (fReg x 9) (fReg x 14) (fReg x 19))
  | 0x03 => some (.sub n (fReg x 9) (fReg x 14) (fReg x 19))
  | 0x04 => some (.and n (fReg x 9) (fReg x 14) (fReg x 19))
  | 0x05 => some (.or n (fReg x 9) (fReg x 14) (fReg x 19))
  | 0x06 => some (.xor n (fReg x 9) (fReg x 14) (fReg x 19))
  | 0x07 => some (.shl n (fReg x 9) (fReg x 14) (fReg x 19))
  | 0x08 => some (.shr n (fReg x 9) (fReg x 14) (fReg x 19))
  | 0x09 => some (.sra n (fReg x 9) (fReg x 14) (fReg x 19))
  | 0x0A => some (.mul n (fReg x 9) (fReg x 14) (fReg x 19))
  | 0x0B => some (.cmpeq n (fReg x 9) (fReg x 14) (fReg x 19))
  | 0x0C => some (.cmplt n (fReg x 9) (fReg x 14) (fReg x 19))
  | 0x0D => some (.cmpltu n (fReg x 9) (fReg x 14) (fReg x 19))
  | 0x0E => whenB (bits x 19 5 == 0) (.tagget n (fReg x 9) (fReg x 14))
  | 0x10 => some (.addi n (.short (fReg x 9) (fBits x 14 10)))
  | 0x11 => some (.lis n (fReg x 9) (fBits x 14 10))
  | 0x12 => some (.lw n (.short (fReg x 9) (fReg x 14) (fBits x 19 5)))
  | 0x13 => some (.sw n (.short (fReg x 9) (fReg x 14) (fBits x 19 5)))
  | 0x15 => whenB (bits x 9 5 == 0 && bits x 19 5 == 0) (.dclean n (fReg x 14))
  | 0x16 => whenB (bits x 9 5 == 0 && bits x 19 5 == 0) (.dinv n (fReg x 14))
  | 0x17 => whenB (bits x 9 5 == 0 && bits x 19 5 == 0) (.dclinv n (fReg x 14))
  | 0x20 => some (.b n (fBits x 9 15))
  | 0x21 => some (.jal n (.short (fBits x 9 15)) (next48))
  | 0x22 => some (.bz n (fReg x 9) (fBits x 14 10))
  | 0x23 => some (.bzA n (fReg x 9) (fBits x 14 10))
  | 0x24 => some (.bnz n (fReg x 9) (fBits x 14 10))
  | 0x25 => some (.bnzA n (fReg x 9) (fBits x 14 10))
  | 0x26 => some (.bltz n (fReg x 9) (fBits x 14 10))
  | 0x27 => some (.bltzA n (fReg x 9) (fBits x 14 10))
  | 0x28 => some (.bgez n (fReg x 9) (fBits x 14 10))
  | 0x29 => some (.bgezA n (fReg x 9) (fBits x 14 10))
  | 0x2A => whenB (bits x 14 10 == 0) (.jr n (fReg x 9))
  | 0x2B => whenB (bits x 14 10 == 0) (.jalr n (fReg x 9) (next48))
  | 0x30 => whenB (bits x 9 15 == 0) (.ret n)
  | 0x31 => whenB (bits x 14 10 == 0) (.scall n (fBits x 9 3))
  | 0x32 => whenB (bits x 9 15 == 0) (.sret n)
  | 0x33 => whenB (bits x 9 15 == 0) (.eret n)
  | 0x34 => whenB (bits x 9 15 == 0) (.ibar n)
  | 0x35 => whenB (bits x 9 15 == 0) (.mbar n)
  | 0x36 => whenB (bits x 9 15 == 0) (.pflush n)
  | 0x37 => whenB (bits x 14 10 == 0) (.pbar n (fReg x 9))
  | 0x38 => whenB (bits x 9 15 == 0) (.wait n)
  | 0x39 => whenB (bits x 9 15 == 0) (.lpop n)
  | 0x3A => whenB (bits x 20 4 == 0) (.mfsr n (fReg x 9) (fBits x 14 6))
  | 0x3B => whenB (bits x 20 4 == 0) (.mtsr n (fReg x 9) (fBits x 14 6))
  | 0x3C => some (.dadd n (fReg x 9) (fReg x 14) (fReg x 19))
  | 0x3D => some (.dsub n (fReg x 9) (fReg x 14) (fReg x 19))
  | 0x3E => some (.bcmp n (fReg x 9) (fReg x 14) (fReg x 19))
  | 0x3F => some (.badd n (fReg x 9) (fReg x 14) (fReg x 19))
  | 0x40 => some (.fadd n (fReg x 9) (fReg x 14) (fReg x 19))
  | 0x41 => some (.fsub n (fReg x 9) (fReg x 14) (fReg x 19))
  | 0x42 => some (.fmul n (fReg x 9) (fReg x 14) (fReg x 19))
  | 0x43 => some (.fdiv n (fReg x 9) (fReg x 14) (fReg x 19))
  | 0x44 => some (.fsqrt n (fReg x 9) (fReg x 14))
  | 0x45 => some (.fmin n (fReg x 9) (fReg x 14) (fReg x 19))
  | 0x46 => some (.fmax n (fReg x 9) (fReg x 14) (fReg x 19))
  | 0x47 => some (.fabs n (fReg x 9) (fReg x 14))
  | 0x48 => some (.fneg n (fReg x 9) (fReg x 14))
  | 0x49 => some (.fcmpeq n (fReg x 9) (fReg x 14) (fReg x 19))
  | 0x4A => some (.fcmplt n (fReg x 9) (fReg x 14) (fReg x 19))
  | 0x4B => some (.fcmple n (fReg x 9) (fReg x 14) (fReg x 19))
  | 0x4C => some (.fcvtwi n (fReg x 9) (fReg x 14))
  | 0x4D => some (.fcvtiw n (fReg x 9) (fReg x 14))
  | 0x4E => some (.fmvwf n (fReg x 9) (fReg x 14))
  | 0x4F => some (.fmvfw n (fReg x 9) (fReg x 14))
  | _ => none

/-- The 48-bit instruction that a word holds, R389, R390 and R392; none is illegal; `next48`
says that the instruction after it takes 48 bits. -/
def decode48 (n : Fin 16) (next48 : Bool) (x : Nat) : Option Instr :=
  match bits x 1 8 with
  | 0x01 => some (.li n (fReg x 9) (fBits x 14 34))
  | 0x02 => some (.lea n (fReg x 9) (fBits x 14 34))
  | 0x03 => whenB (bits x 19 5 == 0) (.lih n (fReg x 9) (fReg x 14) (fBits x 24 24))
  | 0x04 => whenB (bits x 19 5 == 0) (.addi n (.long (fReg x 9) (fReg x 14) (fBits x 24 24)))
  | 0x05 => whenB (bits x 19 5 == 0) (.andi n (fReg x 9) (fReg x 14) (fBits x 24 24))
  | 0x06 => whenB (bits x 19 5 == 0) (.ori n (fReg x 9) (fReg x 14) (fBits x 24 24))
  | 0x07 => whenB (bits x 19 5 == 0) (.xori n (fReg x 9) (fReg x 14) (fBits x 24 24))
  | 0x08 => whenB (bits x 19 5 == 0 && bits x 30 18 == 0) (.shli n (fReg x 9) (fReg x 14) (fBits x 24 6))
  | 0x09 => whenB (bits x 19 5 == 0 && bits x 30 18 == 0) (.shri n (fReg x 9) (fReg x 14) (fBits x 24 6))
  | 0x0A => whenB (bits x 19 5 == 0 && bits x 30 18 == 0) (.srai n (fReg x 9) (fReg x 14) (fBits x 24 6))
  | 0x0B => whenB (bits x 24 24 == 0) (.mulh n (fReg x 9) (fReg x 14) (fReg x 19))
  | 0x0C => whenB (bits x 24 24 == 0) (.mulhu n (fReg x 9) (fReg x 14) (fReg x 19))
  | 0x0D => whenB (bits x 24 24 == 0) (.div n (fReg x 9) (fReg x 14) (fReg x 19))
  | 0x0E => whenB (bits x 24 24 == 0) (.divu n (fReg x 9) (fReg x 14) (fReg x 19))
  | 0x0F => whenB (bits x 24 24 == 0) (.rem n (fReg x 9) (fReg x 14) (fReg x 19))
  | 0x10 => whenB (bits x 24 24 == 0) (.remu n (fReg x 9) (fReg x 14) (fReg x 19))
  | 0x11 => whenB (bits x 19 5 == 0 && bits x 28 20 == 0) (.tagset n (fReg x 9) (fReg x 14) (fBits x 24 4))
  | 0x12 => whenB (bits x 29 19 == 0) (.sel n (fReg x 9) (fReg x 14) (fReg x 19) (fReg x 24))
  | 0x20 => whenB (bits x 19 5 == 0) (.lw n (.long (fReg x 9) (fReg x 14) (fBits x 24 24)))
  | 0x21 => whenB (bits x 19 5 == 0) (.sw n (.long (fReg x 9) (fReg x 14) (fBits x 24 24)))
  | 0x22 => whenB (bits x 19 5 == 0) (.lsu n (fReg x 9) (fReg x 14) (fBits x 24 24))
  | 0x23 => whenB (bits x 19 5 == 0) (.lss n (fReg x 9) (fReg x 14) (fBits x 24 24))
  | 0x24 => whenB (bits x 19 5 == 0) (.ss n (fReg x 9) (fReg x 14) (fBits x 24 24))
  | 0x25 => whenB (bits x 24 24 == 0) (.lwx n (fReg x 9) (fReg x 14) (fReg x 19))
  | 0x26 => whenB (bits x 24 24 == 0) (.swx n (fReg x 9) (fReg x 14) (fReg x 19))
  | 0x27 => whenB (bits x 19 5 == 0) (.vld n (fReg x 9) (fReg x 14) (fBits x 24 24))
  | 0x28 => whenB (bits x 19 5 == 0) (.vst n (fReg x 9) (fReg x 14) (fBits x 24 24))
  | 0x29 => whenB (bits x 29 19 == 0) (.amoadd n (fReg x 9) (fReg x 14) (fReg x 19))
  | 0x2A => whenB (bits x 29 19 == 0) (.amoswp n (fReg x 9) (fReg x 14) (fReg x 19))
  | 0x2B => whenB (bits x 29 19 == 0) (.amocas n (fReg x 9) (fReg x 14) (fReg x 19) (fReg x 24))
  | 0x2C => whenB (bits x 33 15 == 0) (.lwb n (fReg x 9) (fBits x 14 3) (fBits x 17 16))
  | 0x2D => whenB (bits x 33 15 == 0) (.swb n (fReg x 9) (fBits x 14 3) (fBits x 17 16))
  | 0x2E => whenB (bits x 33 15 == 0) (.lsub n (fReg x 9) (fBits x 14 3) (fBits x 17 16))
  | 0x2F => whenB (bits x 33 15 == 0) (.ssb n (fReg x 9) (fBits x 14 3) (fBits x 17 16))
  | 0x30 => whenB (bits x 29 19 == 0) (.mtb n (fBits x 9 3) (fReg x 14))
  | 0x31 => whenB (bits x 29 19 == 0) (.mfb n (fReg x 9) (fBits x 14 3))
  | 0x38 => some (.beq n (fReg x 9) (fReg x 14) (fBits x 19 29))
  | 0x39 => some (.beqA n (fReg x 9) (fReg x 14) (fBits x 19 29))
  | 0x3A => some (.bne n (fReg x 9) (fReg x 14) (fBits x 19 29))
  | 0x3B => some (.bneA n (fReg x 9) (fReg x 14) (fBits x 19 29))
  | 0x3C => some (.blt n (fReg x 9) (fReg x 14) (fBits x 19 29))
  | 0x3D => some (.bltA n (fReg x 9) (fReg x 14) (fBits x 19 29))
  | 0x3E => some (.bge n (fReg x 9) (fReg x 14) (fBits x 19 29))
  | 0x3F => some (.bgeA n (fReg x 9) (fReg x 14) (fBits x 19 29))
  | 0x40 => some (.bltu n (fReg x 9) (fReg x 14) (fBits x 19 29))
  | 0x41 => some (.bltuA n (fReg x 9) (fReg x 14) (fBits x 19 29))
  | 0x42 => some (.bgeu n (fReg x 9) (fReg x 14) (fBits x 19 29))
  | 0x43 => some (.bgeuA n (fReg x 9) (fReg x 14) (fBits x 19 29))
  | 0x44 => whenB (bits x 9 10 == 0) (.j n (fBits x 19 29))
  | 0x45 => whenB (bits x 9 10 == 0) (.jal n (.long (fBits x 19 29)) (next48))
  | 0x46 => some (.call n (fBits x 9 16) (fBits x 25 23))
  | 0x47 => whenB (bits x 30 18 == 0) (.callr n (fReg x 9) (fBits x 14 16))
  | 0x48 => whenB (bits x 14 16 == 0) (.loop n (fReg x 9) (fBits x 30 18))
  | 0x49 => some (.loopi n (fBits x 14 16) (fBits x 30 18))
  | 0x50 => whenB (!bit x 23 && bits x 24 24 == 0) (.giss n (fReg x 9) (fReg x 14) (fGal x 19))
  | 0x51 => whenB (bits x 29 19 == 0) (.gissr n (fReg x 9) (fReg x 14) (fReg x 19))
  | 0x52 => whenB (bits x 29 19 == 0) (.gresume n (fReg x 9) (fGal x 19) (fReg x 24))
  | 0x53 => whenB (!bit x 13 && bits x 29 19 == 0) (.gtlbw n (fGal x 9) (fReg x 14) (fReg x 19) (fReg x 24))
  | 0x54 => whenB (bits x 29 19 == 0) (.gtlbi n (fGal x 9) (fReg x 14))
  | 0x55 => whenB (bits x 14 5 == 0 && bits x 29 19 == 0) (.gtlbia n (fGal x 9))
  | 0x58 => whenB (bits x 29 19 == 0) (.tlbw n (fReg x 9) (fReg x 14) (fReg x 19) (fReg x 24))
  | 0x59 => whenB (bits x 29 19 == 0) (.tlbi n (fReg x 14))
  | 0x5A => whenB (bits x 29 19 == 0) (.tlbia n)
  | 0x60 => whenB (bits x 29 19 == 0) (.fma n (fReg x 9) (fReg x 14) (fReg x 19) (fReg x 24))
  | 0x61 => whenB (bits x 24 5 == 0 && bits x 40 8 == 0) (.vop n (fReg x 9) (fReg x 14) (fReg x 19) (fBits x 29 6) (fBits x 35 3) (bit x 38) (bit x 39))
  | 0x62 => whenB (bits x 29 19 == 0) (.vbcast n (fReg x 9) (fReg x 14))
  | 0x63 => whenB (bits x 19 4 == 0 && bits x 25 23 == 0) (.vext n (fReg x 9) (fReg x 14) (fBits x 23 2))
  | 0x64 => whenB (bits x 19 4 == 0 && bits x 25 23 == 0) (.vins n (fReg x 9) (fReg x 14) (fBits x 23 2))
  | 0x65 => whenB (bits x 29 19 == 0) (.vmov n (fReg x 9) (fReg x 14))
  | 0x66 => whenB (bits x 29 19 == 0) (.vfma n (fReg x 9) (fReg x 14) (fReg x 19))
  | _ => none

/-- The encoding of a Lantern instruction: whether it takes 48 bits, and its bits with zeros in the fields that its
format leaves free; none for every other command. -/
def encodeLantern (i : Instr) : Option (Bool × Nat) :=
  match i with
  | .nop _ => some (false, 0)
  | .mov _ d a => some (false, 2 + 512 * d.toNat + 16384 * a.toNat)
  | .add _ d a b => some (false, 4 + 512 * d.toNat + 16384 * a.toNat + 524288 * b.toNat)
  | .sub _ d a b => some (false, 6 + 512 * d.toNat + 16384 * a.toNat + 524288 * b.toNat)
  | .and _ d a b => some (false, 8 + 512 * d.toNat + 16384 * a.toNat + 524288 * b.toNat)
  | .or _ d a b => some (false, 10 + 512 * d.toNat + 16384 * a.toNat + 524288 * b.toNat)
  | .xor _ d a b => some (false, 12 + 512 * d.toNat + 16384 * a.toNat + 524288 * b.toNat)
  | .shl _ d a b => some (false, 14 + 512 * d.toNat + 16384 * a.toNat + 524288 * b.toNat)
  | .shr _ d a b => some (false, 16 + 512 * d.toNat + 16384 * a.toNat + 524288 * b.toNat)
  | .sra _ d a b => some (false, 18 + 512 * d.toNat + 16384 * a.toNat + 524288 * b.toNat)
  | .mul _ d a b => some (false, 20 + 512 * d.toNat + 16384 * a.toNat + 524288 * b.toNat)
  | .cmpeq _ d a b => some (false, 22 + 512 * d.toNat + 16384 * a.toNat + 524288 * b.toNat)
  | .cmplt _ d a b => some (false, 24 + 512 * d.toNat + 16384 * a.toNat + 524288 * b.toNat)
  | .cmpltu _ d a b => some (false, 26 + 512 * d.toNat + 16384 * a.toNat + 524288 * b.toNat)
  | .tagget _ d a => some (false, 28 + 512 * d.toNat + 16384 * a.toNat)
  | .addi _ (.short d imm) => some (false, 32 + 512 * d.toNat + 16384 * imm.toNat)
  | .lis _ d imm => some (false, 34 + 512 * d.toNat + 16384 * imm.toNat)
  | .lw _ (.short d a disp) => some (false, 36 + 512 * d.toNat + 16384 * a.toNat + 524288 * disp.toNat)
  | .sw _ (.short d a disp) => some (false, 38 + 512 * d.toNat + 16384 * a.toNat + 524288 * disp.toNat)
  | .dclean _ a => some (false, 42 + 16384 * a.toNat)
  | .dinv _ a => some (false, 44 + 16384 * a.toNat)
  | .dclinv _ a => some (false, 46 + 16384 * a.toNat)
  | .b _ disp => some (false, 64 + 512 * disp.toNat)
  | .jal _ (.short disp) _ => some (false, 66 + 512 * disp.toNat)
  | .bz _ a disp => some (false, 68 + 512 * a.toNat + 16384 * disp.toNat)
  | .bzA _ a disp => some (false, 70 + 512 * a.toNat + 16384 * disp.toNat)
  | .bnz _ a disp => some (false, 72 + 512 * a.toNat + 16384 * disp.toNat)
  | .bnzA _ a disp => some (false, 74 + 512 * a.toNat + 16384 * disp.toNat)
  | .bltz _ a disp => some (false, 76 + 512 * a.toNat + 16384 * disp.toNat)
  | .bltzA _ a disp => some (false, 78 + 512 * a.toNat + 16384 * disp.toNat)
  | .bgez _ a disp => some (false, 80 + 512 * a.toNat + 16384 * disp.toNat)
  | .bgezA _ a disp => some (false, 82 + 512 * a.toNat + 16384 * disp.toNat)
  | .jr _ a => some (false, 84 + 512 * a.toNat)
  | .jalr _ a _ => some (false, 86 + 512 * a.toNat)
  | .ret _ => some (false, 96)
  | .scall _ k => some (false, 98 + 512 * k.toNat)
  | .sret _ => some (false, 100)
  | .eret _ => some (false, 102)
  | .ibar _ => some (false, 104)
  | .mbar _ => some (false, 106)
  | .pflush _ => some (false, 108)
  | .pbar _ k => some (false, 110 + 512 * k.toNat)
  | .wait _ => some (false, 112)
  | .lpop _ => some (false, 114)
  | .mfsr _ d sr => some (false, 116 + 512 * d.toNat + 16384 * sr.toNat)
  | .mtsr _ d sr => some (false, 118 + 512 * d.toNat + 16384 * sr.toNat)
  | .dadd _ d a b => some (false, 120 + 512 * d.toNat + 16384 * a.toNat + 524288 * b.toNat)
  | .dsub _ d a b => some (false, 122 + 512 * d.toNat + 16384 * a.toNat + 524288 * b.toNat)
  | .bcmp _ d a b => some (false, 124 + 512 * d.toNat + 16384 * a.toNat + 524288 * b.toNat)
  | .badd _ d a b => some (false, 126 + 512 * d.toNat + 16384 * a.toNat + 524288 * b.toNat)
  | .fadd _ d a b => some (false, 128 + 512 * d.toNat + 16384 * a.toNat + 524288 * b.toNat)
  | .fsub _ d a b => some (false, 130 + 512 * d.toNat + 16384 * a.toNat + 524288 * b.toNat)
  | .fmul _ d a b => some (false, 132 + 512 * d.toNat + 16384 * a.toNat + 524288 * b.toNat)
  | .fdiv _ d a b => some (false, 134 + 512 * d.toNat + 16384 * a.toNat + 524288 * b.toNat)
  | .fsqrt _ d a => some (false, 136 + 512 * d.toNat + 16384 * a.toNat)
  | .fmin _ d a b => some (false, 138 + 512 * d.toNat + 16384 * a.toNat + 524288 * b.toNat)
  | .fmax _ d a b => some (false, 140 + 512 * d.toNat + 16384 * a.toNat + 524288 * b.toNat)
  | .fabs _ d a => some (false, 142 + 512 * d.toNat + 16384 * a.toNat)
  | .fneg _ d a => some (false, 144 + 512 * d.toNat + 16384 * a.toNat)
  | .fcmpeq _ d a b => some (false, 146 + 512 * d.toNat + 16384 * a.toNat + 524288 * b.toNat)
  | .fcmplt _ d a b => some (false, 148 + 512 * d.toNat + 16384 * a.toNat + 524288 * b.toNat)
  | .fcmple _ d a b => some (false, 150 + 512 * d.toNat + 16384 * a.toNat + 524288 * b.toNat)
  | .fcvtwi _ d a => some (false, 152 + 512 * d.toNat + 16384 * a.toNat)
  | .fcvtiw _ d a => some (false, 154 + 512 * d.toNat + 16384 * a.toNat)
  | .fmvwf _ d a => some (false, 156 + 512 * d.toNat + 16384 * a.toNat)
  | .fmvfw _ d a => some (false, 158 + 512 * d.toNat + 16384 * a.toNat)
  | .li _ d imm => some (true, 3 + 512 * d.toNat + 16384 * imm.toNat)
  | .lea _ d imm => some (true, 5 + 512 * d.toNat + 16384 * imm.toNat)
  | .lih _ d a imm => some (true, 7 + 512 * d.toNat + 16384 * a.toNat + 16777216 * imm.toNat)
  | .addi _ (.long d a imm) => some (true, 9 + 512 * d.toNat + 16384 * a.toNat + 16777216 * imm.toNat)
  | .andi _ d a imm => some (true, 11 + 512 * d.toNat + 16384 * a.toNat + 16777216 * imm.toNat)
  | .ori _ d a imm => some (true, 13 + 512 * d.toNat + 16384 * a.toNat + 16777216 * imm.toNat)
  | .xori _ d a imm => some (true, 15 + 512 * d.toNat + 16384 * a.toNat + 16777216 * imm.toNat)
  | .shli _ d a k => some (true, 17 + 512 * d.toNat + 16384 * a.toNat + 16777216 * k.toNat)
  | .shri _ d a k => some (true, 19 + 512 * d.toNat + 16384 * a.toNat + 16777216 * k.toNat)
  | .srai _ d a k => some (true, 21 + 512 * d.toNat + 16384 * a.toNat + 16777216 * k.toNat)
  | .mulh _ d a b => some (true, 23 + 512 * d.toNat + 16384 * a.toNat + 524288 * b.toNat)
  | .mulhu _ d a b => some (true, 25 + 512 * d.toNat + 16384 * a.toNat + 524288 * b.toNat)
  | .div _ d a b => some (true, 27 + 512 * d.toNat + 16384 * a.toNat + 524288 * b.toNat)
  | .divu _ d a b => some (true, 29 + 512 * d.toNat + 16384 * a.toNat + 524288 * b.toNat)
  | .rem _ d a b => some (true, 31 + 512 * d.toNat + 16384 * a.toNat + 524288 * b.toNat)
  | .remu _ d a b => some (true, 33 + 512 * d.toNat + 16384 * a.toNat + 524288 * b.toNat)
  | .tagset _ d a t => some (true, 35 + 512 * d.toNat + 16384 * a.toNat + 16777216 * t.toNat)
  | .sel _ d a b c => some (true, 37 + 512 * d.toNat + 16384 * a.toNat + 524288 * b.toNat + 16777216 * c.toNat)
  | .lw _ (.long d a disp) => some (true, 65 + 512 * d.toNat + 16384 * a.toNat + 16777216 * disp.toNat)
  | .sw _ (.long d a disp) => some (true, 67 + 512 * d.toNat + 16384 * a.toNat + 16777216 * disp.toNat)
  | .lsu _ d a imm => some (true, 69 + 512 * d.toNat + 16384 * a.toNat + 16777216 * imm.toNat)
  | .lss _ d a imm => some (true, 71 + 512 * d.toNat + 16384 * a.toNat + 16777216 * imm.toNat)
  | .ss _ d a imm => some (true, 73 + 512 * d.toNat + 16384 * a.toNat + 16777216 * imm.toNat)
  | .lwx _ d a b => some (true, 75 + 512 * d.toNat + 16384 * a.toNat + 524288 * b.toNat)
  | .swx _ d a b => some (true, 77 + 512 * d.toNat + 16384 * a.toNat + 524288 * b.toNat)
  | .vld _ d a imm => some (true, 79 + 512 * d.toNat + 16384 * a.toNat + 16777216 * imm.toNat)
  | .vst _ d a imm => some (true, 81 + 512 * d.toNat + 16384 * a.toNat + 16777216 * imm.toNat)
  | .amoadd _ d a b => some (true, 83 + 512 * d.toNat + 16384 * a.toNat + 524288 * b.toNat)
  | .amoswp _ d a b => some (true, 85 + 512 * d.toNat + 16384 * a.toNat + 524288 * b.toNat)
  | .amocas _ d a b c => some (true, 87 + 512 * d.toNat + 16384 * a.toNat + 524288 * b.toNat + 16777216 * c.toNat)
  | .lwb _ d bk ad => some (true, 89 + 512 * d.toNat + 16384 * bk.toNat + 131072 * ad.toNat)
  | .swb _ d bk ad => some (true, 91 + 512 * d.toNat + 16384 * bk.toNat + 131072 * ad.toNat)
  | .lsub _ d bk ad => some (true, 93 + 512 * d.toNat + 16384 * bk.toNat + 131072 * ad.toNat)
  | .ssb _ d bk ad => some (true, 95 + 512 * d.toNat + 16384 * bk.toNat + 131072 * ad.toNat)
  | .mtb _ bk a => some (true, 97 + 512 * bk.toNat + 16384 * a.toNat)
  | .mfb _ d bk => some (true, 99 + 512 * d.toNat + 16384 * bk.toNat)
  | .beq _ a b disp => some (true, 113 + 512 * a.toNat + 16384 * b.toNat + 524288 * disp.toNat)
  | .beqA _ a b disp => some (true, 115 + 512 * a.toNat + 16384 * b.toNat + 524288 * disp.toNat)
  | .bne _ a b disp => some (true, 117 + 512 * a.toNat + 16384 * b.toNat + 524288 * disp.toNat)
  | .bneA _ a b disp => some (true, 119 + 512 * a.toNat + 16384 * b.toNat + 524288 * disp.toNat)
  | .blt _ a b disp => some (true, 121 + 512 * a.toNat + 16384 * b.toNat + 524288 * disp.toNat)
  | .bltA _ a b disp => some (true, 123 + 512 * a.toNat + 16384 * b.toNat + 524288 * disp.toNat)
  | .bge _ a b disp => some (true, 125 + 512 * a.toNat + 16384 * b.toNat + 524288 * disp.toNat)
  | .bgeA _ a b disp => some (true, 127 + 512 * a.toNat + 16384 * b.toNat + 524288 * disp.toNat)
  | .bltu _ a b disp => some (true, 129 + 512 * a.toNat + 16384 * b.toNat + 524288 * disp.toNat)
  | .bltuA _ a b disp => some (true, 131 + 512 * a.toNat + 16384 * b.toNat + 524288 * disp.toNat)
  | .bgeu _ a b disp => some (true, 133 + 512 * a.toNat + 16384 * b.toNat + 524288 * disp.toNat)
  | .bgeuA _ a b disp => some (true, 135 + 512 * a.toNat + 16384 * b.toNat + 524288 * disp.toNat)
  | .j _ disp => some (true, 137 + 524288 * disp.toNat)
  | .jal _ (.long disp) _ => some (true, 139 + 524288 * disp.toNat)
  | .call _ mask disp => some (true, 141 + 512 * mask.toNat + 33554432 * disp.toNat)
  | .callr _ a mask => some (true, 143 + 512 * a.toNat + 16384 * mask.toNat)
  | .loop _ a disp => some (true, 145 + 512 * a.toNat + 1073741824 * disp.toNat)
  | .loopi _ k disp => some (true, 147 + 16384 * k.toNat + 1073741824 * disp.toNat)
  | .giss _ d a g => some (true, 161 + 512 * d.toNat + 16384 * a.toNat + 524288 * g.val)
  | .gissr _ d a b => some (true, 163 + 512 * d.toNat + 16384 * a.toNat + 524288 * b.toNat)
  | .gresume _ d g sl => some (true, 165 + 512 * d.toNat + 524288 * g.val + 16777216 * sl.toNat)
  | .gtlbw _ g a b c => some (true, 167 + 512 * g.val + 16384 * a.toNat + 524288 * b.toNat + 16777216 * c.toNat)
  | .gtlbi _ g a => some (true, 169 + 512 * g.val + 16384 * a.toNat)
  | .gtlbia _ g => some (true, 171 + 512 * g.val)
  | .tlbw _ d a b c => some (true, 177 + 512 * d.toNat + 16384 * a.toNat + 524288 * b.toNat + 16777216 * c.toNat)
  | .tlbi _ a => some (true, 179 + 16384 * a.toNat)
  | .tlbia _ => some (true, 181)
  | .fma _ d a b c => some (true, 193 + 512 * d.toNat + 16384 * a.toNat + 524288 * b.toNat + 16777216 * c.toNat)
  | .vop _ d a b op et sat side => some (true, 195 + 512 * d.toNat + 16384 * a.toNat + 524288 * b.toNat + 536870912 * op.toNat + 34359738368 * et.toNat + 274877906944 * b2n sat + 549755813888 * b2n side)
  | .vbcast _ d a => some (true, 197 + 512 * d.toNat + 16384 * a.toNat)
  | .vext _ d a k => some (true, 199 + 512 * d.toNat + 16384 * a.toNat + 8388608 * k.toNat)
  | .vins _ d a k => some (true, 201 + 512 * d.toNat + 16384 * a.toNat + 8388608 * k.toNat)
  | .vmov _ d a => some (true, 203 + 512 * d.toNat + 16384 * a.toNat)
  | .vfma _ d a b => some (true, 205 + 512 * d.toNat + 16384 * a.toNat + 524288 * b.toNat)
  | _ => none

/-- The instruction at an address from its CODE word, with its size in samples, R387: `half` says that it is
instruction 1 of the word, `next48` that the instruction after it takes 48 bits. -/
def decodeAt (n : Fin 16) (next48 half : Bool) (w : Nat) : Option (Instr × Nat) :=
  if bit w 0 then (if half then none else (decode48 n next48 w).map fun i => (i, 4))
  else if half then (if bit w 24 then none else (decode24 n next48 (bits w 24 24)).map fun i => (i, 2))
  else (decode24 n next48 (bits w 0 24)).map fun i => (i, 2)

end Sys2Proof.Machine
end

