-- ==== Sys2Proof/Machine/LanternMem.lean ====
section
/-! DEFINITION. A Lantern core's accesses: niche memory, caches, the store buffer and the Junction
(08 R293–R302, 11 R423, 12 R484 and R485, 13 R504). -/

namespace Sys2Proof.Machine

/-- How an access reaches its word: the physical address and what the page's policy makes of it. -/
structure Path where
  a : Nat
  /-- In the core's own niche memory. -/
  niche : Bool
  /-- Through the caches. -/
  cached : Bool
  through : Bool
  se : Bool
  deriving DecidableEq, Repr

/-- The niche memory's range, R300. -/
def inNiche (a : Nat) : Bool := decide (0x303_0000_0000 ≤ a) && decide (a < 0x303_0004_0000)

/-- Targets that R293 caches. -/
def cacheable (a : Nat) : Bool :=
  match targetOf a with
  | .hbm _ => true
  | .rom => true
  | _ => false

/-- The caches serve core n: not in deterministic mode (R299), and not in a power-fail save. -/
def State.cachesOn (s : State) (n : Nat) : Bool := !(s.core n).det && s.pf.stage == .none

/-- The path of an access to a physical address under a page's cache policy and SE. -/
def pathOf (n a cp : Nat) (se : Bool) (s : State) : Path :=
  ⟨a, inNiche a, cacheable a && decide (cp < 2) && !se && s.cachesOn n, cp == 1, se⟩

/-- Frozen cycles counted. -/
def freezeBy (n k : Nat) (s : State) : State := s.bump (R.LANTERN_FRZCNT n) F.LANTERN_FRZCNT_FRZCNT k

/-- A frozen core: the number of frozen cycles is free, R423. (DESIGN CHOICE, log entry 13.) -/
def freeze (n : Nat) (s : State) : State :=
  let r := s.freeNat
  freezeBy n r.1 r.2

/-- The base of R452 at a target that is marked exact. -/
def Target.detBase (t : Target) (wr : Bool) : Option Nat :=
  match t with
  | .reg | .trav | .evc | .cairn => some (if wr then 8 else 10)
  | .sec => some (if wr then 10 else 12)
  | .rom => some (if wr then 8 else 24)
  | .nvs => some (if wr then 56 else 40)
  | .cham _ => some (if wr then 12 else 14)
  | _ => none

/-- The frozen cycles of a read or a write in deterministic mode, where R452 fixes them. -/
def State.detCycles (s : State) (n a : Nat) (op : JOp) : Option Nat :=
  let t := targetOf a
  if !(s.core n).det || s.junc.waiting.any fun r => (targetOf r.a).id == t.id && r.m != n then none
  else do
    let b ← match op with
      | .rd => t.detBase false
      | .wr _ => t.detBase true
      | _ => none
    let k ← s.legCycles n t
    return b + k

/-- The core frozen by an access of its own. -/
def freezeFor (n a : Nat) (op : JOp) (s : State) : State :=
  match s.detCycles n a op with
  | some k => freezeBy n k s
  | none => freeze n s

/-! ### Niche memory, R301 -/

/-- The index of a niche word in `State.niche`. -/
def nicheIx (n a : Nat) : Nat := n * 2 ^ 18 + a % 0x40000 / 4

/-- A niche word read: an uncorrectable one is reported, R57. No kind of R713 names a niche memory: the target's
detail value is free. -/
def nicheRead (n a : Nat) (s : State) : (Word × Bool) × State :=
  match decodeContainer (contAt s.niche (nicheIx n a)) with
  | .clean x => ((x, false), s)
  | .corrected x => ((x, false), s)
  | .uncorrectable =>
    let r := s.freeNat
    ((Word.uni0, true), logAtHub .memory 0x01 [⟨16, r.1⟩, dfAddr a, dfMaster n] (raise 132 r.2))

/-- A niche word written. -/
def nichePut (n a : Nat) (w : Word) (s : State) : State :=
  s.setNiche (contPut s.niche (nicheIx n a) (encodeWord w))

/-- An access to the core's own niche memory. -/
def nicheOp (n a : Nat) (op : JOp) (s : State) : Ans × State :=
  match op with
  | .wr w => ({ st := .ok }, nichePut n a w s)
  | .rd => let r := nicheRead n a s; ({ st := .ok, w := r.1.1, ep := r.1.2 }, r.2)
  | _ => match nicheRead n a s with
    | ((_, true), s) => ({ st := .uncor }, s)
    | ((x, false), s) =>
      let r := rmwOn a op x
      match r.1 with
      | some y => (r.2, nichePut n a y s)
      | none => (r.2, s)

/-! ### Cache lines, R294 to R297 -/

/-- The line of an address: its granule. -/
def lineOf (a : Nat) : Nat := a / 32
/-- The word of an address in its line. -/
def wordIn (a : Nat) : Nat := a / 4 % 8

/-- A cached line. -/
def lineAt (t : Tab (Option Line)) (g : Nat) : Option Line := tget (fun _ => none) t g
/-- A line put or dropped. -/
def linePut (t : Tab (Option Line)) (g : Nat) (l : Option Line) : Tab (Option Line) := tset (fun _ => none) t g l
/-- A line as it is filled. -/
def Line.filled (ws : List Word) : Line := ⟨ws, List.replicate 8 false⟩
/-- A word of a line. -/
def Line.word (l : Line) (i : Nat) : Word := l.words.getD i Word.uni0
/-- A word of a line replaced. -/
def Line.put (l : Line) (i : Nat) (w : Word) (dirty : Bool) : Line :=
  { l with words := l.words.set i w, dirty := if dirty then l.dirty.set i true else l.dirty }

/-- The cluster of a core. -/
def clusterOf (n : Nat) : Nat := n / 4

/-- The L2 line of a core's cluster. -/
def State.l2Line (s : State) (n a : Nat) : Option Line := lineAt (s.cluster (clusterOf n)).l2 (lineOf a)
/-- The L2 line replaced. -/
def putL2 (n a : Nat) (l : Option Line) (s : State) : State :=
  s.setCluster (clusterOf n) { s.cluster (clusterOf n) with l2 := linePut (s.cluster (clusterOf n)).l2 (lineOf a) l }
/-- The L1D line of a core. -/
def State.l1Line (s : State) (n a : Nat) : Option Line := lineAt (s.core n).l1d (lineOf a)
/-- The L1D line replaced. -/
def putL1 (n a : Nat) (l : Option Line) (s : State) : State :=
  s.setCore n { s.core n with l1d := linePut (s.core n).l1d (lineOf a) l }
/-- The L1I line replaced. -/
def putL1i (n a : Nat) (l : Option Line) (s : State) : State :=
  s.setCore n { s.core n with l1i := linePut (s.core n).l1i (lineOf a) l }

/-- The line dropped from the L1D of a cluster's cores, but for core `but`, R295. -/
def dropL1s (n a : Nat) (but : Option Nat) (s : State) : State :=
  (List.range 4).foldl (fun s i => if but = some (4 * clusterOf n + i) then s else putL1 (4 * clusterOf n + i) a none s) s

/-- The line that a cache gives up, if it must: which one is free. `c` numbers the cache: L1D n, 16 + L1I n, 32 + L2.
(DESIGN CHOICE, log entry 37.) -/
def pickVictim (c : Nat) (t : Tab (Option Line)) (s : State) : Option Nat × State :=
  ((t[Config.victim c s.fresh]?).map (·.1), { s with fresh := s.fresh + 1 })

/-- The dirty words of a line written to memory, R296. A word at a locked region makes the write-back wait, R314. -/
def writeDirty (n g : Nat) (l : Line) : List Nat → State → Got Unit
  | [], s => .got () s
  | i :: is, s =>
    if l.dirty.getD i false then
      match writeBack n (32 * g + 4 * i) (l.word i) s with
      | (.wait, s) => .wait s
      | (.done _, s) => writeDirty n g l is s
    else writeDirty n g l is s

/-- The L2 line of an address written back and kept, R397. -/
def cleanLine (n a : Nat) (s : State) : Got Unit :=
  match s.l2Line n a with
  | none => .got () s
  | some l => match writeDirty n (lineOf a) l (List.range 8) s with
    | .wait s => .wait s
    | .got _ s => .got () (putL2 n a (some { l with dirty := List.replicate 8 false }) s)

/-- The line of an address discarded in every L1D of the cluster and in its L2. -/
def dropLine (n a : Nat) (s : State) : State := putL2 n a none (dropL1s n a none s)

/-- The dirty words written back and the line discarded, R396, R397 and R507. -/
def flushLine (n a : Nat) (s : State) : Got Unit :=
  match cleanLine n a s with
  | .wait s => .wait s
  | .got _ s => .got () (dropLine n a s)

/-- Room made in the L2 for a new line. -/
def makeRoom (n : Nat) (s : State) : Got Unit :=
  let r := pickVictim (32 + clusterOf n) (s.cluster (clusterOf n)).l2 s
  match r.1 with
  | none => .got () r.2
  | some g => flushLine n (32 * g) r.2

/-- The words of a granule read from memory, in order. -/
def readLine (n : Nat) (lv : Level) (g : Nat) : List Nat → State → Got (List Ans)
  | [], s => .got [] s
  | i :: is, s =>
    match bus n lv (32 * g + 4 * i) .rd s with
    | (.wait, s) => .wait s
    | (.done r, s) => match readLine n lv g is s with
      | .wait s => .wait s
      | .got rs s => .got (r :: rs) s

/-- A store of the cluster to a granule has left its L2 and waits at its port. -/
def State.clusterPosted (s : State) (n a : Nat) : Bool :=
  s.junc.waiting.any fun r => decide (r.m < 16) && clusterOf r.m == clusterOf n && r.op.writes && lineOf r.a == lineOf a

/-- The L2 line of an address, filled if it is not held, after the stores to it that the L2 has passed on, R295; where
a read is refused no line is allocated, and the answer is that of the word itself. -/
def fetchL2 (n : Nat) (lv : Level) (a : Nat) (s : State) : Got (Ans × Option Line) :=
  match s.l2Line n a with
  | some l => .got ({ st := .ok, w := l.word (wordIn a) }, some l) s
  | none =>
    if s.clusterPosted n a then .wait s
    else match makeRoom n s with
    | .wait s => .wait s
    | .got _ s => match readLine n lv (lineOf a) (List.range 8) s with
      | .wait s => .wait s
      | .got rs s =>
        let r := rs.getD (wordIn a) { st := .jerr }
        if rs.all fun r => r.st == .ok then
          let l := Line.filled (rs.map (·.w))
          .got (r, some l) (putL2 n a (some l) s)
        else .got (r, none) s

/-! ### The store buffer, R423, R485 and R504 -/

/-- A store error noted for the next boundary; only the first counts, R485. -/
def noteStoreError (n : Nat) (va : Payload) (st : Status) (s : State) : State :=
  if st = .ok ∨ (s.core n).astore.isSome then s
  else s.setCore n { s.core n with astore := some (va, st.code) }

/-- A write put at its target port. -/
def postWrite (n : Nat) (e : StoreEnt) (s : State) : State :=
  let r : JReq := { m := n, lv := e.lv, a := e.pa, op := .wr e.w, arr := s.tick, va := e.va.toNat, se := e.se }
  { s with junc := { s.junc with waiting := s.junc.waiting ++ [r] } }

/-- A store reaches the L2: the other L1Ds lose the line, R295, and a line held takes the word. -/
def storeHeld (n : Nat) (e : StoreEnt) (s : State) : State :=
  let s := dropL1s n e.pa (some n) s
  match s.l2Line n e.pa with
  | some l => putL2 n e.pa (some (l.put (wordIn e.pa) e.w (!e.through))) s
  | none => s

/-- The oldest entry of the store buffer leaves it. -/
def drainOne (n : Nat) (s : State) : Got Unit :=
  match (s.core n).stores with
  | [] => .got () s
  | e :: es =>
    let s0 := s.setCore n { s.core n with stores := es }
    if e.direct ∨ ¬ s.cachesOn n then .got () (postWrite n e s0)
    else if e.through then .got () (postWrite n e (storeHeld n e s0))
    else match fetchL2 n e.lv e.pa s0 with
      | .wait s1 => .wait s1
      | .got (r, none) s1 => .got () (noteStoreError n e.va r.st s1)
      | .got (_, some _) s1 => .got () (storeHeld n e s1)

/-- Entries leave the buffer, oldest first. -/
def drain (n : Nat) : Nat → State → Got Unit
  | 0, s => .got () s
  | k + 1, s => match drainOne n s with
    | .wait s => .wait s
    | .got _ s => drain n k s

/-- The whole buffer drained. -/
def drainAll (n : Nat) (s : State) : Got Unit := drain n (s.core n).stores.length s

/-- Requests of a core that wait at a port. -/
def State.ownWaiting (s : State) (n : Nat) : Bool := s.junc.waiting.any fun r => r.m == n
/-- Responses on their way to a core. -/
def State.ownResponses (s : State) (n : Nat) : Bool := s.junc.rsps.any fun r => r.m == n

/-- The core's earlier stores have been performed: a later access of its own may go out. -/
def settled (n : Nat) (s : State) : Got Unit :=
  match drainAll n s with
  | .wait s => .wait s
  | .got _ s => if s.ownWaiting n then .wait s else .got () s

/-! ### Loads and stores -/

/-- A granule brought into the L1D through the L2, and the word that is wanted of it. -/
def fillL1 (n a : Nat) (s : State) : Got Ans :=
  match fetchL2 n (s.core n).pl a s with
  | .wait s => .wait s
  | .got (r, none) s => .got r s
  | .got (r, some l) s =>
    let v := pickVictim n (s.core n).l1d s
    let s := match v.1 with
      | some g => putL1 n (32 * g) none v.2
      | none => v.2
    .got r (putL1 n a (some { l with dirty := List.replicate 8 false }) s)

/-- A word loaded through the L1D. -/
def loadCached (n : Nat) (p : Path) (s : State) : Got Ans :=
  match s.l1Line n p.a with
  | some l => .got { st := .ok, w := l.word (wordIn p.a) } s
  | none =>
    match drainAll n s with
    | .wait s => .wait s
    | .got _ s => fillL1 n p.a (if (s.l2Line n p.a).isNone then freeze n s else s)

/-- An access performed at its target, in order after the core's stores; the pipeline is frozen meanwhile. -/
def directOp (n : Nat) (p : Path) (op : JOp) (s : State) : Got Ans :=
  match settled n s with
  | .wait s => .wait s
  | .got _ s => match bus n (s.core n).pl p.a op (freezeFor n p.a op s) p.se with
    | (.wait, s) => .wait s
    | (.done r, s) => .got r s

/-- A word loaded. -/
def loadWord (n : Nat) (p : Path) (s : State) : Got Ans :=
  if p.niche then let r := nicheOp n p.a .rd s; .got r.1 r.2
  else if p.cached then loadCached n p s
  else directOp n p .rd s

/-- A store put into the buffer; a full buffer gives up its oldest entry first. -/
def bufferStore (n : Nat) (p : Path) (va : Payload) (w : Word) (s : State) : Got Unit :=
  match (if (s.core n).stores.length < 8 then Got.got () s else drainOne n (freeze n s)) with
  | .wait s => .wait s
  | .got _ s =>
    let c := s.core n
    let e : StoreEnt := ⟨p.a, va, c.pl, w, !p.cached, p.through, p.se⟩
    let s := s.setCore n { c with stores := c.stores ++ [e] }
    match s.l1Line n p.a with
    | some l => .got () (if p.cached then putL1 n p.a (some (l.put (wordIn p.a) w false)) s else s)
    | none => .got () s

/-- A word stored: into niche memory at once; in deterministic mode at its target at once; else through the buffer,
which takes a side-effect store only when every earlier access has its response. -/
def storeWord (n : Nat) (p : Path) (va : Payload) (w : Word) (s : State) : Got Unit :=
  if p.niche then .got () (nichePut n p.a w s)
  else if (s.core n).det then
    match directOp n p (.wr w) s with
    | .wait s => .wait s
    | .got r s => .got () (noteStoreError n va r.st s)
  else if p.se then
    match settled n s with
    | .wait s => .wait s
    | .got _ s => if s.ownResponses n then .wait s else bufferStore n p va w s
  else bufferStore n p va w s

/-- A store whose status is known at once, for frame words: R467 and R471. One that bypasses the caches leaves their
lines as they are, R294 and R299. -/
def storeNow (n : Nat) (p : Path) (w : Word) (s : State) : Got Status :=
  if p.niche then .got .ok (nichePut n p.a w s)
  else if p.cached && !p.through then
    match drainAll n s with
    | .wait s => .wait s
    | .got _ s => match fetchL2 n (s.core n).pl p.a s with
      | .wait s => .wait s
      | .got (r, none) s => .got r.st s
      | .got (_, some l) s => .got .ok (putL2 n p.a (some (l.put (wordIn p.a) w true)) (dropL1s n p.a none s))
  else
    match directOp n p (.wr w) s with
    | .wait s => .wait s
    | .got r s =>
      if !p.cached then .got r.st s
      else
        let s := dropL1s n p.a none s
        match s.l2Line n p.a with
        | some l => .got r.st (if r.st == .ok then putL2 n p.a (some (l.put (wordIn p.a) w false)) s else s)
        | none => .got r.st s

/-- A sample placed in a cached copy that carries QUAD, R66. -/
def Line.sample (l : Line) (a : Nat) (v : BitVec 12) : Line :=
  let w := l.word (wordIn a)
  if w.tag = Tags.quad then
    l.put (wordIn a) ⟨w.tag, BitVec.ofNat 48 (setBits w.pay.toNat (12 * (a % 4)) 12 v.toNat)⟩ false
  else l

/-- The cached copies of the issuing core and its cluster after a sample store, R66 and R295. -/
def sampleCopies (n a : Nat) (v : BitVec 12) (s : State) : State :=
  let s := dropL1s n a (some n) s
  let s := match s.l1Line n a with
    | some l => putL1 n a (some (l.sample a v)) s
    | none => s
  match s.l2Line n a with
  | some l => putL2 n a (some (l.sample a v)) s
  | none => s

/-- A sample store, R62 to R66. -/
def storeSample (n : Nat) (p : Path) (v : BitVec 12) (s : State) : Got Ans :=
  if p.niche then let r := nicheOp n p.a (.samp v) s; .got r.1 r.2
  else match directOp n p (.samp v) s with
    | .wait s => .wait s
    | .got r s => .got r (if p.cached && r.st == .ok then sampleCopies n p.a v s else s)

/-- An atomic instruction's access, R396: the target's line is written back and invalidated first. -/
def atomicOp (n : Nat) (p : Path) (op : JOp) (s : State) : Got Ans :=
  if p.niche then let r := nicheOp n p.a op s; .got r.1 r.2
  else match settled n s with
    | .wait s => .wait s
    | .got _ s => match (if cacheable p.a && s.cachesOn n then flushLine n p.a s else Got.got () s) with
      | .wait s => .wait s
      | .got _ s => directOp n p op s

/-! ### Fetches, R423, R446 and R450 -/

/-- A granule brought into the L1I through the L2, and the word that is wanted of it; one whose word was uncorrectable
is not kept. -/
def fillL1i (n a : Nat) (s : State) : Got Ans :=
  match fetchL2 n (s.core n).pl a s with
  | .wait s => .wait s
  | .got (r, none) s => .got r s
  | .got (r, some l) s =>
    if r.ep then .got r s
    else
      let v := pickVictim (16 + n) (s.core n).l1i s
      let s := match v.1 with
        | some g => putL1i n (32 * g) none v.2
        | none => v.2
      .got r (putL1i n a (some { l with dirty := List.replicate 8 false }) s)

/-- A CODE word fetched through the L1I. -/
def fetchCached (n : Nat) (p : Path) (s : State) : Got Ans :=
  match lineAt (s.core n).l1i (lineOf p.a) with
  | some l => .got { st := .ok, w := l.word (wordIn p.a) } s
  | none =>
    fillL1i n p.a (freeze n s)

/-- A CODE word fetched. -/
def fetchWord (n : Nat) (p : Path) (s : State) : Got Ans :=
  if p.niche then let r := nicheOp n p.a .rd s; .got r.1 r.2
  else if p.cached then fetchCached n p s
  else match bus n (s.core n).pl p.a .rd (freezeFor n p.a .rd s) p.se with
    | (.wait, s) => .wait s
    | (.done r, s) => .got r s

end Sys2Proof.Machine
end

