-- ==== Sys2Proof/Machine/LanternTrap.lean ====
section
/-! DEFINITION. Translation of a core's accesses, and taking an exception or an event: the frame, the trap registers,
the double fault and the halt (12 R459–R471, 13 R490–R508). -/

namespace Sys2Proof.Machine

/-! ### Exceptions, R459 -/

/-- An exception: its cause code, ECAUSE.SUB and EVAL. -/
structure Exc where
  code : Nat
  sub : Nat := 0
  eval : Nat := 0
  /-- In a routine, the micro-address and the micro-temporaries where they are known, R266. -/
  mpc : Option Nat := none
  mts : Option (Word × Word) := none
  deriving DecidableEq, Repr

/-- A tag fault of a register operand: 0 ra, 1 rb, 2 rc. -/
def excTag (operand : Nat) (t : Tag) : Exc := { code := 0x05, sub := t.toNat + 16 * operand }
/-- A tag fault of a memory word. -/
def excMemTag (a : Nat) (t : Tag) : Exc := { code := 0x05, sub := t.toNat + 48, eval := a }
/-- An illegal instruction at an address. -/
def excIll (pc : Nat) : Exc := { code := 0x01, eval := pc }
/-- A privileged instruction at an address. -/
def excPriv (pc : Nat) : Exc := { code := 0x02, eval := pc }
/-- A response other than OK, R484. -/
def excBus (a : Nat) (st : Status) (fetch : Bool) : Exc := { code := 0x10, sub := st.code + 16 * b2n fetch, eval := a }

/-- The level that takes a cause, R459 and R461. -/
def State.causeLevel (s : State) (n code : Nat) : Level :=
  let c := s.core n
  if code < 0x20 ∧ c.pl ≠ .m ∧ bit (s.fld (R.LANTERN_XDELEG n) F.LANTERN_XDELEG_DELEG) code then .s else .m

/-! ### Translation, R490 to R508 -/

/-- What translating an address comes to. -/
inductive Tr where
  | wait (s : State)
  | exc (e : Exc) (s : State)
  | ok (p : Path) (s : State)

/-- The access permission failure, R499 and R500. -/
def excProt (k : AccKind) (va : Nat) : Exc :=
  if k = .fetch then { code := 0x0A, eval := va } else { code := 0x0B, sub := b2n k.writes, eval := va }

/-- A TLB miss; while a refill handler is active it is a double fault, R503. -/
def excMiss (k : AccKind) (rfl' : Bool) (va : Nat) : Exc :=
  let code := if k = .fetch then 0x08 else 0x09
  if rfl' then { code := 0x20, sub := code, eval := va }
  else { code := code, sub := if k = .fetch then 0 else b2n k.writes, eval := va }

/-- The physical window of a core holds an address, R491. -/
def State.inWindow (s : State) (n a : Nat) : Bool :=
  let p := a / 0x10000
  decide (s.fld (R.LANTERN_PWLO n) F.LANTERN_PWLO_LO ≤ p) && decide (p ≤ s.fld (R.LANTERN_PWHI n) F.LANTERN_PWHI_HI)

/-- The path of an untranslated access, R492 and R302. -/
def State.plainPath (s : State) (n a : Nat) : Path :=
  let pcp := s.fld (R.LANTERN_TLBCFG n) F.LANTERN_TLBCFG_PCP
  if cacheable a then pathOf n a pcp false s
  else if inNiche a then pathOf n a 2 false s
  else pathOf n a 2 true s

/-- An untranslated access, R490 to R492, its causes in the order of R460. A GISS descriptor may not lie where an access counts as one to an SE page,
R417. (DEDUCED, log entry 55.) -/
def untranslated (n : Nat) (k : AccKind) (a : Nat) (s : State) : Tr :=
  let c := s.core n
  let addrf : Exc := { code := 0x07, eval := a }
  if c.pl = .u then .exc (excProt k a) s
  else if 2 ^ 42 ≤ a ∧ k ≠ .fetch then .exc addrf s
  else if c.pl = .s ∧ ¬ s.inWindow n (a % 2 ^ 42) then .exc (excProt k a) s
  else if 2 ^ 42 ≤ a then .exc addrf s
  else
    let p := s.plainPath n a
    if k = .desc ∧ p.se then .exc (excProt k a) s else .ok p s

/-- The access kind of an A and D update. -/
def adKind : AdAcc → AccKind
  | .fetch => .fetch | .load => .load | .store => .store | .rmw => .rmw | .sealWr => .sealWr | .sealRd => .sealRd

/-- The update of a core's entry sent, R506 and R507: the line that holds the PTE word leaves the caches first, and the
core freezes. None is sent to a target that performs no updates, R508.
(DESIGN CHOICE, log entry 60.) -/
def adSend (n : Nat) (k : AccKind) (e : TlbE) (s : State) : AdOut × State :=
  if !(targetOf e.ptea.toNat).owns then (.loc, s)
  else match flushLine n e.ptea.toNat s with
  | .wait s => (.wait, s)
  | .got _ s => adUpdate (fun a op s => bus n (s.core n).pl a op (freeze n s)) k e s

/-- The outcome of an update applied to the core's entry, R508: the exception it raises, if any. -/
def adApply (n i va : Nat) (k : AccKind) (o : AdOut) (s : State) : Option Exc × State :=
  let c := s.core n
  let e := tlbAt c.tlb i
  let ptea := e.ptea.toNat
  match o with
  | .wait => (none, s)
  | .done => (none, s.setCore n { c with tlb := tlbPut c.tlb i (e.updated k) })
  | .stale =>
    (some { code := 0x0C, sub := b2n k.writes, eval := va }, s.setCore n { c with tlb := tlbDrop c.tlb i })
  | .loc =>
    (some { code := 0x23, eval := ptea },
      logCairn .translate 0x01 [dfMaster n, dfAddr ptea, ⟨48, va⟩] (s.setCore n { c with tlb := tlbDrop c.tlb i }))
  | .bad st =>
    (some (excBus ptea st (k == .fetch)), logCairn .translate 0x02 [dfMaster n, dfAddr ptea, dfStatus st] s)

/-- A translated access, R499 to R508. -/
def translated (n : Nat) (k : AccKind) (va : Nat) (s : State) : Tr :=
  let c := s.core n
  match tlbFind c.tlb va with
  | none => .exc (excMiss k c.rfl' va) s
  | some i =>
    let e := tlbAt c.tlb i
    let pte := e.pte.toNat
    if !(levelGrants c.pl c.sg pte && k.granted pte) then .exc (excProt k va) s
    else
      let p := pathOf n (e.phys va) (bits pte 8 2) e.se s
      if !k.needsUpdate pte then .ok p s
      else match adSend n k e s with
        | (.wait, s) => .wait s
        | (o, s) => match adApply n i va k o s with
          | (some x, s) => .exc x s
          | (none, s) => .ok p s

/-- A core's address translated or passed through, R490. -/
def translate (n : Nat) (k : AccKind) (va : Nat) (s : State) : Tr :=
  if (s.core n).te then translated n k va s else untranslated n k va s

/-! ### Fetching an instruction, R387 to R389, R39 and R40 -/

/-- The CODE word at an address checked for the instruction that starts there: the exception it raises, if any. -/
def codeCheck (n : Fin 16) (pc : Nat) (r : Ans) : Option Exc :=
  if r.st ≠ .ok then some (excBus pc r.st true)
  else if r.ep then some { code := 0x21, sub := 1, eval := pc }
  else if r.w.tag ≠ Tags.code then some { code := 0x04, sub := r.w.tag.toNat, eval := pc }
  else if (decodeAt n false (pc % 4 == 2) r.w.pay.toNat).isNone then some (excIll pc)
  else none

/-- The path that an access takes by the TLB as it stands, if it is granted; no update is sent. -/
def State.pathNow (s : State) (n : Nat) (k : AccKind) (va : Nat) : Option Path :=
  let c := s.core n
  if c.te then
    match tlbFind c.tlb va with
    | none => none
    | some i =>
      let e := tlbAt c.tlb i
      let pte := e.pte.toNat
      if levelGrants c.pl c.sg pte && k.granted pte then some (pathOf n (e.phys va) (bits pte 8 2) e.se s) else none
  else match untranslated n k va s with
    | .ok p _ => some p
    | _ => none

/-- An access made ahead or on the wrong path needs no update, without which it is not issued, R511. -/
def State.updateFree (s : State) (n : Nat) (k : AccKind) (va : Nat) : Bool :=
  !(s.core n).te || match tlbFind (s.core n).tlb va with
    | some i => !k.needsUpdate (tlbAt (s.core n).tlb i).pte.toNat
    | none => true

/-- A container's word, if it decodes. -/
def goodWord (c : BitVec 64) : Option Word :=
  match decodeContainer c with
  | .clean x => some x
  | .corrected x => some x
  | .uncorrectable => none

/-- The CODE word that a fetch at an address finds. -/
def State.codeNow (s : State) (n va : Nat) : Option Word :=
  match s.pathNow n .fetch va with
  | none => none
  | some p =>
    let held := if p.cached then (lineAt (s.core n).l1i (lineOf p.a)).or (s.l2Line n p.a) else none
    if p.niche then goodWord (contAt s.niche (nicheIx n p.a))
    else match held, targetOf p.a with
      | some l, _ => some (l.word (wordIn p.a))
      | none, .hbm _ | none, .cham _ | none, .lbuf _ | none, .nvs | none, .rom => goodWord (s.cont (p.a / 4))
      | none, _ => none

/-- The copy of a CODE word that the instruction after `j` more ones runs from. -/
def Core.copyOf (c : Core) (va j : Nat) : Option Word := (c.fbuf.find? fun x => x.1 == va && x.2.1 == j).map (·.2.2)

/-- A copy kept for an instruction. -/
def Core.keepCopy (va j : Nat) (w : Word) (c : Core) : Core := { c with fbuf := c.fbuf ++ [(va, j, w)] }

/-- The size in samples of the instruction at an address in its CODE word, R387. -/
def codeSize (pc : Nat) (w : Word) : Nat := if pc % 4 = 0 ∧ bit w.pay.toNat 0 then 4 else 2

/-- The CODE words of the `k` instructions from `pc` on, in executed order, kept as they stand, R446 and R449; `j`
counts instructions, and the second half of a word comes from the read of the first, R445. -/
def keepFrom (n : Nat) : Nat → Nat → Nat → Core → Option (Nat × Word) → State → State
  | 0, _, _, _, _, s => s
  | k + 1, j, pc, c, last, s =>
    let a := pc / 4 * 4
    let own := (s.core n).copyOf a j
    let half := match last with
      | some x => if pc % 4 = 2 ∧ x.1 = a then some x.2 else none
      | none => none
    match (own.or half).or (if s.updateFree n .fetch a then s.codeNow n a else none) with
    | none => s
    | some w =>
      let s := if own.isSome then s else s.setCore n ((s.core n).keepCopy a j w)
      let r := loopCheck ((pc + codeSize pc w) % 2 ^ 48) c.depth c
      keepFrom n k (j + 1) r.2 r.1 (some (a, w)) s

/-- The next `k` instructions after the one at the PC, of `sz` samples, are fetched; none beyond a transfer that is
taken. -/
def keepAhead (n sz k : Nat) (s : State) : State :=
  let c := s.core n
  let pc := c.pc.toNat
  let open' : Bool := match c.delay with
    | some d => !d.taken && !d.penalty
    | none => true
  if !open' then s
  else
    let w := (c.copyOf (pc / 4 * 4) 0).or (s.codeNow n (pc / 4 * 4))
    let r := loopCheck ((pc + sz) % 2 ^ 48) c.depth c
    keepFrom n k 1 r.2 r.1 (w.map fun w => (pc / 4 * 4, w)) s

/-- What is fetched when an instruction stores, R446 and R449: three instructions in deterministic mode, else a free
number up to 8. (DESIGN CHOICE, log entry 94.) -/
def storing (n sz : Nat) (s : State) : State :=
  if (s.core n).det then keepAhead n sz 3 s
  else let r := s.freeNat; keepAhead n sz (r.1 % 9) r.2

/-- What has been fetched when an earlier store reaches its line or its port, R446: a free number of instructions from
the PC on, up to 8. (DESIGN CHOICE, log entry 94.) -/
def fetchedAhead (n : Nat) (s : State) : State :=
  let c := s.core n
  if c.det then s
  else
    let r := s.freeNat
    keepFrom n (if c.delay.isSome then r.1 % 2 else r.1 % 9) 0 c.pc.toNat c none r.2

/-- A CODE word that was read serves both instructions in it, R445. -/
def readCopy (n pc : Nat) (r : Ans) (s : State) : State :=
  if r.st ≠ .ok ∨ r.ep then s
  else
    let a := pc / 4 * 4
    let c := (s.core n).keepCopy a 0 r.w
    s.setCore n (if pc % 4 = 0 ∧ ¬ bit r.w.pay.toNat 0 then { c with fbuf := (a, 1, r.w) :: c.fbuf } else c)

/-- The fetch of the instruction at the core's PC: the copy fetched ahead, or a read. -/
def fetchProbe (n : Fin 16) (s : State) : Got (Option Exc) :=
  let pc := (s.core n).pc.toNat
  match (s.core n).copyOf (pc / 4 * 4) 0 with
  | some w => .got (codeCheck n pc { st := .ok, w := w }) s
  | none => match translate n .fetch (pc / 4 * 4) s with
    | .wait s => .wait s
    | .exc e s => .got (some (if e.code = 0x23 then e else { e with eval := if e.code = 0x10 then e.eval else pc })) s
    | .ok p s => match fetchWord n p s with
      | .wait s => .wait s
      | .got r s => .got (codeCheck n pc r) (readCopy n pc r s)

/-- What the fetch of the instruction at the PC costs, R423 and R452: nothing from a copy, from niche memory or from the
L1I. -/
def codeFreeze (n : Nat) (s : State) : State :=
  let c := s.core n
  let pc := c.pc.toNat
  let a := pc / 4 * 4
  match c.copyOf a 0, s.pathNow n .fetch a with
  | none, some p =>
    if p.niche || (p.cached && (lineAt c.l1i (lineOf p.a)).isSome) then s
    else
      let s := freezeFor n p.a .rd s
      match s.codeNow n a with
      | some w => if pc % 4 = 0 ∧ codeSize pc w = 2 then s.setCore n ((s.core n).keepCopy a 1 w) else s
      | none => s
  | _, _ => s

/-- The instruction at the core's PC, where its CODE word holds one. -/
def State.instrNow (s : State) (n : Fin 16) : Option Instr :=
  let pc := (s.core n).pc.toNat
  match ((s.core n).copyOf (pc / 4 * 4) 0).or (s.codeNow n (pc / 4 * 4)) with
  | none => none
  | some w =>
    if w.tag = Tags.code then (decodeAt n false (pc % 4 == 2) w.pay.toNat).map (·.1) else none

/-! ### The wrong path, R440 and R441 -/

/-- A wrong-path load or fetch at an address: where R440 lets it out, a miss fills lines; one that would have to wait
fills none. -/
def wrongFill (n : Nat) (code : Bool) (va : Nat) (s : State) : State :=
  let k : AccKind := if code then .fetch else .load
  match if s.updateFree n k va then s.pathNow n k va else none with
  | none => s
  | some p =>
    let hit : Bool := if code then (lineAt (s.core n).l1i (lineOf p.a)).isSome else (s.l1Line n p.a).isSome
    if !p.cached || hit || !(code || (s.core n).te) then s
    else match (if code then fillL1i n p.a s else fillL1 n p.a s) with
      | .wait _ => s
      | .got _ s => s

/-- Several of them at free addresses. -/
def wrongFills (n : Nat) (code : Bool) : Nat → State → State
  | 0, s => s
  | k + 1, s => let r := s.freeNat; wrongFills n code k (wrongFill n code (r.1 % 2 ^ 48 / 4 * 4) r.2)

/-- Entries of the return stack that the wrong path may have replaced. -/
def scramble : List Payload → State → List Payload × State
  | [], s => ([], s)
  | a :: as, s =>
    let r := s.freeNat
    let x := scramble as r.2
    ((if r.1 % 2 = 0 then a else BitVec.ofNat 48 (r.1 / 2)) :: x.1, x.2)

/-- What instructions on the wrong path may leave, R440: how many there were, what they loaded and where they led is
free. In deterministic mode nothing is issued on a wrong path. (DESIGN CHOICE, log entry 52.) -/
def wrongPath (n : Nat) (s : State) : State :=
  if (s.core n).det then s
  else
    let f := s.freeNat
    let s := f.2.bump (R.LANTERN_FETCHCNT n) F.LANTERN_FETCHCNT_FETCHCNT f.1
    let a := s.freeNat
    let s := wrongFills n false (a.1 % 49) a.2
    let b := s.freeNat
    let s := wrongFills n true (b.1 % 21) b.2
    match (s.core n).ras with
    | [] => s
    | t :: ts =>
      let x := scramble ts s
      x.2.setCore n { x.2.core n with ras := t :: x.1 }

/-! ### Entry, R467 to R471 -/

/-- A trap to be taken. -/
structure Trap where
  hidx : Nat
  sub : Nat := 0
  eval : Nat := 0
  lvl : Level
  ev : Option Ev := none
  ra : Payload
  /-- RA is a branch whose delay slot was interrupted. -/
  ds : Bool := false
  /-- The micro-state that the trap saves, R266; none at an instruction boundary. -/
  micro : Option (Nat × Word × Word) := none
  deriving DecidableEq, Repr

/-- ESTAT as entry writes it, R470. -/
def estatOf (c : Core) (t : Trap) : Nat :=
  lvlCode c.pl + 4 * b2n t.ds
    + (match t.ev with
      | some e => 8 + 16 * e.src
      | none => 0)
    + lvlCode t.lvl * 2 ^ 14 + c.cpri * 2 ^ 16 + b2n c.ie * 2 ^ 22

/-- The words of the interrupt frame, R469. -/
def frameWords (c : Core) (t : Trap) : List Word :=
  [Word.addr t.ra, Word.int (BitVec.ofNat 48 c.stat)]
    ++ ((List.range 8).map fun i => c.wAt (i + 1))
    ++ [Word.int (BitVec.ofNat 48 (c.depth + 8 * b2n t.ds + 16 * lvlCode t.lvl)),
        if c.depth = 0 then Word.int 0 else c.srW (32 + (c.depth - 1))]

/-- One frame word stored at a physical address: whether it was. -/
def frameStore (n a : Nat) (w : Word) (s : State) : Got Bool :=
  if 2 ^ 42 ≤ a ∨ a % 4 ≠ 0 then .got false s
  else match storeNow n (s.plainPath n a) w s with
    | .wait s => .wait s
    | .got st s => .got (st == .ok) s

/-- The frame stored from an address: none, or the address that failed. (DEDUCED, log entry 58.) -/
def pushFrame (n : Nat) : Nat → List Word → State → Got (Option Nat)
  | _, [], s => .got none s
  | a, w :: ws, s => match frameStore n a w s with
    | .wait s => .wait s
    | .got false s => .got (some a) s
    | .got true s => pushFrame n ((a + 4) % 2 ^ 48) ws s

/-- EMSTATE at entry, R266 and R267. -/
def emAtEntry (t : Trap) (c : Core) : Core :=
  match t.micro with
  | none => c.setSr 16 (setBits (c.srN 16) 13 1 0)
  | some m => ((c.setSr 16 (m.1 % 2 ^ 13 + 2 ^ 13)).putSr 17 m.2.1).putSr 18 m.2.2

/-- STAT at entry. -/
def statAtEntry (c : Core) (t : Trap) : Nat :=
  let x := setBits (setBits c.stat 0 2 (lvlCode t.lvl)) 2 2 0
  match t.ev with
  | some e => setBits x 6 6 e.prio
  | none => x

/-- A core's registers at entry with the frame at `f`, R467. -/
def entered (f : Nat) (t : Trap) (c : Core) : Core :=
  let d := { (emAtEntry t (c.putW (31 + lvlCode t.lvl) (Word.addr (BitVec.ofNat 48 f)))) with
    pbar := 0
    fbuf := []
    resume := none
    entered := some t.hidx
    rfl' := c.rfl' || t.hidx == 0x08 || t.hidx == 0x09 || t.hidx == 0x0C }
  let d := (d.setSr 1 t.ra.toNat).setSr 2 (estatOf c t)
  let d := (d.setSr 3 (t.hidx + t.sub % 2 ^ 16 * 2 ^ 11)).setSr 4 t.eval
  let d := (d.setSr 0 (statAtEntry c t)).setSr 21 0
  { d with pc := BitVec.ofNat 48 (d.srN 5 + 8 * t.hidx) }

/-- The core before entry: every result landed, its STAT changes and boundary writes made, nothing in its issue
slots, and every branch resolved by the time the handler issues, R428, R443 and R474. -/
def Core.quiet (c : Core) : Core :=
  let d := (c.landAll.cycles 12).flushStat.atBound
  { d with
    delay := none
    fbuf := []
    resume := none
    waiting := false }

/-- The log entries of an entry, R489. -/
def logTrap (n : Nat) (t : Trap) (s : State) : State :=
  match t.hidx with
  | 0x20 => logCairn .core 0x02 [⟨4, n⟩, ⟨11, t.sub⟩, ⟨48, t.eval⟩] s
  | 0x21 => logCairn .core 0x03 [⟨4, n⟩, ⟨16, t.sub⟩, ⟨48, t.eval⟩] s
  | 0x22 => logCairn .core 0x04 [⟨4, n⟩, ⟨48, t.eval⟩, ⟨4, t.sub / 16⟩] s
  | 0x12 => logCairn .core 0x05 [⟨4, n⟩, ⟨48, t.eval⟩, ⟨4, t.sub⟩] s
  | 0x0D => logCairn .core 0x06 [⟨4, n⟩, ⟨48, t.eval⟩, ⟨16, t.sub⟩] s
  | _ => s

/-- The core halts: only reset ends it, R471. -/
def haltCore (n hidx addr : Nat) (s : State) : State :=
  let s := s.setCore n { s.core n with halt := some hidx }
  logCairn .core 0x01 [⟨4, n⟩, ⟨11, hidx⟩, ⟨48, addr⟩] (raise (792 + n) s)

/-- One entry tried on a quiet core: none, or the address at which its frame failed. -/
def enterOnce (n : Nat) (t : Trap) (s : State) : Got (Option Nat) :=
  let c := s.core n
  let w := c.wAt (31 + lvlCode t.lvl)
  let f := (w.pay.toNat + 2 ^ 48 - 48) % 2 ^ 48
  if w.tag ≠ Tags.addr ∧ w.tag ≠ Tags.raw then .got (some f) s
  else match pushFrame n f (frameWords c t) s with
    | .wait s => .wait s
    | .got (some a) s => .got (some a) s
    | .got none s =>
      let s := s.setCore n (entered f t (s.core n))
      .got none (match t.ev with
        | some e => unraise e.src s
        | none => s)

/-- Trap entry, R467, with the double fault and the halt of R471; what had issued behind the boundary was on the wrong
path, R441. -/
def enterTrap (n : Nat) (t : Trap) (s : State) : Got Unit :=
  let s := wrongPath n s
  let s := s.setCore n (s.core n).quiet
  match enterOnce n t (logTrap n t s) with
  | .wait s => .wait s
  | .got none s => .got () s
  | .got (some a) s =>
    if t.hidx = 0x20 then .got () (haltCore n 0x20 a s)
    else
      let d : Trap := { t with
        hidx := 0x20
        sub := t.hidx
        eval := a
        lvl := .m
        ev := none }
      match enterOnce n d (logTrap n d s) with
      | .wait s => .wait s
      | .got none s => .got () s
      | .got (some b) s => .got () (haltCore n 0x20 b s)

/-- A command of core n that ends in an entry, or must wait for one. -/
def trapTo (n : Nat) (t : Trap) (s0 s : State) : State :=
  match enterTrap n t s with
  | .wait s => keepWaiting s0 s
  | .got _ s => s

/-- The trap of an exception with its return address. -/
def excTrap (n : Nat) (e : Exc) (ra : Payload) (ds : Bool) (s : State) : Trap :=
  { hidx := e.code
    sub := e.sub
    eval := e.eval
    lvl := s.causeLevel n e.code
    ra := ra
    ds := ds }

/-- The return address and DS of a fault of the instruction at the core's PC, R478. -/
def Core.faultRa (c : Core) : Payload × Bool :=
  match c.delay with
  | some d => (d.branch, true)
  | none => (c.pc, false)

/-- An exception of the instruction at the core's PC. -/
def raiseExc (n : Nat) (e : Exc) (s0 s : State) : State :=
  let r := (s.core n).faultRa
  trapTo n (excTrap n e r.1 r.2 s) s0 s

/-! ### What is due at a boundary, R465 -/

/-- PFAIL, MCHECK, PTELOC, ASTORE and a linked descriptor's GDESC, in the order in which a boundary takes them. -/
def Core.dueExc (c : Core) : Option Exc :=
  if c.pfail then some { code := 0x24 }
  else match c.mcheck with
    | m :: _ => some { code := 0x21, sub := m.sub, eval := m.eval.toNat }
    | [] => match c.pteloc with
      | a :: _ => some { code := 0x23, eval := a.toNat }
      | [] => match c.astore with
        | some x => some { code := 0x12, sub := x.2, eval := x.1.toNat }
        | none => match c.linkFault with
          | x :: _ => some { code := 0x0F, sub := x.2, eval := x.1.toNat }
          | [] => none

/-- The exception that a boundary takes is no longer pending. -/
def Core.dropDue (c : Core) : Core :=
  if c.pfail then { c with pfail := false }
  else if c.mcheck ≠ [] then { c with mcheck := c.mcheck.drop 1 }
  else if c.pteloc ≠ [] then { c with pteloc := c.pteloc.drop 1 }
  else if c.astore.isSome then { c with astore := none }
  else { c with linkFault := c.linkFault.drop 1 }

/-- The event that the core would take at a boundary, R464. -/
def State.dueEvent (s : State) (n : Nat) : Option Ev :=
  let c := s.core n
  s.eventFor n c.pl c.ie c.cpri

/-- Whether a boundary takes an exception or an event. -/
def State.trapDue (s : State) (n : Nat) : Bool := (s.core n).dueExc.isSome || (s.dueEvent n).isSome

/-- The trap of an event. -/
def eventTrap (e : Ev) (ra : Payload) (ds : Bool) : Trap :=
  { hidx := 64 + e.src
    lvl := e.lvl
    ev := some e
    ra := ra
    ds := ds }

/-- What is due at the core's boundary taken; `s` unchanged where nothing is due. -/
def takeDue (n : Nat) (micro : Option (Nat × Word × Word)) (s : State) : State :=
  let c := s.core n
  let r := c.faultRa
  match c.dueExc with
  | some e =>
    trapTo n { excTrap n e r.1 r.2 s with micro := micro } s (s.setCore n c.dropDue)
  | none => match s.dueEvent n with
    | some e => trapTo n { eventTrap e r.1 r.2 with micro := micro } s s
    | none => s

/-- A fault of the fetch of a handler's first instruction is a double fault, R471; that its first word is no
instruction is none of the fetch. -/
def fetchTrap (n : Nat) (e : Exc) (s0 s : State) : State :=
  match (s.core n).entered with
  | none => raiseExc n e s0 s
  | some h =>
    if e.code = 0x01 then raiseExc n e s0 s
    else if h = 0x20 then
      let s := s.setCore n (s.core n).quiet
      haltCore n 0x20 e.eval s
    else raiseExc n { code := 0x20, sub := h, eval := e.eval } s0 s

/-- A micro-temporary of a free number. -/
def freeMt (x : Nat) : Word := ⟨BitVec.ofNat 4 (x / 2 ^ 48), BitVec.ofNat 48 x⟩

/-- The entry of a micro-address fault or of a control-store check failure, R275: the unit's detail value is free. -/
def logMicroFault (check : Bool) (mpc : Nat) (s : State) : State :=
  let r := s.freeNat
  logCairn .ucode (if check then 0x05 else 0x04) [⟨16, r.1⟩, ⟨13, mpc⟩] r.2

/-- A machine check of a micro-fetch, R255 and R486. -/
def excMicro (mpc : Nat) : Exc := { code := 0x21, sub := 2, eval := mpc, mpc := some mpc }

/-- An exception inside a routine, a micro-trap, R266: the micro-address and the micro-temporaries are free where they
are not known. (DESIGN CHOICE, log entry 95.) -/
def microExc (n : Nat) (e : Exc) (s0 s : State) : State :=
  let r0 := s.freeNat
  let r1 := r0.2.freeNat
  let r2 := r1.2.freeNat
  let mts := e.mts.getD (freeMt r1.1, freeMt r2.1)
  let ra := (s.core n).faultRa
  trapTo n { excTrap n e ra.1 ra.2 s with
    micro := some (e.mpc.getD (r0.1 % 0x1000), mts.1, mts.2) } s0 r2.2

/-- A micro-fetch from a micro-address fails. -/
def microFaultTrap (n : Nat) (check : Bool) (mpc : Nat) (s : State) : State :=
  microExc n (excMicro mpc) s (logMicroFault check mpc s)

/-- A core that takes no trap: halted, stopped, or with an access under way. -/
def Core.shut (c : Core) : Bool := c.halt.isSome || c.stopped || c.frozen.isSome || c.ad.isSome

/-- Core n stands at a boundary at or after TS of a power-fail save: it is stopped there, R650 and R651. -/
def State.heldAtTs (s : State) (n : Nat) : Bool := s.pf.stage == .saving && (s.core n).atBoundaryNow

/-- Trap entry at a boundary: what is due there, else the fetch fault of the instruction at the boundary. No
boundary lies between a transfer and its delay slot, but for the annulled slot of an annulling branch (R466,
R478). -/
def boundaryTrap (n : Fin 16) (s : State) : State :=
  let s := s.setCore n (s.core n).dueStat
  let c := s.core n
  let open' : Bool := match c.delay with
    | none => true
    | some d => d.annul
  if open' && s.trapDue n then takeDue n none s
  else if c.waiting then s
  else match fetchProbe n s with
    | .wait s1 => keepWaiting s s1
    | .got none s1 => s1
    | .got (some e) s1 => fetchTrap n e s s1

/-! ### A and D updates as commands, R506 and R508 -/

/-- What an update came to, as plain data. -/
def AdOut.res : AdOut → AdRes
  | .wait => .done | .done => .done | .stale => .stale | .loc => .loc
  | .bad st => .bad st.code

/-- The outcome that plain data stands for. -/
def AdRes.out : AdRes → AdOut
  | .done => .done | .stale => .stale | .loc => .loc
  | .bad st => .bad (Status.decode st)

/-- The update that an access of core n to a virtual address requires is sent; the core is frozen until its outcome
is applied. -/
def adStart (n va : Nat) (k : AdAcc) (s : State) : State :=
  let c := s.core n
  match tlbFind c.tlb va with
  | none => s
  | some i =>
    let e := tlbAt c.tlb i
    let pte := e.pte.toNat
    if c.shut ∨ ¬ c.te ∨ ¬ (levelGrants c.pl c.sg pte ∧ (adKind k).granted pte ∧ (adKind k).needsUpdate pte) then s
    else match adSend n (adKind k) e s with
      | (.wait, s1) => keepWaiting s s1
      | (o, s1) =>
        let p : AdPend := ⟨i, BitVec.ofNat 48 va, k, o.res⟩
        s1.setCore n { s1.core n with ad := some p }

/-- R506. -/
def execAdUpdate (n : Fin 16) (va : Payload) (k : AdAcc) (s : State) : Res := ok (adStart n va.toNat k s)

/-- The outcome of an update applied, R508: the access goes on, or the core raises the exception at the instruction
that made it. -/
def adFinish (n : Nat) (s : State) : State :=
  match (s.core n).ad with
  | none => s
  | some p =>
    let s1 := s.setCore n { s.core n with ad := none }
    match adApply n p.idx p.va.toNat (adKind p.acc) p.res.out s1 with
    | (none, s2) => s2
    | (some e, s2) => if p.acc = .fetch then fetchTrap n e s s2 else raiseExc n e s s2

/-- R508. -/
def execAdUpdateOutcome (n : Fin 16) (s : State) : Res := ok (adFinish n s)

end Sys2Proof.Machine
end

