-- ==== Sys2Proof/Machine/Operands.lean ====
section
/-! DEFINITION. The operands of Lantern instructions: which tags an operation accepts and what tag its result carries
(02 R35–R43, 10 R381, R393–R395). -/

namespace Sys2Proof.Machine

/-- What an operation that only reads registers comes to. -/
abbrev Chk (α : Type) := Except Exc α

/-- Tags of integers: INT and RAW. -/
def intTags : List Tag := [Tags.int, Tags.raw]
/-- Tags of a memory base or a bank source: ADDR and RAW, R38 and R381. -/
def addrTags : List Tag := [Tags.addr, Tags.raw]
/-- Tags of sums, logic and unsigned comparisons, R393. -/
def wordTags : List Tag := [Tags.int, Tags.addr, Tags.raw]
/-- Tags of bearings, R394. -/
def bearTags : List Tag := [Tags.bear, Tags.raw]
/-- Tags of decimal operands. (DEDUCED, log entry 49.) -/
def decTags : List Tag := [Tags.dec, Tags.raw]
/-- Tags of binary32 operands, R411. -/
def fpTags : List Tag := [Tags.fp, Tags.raw]

/-- An operand's payload, if its tag is accepted; 0 ra, 1 rb, 2 rc. -/
def operand (ok : List Tag) (k : Nat) (w : Word) : Chk Payload :=
  if w.tag ∈ ok then .ok w.pay else .error (excTag k w.tag)

/-- A word that a move copies: 0xD and 0xE fail, R37. -/
def movable (k : Nat) (w : Word) : Chk Word := if w.tag.reserved then .error (excTag k w.tag) else .ok w

/-- The tag of a sum, R393; two addresses have none. -/
def sumTag (a b : Tag) : Option Tag :=
  if a = Tags.addr ∧ b = Tags.addr then none
  else if (a = Tags.addr ∧ b = Tags.int) ∨ (a = Tags.int ∧ b = Tags.addr) then some Tags.addr
  else some Tags.int

/-- The tag of a difference, R393; an integer minus an address has none. -/
def diffTag (a b : Tag) : Option Tag :=
  if a = Tags.int ∧ b = Tags.addr then none
  else if a = Tags.addr ∧ b = Tags.int then some Tags.addr
  else some Tags.int

/-- A result in a general register. -/
def resW (c : Core) (d : RegNo) (x : Word) : List RegWr := [.w (wKey c.pl d.toNat) x]
/-- A result in word k of a v register. -/
def resV (d : RegNo) (k : Nat) (x : Word) : RegWr := .v (4 * d.toNat + k) x
/-- A result in an f register, R380. -/
def resF (d : RegNo) (x : Word) : List RegWr := [resV d 0 x]

/-- A binary32 result word, R50. -/
def fpWord (x : Nat) : Word := ⟨Tags.fp, BitVec.ofNat 48 (x % 2 ^ 32)⟩
/-- A truth value, INT 1 or INT 0. -/
def boolWord (b : Bool) : Word := Word.int (if b then 1 else 0)

/-- The address of a base and a signed displacement in samples, modulo 2^48. -/
def addrOf (base : Payload) (disp : Int) : Nat := (base + BitVec.ofInt 48 disp).toNat

end Sys2Proof.Machine
end

