-- ==== Sys2Proof/Machine/LanternIssue.lean ====
section
/-! DEFINITION. Issuing a Lantern instruction: what holds it back, what every instruction checks, and its completion
or its exception (10 R387–R391, R399–R409, 11 R428–R444, 12 R465, R466, R478–R482). -/

namespace Sys2Proof.Machine

/-- What an instruction comes to. -/
inductive Out where
  | wait (s : State)
  | exc (e : Exc) (s : State)
  | done (e : Eff) (s : State)

/-- What every command of an instruction knows of it. -/
structure Shape where
  /-- Its size in samples: 2 or 4, R388. -/
  sz : Nat
  kind : Kind := {}
  /-- It may stand in a delay slot, R400 and R479. -/
  slotOk : Bool := true
  /-- The lowest level that executes it, R391. -/
  lvl : Level := .u
  /-- It ends a pending STAT change, R443. -/
  flush : Bool := false
  /-- It is a microcoded routine, R403, of this number: its exceptions are micro-traps, R266. -/
  routine : Option Nat := none
  deriving DecidableEq, Repr

/-! ### Completion -/

/-- The penalty of R434: six advancing cycles, behind which wrong-path instructions may have issued, R440. -/
def penalty (n : Nat) (s : State) : State :=
  let s := wrongPath n (s.bump (R.LANTERN_MISPCNT n) F.LANTERN_MISPCNT_MISPCNT)
  let c := s.core n
  let c := if c.slot0.isSome then c.endCycle else c
  s.setCore n (c.cycles 6)

/-- A core goes on at an address; `straight` says that it follows the instruction before it. -/
def Core.goOn (pc : Payload) (straight : Bool) (c : Core) : Core :=
  { c.stepBuf straight with
    pc := pc
    resume := none
    entered := none }

/-- An instruction of `sz` samples has completed: its result is in flight, and the next one is its sequential
successor, the loop's start (R405), or where the transfer before it leads (R399). -/
def complete (n sz : Nat) (k : Kind) (e : Eff) (s : State) : State :=
  let c := s.core n
  let t := (c.pc.toNat + sz) % 2 ^ 48
  match c.delay with
  | some d =>
    let r := c.issue k t (d.taken || d.penalty) e
    let c := { r.1.goOn (if d.taken then d.target else BitVec.ofNat 48 t) (!d.taken && !d.penalty) with delay := none }
    let s := countIssue n r.2 (s.setCore n c.countStat.atBound)
    if d.penalty then penalty n s else s
  | none =>
    let l := loopCheck t c.depth c
    let r := l.1.issue k t (c.endsActive t) e
    let c := r.1.goOn (BitVec.ofNat 48 l.2) true
    countIssue n r.2 (s.setCore n c.countStat.atBound)

/-! ### Issue -/

/-- The core may issue: nothing holds it back and no boundary takes a trap first, R465 and R466.
(DEDUCED, log entry 47.) -/
def State.mayIssue (s : State) (n : Nat) : Bool :=
  let c := s.core n
  !c.shut && !c.waiting && !s.heldAtTs n && (c.delay.isSome || !s.trapDue n)

/-- A delay slot that may not stand where it does: ILL at the branch, R400 and R479; the branch's link is as it was. -/
def illAtBranch (n : Nat) (d : DelaySlot) (s : State) : State :=
  let c := (s.core n).quiet
  let c := match d.old with
    | some w => c.putW 30 w
    | none => c
  let s1 := s.setCore n c
  trapTo n (excTrap n (excIll d.branch.toNat) d.branch false s1) s s1

/-- The sequential successor of the instruction at the PC. -/
def Core.seqNext (c : Core) (sz : Nat) : Nat := (c.pc.toNat + sz) % 2 ^ 48

/-- The checks of R388, R391 and R406. -/
def Shape.check (i : Shape) (c : Core) : Option Exc :=
  let pc := c.pc.toNat
  let ends : Bool := decide (0 < c.depth) && c.le (c.depth - 1) == c.seqNext i.sz
  if i.sz = 4 ∧ pc % 4 ≠ 0 then some (excIll pc)
  else if (i.kind.transfer || c.delay.isSome) && ends then some (excIll pc)
  else if lvlCode c.pl < lvlCode i.lvl then some (excPriv pc)
  else none

/-- An exception of an instruction that has issued, counted under R454; in a routine it is a micro-trap. -/
def instrExc (i : Shape) (n : Nat) (e : Exc) (s0 s : State) : State :=
  let s := countIssue n (s.core n).slot0.isSome s
  if i.routine.isSome then microExc n e s0 s else raiseExc n e s0 s

/-- The STAT changes that take effect before the instruction. -/
def Shape.takeStat (i : Shape) (c : Core) : Core := if i.flush then c.flushStat else c.dueStat

/-- The slot at the core's PC is annulled, R399. (DEDUCED, log entry 51.) -/
def Core.annulled (c : Core) : Bool :=
  match c.delay with
  | some d => d.annul
  | none => false

/-- An instruction of core n from its command: `go` does its work in the cycle in which it issues, `fin` completes
it. `early` is an IADDR that the registers alone give, which goes before every other cause, R460. -/
def issueWith (n : Nat) (i : Shape) {α : Type} (early : Core → Option Exc) (go : State → α)
    (fin : α → State → State) (s : State) : State :=
  let s1 := s.setCore n (i.takeStat (s.core n))
  let c := s1.core n
  if !s1.mayIssue n then s
  else if c.annulled then complete n i.sz i.kind {} (codeFreeze n (openCycle n i.kind s1))
  else match c.delay, i.slotOk with
    | some d, false => illAtBranch n d s1
    | _, _ =>
      let s2 := codeFreeze n (openCycle n i.kind s1)
      match early c, i.check c with
      | some e, _ => instrExc i n e s s2
      | none, some e => raiseExc n e s (countIssue n (s2.core n).slot0.isSome s2)
      | none, none => fin (go s2) s

/-- What an instruction's work leaves: it waits, it raises its exception, or it completes. -/
def Out.finish (n : Nat) (i : Shape) (o : Out) (s0 : State) : State :=
  match o with
  | .wait s => keepWaiting s0 s
  | .exc e s => instrExc i n e s0 s
  | .done e s => complete n i.sz i.kind e s

/-- No target is known from the registers. -/
def noEarly (_ : Core) : Option Exc := none

/-- IADDR at a target, R388. -/
def oddTarget (a : Nat) : Option Exc := if bit a 0 then some { code := 0x03, eval := a } else none

/-! ### Routines, R254 to R257 and R268 -/

/-- A core's routine: from where the core resumes it, or from its first microword. -/
def State.microcode (s : State) (n r : Nat) : UcRun × State :=
  match (s.core n).resume with
  | some m => runFrom (.lantern n) r m.1 s
  | none => runRoutine (.lantern n) r s

/-- A register that a patched routine writes, by number: a general register, an element word, or SSP, FPCFG, LOOPST
and the loop registers. -/
def microWrite (k : Nat) (w : Word) (c : Core) : Core :=
  if k % 256 < 34 then c.putW (k % 256) w
  else if k % 256 < 162 then { c with v := tset (fun _ => Word.uni0) c.v (k % 256 - 34) w }
  else c.setSr ([19, 20, 21, 24, 25, 26, 27, 28, 29, 30, 31, 32, 33, 34, 35].getD (k % 15) 19) w.pay.toNat

/-- A word that a patched routine stores; one that would fault or wait is not stored. -/
def microStore (n a : Nat) (w : Word) (s : State) : State :=
  match translate n .store (a / 4 * 4) s with
  | .ok p s => match storeWord n p (BitVec.ofNat 48 (a / 4 * 4)) w s with
    | .got _ s => s
    | .wait _ => s
  | _ => s

/-- What a patched routine does: registers and words that are free. (DESIGN CHOICE, log entry 15.) -/
def microEffect (n : Nat) (s : State) : State :=
  let word (x : BitVec 52) : Word := ⟨x.extractLsb' 48 4, x.extractLsb' 0 48⟩
  let c := (Config.microRegs s.fresh).foldl (fun c x => microWrite x.1 (word x.2) c) (s.core n)
  let l := Config.microStores s.fresh
  l.foldl (fun s x => microStore n x.1.toNat (word x.2) s) ({ s with fresh := s.fresh + 1 }.setCore n { c with resume := none })

/-- An instruction's work, which in a routine is what its microwords make it. -/
def microOut (n : Nat) (i : Shape) (go : State → Out) (s : State) : Out :=
  match i.routine with
  | none => go s
  | some r => match s.microcode n r with
    | (.rom, s) => go s
    | (.patched, s) => .done {} (microEffect n s)
    | (.fault a, s) => .exc (excMicro a) (logMicroFault false a s)

/-- An instruction that is no transfer. -/
def runInstr (n : Nat) (i : Shape) (go : State → Out) (s : State) : State :=
  issueWith n i noEarly (microOut n i go) (Out.finish n i) s

/-- An instruction that reads and writes registers alone. -/
def runReg (n : Nat) (i : Shape) (go : Core → Chk Eff) (s : State) : State :=
  runInstr n i (fun s => match go (s.core n) with
    | .ok e => .done e s
    | .error e => .exc e s) s

/-! ### Transfers, R399 to R402 and R434 -/

/-- Where a transfer goes: after its delay slot, or at once. -/
inductive Jump where
  | slot (d : DelaySlot)
  | go (target : Payload) (pen : Bool)
  deriving DecidableEq, Repr

/-- What a transfer comes to; its prediction is in the state. -/
inductive TOut where
  | wait (s : State)
  | exc (e : Exc) (s : State)
  | done (e : Eff) (j : Jump) (s : State)

/-- A transfer that resolves without a prediction to judge, R437. -/
def Branch.plain : Branch := ⟨6, none, false, true, false, ⟨0, 0, none⟩⟩

/-- Every transfer resolves six advancing cycles after it issues: one that was not predicted joins the others. -/
def Core.noteTransfer (c : Core) : Core :=
  if c.branches.any fun b => b.left == 6 then c else { c with branches := c.branches ++ [Branch.plain] }

/-- A transfer has completed. -/
def completeJump (n sz : Nat) (k : Kind) (e : Eff) (j : Jump) (s : State) : State :=
  let c := (s.core n).noteTransfer
  let t := c.seqNext sz
  let r := c.issue k t false e
  match j with
  | .slot d =>
    let c := { r.1.countStat.stepBuf true with
      pc := BitVec.ofNat 48 t
      delay := some d
      entered := none }
    countIssue n r.2 (s.setCore n c)
  | .go target pen =>
    let c := r.1.countStat.atBound.goOn target false
    let s := countIssue n r.2 (s.setCore n c)
    if pen then penalty n s else s

/-- What a transfer's work leaves. -/
def TOut.finish (n : Nat) (i : Shape) (o : TOut) (s0 : State) : State :=
  match o with
  | .wait s => keepWaiting s0 s
  | .exc e s => instrExc i n e s0 s
  | .done e j s => completeJump n i.sz i.kind e j s

/-- A transfer's work, which in a routine is what its microwords make it. -/
def microJumpOut (n : Nat) (i : Shape) (go : State → TOut) (s : State) : TOut :=
  match i.routine with
  | none => go s
  | some r => match s.microcode n r with
    | (.rom, s) => go s
    | (.patched, s) =>
      let x := s.freeNat
      .done {} (.go (BitVec.ofNat 48 (2 * x.1)) false) (microEffect n x.2)
    | (.fault a, s) => .exc (excMicro a) (logMicroFault false a s)

/-- A transfer from its command. -/
def runJump (n : Nat) (i : Shape) (early : Core → Option Exc) (go : State → TOut) (s : State) : State :=
  issueWith n i early (microJumpOut n i go) (TOut.finish n i) s

end Sys2Proof.Machine
end

