-- ==== Sys2Proof/Machine/LanternLs.lean ====
section
/-! DEFINITION. Loads, stores, sample accesses, atomics and cache maintenance of the Lantern cores (10 R382, R396,
R397, 02 R36–R38, R43, R60–R66, 12 R484 and R485). -/

namespace Sys2Proof.Machine

/-- A 24-bit memory instruction. -/
def mem24 : Shape := { sz := 2, kind := { unit := .mem } }
/-- A 48-bit memory instruction. -/
def mem48 : Shape := { sz := 4, kind := { unit := .mem } }

/-! ### Addresses -/

/-- The effective address of a base register and a displacement in samples, R38. -/
def baseAddr (c : Core) (a : RegNo) (disp : Int) : Chk Nat := do
  let p ← operand addrTags 0 (c.getW a)
  return addrOf p disp

/-- The effective address of an indexed access, wa + 4 × wb. -/
def indexAddr (c : Core) (a b : RegNo) : Chk Nat := do
  let p ← operand addrTags 0 (c.getW a)
  let q ← operand intTags 1 (c.getW b)
  return (p + 4 * q).toNat

/-- The short absolute address bN ‖ A, R382. -/
def bankAddr (c : Core) (bk : BitVec 3) (ad : BitVec 16) : Nat := (c.getB bk.toNat).toNat * 0x10000 + ad.toNat

/-- A misaligned word access, R60. -/
def excAlign (e : Nat) : Exc := { code := 0x06, eval := e }

/-- An access refused, R484. -/
def busExc (e : Nat) (r : Ans) : Option Exc := if r.st = .ok then none else some (excBus e r.st false)

/-! ### Loads -/

/-- A word read at a virtual address for a load, R484 and R37. -/
inductive LoadOut where
  | wait (s : State)
  | exc (e : Exc) (s : State)
  | got (w : Word) (s : State)

/-- The word that holds a sample address, translated as a load. -/
def loadAt (n : Nat) (k : AccKind) (e : Nat) (s : State) : LoadOut :=
  match translate n k e s with
  | .wait s => .wait s
  | .exc x s => .exc x s
  | .ok p s => match loadWord n { p with a := p.a / 4 * 4 } s with
    | .wait s => .wait s
    | .got r s => match busExc e r with
      | some x => .exc x s
      | none => .got r.w s

/-- A word load, R396. -/
def loadInstr (n : Nat) (d : RegNo) (addr : Chk Nat) (s : State) : Out :=
  match addr with
  | .error x => .exc x s
  | .ok e =>
    if e % 4 ≠ 0 then .exc (excAlign e) s
    else match loadAt n .load e s with
      | .wait s => .wait s
      | .exc x s => .exc x s
      | .got w s =>
        if w.tag.reserved then .exc (excMemTag e w.tag) s
        else .done { writes := resW (s.core n) d w, dist := 3 } s

/-- A sample load, R61. -/
def sampleLoad (n : Nat) (sgn : Bool) (d : RegNo) (addr : Chk Nat) (s : State) : Out :=
  match addr with
  | .error x => .exc x s
  | .ok e => match loadAt n .load e s with
    | .wait s => .wait s
    | .exc x s => .exc x s
    | .got w s =>
      if w.tag ≠ Tags.quad then .exc (excMemTag e w.tag) s
      else
        let v : BitVec 12 := BitVec.ofNat 12 (bits w.pay.toNat (12 * (e % 4)) 12)
        let x : Payload := if sgn then v.signExtend 48 else v.setWidth 48
        .done { writes := resW (s.core n) d (Word.int x), dist := 3 } s

/-! ### Stores -/

/-- A word stored at a virtual address by an instruction of `sz` samples. -/
def storeInstr (n sz : Nat) (w : Word) (addr : Chk Nat) (s : State) : Out :=
  match addr with
  | .error x => .exc x s
  | .ok e =>
    if e % 4 ≠ 0 then .exc (excAlign e) s
    else match translate n .store e s with
      | .wait s => .wait s
      | .exc x s => .exc x s
      | .ok p s => match storeWord n p (BitVec.ofNat 48 e) w (storing n sz s) with
        | .wait s => .wait s
        | .got _ s => .done {} s

/-- The tag that refused an access: the one found; RAW where the word is a register (R682); else it is not stated and
free. -/
def refusedTag (a : Nat) (r : Ans) (s : State) : Tag × State :=
  match r.found with
  | some t => (t, s)
  | none => match targetOf a with
    | .reg | .trav | .evc | .sec | .cairn => (Tags.raw, s)
    | _ => let x := s.freeNat; (BitVec.ofNat 4 x.1, x.2)

/-- What a sample store answers, R62, R63 and R484. -/
def sampleStored (e : Nat) (a : Nat) (r : Ans) (s : State) : Out :=
  match r.st with
  | .ok => .done {} s
  | .tref => let t := refusedTag a r s; .exc (excMemTag e t.1) t.2
  | .uncor => .exc { code := 0x11, eval := e } s
  | st => .exc (excBus e st false) s

/-- A sample store, R62: the operand number of a tag fault in its source, which R459 does not list, is free.
(DESIGN CHOICE, log entry 48.) -/
def sampleStore (n : Nat) (w : Word) (addr : Chk Nat) (s : State) : Out :=
  let x := s.freeNat
  match operand intTags (x.1 % 8) w, addr with
  | .error x', _ => .exc x' x.2
  | _, .error x' => .exc x' s
  | .ok v, .ok e => match translate n .rmw e s with
    | .wait s => .wait s
    | .exc x s => .exc x s
    | .ok p s => match storeSample n p (v.setWidth 12) (storing n 4 s) with
      | .wait s => .wait s
      | .got r s => sampleStored e p.a r s

/-! ### Four words, R396 -/

/-- The addresses of four words. -/
def fourAddrs (e : Nat) : List Nat := (List.range 4).map fun i => (e + 4 * i) % 2 ^ 48

/-- What translating several addresses comes to. -/
inductive Trs where
  | wait (s : State)
  | exc (e : Exc) (s : State)
  | ok (ps : List Path) (s : State)

/-- Every address translated, in order. -/
def translateEach (n : Nat) (k : AccKind) : List Nat → State → Trs
  | [], s => .ok [] s
  | e :: es, s => match translate n k e s with
    | .wait s => .wait s
    | .exc x s => .exc x s
    | .ok p s => match translateEach n k es s with
      | .ok ps s => .ok (p :: ps) s
      | r => r

/-- The cause of an access that no TLB entry or no window grants, R460: ADDRF, then a miss, then a permission. -/
def accessRank (e : Exc) : Nat := if e.code = 0x07 then 0 else if e.code = 0x0B then 2 else 1

/-- What translating an address meets before any update is sent. -/
def State.accessExc (s : State) (n : Nat) (k : AccKind) (va : Nat) : Option Exc :=
  let c := s.core n
  if c.te then
    match tlbFind c.tlb va with
    | none => some (excMiss k c.rfl' va)
    | some i =>
      let pte := (tlbAt c.tlb i).pte.toNat
      if levelGrants c.pl c.sg pte && k.granted pte then none else some (excProt k va)
  else match untranslated n k va s with
    | .exc e _ => some e
    | _ => none

/-- The first cause in R460's order, and of one cause that of the first word. -/
def firstExc : List Exc → Option Exc
  | [] => none
  | e :: es => match firstExc es with
    | some x => if accessRank x < accessRank e then some x else some e
    | none => some e

/-- The addresses of one instruction's words translated and checked: the causes in R460's order over all words. -/
def translateAll (n : Nat) (k : AccKind) (es : List Nat) (s : State) : Trs :=
  match firstExc (es.filterMap (s.accessExc n k)) with
  | some x => .exc x s
  | none => translateEach n k es s

/-- What loading several words comes to. -/
inductive Loads where
  | wait (s : State)
  | exc (e : Exc) (s : State)
  | got (ws : List Word) (s : State)

/-- Words loaded in order, each checked as LW checks it. -/
def loadAll (n : Nat) : List (Nat × Path) → State → Loads
  | [], s => .got [] s
  | (e, p) :: ps, s => match loadWord n p s with
    | .wait s => .wait s
    | .got r s => match busExc e r with
      | some x => .exc x s
      | none =>
        if r.w.tag.reserved then .exc (excMemTag e r.w.tag) s
        else match loadAll n ps s with
          | .got ws s => .got (r.w :: ws) s
          | o => o

/-- A word stored with its response awaited, R484 and R485. -/
def storeSync (n : Nat) (p : Path) (va : Payload) (w : Word) (s : State) : Got Unit :=
  if p.se ∧ ¬ (s.core n).det ∧ s.ownResponses n then .wait s
  else match storeNow n p w s with
    | .wait s => .wait s
    | .got st s => .got () (noteStoreError n va st s)

/-- Words stored in order, each by `f`. -/
def storeEach (f : Path → Payload → Word → State → Got Unit) : List (Nat × Path × Word) → State → Got Unit
  | [], s => .got () s
  | (e, p, w) :: ps, s => match f p (BitVec.ofNat 48 e) w s with
    | .wait s => .wait s
    | .got _ s => storeEach f ps s

/-- The words of one instruction stored in order; where one lies on an SE page each awaits the response of the one
before it. (DEDUCED, log entry 38.) -/
def storeAll (n : Nat) (ps : List (Nat × Path × Word)) (s : State) : Got Unit :=
  storeEach (if ps.any fun x => x.2.1.se then storeSync n else storeWord n) ps s

/-- VLD. -/
def vldInstr (n : Nat) (d : RegNo) (addr : Chk Nat) (s : State) : Out :=
  match addr with
  | .error x => .exc x s
  | .ok e =>
    if e % 4 ≠ 0 then .exc (excAlign e) s
    else match translateAll n .load (fourAddrs e) s with
      | .wait s => .wait s
      | .exc x s => .exc x s
      | .ok ps s => match loadAll n ((fourAddrs e).zip ps) s with
        | .wait s => .wait s
        | .exc x s => .exc x s
        | .got ws s => .done { writes := ws.mapIdx fun i w => resV d i w, dist := 3 } s

/-- VST. -/
def vstInstr (n : Nat) (d : RegNo) (addr : Chk Nat) (s : State) : Out :=
  match addr with
  | .error x => .exc x s
  | .ok e =>
    if e % 4 ≠ 0 then .exc (excAlign e) s
    else match translateAll n .store (fourAddrs e) s with
      | .wait s => .wait s
      | .exc x s => .exc x s
      | .ok ps s =>
        let ws := (List.range 4).map fun i => (s.core n).getV d i
        match storeAll n ((fourAddrs e).zip (ps.zip ws)) (storing n 4 s) with
        | .wait s => .wait s
        | .got _ s => .done {} s

/-! ### Atomics, R396 -/

/-- An atomic instruction: the old word lands three advancing cycles after the freeze ends, R426; niche memory freezes
nothing. -/
def atomicInstr (n : Nat) (d : RegNo) (addr : Chk Nat) (op : Chk JOp) (s : State) : Out :=
  match addr, op with
  | .error x, _ => .exc x s
  | _, .error x => .exc x s
  | .ok e, .ok op =>
    if e % 4 ≠ 0 then .exc (excAlign e) s
    else match translate n .rmw e s with
      | .wait s => .wait s
      | .exc x s => .exc x s
      | .ok p s => match atomicOp n p op (storing n 4 s) with
        | .wait s => .wait s
        | .got r s =>
          if r.st = .ok then .done { writes := resW (s.core n) d r.w, dist := if p.niche then 3 else 4 } s
          else match r.st, r.found with
            | .tref, some t => .exc (excMemTag e t) s
            | st, _ => .exc (excBus e st false) s

/-! ### Cache maintenance, R397 -/

/-- The line discarded in the issuing core's L1D and its cluster's L2. -/
def discardLine (n a : Nat) (s : State) : State := putL2 n a none (putL1 n a none s)

/-- The line of an address has dirty words in the cluster's L2. -/
def State.dirtyLine (s : State) (n a : Nat) : Bool :=
  match s.l2Line n a with
  | some l => l.dirty.any id
  | none => false

/-- The line's dirty words written back where `clean`, during which the core is frozen (R423), and the line discarded
where `inval`. (DEDUCED, log entry 38.) -/
def maintain (n : Nat) (clean inval : Bool) (a : Nat) (s : State) : Got Unit :=
  match drainAll n s with
  | .wait s => .wait s
  | .got _ s => match (if clean then cleanLine n a (if s.dirtyLine n a then freeze n s else s) else Got.got () s) with
    | .wait s => .wait s
    | .got _ s => .got () (if inval then discardLine n a s else s)

/-- A maintenance instruction on the granule of an address. -/
def cacheInstr (n : Nat) (clean inval : Bool) (addr : Chk Nat) (s : State) : Out :=
  match addr with
  | .error x => .exc x s
  | .ok e => match translate n (if clean then .clean else .inval) e s with
    | .wait s => .wait s
    | .exc x s => .exc x s
    | .ok p s =>
      if !p.cached then .done {} s
      else match maintain n clean inval p.a s with
        | .wait s => .wait s
        | .got _ s => .done {} s

/-! ### Rows -/

/-- A memory instruction whose address its registers give. -/
def memRow (n : Fin 16) (i : Shape) (addr : Core → Chk Nat) (go : Chk Nat → State → Out) (s : State) : Res :=
  ok (runInstr n i (fun s => go (addr (s.core n)) s) s)

/-- R391, R392 and R396. -/
def execLw (n : Fin 16) (f : MemForm) (s : State) : Res :=
  match f with
  | .short d a disp => memRow n mem24 (fun c => baseAddr c a (4 * disp.toNat)) (loadInstr n d) s
  | .long d a disp => memRow n mem48 (fun c => baseAddr c a disp.toInt) (loadInstr n d) s

/-- R391, R392 and R396. -/
def execSw (n : Fin 16) (f : MemForm) (s : State) : Res :=
  match f with
  | .short d a disp =>
    memRow n mem24 (fun c => baseAddr c a (4 * disp.toNat)) (fun e s => storeInstr n 2 ((s.core n).getW d) e s) s
  | .long d a disp =>
    memRow n mem48 (fun c => baseAddr c a disp.toInt) (fun e s => storeInstr n 4 ((s.core n).getW d) e s) s

/-- R396. -/
def execLwx (n : Fin 16) (d a b : RegNo) (s : State) : Res := memRow n mem48 (indexAddr · a b) (loadInstr n d) s
/-- R396. -/
def execSwx (n : Fin 16) (d a b : RegNo) (s : State) : Res :=
  memRow n mem48 (indexAddr · a b) (fun e s => storeInstr n 4 ((s.core n).getW d) e s) s
/-- R382 and R396. -/
def execLwb (n : Fin 16) (d : RegNo) (bk : BitVec 3) (ad : BitVec 16) (s : State) : Res :=
  memRow n mem48 (fun c => .ok (bankAddr c bk ad)) (loadInstr n d) s
/-- R382 and R396. -/
def execSwb (n : Fin 16) (d : RegNo) (bk : BitVec 3) (ad : BitVec 16) (s : State) : Res :=
  memRow n mem48 (fun c => .ok (bankAddr c bk ad)) (fun e s => storeInstr n 4 ((s.core n).getW d) e s) s
/-- R61. -/
def execLsu (n : Fin 16) (d a : RegNo) (imm : BitVec 24) (s : State) : Res :=
  memRow n mem48 (baseAddr · a imm.toInt) (sampleLoad n false d) s
/-- R61. -/
def execLss (n : Fin 16) (d a : RegNo) (imm : BitVec 24) (s : State) : Res :=
  memRow n mem48 (baseAddr · a imm.toInt) (sampleLoad n true d) s
/-- R61 and R382. -/
def execLsub (n : Fin 16) (d : RegNo) (bk : BitVec 3) (ad : BitVec 16) (s : State) : Res :=
  memRow n mem48 (fun c => .ok (bankAddr c bk ad)) (sampleLoad n false d) s
/-- R62 to R64. -/
def execSs (n : Fin 16) (d a : RegNo) (imm : BitVec 24) (s : State) : Res :=
  memRow n mem48 (baseAddr · a imm.toInt) (fun e s => sampleStore n ((s.core n).getW d) e s) s
/-- R62 to R64 and R382. -/
def execSsb (n : Fin 16) (d : RegNo) (bk : BitVec 3) (ad : BitVec 16) (s : State) : Res :=
  memRow n mem48 (fun c => .ok (bankAddr c bk ad)) (fun e s => sampleStore n ((s.core n).getW d) e s) s
/-- R396. -/
def execVld (n : Fin 16) (d a : RegNo) (imm : BitVec 24) (s : State) : Res :=
  memRow n mem48 (baseAddr · a imm.toInt) (vldInstr n d) s
/-- R396. -/
def execVst (n : Fin 16) (d a : RegNo) (imm : BitVec 24) (s : State) : Res :=
  memRow n mem48 (baseAddr · a imm.toInt) (vstInstr n d) s

/-- R396: wb is added. -/
def execAmoadd (n : Fin 16) (d a b : RegNo) (s : State) : Res :=
  memRow n mem48 (baseAddr · a 0) (fun e s =>
    atomicInstr n d e (do return .fadd (← operand intTags 1 ((s.core n).getW b))) s) s
/-- R396. -/
def execAmoswp (n : Fin 16) (d a b : RegNo) (s : State) : Res :=
  memRow n mem48 (baseAddr · a 0) (fun e s => atomicInstr n d e (.ok (.swap ((s.core n).getW b))) s) s
/-- R396. -/
def execAmocas (n : Fin 16) (d a b e : RegNo) (s : State) : Res :=
  memRow n mem48 (baseAddr · a 0) (fun x s =>
    atomicInstr n d x (.ok (.cas ((s.core n).getW b) ((s.core n).getW e))) s) s

/-- R397. -/
def execDclean (n : Fin 16) (a : RegNo) (s : State) : Res :=
  memRow n mem24 (baseAddr · a 0) (cacheInstr n true false) s
/-- R397. -/
def execDinv (n : Fin 16) (a : RegNo) (s : State) : Res := memRow n mem24 (baseAddr · a 0) (cacheInstr n false true) s
/-- R397. -/
def execDclinv (n : Fin 16) (a : RegNo) (s : State) : Res :=
  memRow n mem24 (baseAddr · a 0) (cacheInstr n true true) s

end Sys2Proof.Machine
end

