-- ==== Sys2Proof/Machine/LanternFlow.lean ====
section
/-! DEFINITION. Branches, jumps, CALL and RET, and hardware loops of the Lantern cores (10 R399–R409, 11 R434–R439,
12 R475–R480). -/

namespace Sys2Proof.Machine

/-! ### Prediction, R434 to R439 -/

/-- A push on the return stack: the oldest of 16 is discarded. -/
def Core.pushRas (c : Core) (a : Payload) : Core := { c with ras := (a :: c.ras).take 16 }

/-- A transfer to be resolved 6 advancing cycles after it issues. -/
def Core.willResolve (c : Core) (b : Branch) : Core := { c with branches := c.branches ++ [b] }

/-- A conditional branch predicted: the core, and whether the branch carries the penalty.
(DESIGN CHOICE, log entry 52.) -/
def Core.predict (c : Core) (taken : Bool) : Core × Bool :=
  if c.pbar ≠ 0 then ({ c with pbar := c.pbar - 1 }, taken)
  else if c.det then (c, taken)
  else
    let i := xorN (bits c.pc.toNat 1 13) c.gh
    let p : Bool := decide (2 ≤ c.counter i)
    let b : Branch := ⟨6, some i, true, taken, p != taken, c.checkpoint⟩
    ({ c.willResolve b with gh := (2 * c.gh + b2n p) % 8192 }, p != taken)

/-- A return-stack prediction: the core, and whether the transfer carries the penalty. An empty stack predicts the
sequential address, which is taken to be wrong, R434. -/
def Core.popRas (c : Core) (target : Payload) : Core × Bool :=
  let c' := { c with ras := c.ras.drop 1 }
  let wrong := c.ras.head? != some target
  (c'.willResolve ⟨6, none, false, true, wrong, c'.checkpoint⟩, wrong)

/-- A jump through a register predicted, R436: only JR on w30 pops. -/
def Core.predictJump (c : Core) (link : Bool) (a : RegNo) (ret target : Payload) : Core × Bool :=
  if c.pbar ≠ 0 then ({ c with pbar := c.pbar - 1 }, true)
  else if c.det then (c, true)
  else if link then (c.pushRas ret, true)
  else if a = 30 then c.popRas target
  else (c, true)

/-! ### Branches with a delay slot, R399 -/

/-- A 24-bit branch. -/
def br24 : Shape := { sz := 2, kind := { unit := .branch, transfer := true }, slotOk := false }
/-- A 48-bit branch. -/
def br48 : Shape := { sz := 4, kind := { unit := .branch, transfer := true }, slotOk := false }

/-- The address of a displacement counted in units of two samples, R390. -/
def Core.dispTarget (c : Core) {w : Nat} (d : BitVec w) : Payload := c.pc + 2 * d.signExtend 48

/-- The return address of a jump with a delay slot: that of the instruction after the slot. The slot's size is not
known before it is fetched: the link is written with the address after a slot of `slotSz` samples. -/
def Core.linkAddr (c : Core) (sz slotSz : Nat) : Payload := BitVec.ofNat 48 (c.seqNext sz + slotSz)

/-- A conditional branch: `annulForm` is the form that ends in .A. -/
def condBranch (n : Fin 16) (i : Shape) (annulForm : Bool) (target : Core → Payload) (cond : Core → Chk Bool)
    (s : State) : Res :=
  ok (runJump n i noEarly (fun s =>
    let c := s.core n
    match cond c with
    | .error e => .exc e s
    | .ok taken =>
      let r := c.predict taken
      let d : DelaySlot := ⟨c.pc, target c, taken, annulForm && !taken, r.2, none⟩
      .done {} (.slot d) (s.setCore n r.1)) s)

/-- A condition on one register against zero. -/
def condZ (ok : List Tag) (a : RegNo) (f : Payload → Bool) (c : Core) : Chk Bool := do
  return f (← operand ok 0 (c.getW a))

/-- A condition on two registers. -/
def cond2 (ok : List Tag) (a b : RegNo) (f : Payload → Payload → Bool) (c : Core) : Chk Bool := do
  let x ← operand ok 0 (c.getW a)
  let y ← operand ok 1 (c.getW b)
  return f x y

/-- A branch of the 24-bit set. -/
def bz (n : Fin 16) (an : Bool) (ok : List Tag) (f : Payload → Bool) (a : RegNo) (disp : BitVec 10) (s : State) : Res :=
  condBranch n br24 an (·.dispTarget disp) (condZ ok a f) s

/-- A branch of the 48-bit set. -/
def bcc (n : Fin 16) (an : Bool) (ok : List Tag) (f : Payload → Payload → Bool) (a b : RegNo) (disp : BitVec 29)
    (s : State) : Res :=
  condBranch n br48 an (·.dispTarget disp) (cond2 ok a b f) s

/-- A branch that is always taken; with `link` it writes w30 and pushes the return stack. -/
def jumpTo (n : Fin 16) (i : Shape) (link : Bool) (target : Core → Payload) (slotSz : Nat) (s : State) : Res :=
  ok (runJump n i noEarly (fun s =>
    let c := s.core n
    let ret := c.linkAddr i.sz slotSz
    let c' := if link && !c.det then c.pushRas ret else c
    let d : DelaySlot := ⟨c.pc, target c, true, false, c.det, if link then some (c.wAt 30) else none⟩
    .done { writes := if link then [.w 30 (Word.addr ret)] else [] } (.slot d) (s.setCore n c')) s)

/-- A jump through a register, which must be even and carry ADDR, R388, R39 and R399. -/
def jumpReg (n : Fin 16) (link : Bool) (a : RegNo) (slotSz : Nat) (s : State) : Res :=
  ok (runJump n br24 (fun c => oddTarget (c.getW a).pay.toNat) (fun s =>
    let c := s.core n
    let x := c.getW a
    if link ∧ a = 30 then .exc (excIll c.pc.toNat) s
    else if x.tag ≠ Tags.addr then .exc (excTag 0 x.tag) s
    else
      let ret := c.linkAddr 2 slotSz
      let r := c.predictJump link a ret x.pay
      let d : DelaySlot := ⟨c.pc, x.pay, true, false, r.2, if link then some (c.wAt 30) else none⟩
      .done { writes := if link then [.w 30 (Word.addr ret)] else [] } (.slot d) (s.setCore n r.1)) s)

/-- R391 and R399. -/
def execB (n : Fin 16) (disp : BitVec 15) (s : State) : Res := jumpTo n br24 false (·.dispTarget disp) 0 s
/-- R392 and R399. -/
def execJ (n : Fin 16) (disp : BitVec 29) (s : State) : Res := jumpTo n br48 false (·.dispTarget disp) 0 s
/-- R391, R392 and R399: `slot48` says that the delay slot holds a 48-bit instruction. -/
def execJal (n : Fin 16) (f : JalForm) (slot48 : Bool) (s : State) : Res :=
  let k := if slot48 then 4 else 2
  match f with
  | .short disp => jumpTo n br24 true (·.dispTarget disp) k s
  | .long disp => jumpTo n br48 true (·.dispTarget disp) k s
/-- R399. -/
def execJr (n : Fin 16) (a : RegNo) (s : State) : Res := jumpReg n false a 0 s
/-- R399 and R480: `slot48` says that the delay slot holds a 48-bit instruction. -/
def execJalr (n : Fin 16) (a : RegNo) (slot48 : Bool) (s : State) : Res := jumpReg n true a (if slot48 then 4 else 2) s

/-- wa = 0. -/
def isZero (x : Payload) : Bool := x == 0
/-- wa < 0. -/
def isNeg (x : Payload) : Bool := x.msb

/-- R391 and R393. -/
def execBz (n : Fin 16) (a : RegNo) (disp : BitVec 10) (s : State) : Res := bz n false wordTags isZero a disp s
/-- R391 and R393. -/
def execBzA (n : Fin 16) (a : RegNo) (disp : BitVec 10) (s : State) : Res := bz n true wordTags isZero a disp s
/-- R391 and R393. -/
def execBnz (n : Fin 16) (a : RegNo) (disp : BitVec 10) (s : State) : Res := bz n false wordTags (!isZero ·) a disp s
/-- R391 and R393. -/
def execBnzA (n : Fin 16) (a : RegNo) (disp : BitVec 10) (s : State) : Res := bz n true wordTags (!isZero ·) a disp s
/-- R391 and R393. -/
def execBltz (n : Fin 16) (a : RegNo) (disp : BitVec 10) (s : State) : Res := bz n false intTags isNeg a disp s
/-- R391 and R393. -/
def execBltzA (n : Fin 16) (a : RegNo) (disp : BitVec 10) (s : State) : Res := bz n true intTags isNeg a disp s
/-- R391 and R393. -/
def execBgez (n : Fin 16) (a : RegNo) (disp : BitVec 10) (s : State) : Res := bz n false intTags (!isNeg ·) a disp s
/-- R391 and R393. -/
def execBgezA (n : Fin 16) (a : RegNo) (disp : BitVec 10) (s : State) : Res := bz n true intTags (!isNeg ·) a disp s
/-- R392 and R393. -/
def execBeq (n : Fin 16) (a b : RegNo) (disp : BitVec 29) (s : State) : Res := bcc n false wordTags (· == ·) a b disp s
/-- R392 and R393. -/
def execBeqA (n : Fin 16) (a b : RegNo) (disp : BitVec 29) (s : State) : Res := bcc n true wordTags (· == ·) a b disp s
/-- R392 and R393. -/
def execBne (n : Fin 16) (a b : RegNo) (disp : BitVec 29) (s : State) : Res := bcc n false wordTags (· != ·) a b disp s
/-- R392 and R393. -/
def execBneA (n : Fin 16) (a b : RegNo) (disp : BitVec 29) (s : State) : Res := bcc n true wordTags (· != ·) a b disp s
/-- R392 and R393. -/
def execBlt (n : Fin 16) (a b : RegNo) (disp : BitVec 29) (s : State) : Res := bcc n false intTags BitVec.slt a b disp s
/-- R392 and R393. -/
def execBltA (n : Fin 16) (a b : RegNo) (disp : BitVec 29) (s : State) : Res := bcc n true intTags BitVec.slt a b disp s
/-- R392 and R393. -/
def execBge (n : Fin 16) (a b : RegNo) (disp : BitVec 29) (s : State) : Res :=
  bcc n false intTags (fun x y => !x.slt y) a b disp s
/-- R392 and R393. -/
def execBgeA (n : Fin 16) (a b : RegNo) (disp : BitVec 29) (s : State) : Res :=
  bcc n true intTags (fun x y => !x.slt y) a b disp s
/-- R392 and R393. -/
def execBltu (n : Fin 16) (a b : RegNo) (disp : BitVec 29) (s : State) : Res :=
  bcc n false wordTags BitVec.ult a b disp s
/-- R392 and R393. -/
def execBltuA (n : Fin 16) (a b : RegNo) (disp : BitVec 29) (s : State) : Res :=
  bcc n true wordTags BitVec.ult a b disp s
/-- R392 and R393. -/
def execBgeu (n : Fin 16) (a b : RegNo) (disp : BitVec 29) (s : State) : Res :=
  bcc n false wordTags (fun x y => !x.ult y) a b disp s
/-- R392 and R393. -/
def execBgeuA (n : Fin 16) (a b : RegNo) (disp : BitVec 29) (s : State) : Res :=
  bcc n true wordTags (fun x y => !x.ult y) a b disp s

/-! ### CALL and RET, R401 to R403 -/

/-- A 48-bit microcoded transfer without a delay slot. -/
def call48 : Shape :=
  { sz := 4, kind := { unit := .mem, alone := true, transfer := true }, slotOk := false, routine := some 1 }
/-- RET. -/
def ret24 : Shape :=
  { sz := 2, kind := { unit := .mem, alone := true, transfer := true }, slotOk := false, routine := some 2 }

/-- The registers that a MASK selects, in order. -/
def maskRegs (mask : Nat) : List Nat := ((List.range 16).filter (bit mask)).map (14 + ·)

/-- The SEAL entry of a return address, R477. -/
def sealWord (ret : Payload) (lv : Level) : Word :=
  ⟨Tags.sealT, BitVec.ofNat 48 (ret.toNat / 2 * 2 + b2n (lv != .u))⟩

/-- Consecutive word addresses from `a`. -/
def wordAddrs (a k : Nat) : List Nat := (List.range k).map fun i => (a + 4 * i) % 2 ^ 48

/-- The stores of a routine from one on: it waits, one of them raises an exception with the stores before it made, or
all are made. -/
inductive Seq where
  | wait (s : State)
  | exc (e : Exc) (at_ : Nat) (s : State)
  | done (s : State)

/-- One word stored by a microword. -/
def seqStore (n : Nat) (k : AccKind) (a : Nat) (w : Word) (s : State) : Out :=
  if a % 4 ≠ 0 then .exc (excAlign a) s
  else match translate n k a s with
    | .wait s => .wait s
    | .exc x s => .exc x s
    | .ok p s => match (if p.se then storeSync n p (BitVec.ofNat 48 a) w s else storeWord n p (BitVec.ofNat 48 a) w s) with
      | .wait s => .wait s
      | .got _ s => .done {} s

/-- The stores of a routine, in order, R269; `at_` is how many were made before one that fails. -/
def seqStores (n : Nat) : List (AccKind × Nat × Word) → Nat → State → Seq
  | [], _, s => .done s
  | (k, a, w) :: l, i, s => match seqStore n k a w s with
    | .wait s => .wait s
    | .exc x s => .exc x i s
    | .done _ s => seqStores n l (i + 1) s

/-- The stores of CALL, R401: the frame at `a`, then the SEAL entry. -/
def callStores (c : Core) (a ssp mask : Nat) (ret : Payload) : List (AccKind × Nat × Word) :=
  let frame := [Word.addr ret, Word.int (BitVec.ofNat 48 mask)] ++ (maskRegs mask).map fun r => c.wAt r
  ((wordAddrs a frame.length).zip frame).map (fun x => (AccKind.store, x.1, x.2)) ++ [(.sealWr, ssp, sealWord ret c.pl)]

/-- The micro-temporaries of CALL before store `i` of its stores: MT0 the address of the next stack word, MT1 the mask
bits still to be stored. (DESIGN CHOICE, log entry 95.) -/
def callTemps (a mask i : Nat) : Word × Word :=
  let left := (maskRegs mask).drop (i - 2)
  (Word.addr (BitVec.ofNat 48 (a + 4 * min i ((maskRegs mask).length + 2))),
    Word.int (BitVec.ofNat 48 ((left.map fun r => 2 ^ (r - 14)).sum)))

/-- The stores still to be made by a CALL that resumes with MT0 and MT1. (DESIGN CHOICE, log entry 95.) -/
def callLeft (c : Core) (a ssp mask : Nat) (ret : Payload) (mt0 mt1 : Word) : List (AccKind × Nat × Word) :=
  let i := (mt0.pay.toNat + 2 ^ 48 - a) % 2 ^ 48 / 4
  let head := ((callStores c a ssp mask ret).take 2).drop i
  let regs := (maskRegs (mt1.pay.toNat % 2 ^ 16)).map fun r => c.wAt r
  let first := if i < 2 then (a + 8) % 2 ^ 48 else mt0.pay.toNat
  head ++ ((wordAddrs first regs.length).zip regs).map (fun x => (AccKind.store, x.1, x.2))
    ++ [(.sealWr, ssp, sealWord ret c.pl)]

/-- Where a CALL stands: its frame's address, the shadow-stack entry's, and its stores. -/
def callPlan (c : Core) (sp : Payload) (mask : Nat) : Nat × Nat × List (AccKind × Nat × Word) :=
  let ret : Payload := BitVec.ofNat 48 (c.seqNext 4)
  let a := (sp.toNat + 2 ^ 48 - 4 * ((maskRegs mask).length + 2)) % 2 ^ 48
  let ssp := (c.srN 20 + 2 ^ 48 - 4) % 2 ^ 48
  (a, ssp, match c.resume with
    | some m => callLeft c a ssp mask ret m.2.1 m.2.2
    | none => callStores c a ssp mask ret)

/-- The advancing cycles of a routine: its occupancy, or a free part of it from where it resumes, R432. -/
def routineOcc (c : Core) (occ : Nat) (s : State) : Nat × State :=
  if c.resume.isNone then (occ, s) else let r := s.freeNat; (1 + r.1 % occ, r.2)

/-- CALL and CALLR with their target; the operand number of a tag fault in w31, which R459 does not list, is free.
(DEDUCED, log entry 57.) -/
def callTo (n : Nat) (mask : Nat) (target : Payload) (s : State) : TOut :=
  let c := s.core n
  let x := s.freeNat
  match operand addrTags (x.1 % 8) (c.getW 31) with
  | .error e => .exc e x.2
  | .ok sp =>
    let ret : Payload := BitVec.ofNat 48 (c.seqNext 4)
    let p := callPlan c sp mask
    let made := (maskRegs mask).length + 3 - p.2.2.length
    match seqStores n p.2.2 made s with
    | .wait s => .wait s
    | .exc e i s => .exc { e with mts := some (callTemps p.1 mask i) } s
    | .done s =>
      let o := routineOcc c (4 + (maskRegs mask).length) s
      let s := if c.det then o.2 else o.2.setCore n ((o.2.core n).pushRas ret)
      .done
        { writes := [.w (wKey c.pl 31) (Word.addr (BitVec.ofNat 48 p.1)), .w 30 (Word.addr ret),
            .sr 20 (Word.addr (BitVec.ofNat 48 p.2.1))],
          occ := o.1 }
        (.go target c.det) s

/-- R401. -/
def execCall (n : Fin 16) (mask : BitVec 16) (disp : BitVec 23) (s : State) : Res :=
  ok (runJump n call48 noEarly (fun s => callTo n mask.toNat ((s.core n).dispTarget disp) s) s)
/-- R401: the target must carry ADDR and be even. -/
def execCallr (n : Fin 16) (a : RegNo) (mask : BitVec 16) (s : State) : Res :=
  ok (runJump n call48 (fun c => oddTarget (c.getW a).pay.toNat) (fun s =>
    let x := (s.core n).getW a
    if x.tag ≠ Tags.addr then .exc (excTag 0 x.tag) s
    else callTo n mask.toNat x.pay s) s)

/-- The checks of RET on the SEAL entry and frame word 0, R402, R41 and R477: CFLOW with its reason.
(DEDUCED, log entry 50.) -/
def retCheck (e f : Word) (lv : Level) : Option Exc :=
  let bad (k : Nat) : Option Exc := some { code := 0x0D, sub := k, eval := f.pay.toNat }
  if bit f.pay.toNat 0 then some { code := 0x03, eval := f.pay.toNat }
  else if e.tag ≠ Tags.sealT then bad 1
  else if f.tag ≠ Tags.addr then bad 3
  else if bits e.pay.toNat 1 47 ≠ bits f.pay.toNat 1 47 then bad 2
  else if bit e.pay.toNat 0 ≠ (lv != .u) then bad 4
  else none

/-- A word of the frame or the shadow stack read. -/
def retRead (n : Nat) (k : AccKind) (e : Nat) (s : State) : LoadOut :=
  if e % 4 ≠ 0 then .exc (excAlign e) s else loadAt n k e s

/-- The registers that MASK selects reloaded, each by a microword of its own. -/
def retRegs (n : Nat) : List Nat → State → Loads
  | [], s => .got [] s
  | a :: as, s => match retRead n .load a s with
    | .wait s => .wait s
    | .exc x s => .exc x s
    | .got w s =>
      if w.tag.reserved then .exc (excMemTag a w.tag) s
      else match retRegs n as s with
        | .got ws s => .got (w :: ws) s
        | r => r

/-- RET has passed its checks: its writes, and its target. -/
def retDone (n : Nat) (f ssp mask : Nat) (target : Payload) (ws : List Word) (s : State) : TOut :=
  let o := routineOcc (s.core n) (5 + (maskRegs mask).length) s
  let s := o.2
  let c := s.core n
  let rs := maskRegs mask
  let r := if c.det then (c, true) else c.popRas target
  .done
    { writes := (rs.zip ws).map (fun x => RegWr.w x.1 x.2)
        ++ [.w (wKey c.pl 31) (Word.addr (BitVec.ofNat 48 (f + 4 * (rs.length + 2)))),
            .sr 20 (Word.addr (BitVec.ofNat 48 (ssp + 4)))],
      occ := o.1 }
    (.go target r.2) (s.setCore n r.1)

/-- RET from frame word 1 on. -/
def retFrame (n : Nat) (f ssp : Nat) (target : Payload) (s : State) : TOut :=
  match retRead n .load ((f + 4) % 2 ^ 48) s with
  | .wait s => .wait s
  | .exc x s => .exc x s
  | .got m s =>
    if m.tag ≠ Tags.int then .exc (excMemTag ((f + 4) % 2 ^ 48) m.tag) s
    else
      let mask := m.pay.toNat % 2 ^ 16
      match retRegs n (wordAddrs (f + 8) (maskRegs mask).length) s with
      | .wait s => .wait s
      | .exc x s => .exc x s
      | .got ws s => retDone n f ssp mask target ws s

/-- RET, R402; the operand number of a tag fault in w31 is free. -/
def retFrom (n : Nat) (s : State) : TOut :=
  let c := s.core n
  let x := s.freeNat
  match operand addrTags (x.1 % 8) (c.getW 31) with
  | .error e => .exc e x.2
  | .ok f =>
    let ssp := c.srN 20
    match retRead n .sealRd ssp s with
    | .wait s => .wait s
    | .exc e s => .exc e s
    | .got e s => match retRead n .load f.toNat s with
      | .wait s => .wait s
      | .exc e s => .exc e s
      | .got w s => match retCheck e w c.pl with
        | some x => .exc x s
        | none => retFrame n f.toNat ssp w.pay s

/-- R402. -/
def execRet (n : Fin 16) (s : State) : Res := ok (runJump n ret24 noEarly (retFrom n) s)

/-! ### Loops, R404 and R409 -/

/-- LOOP and LOOPI issue alone and are transfers, R406. -/
def loop48 : Shape := { sz := 4, kind := { alone := true, transfer := true }, slotOk := false }

/-- The illegal-instruction conditions of R404. -/
def Core.loopIll (c : Core) (disp : BitVec 18) : Bool :=
  let d := (c.dispTarget disp - BitVec.ofNat 48 (c.seqNext 4)).toNat
  d == 0 || decide (2 ^ 47 ≤ d) || c.depth == 4

/-- A loop of a signed count over a body that ends at a displacement. -/
def loopStart (n : Nat) (count : Int) (disp : BitVec 18) (s : State) : TOut :=
  let c := s.core n
  let e := c.dispTarget disp
  let t : Payload := BitVec.ofNat 48 (c.seqNext 4)
  if c.loopIll disp then .exc (excIll c.pc.toNat) s
  else if count ≤ 0 then .done {} (.go e true) s
  else
    let k := c.depth
    .done
      { writes := [.sr (24 + k) (Word.addr t), .sr (28 + k) (Word.addr e), .sr (32 + k) (Word.int (BitVec.ofInt 48 count)),
          .sr 21 (Word.int (BitVec.ofNat 48 (k + 1)))] }
      (.go t false) s

/-- R404; ILL goes before TAG, R460. -/
def execLoop (n : Fin 16) (a : RegNo) (disp : BitVec 18) (s : State) : Res :=
  ok (runJump n loop48 noEarly (fun s =>
    if (s.core n).loopIll disp then .exc (excIll (s.core n).pc.toNat) s
    else match operand intTags 0 ((s.core n).getW a) with
      | .error e => .exc e s
      | .ok p => loopStart n p.toInt disp s) s)
/-- R404. -/
def execLoopi (n : Fin 16) (k : BitVec 16) (disp : BitVec 18) (s : State) : Res :=
  ok (runJump n loop48 noEarly (loopStart n k.toNat disp) s)

/-- LPOP issues alone. -/
def lpop24 : Shape := { sz := 2, kind := { alone := true } }

/-- The innermost active level ended. -/
def Core.popLevel (c : Core) : Core :=
  if c.depth = 0 then c else (c.setSr (32 + (c.depth - 1)) 0).setSr 21 (c.depth - 1)

/-- R409. -/
def execLpop (n : Fin 16) (s : State) : Res :=
  ok (runInstr n lpop24 (fun s => .done {} (s.setCore n (s.core n).popLevel)) s)

end Sys2Proof.Machine
end

