-- ==== Sys2Proof/Machine/LanternFp.lean ====
section
/-! DEFINITION. Scalar binary32 and short-vector instructions of the Lantern cores (10 R391, R392, R411–R415,
11 R426, R430, 03 R85–R101). -/

namespace Sys2Proof.Machine

/-! ### Scalar, R411 -/

/-- A 24-bit instruction of the FPV unit. -/
def fpv24 : Shape := { sz := 2, kind := { unit := .fpv } }
/-- A 48-bit instruction of the FPV unit. -/
def fpv48 : Shape := { sz := 4, kind := { unit := .fpv } }
/-- FDIV and FSQRT use the divide unit. -/
def fdiv24 : Shape := { sz := 2, kind := { unit := .div } }
/-- Moves between register files use an ALU. -/
def mov24 : Shape := { sz := 2 }
/-- The v-register moves use an ALU. -/
def mov48 : Shape := { sz := 4 }

/-- A binary32 operand's pattern. -/
def fpOperand (k : Nat) (w : Word) : Chk Nat := do
  let p ← operand fpTags k w
  return p.toNat % 2 ^ 32

/-- A two-operand binary32 instruction: its result with flags and its distance. -/
def fp2 (i : Shape) (n : Fin 16) (d a b : RegNo) (f : FMode → Nat → Nat → Nat × Flg) (dist : FMode → Nat → Nat → Nat)
    (s : State) : Res :=
  ok (runReg n i (fun c => do
    let x ← fpOperand 0 (c.getF a)
    let y ← fpOperand 1 (c.getF b)
    let r := f c.fmode x y
    return { writes := resF d (fpWord r.1), flags := r.2, dist := dist c.fmode x y }) s)

/-- A one-operand binary32 instruction. -/
def fp1 (i : Shape) (n : Fin 16) (d a : RegNo) (f : FMode → Nat → Nat × Flg) (dist : FMode → Nat → Nat)
    (s : State) : Res :=
  ok (runReg n i (fun c => do
    let x ← fpOperand 0 (c.getF a)
    let r := f c.fmode x
    return { writes := resF d (fpWord r.1), flags := r.2, dist := dist c.fmode x }) s)

/-- A binary32 comparison into a general register, R100. -/
def fpCmpOp (k : Cmp) (n : Fin 16) (d a b : RegNo) (s : State) : Res :=
  ok (runReg n fpv24 (fun c => do
    let x ← fpOperand 0 (c.getF a)
    let y ← fpOperand 1 (c.getF b)
    let r := fpCmp c.fmode k x y
    return { writes := resW c d (boolWord r.1), flags := r.2, dist := 2 }) s)

/-- R411. -/
def execFadd (n : Fin 16) (d a b : RegNo) (s : State) : Res := fp2 fpv24 n d a b fpAdd (fun _ _ _ => 4) s
/-- R411. -/
def execFsub (n : Fin 16) (d a b : RegNo) (s : State) : Res := fp2 fpv24 n d a b fpSub (fun _ _ _ => 4) s
/-- R411 and R430. -/
def execFmul (n : Fin 16) (d a b : RegNo) (s : State) : Res :=
  fp2 fpv24 n d a b fpMul (fun m x y => 4 + slowBy m [x, y] (tinyMul m (fpTake m x) (fpTake m y))) s
/-- R411 and R430. -/
def execFdiv (n : Fin 16) (d a b : RegNo) (s : State) : Res :=
  fp2 fdiv24 n d a b fpDiv (fun m x y => 12 + slowBy m [x, y] (tinyDiv m (fpTake m x) (fpTake m y))) s
/-- R411 and R430: a root is never tiny. -/
def execFsqrt (n : Fin 16) (d a : RegNo) (s : State) : Res :=
  fp1 fdiv24 n d a fpSqrt (fun m x => 13 + slowBy m [x] false) s
/-- R411. -/
def execFmin (n : Fin 16) (d a b : RegNo) (s : State) : Res :=
  fp2 fpv24 n d a b (fun m => fpMinMax m false) (fun _ _ _ => 2) s
/-- R411. -/
def execFmax (n : Fin 16) (d a b : RegNo) (s : State) : Res :=
  fp2 fpv24 n d a b (fun m => fpMinMax m true) (fun _ _ _ => 2) s
/-- R411. -/
def execFabs (n : Fin 16) (d a : RegNo) (s : State) : Res :=
  fp1 fpv24 n d a (fun _ x => (fpSignOp false x, {})) (fun _ _ => 2) s
/-- R411. -/
def execFneg (n : Fin 16) (d a : RegNo) (s : State) : Res :=
  fp1 fpv24 n d a (fun _ x => (fpSignOp true x, {})) (fun _ _ => 2) s
/-- R411. -/
def execFcmpeq (n : Fin 16) (d a b : RegNo) (s : State) : Res := fpCmpOp .eq n d a b s
/-- R411. -/
def execFcmplt (n : Fin 16) (d a b : RegNo) (s : State) : Res := fpCmpOp .lt n d a b s
/-- R411. -/
def execFcmple (n : Fin 16) (d a b : RegNo) (s : State) : Res := fpCmpOp .le n d a b s

/-- R97. -/
def execFcvtwi (n : Fin 16) (d a : RegNo) (s : State) : Res :=
  ok (runReg n fpv24 (fun c => do
    let x ← fpOperand 0 (c.getF a)
    let r := fpToFixed c.fmode .i48 x
    return { writes := resW c d (Word.int (BitVec.ofInt 48 r.1)), flags := r.2, dist := 4 }) s)
/-- R101. -/
def execFcvtiw (n : Fin 16) (d a : RegNo) (s : State) : Res :=
  ok (runReg n fpv24 (fun c => do
    let p ← operand intTags 0 (c.getW a)
    let r := fpOfInt c.fmode p.toInt
    return { writes := resF d (fpWord r.1), flags := r.2, dist := 4 }) s)
/-- R391: fd := wa. -/
def execFmvwf (n : Fin 16) (d a : RegNo) (s : State) : Res :=
  ok (runReg n mov24 (fun c => do return { writes := resF d (← movable 0 (c.getW a)) }) s)
/-- R391: wd := fa. -/
def execFmvfw (n : Fin 16) (d a : RegNo) (s : State) : Res :=
  ok (runReg n mov24 (fun c => do return { writes := resW c d (← movable 0 (c.getF a)) }) s)
/-- R415 and R430. -/
def execFma (n : Fin 16) (d a b e : RegNo) (s : State) : Res :=
  ok (runReg n fpv48 (fun c => do
    let x ← fpOperand 0 (c.getF a)
    let y ← fpOperand 1 (c.getF b)
    let z ← fpOperand 2 (c.getF e)
    let m := c.fmode
    let r := fpFma m x y z
    let slow := slowBy m [x, y, z] (tinyFma m (fpTake m x) (fpTake m y) (fpTake m z))
    return { writes := resF d (fpWord r.1), flags := r.2, dist := 5 + slow }) s)

/-! ### Short vectors, R412 to R415 -/

/-- A CVT step that VOP permits for an element type, R414. -/
def vopCvtOk (t u : EType) : Bool :=
  match u with
  | .s12u | .s12s => t == .s12u || t == .s12s
  | .h16s => t == .h16s
  | .p24s => t == .p24s
  | .i48 => t == .fp
  | .fp => t == .i48
  | .dec => false

/-- The codes of R414, without the CVT codes. -/
def vopCode (op : Nat) : Bool :=
  decide (op ≤ 0x0C) || op == 0x10 || op == 0x11 || op == 0x18 || op == 0x19
    || (decide (0x20 ≤ op) && decide (op ≤ 0x2B)) || (decide (0x2D ≤ op) && decide (op ≤ 0x32))

/-- The element type of a VOP that is legal, R412 and R414. -/
def vopType (op et : Nat) : Option EType :=
  match EType.decode et with
  | none => none
  | some .dec => none
  | some t =>
    match cvtTo op with
    | some u => if vopCvtOk t u then some t else none
    | none => if vopCode op && (opClass op).defined t then some t else none

/-- The operations that ignore the side field, R414. -/
def vopNoSide (op : Nat) : Bool := op == 0x04 || op == 0x05 || op == 0x2F || op == 0x32

/-- The unit and the distance of a VOP, R426. -/
def vopUnit (op : Nat) : UnitKind := if op = 0x30 ∨ op = 0x31 ∨ op = 0x32 then .div else .fpv

/-- The distance without R430. -/
def vopDist (op : Nat) : Nat :=
  if op = 0x30 ∨ op = 0x31 then 16 else if op = 0x32 then 18
  else if 0x28 ≤ op ∧ op ≤ 0x2B then 4
  else if op = 0x10 ∨ op = 0x11 ∨ op = 0x18 ∨ op = 0x19 ∨ (cvtTo op).isSome then 3
  else 2

/-- The arithmetic of a VOP: rounding by FPCFG.FRM where binary32 takes part, else by XRM; SAT, R413. -/
def vopEnv (c : Core) (t u : EType) (sat : Bool) : ChainEnv :=
  let rnd := if t = .fp ∨ u = .fp then c.frm else c.xrm
  { d := List.replicate 9 0 ++ [BitVec.ofNat 48 (rnd * 2 ^ 27 + b2n sat * 2 ^ 29)], ftz := c.ftz, lut := [] }

/-- A lane read under a type: a value, or a binary32 pattern. -/
def laneValue (t : EType) (p : Nat) (j : Nat) : Int :=
  if t = .fp then ((p % 2 ^ 32 : Nat) : Int) else valueOf t (fieldOf t p j)

/-- One lane of a VOP, R414. -/
def vopLane (v : ChainEnv) (t : EType) (op : Nat) (x y : Int) : Int × Flg :=
  match cvtTo op with
  | some u => cvtOp v t u x
  | none =>
    if op = 0 then (x, {})
    else if op = 0x0C then (y, {})
    else if t = .fp then let r := fpOp v op x.toNat y.toNat 0; (r.1, r.2)
    else fixedOp v t op x y

/-- A lane meets the condition of R430. -/
def vopSlow (v : ChainEnv) (op : Nat) (x y : Nat) : Bool :=
  let m := v.fmode
  match op with
  | 0x2B => slowBy m [x, y] (tinyMul m (fpTake m x) (fpTake m y)) != 0
  | 0x31 => slowBy m [x, y] (tinyDiv m (fpTake m x) (fpTake m y)) != 0
  | 0x32 => slowBy m [x] false != 0
  | _ => false

/-- A word packed from its lanes' values, R49. -/
def packLanes (u : EType) (vs : List Int) : Word :=
  let p := (List.range vs.length).foldl (fun acc j => setBits acc (u.width * j) u.width (patternOf u.width (vs.getD j 0))) 0
  ⟨u.tag, BitVec.ofNat 48 p⟩

/-- What one word of a VOP gives: the result word, its flags, and whether a lane is slow. -/
def vopWord (v : ChainEnv) (t : EType) (op : Nat) (x : Payload) (side : Nat → Int) : Word × Flg × Bool :=
  let u := (cvtTo op).getD t
  let ls := (List.range t.perWord).map fun j => (laneValue t x.toNat j, side j)
  let rs := ls.map fun l => vopLane v t op l.1 l.2
  (packLanes u (rs.map (·.1)), rs.foldl (fun f r => f.or r.2) {}, ls.any fun l => vopSlow v op l.1.toNat l.2.toNat)

/-- The tags that a lane type accepts, R413. -/
def laneTags (t : EType) : List Tag := [t.tag, Tags.raw]

/-- Every word of a v register checked. -/
def vCheck (ok : List Tag) (k : Nat) (c : Core) (r : RegNo) : Chk (List Payload) :=
  (List.range 4).mapM fun i => operand ok k (c.getV r i)

/-- The side operands of a VOP by word and lane, R413. -/
def vopSide (t : EType) (op : Nat) (side : Bool) (b : RegNo) (c : Core) : Chk (Nat → Nat → Int) :=
  if vopNoSide op then .ok (fun _ _ => 0)
  else if side then do
    let p ← operand (laneTags t) 1 (c.getW b)
    return fun _ _ => laneValue t p.toNat 0
  else do
    let ps ← vCheck (laneTags t) 1 c b
    return fun i j => laneValue t (ps.getD i 0).toNat j

/-- VOP on a core's registers. -/
def vopEff (d a b : RegNo) (op et : Nat) (sat side : Bool) (c : Core) : Chk Eff :=
  match vopType op et with
  | none => .error (excIll c.pc.toNat)
  | some t => do
    let xs ← vCheck (laneTags t) 0 c a
    let ys ← vopSide t op side b c
    let v := vopEnv c t ((cvtTo op).getD t) sat
    let rs := (List.range 4).map fun i => vopWord v t op (xs.getD i 0) (ys i)
    let slow := rs.any (·.2.2)
    return { writes := (List.range 4).map fun i => resV d i ((rs.getD i (Word.uni0, {}, false)).1),
             flags := rs.foldl (fun f r => f.or r.2.1) {},
             dist := vopDist op + (if slow then 2 else 0) }

/-- R414. -/
def execVop (n : Fin 16) (d a b : RegNo) (op : BitVec 6) (et : BitVec 3) (sat side : Bool) (s : State) : Res :=
  let i : Shape := { sz := 4, kind := { unit := vopUnit op.toNat } }
  ok (runReg n i (vopEff d a b op.toNat et.toNat sat side) s)

/-- R392 and R37. -/
def execVbcast (n : Fin 16) (d a : RegNo) (s : State) : Res :=
  ok (runReg n mov48 (fun c => do
    let x ← movable 0 (c.getW a)
    return { writes := (List.range 4).map fun i => resV d i x }) s)
/-- R392 and R37. -/
def execVext (n : Fin 16) (d a : RegNo) (k : BitVec 2) (s : State) : Res :=
  ok (runReg n mov48 (fun c => do return { writes := resW c d (← movable 0 (c.getV a k.toNat)) }) s)
/-- R392 and R37. -/
def execVins (n : Fin 16) (d a : RegNo) (k : BitVec 2) (s : State) : Res :=
  ok (runReg n mov48 (fun c => do return { writes := [resV d k.toNat (← movable 0 (c.getW a))] }) s)
/-- R392 and R37. -/
def execVmov (n : Fin 16) (d a : RegNo) (s : State) : Res :=
  ok (runReg n mov48 (fun c => do
    let xs ← (List.range 4).mapM fun i => movable 0 (c.getV a i)
    return { writes := (List.range 4).map fun i => resV d i (xs.getD i Word.uni0) }) s)

/-- One word of VFMA, R415. -/
def vfmaWord (m : FMode) (x y z : Nat) : Word × Flg × Nat :=
  let r := fpFma m x y z
  (fpWord r.1, r.2, slowBy m [x, y, z] (tinyFma m (fpTake m x) (fpTake m y) (fpTake m z)))

/-- VFMA on a core's registers; the addend's operand number is `kd`. -/
def vfmaEff (kd : Nat) (d a b : RegNo) (c : Core) : Chk Eff := do
  let xs ← vCheck fpTags 0 c a
  let ys ← vCheck fpTags 1 c b
  let zs ← vCheck fpTags kd c d
  let at' (l : List Payload) (i : Nat) : Nat := (l.getD i 0).toNat % 2 ^ 32
  let rs := (List.range 4).map fun i => vfmaWord c.fmode (at' xs i) (at' ys i) (at' zs i)
  return { writes := (List.range 4).map fun i => resV d i ((rs.getD i (Word.uni0, {}, 0)).1),
           flags := rs.foldl (fun f r => f.or r.2.1) {},
           dist := 4 + (if rs.any (·.2.2 != 0) then 2 else 0) }

/-- R415: the operand number of a tag fault in vd, which R459 does not list, is free. -/
def execVfma (n : Fin 16) (d a b : RegNo) (s : State) : Res :=
  ok (runInstr n fpv48 (fun s =>
    let r := s.freeNat
    match vfmaEff (r.1 % 8) d a b (s.core n) with
    | .ok e => .done e s
    | .error e => .exc e r.2) s)

end Sys2Proof.Machine
end

