-- ==== Sys2Proof/Machine/LanternSys.lean ====
section
/-! DEFINITION. Special registers, barriers, system calls, returns and TLB instructions of the Lantern cores
(10 R383–R386, R398, 11 R438, R439, R442–R447, 12 R457, R472–R476, 13 R495–R497). -/

namespace Sys2Proof.Machine

/-! ### Special registers -/

/-- An instruction that issues alone in one cycle. -/
def alone24 : Shape := { sz := 2, kind := { alone := true } }

/-- The bits of a special register that a write reaches, R20 and the field tables of R72, R271, R386, R456 and
R470. -/
def srBits (k : Nat) : Nat :=
  match k with
  | 0 => 2 ^ 12 - 1
  | 2 => 2 ^ 23 - 1
  | 3 => 2 ^ 27 - 1
  | 5 => 2 ^ 42 - 2 ^ 14
  | 7 => 2 ^ 15 - 1
  | 16 => 2 ^ 14 - 1
  | 19 => 0x7F1F
  | 21 => 7
  | _ => 2 ^ 48 - 1

/-- The level that reads a special register, R383. -/
def srReadLvl (k : Nat) : Level := if k < 19 then .s else .u
/-- The level that writes a special register, R383; CYCLE and COREID take no write and fault at none. -/
def srWriteLvl (k : Nat) : Level := if k = 5 then .m else if k < 19 ∨ k = 20 then .s else .u

/-- MFSR's word of a special register; the phase of CYCLE within a tick is free. (DESIGN CHOICE, log entry 5.) -/
def srRead (n k : Nat) (s : State) : Word × State :=
  let c := s.core n
  if k = 0 then (Word.int (BitVec.ofNat 48 c.statRead), s)
  else if k = 22 then
    let r := s.freeNat
    (Word.int (BitVec.ofNat 48 (16 * s.tick + r.1 % 16)), r.2)
  else if k = 23 then (Word.int (BitVec.ofNat 48 (n + n / 4 * 16)), s)
  else if k = 17 ∨ k = 18 then (c.srW k, s)
  else (⟨(srReset k).tag, (c.srW k).pay⟩, s)

/-- R383 and R384. -/
def execMfsr (n : Fin 16) (d : RegNo) (sr : BitVec 6) (s : State) : Res :=
  ok (runInstr n alone24 (fun s =>
    let c := s.core n
    let k := sr.toNat
    if 36 ≤ k then .exc (excIll c.pc.toNat) s
    else if lvlCode c.pl < lvlCode (srReadLvl k) then .exc (excPriv c.pc.toNat) s
    else
      let r := srRead n k s
      .done { writes := resW c d r.1 } r.2) s)

/-- The tag check of MTSR's source, R385. -/
def srTagOk (k : Nat) (t : Tag) : Bool :=
  if k = 17 ∨ k = 18 then !t.reserved
  else if (srReset k).tag = Tags.addr then t == Tags.addr || t == Tags.raw
  else t == Tags.int || t == Tags.raw

/-- The word that a special register holds after an MTSR. SENTn keeps the tag written, which SCALL checks.
(DEDUCED, log entry 54.) -/
def srStored (k : Nat) (w : Word) : Word :=
  let p : Payload := w.pay &&& BitVec.ofNat 48 (srBits k)
  if k = 17 ∨ k = 18 ∨ (8 ≤ k ∧ k ≤ 15) then ⟨w.tag, p⟩ else ⟨(srReset k).tag, p⟩

/-- An MTSR to STAT, R442: SG and CPRI at once, the execution fields before the fourth instruction after it. -/
def statWrite (n : Nat) (p : Payload) (s : State) : Out :=
  let c := s.core n
  let c' := { c with statPend := c.statPend ++ [(4, p)] }
  let v := setBits c.stat 5 7 (bits p.toNat 5 7)
  .done { writes := [.sr 0 (Word.int (BitVec.ofNat 48 v))] } (s.setCore n c')

/-- R383 to R385, R444, R457 and R460; the operand number of a tag fault in the source, which R459 does not list, is
free. -/
def execMtsr (n : Fin 16) (a : RegNo) (sr : BitVec 6) (s : State) : Res :=
  ok (runInstr n alone24 (fun s =>
    let c := s.core n
    let k := sr.toNat
    let w := c.getW a
    let x := s.freeNat
    if 36 ≤ k ∨ (k = 0 ∧ bits w.pay.toNat 0 2 = 3) then .exc (excIll c.pc.toNat) s
    else if lvlCode c.pl < lvlCode (srWriteLvl k) ∨ (k = 0 ∧ lvlCode c.pl < bits w.pay.toNat 0 2) then
      .exc (excPriv c.pc.toNat) s
    else if ¬ srTagOk k w.tag then .exc (excTag (x.1 % 8) w.tag) x.2
    else if k = 22 ∨ k = 23 then .done {} s
    else if k = 0 then statWrite n w.pay s
    else .done { writes := [.sr k (srStored k w)] } s) s)

/-! ### Barriers, waiting and prediction -/

/-- IBAR, R447: earlier stores accepted while the core is frozen, then the L1I is empty, and of the instructions
fetched only the one after IBAR is kept. -/
def ibarGo (n : Nat) (s : State) : Out :=
  match settled n (keepAhead n 2 1 s) with
  | .wait s => .wait s
  | .got _ s =>
    let s := freeze n s
    let c := s.core n
    .done {} (s.setCore n { c with
      l1i := []
      fbuf := c.fbuf.filter (·.2.1 ≤ 1) })

/-- R447. -/
def execIbar (n : Fin 16) (s : State) : Res := ok (runInstr n alone24 (ibarGo n) s)

/-- MBAR, R398: every earlier access has its response; the core is frozen until then. -/
def mbarGo (n : Nat) (s : State) : Out :=
  match settled n s with
  | .wait s => .wait s
  | .got _ s => if s.ownResponses n then .wait s else .done {} (freeze n s)

/-- R398. -/
def execMbar (n : Fin 16) (s : State) : Res := ok (runInstr n alone24 (mbarGo n) s)

/-- The advancing cycles until every branch has resolved. -/
def Core.branchesLeft (c : Core) : Nat := c.branches.foldl (fun m b => max m b.left) 0

/-- The predictor as after reset, R438. -/
def Core.flushPredictor (c : Core) : Core :=
  { c with
    ctr := []
    gh := 0
    ras := [] }

/-- PFLUSH, R438: the hold counts. -/
def pflushGo (n : Nat) (s : State) : Out :=
  let c := s.core n
  let s := s.bump (R.LANTERN_HOLDCNT n) F.LANTERN_HOLDCNT_HOLDCNT c.branchesLeft
  .done {} (s.setCore n (c.cycles c.branchesLeft).flushPredictor)

/-- R438. -/
def execPflush (n : Fin 16) (s : State) : Res := ok (runInstr n alone24 (pflushGo n) s)

/-- R439. -/
def execPbar (n : Fin 16) (k : RegNo) (s : State) : Res :=
  ok (runInstr n alone24 (fun s => .done {} (s.setCore n { s.core n with pbar := k.toNat })) s)

/-- An event routed to the core is pending, R398. -/
def State.hasRouted (s : State) (n : Nat) : Bool := s.pendingSources.any fun x => (s.offered n x).isSome

/-- R398: the core waits unless an event routed to it is already pending. -/
def execWait (n : Fin 16) (s : State) : Res :=
  ok (runInstr n alone24 (fun s =>
    .done {} (s.setCore n { s.core n with waiting := !s.hasRouted n })) s)

/-! ### System calls, R475 and R476 -/

/-- SCALL. -/
def scall24 : Shape :=
  { sz := 2, kind := { alone := true, transfer := true }, slotOk := false, flush := true, routine := some 3 }
/-- SRET. -/
def sret24 : Shape :=
  { sz := 2, kind := { alone := true, transfer := true }, slotOk := false, lvl := .s, flush := true }

/-- SCALL on a core: SEPC, SSTAT, DEPTH and STAT, R475. -/
def Core.scall (c : Core) : Core :=
  let st := c.stat
  let pl := if c.pl = .m then 2 else 1
  let c := (c.setSr 6 (c.seqNext 2)).setSr 7 (st % 2 ^ 12 + c.depth * 2 ^ 12)
  (c.setSr 21 0).setSr 0 (setBits (setBits st 0 2 pl) 3 1 0)

/-- R475; the operand number of its tag fault, which R459 does not list, is free. -/
def execScall (n : Fin 16) (k : BitVec 3) (s : State) : Res :=
  ok (runJump n scall24 (fun c => oddTarget (c.srN (8 + k.toNat))) (fun s =>
    let c := s.core n
    let e := c.srW (8 + k.toNat)
    let x := s.freeNat
    if e.tag ≠ Tags.addr then .exc (excTag (x.1 % 8) e.tag) x.2
    else .done { occ := 3 } (.go e.pay c.det) (s.setCore n c.scall)) s)

/-- A privilege-return fault, R459: `who` is 1 for ERET and 2 for SRET. -/
def excPrivret (who reason eval : Nat) : Exc := { code := 0x22, sub := who + 16 * reason, eval := eval }

/-- SRET on a core, R476. -/
def Core.sret (c : Core) : Core :=
  let v := c.srN 7
  (c.setSr 0 (v % 2 ^ 12)).setSr 21 (bits v 12 3)

/-- R476. -/
def execSret (n : Fin 16) (s : State) : Res :=
  ok (runJump n sret24 (fun c => oddTarget (c.srN 6)) (fun s =>
    let c := s.core n
    let pl := bits (c.srN 7) 0 2
    let pc := c.srN 6
    if pl = 3 ∨ lvlCode c.pl < pl then .exc (excPrivret 2 2 pc) s
    else .done { occ := 3 } (.go (BitVec.ofNat 48 pc) c.det) (s.setCore n c.sret)) s)

/-! ### ERET, R472 and R473 -/

/-- ERET. -/
def eret24 : Shape :=
  { sz := 2, kind := { alone := true, transfer := true }, slotOk := false, lvl := .s, flush := true, routine := some 4 }

/-- The event that ERET chains to, R473. -/
def State.chained (s : State) (n : Nat) : Option Ev :=
  let c := s.core n
  let es := c.srN 2
  Ev.first ((s.pendingSources.filterMap (s.offered n)).filter fun e =>
    e.lvl == c.pl &&
      ((decide (bits es 16 6 < e.prio) && bit es 22)
        || (e.lvl == .m && decide (0 < e.prio) && decide (bits es 0 2 < 2))))

/-- A core that tail-chains to an event, R473. -/
def Core.chain (e : Ev) (c : Core) : Core :=
  let es := setBits (setBits (setBits (c.srN 2) 3 1 1) 4 10 e.src) 14 2 (lvlCode e.lvl)
  let c := ((c.setSr 2 es).setSr 3 (64 + e.src)).setSr 4 0
  let c := c.setSr 0 (setBits (setBits c.stat 6 6 e.prio) 3 1 0)
  { c with
    rfl' := false
    resume := none
    entered := some (64 + e.src) }

/-- The frame read by physical loads, R472. -/
def frameLoads (n : Nat) : List Nat → State → Loads
  | [], s => .got [] s
  | a :: as, s =>
    if a % 4 ≠ 0 then .exc (excAlign a) s
    else if 2 ^ 42 ≤ a then .exc { code := 0x07, eval := a } s
    else match loadAll n [(a, s.plainPath n a)] s with
      | .got ws s => match frameLoads n as s with
        | .got ws' s => .got (ws ++ ws') s
        | r => r
      | r => r

/-- A word of the frame read. -/
def frameW (ws : List Word) (i : Nat) : Word := ws.getD i Word.uni0

/-- The checks of R472 on the frame: the reason of a privilege-return fault. -/
def eretBad (ws : List Word) (pl : Level) : Option Nat :=
  let st := bits (frameW ws 1).pay.toNat 0 2
  if (frameW ws 0).tag ≠ Tags.addr ∨ (frameW ws 1).tag ≠ Tags.int ∨ (frameW ws 10).tag ≠ Tags.int then some 1
  else if st = 3 ∨ lvlCode pl < st then some 2
  else if bits (frameW ws 10).pay.toNat 4 2 ≠ lvlCode pl then some 3
  else none

/-- The core after the frame at `f` is popped, R472; with MV = 1 the instruction returned to resumes its routine at MPC
with MT0 and MT1, and MV is clear, R268. -/
def Core.popFrame (f : Nat) (ws : List Word) (c : Core) : Core :=
  let x := (frameW ws 10).pay.toNat
  let c := (List.range 8).foldl (fun c i => c.putW (i + 1) (frameW ws (2 + i))) c
  let c := c.setSr 21 (bits x 0 3)
  let c := if c.depth = 0 then c else c.setSr (32 + (c.depth - 1)) (frameW ws 11).pay.toNat
  let c := c.putW (wKey c.pl 31) (Word.addr (BitVec.ofNat 48 (f + 48)))
  let c := c.setSr 0 (bits (frameW ws 1).pay.toNat 0 12)
  let m := c.srN 16
  { (c.setSr 16 (setBits m 13 1 0)) with
    rfl' := false
    resume := if bit m 13 then some (m % 2 ^ 13, c.srW 17, c.srW 18) else none }

/-- ERET that pops, R472. -/
def eretPop (n : Nat) (s : State) : TOut :=
  let c := s.core n
  let x := s.freeNat
  match operand addrTags (x.1 % 8) (c.getW 31) with
  | .error e => .exc e x.2
  | .ok f => match frameLoads n (wordAddrs f.toNat 12) s with
    | .wait s => .wait s
    | .exc e s => .exc e s
    | .got ws s =>
      let pc := (frameW ws 0).pay
      if bit pc.toNat 0 then .exc { code := 0x03, eval := pc.toNat } s
      else match eretBad ws c.pl with
        | some r => .exc (excPrivret 1 r f.toNat) s
        | none =>
          let o := routineOcc (s.core n) 6 s
          .done { occ := o.1 } (.go pc false) (o.2.setCore n ((o.2.core n).popFrame f.toNat ws))

/-- ERET: the tail chain is decided first, R473. -/
def eretGo (n : Nat) (s : State) : TOut :=
  match s.chained n with
  | some e =>
    let c := (s.core n).chain e
    let s := unraise e.src (s.setCore n c)
    .done { occ := 4 } (.go (BitVec.ofNat 48 (c.srN 5 + 8 * (64 + e.src))) false) s
  | none => eretPop n s

/-- The core after ERET's completion has a handler to enter when it chained, or a routine to resume. -/
def chainEntered (n : Nat) (e : Option Ev) (m : Option (Nat × Word × Word)) (s : State) : State :=
  let s := s.setCore n { s.core n with resume := m }
  match e with
  | some e => s.setCore n { s.core n with entered := some (64 + e.src) }
  | none => s

/-- R472 and R473. -/
def execEret (n : Fin 16) (s : State) : Res :=
  ok (issueWith n eret24 noEarly (fun s => (s.chained n, microJumpOut n eret24 (eretGo n) s)) (fun o s0 =>
    match o.2 with
    | .done e j s => chainEntered n o.1 (s.core n).resume (completeJump n 2 eret24.kind e j s)
    | o' => o'.finish n eret24 s0) s)

/-! ### Trap entry as a command, R465 to R467 -/

/-- What a routine of the instruction at the PC has done when an interrupt is taken at the boundary after one of its
memory accesses, R266; none where the instruction has no such boundary. A CALL has made the stores before MT0 and MT1;
RET and ERET only read. (DESIGN CHOICE, log entry 95.) -/
def microPart (n : Fin 16) (i : Instr) (mt0 mt1 : Word) (s : State) : Option State :=
  let c := s.core n
  let call (mask : Nat) : Option State :=
    match operand addrTags 0 (c.getW 31) with
    | .error _ => none
    | .ok sp =>
      let p := callPlan c sp mask
      let total := (maskRegs mask).length + 3
      match (List.range total).find? fun i => callTemps p.1 mask i == (mt0, mt1) with
      | none => none
      | some i =>
        let made := total - p.2.2.length
        if i ≤ made then none
        else match seqStores n (p.2.2.take (i - made)) made s with
          | .done s => some s
          | _ => none
  match i with
  | .call _ mask _ => call mask.toNat
  | .callr _ a mask => if (c.getW a).tag = Tags.addr ∧ (oddTarget (c.getW a).pay.toNat).isNone then call mask.toNat else none
  | .ret _ => some s
  | .eret _ => if (s.chained n).isNone then some s else none
  | _ => none

/-- An interrupt taken inside a routine, R266: at a micro-address of the control store, after a memory access. -/
def microTrap (n : Fin 16) (mpc : Nat) (mt0 mt1 : Word) (s : State) : State :=
  if !s.trapDue n || (s.core n).delay.isSome || !(UcUnit.lantern n).has mpc then s
  else match s.instrNow n with
    | none => s
    | some i => match microPart n i mt0 mt1 s with
      | none => s
      | some s1 => takeDue n (some (mpc, mt0, mt1)) s1

/-- Trap entry, R465 to R467; a micro-fetch fails from outside the control store or at a word that fails its check,
R255. -/
def execTrapEntry (n : Fin 16) (at_ : TrapAt) (s : State) : Res :=
  ok (if (s.core n).shut ∨ s.heldAtTs n then s
    else match at_ with
      | .boundary => boundaryTrap n s
      | .micro mpc mt0 mt1 => microTrap n mpc.toNat mt0 mt1 s
      | .microFault check mpc =>
        if check ∨ ¬ (UcUnit.lantern n).has mpc.toNat then microFaultTrap n check mpc.toNat s else s)

/-! ### The TLB, R495 to R497 -/

/-- A TLB instruction occupies two cycles alone, R432. -/
def tlb48 : Shape := { sz := 4, kind := { alone := true }, lvl := .s }

/-- The exception of a refused TLB load, R495. -/
def tlbExc (c : Core) (a b e : Word) : Option Exc :=
  match tlbCheck a b e with
  | none => none
  | some (.tag k) => some (excTag k (if k = 0 then a.tag else if k = 1 then b.tag else e.tag))
  | some .ill => some (excIll c.pc.toNat)
  | some .addr => some { code := 0x07, eval := e.pay.toNat }
  | some .align => some { code := 0x06, eval := e.pay.toNat }

/-- TLBW on a core: its TLB, NEXT and the index written, R496. -/
def coreTlbLoad (n : Nat) (a b e : Word) (s : State) : Nat × State :=
  let c := s.core n
  let wired := s.fld (R.LANTERN_TLBCFG n) F.LANTERN_TLBCFG_WIRED
  let r := tlbLoad 128 wired c.tlbNext (tlbNew a.pay b.pay e.pay) c.tlb
  (r.2.2, s.setCore n { c with
    tlb := r.1
    tlbNext := r.2.1 })

/-- R495 and R496. -/
def execTlbw (n : Fin 16) (d a b e : RegNo) (s : State) : Res :=
  ok (runInstr n tlb48 (fun s =>
    let c := s.core n
    match tlbExc c (c.getW a) (c.getW b) (c.getW e) with
    | some x => .exc x s
    | none =>
      let r := coreTlbLoad n (c.getW a) (c.getW b) (c.getW e) s
      .done { writes := resW c d (Word.int (BitVec.ofNat 48 r.1)), occ := 2 } r.2) s)

/-- R497. -/
def execTlbi (n : Fin 16) (a : RegNo) (s : State) : Res :=
  ok (runInstr n tlb48 (fun s =>
    let c := s.core n
    match operand addrTags 0 (c.getW a) with
    | .error x => .exc x s
    | .ok va => .done { occ := 2 } (s.setCore n { c with tlb := tlbInval va.toNat c.tlb })) s)

/-- R497. -/
def execTlbia (n : Fin 16) (s : State) : Res :=
  ok (runInstr n tlb48 (fun s =>
    .done { occ := 2 } (s.setCore n { s.core n with tlb := tlbInvalAll (s.core n).tlb })) s)

/-! ### Cycles without an instruction -/

/-- The core's pipeline advances: it is not frozen, R423. -/
def Core.advances (c : Core) : Bool := !c.shut

/-- Cycles of a core that advances. -/
def advance (n k : Nat) (s : State) : State :=
  let c := s.core n
  if c.advances then s.setCore n (c.cycles k) else s

/-- The advancing cycle ends: results and flags due land, R425 and R76. -/
def execResultWriteback (n : Fin 16) (s : State) : Res := ok (advance n 1 s)

/-- The advancing cycles until the first branch resolves. -/
def Core.firstBranch (c : Core) : Nat :=
  match c.branches with
  | [] => 0
  | b :: bs => bs.foldl (fun m b => min m b.left) b.left

/-- The oldest branch resolves, R435 and R437. -/
def execBranchResolve (n : Fin 16) (s : State) : Res := ok (advance n (s.core n).firstBranch s)

/-- Changes of STAT that are due take effect, R442. -/
def execStatChangeEffective (n : Fin 16) (s : State) : Res :=
  ok (if (s.core n).advances then s.setCore n (s.core n).dueStat else s)

/-- The divide unit becomes free, R431. -/
def execDivideUnitFree (n : Fin 16) (s : State) : Res := ok (advance n (s.core n).divLeft s)

/-- The oldest store leaves the buffer, R295 and R423; instructions fetched before it keep their copies, R446. -/
def execStoreBufferDrain (n : Fin 16) (s : State) : Res :=
  ok (match drainOne n (fetchedAhead n s) with
    | .wait s1 => keepWaiting s s1
    | .got _ s1 => s1)

/-- DET in effect: issue holds until every earlier branch has resolved, R451. -/
def execDeterministicEntry (n : Fin 16) (s : State) : Res :=
  let c := s.core n
  ok (if c.advances ∧ c.det ∧ c.branches ≠ [] then
      advance n c.branchesLeft (s.bump (R.LANTERN_HOLDCNT n) F.LANTERN_HOLDCNT_HOLDCNT c.branchesLeft)
    else s)

end Sys2Proof.Machine
end

