-- ==== Sys2Proof/Machine/LanternGal.lean ====
section
/-! DEFINITION. The gallery instructions of the Lantern cores: GISS, GISSR, GRESUME, GTLBW, GTLBI and GTLBIA, and the
judgement of a GISS (06 R206–R210, R237, 10 R416–R420, 11 R423, R432). -/

namespace Sys2Proof.Machine

/-- GISS, GISSR and GRESUME: alone in one cycle, then frozen until the reply (R432), and in no delay slot (R400). -/
def giss48 : Shape := { sz := 4, kind := { alone := true }, slotOk := false }
/-- What sending a GISS comes to. -/
inductive GOut where
  | wait (s : State)
  | exc (e : Exc) (s : State)
  | sent (s : State)

/-- Its core is frozen, and the request is at the gallery, R417. -/
def sendGiss (n : Nat) (d : RegNo) (g va pa : Nat) (s : State) : State :=
  let c := s.core n
  let fz : Frozen := ⟨wKey c.pl d.toNat, c.pc, BitVec.ofNat 48 va, g⟩
  let q : GReq := ⟨n, c.pl, c.ftz, BitVec.ofNat 48 va, pa⟩
  let s := s.setGal g { s.gal g with reqs := (s.gal g).reqs ++ [q] }
  freeze n (s.setCore n { c with frozen := some fz })

/-- The page that holds the descriptor's address, as a power of two of samples: with translation off there is none,
and the granularity of the physical window stands for it. -/
def descPage (c : Core) (va : Nat) : Nat :=
  if c.te then
    match tlbFind c.tlb va with
    | some i => (tlbAt c.tlb i).shift
    | none => 48
  else 16

/-- A register write that changes a scoreboard of gallery g, R215. -/
def isTokenWrite (g a : Nat) (op : JOp) : Bool :=
  op.writes && (a == 0x300_0000_0000 + R.GAL_TOKPOST g || a == 0x300_0000_0000 + R.GAL_TOKCLR g)

/-- A core's earlier TOKPOST and TOKCLR writes to gallery g have taken effect, R218: where one is still in the store
buffer or at its port, the core's stores are performed first. -/
def tokensInOrder (n g : Nat) (s : State) : Got Unit :=
  if ((s.core n).stores.any fun e => isTokenWrite g e.pa (.wr e.w))
      || s.junc.waiting.any fun r => r.m == n && isTokenWrite g r.a r.op then settled n s
  else .got () s

/-- The descriptor's address judged and translated, and the request sent, R417. A gallery outside the save domain is
absent once the domain is isolated, R650 and R484. (DEDUCED, log entry 56.) -/
def gissSend (n : Nat) (d : RegNo) (g va : Nat) (s : State) : GOut :=
  let k := descPage (s.core n) va
  if va % 4 ≠ 0 ∨ (va + 63) / 2 ^ k ≠ va / 2 ^ k then .exc (excAlign va) s
  else match translate n .desc va s with
    | .wait s => .wait s
    | .exc e s => .exc e s
    | .ok p s =>
      if s.junc.isolated then .exc (excBus va .jerr false) s
      else match tokensInOrder n g s with
        | .wait s => .wait s
        | .got _ s => .sent (sendGiss n d g va p.a s)

/-- What remains of a GISS once it is sent: the core stays where it is. -/
def GOut.finish (n : Nat) (i : Shape) (o : GOut) (s0 : State) : State :=
  match o with
  | .wait s => keepWaiting s0 s
  | .exc e s => instrExc i n e s0 s
  | .sent s => s

/-- R416 and R417. -/
def execGiss (n : Fin 16) (d a : RegNo) (g : Fin 16) (s : State) : Res :=
  ok (issueWith n giss48 noEarly (fun s =>
    match operand addrTags 0 ((s.core n).getW a) with
    | .error e => .exc e s
    | .ok va => gissSend n d g va.toNat s) (GOut.finish n giss48) s)

/-- The gallery that GISSR takes from wb, R416. -/
def gissGallery (w : Word) : Option Nat :=
  if w.tag ∈ intTags ∧ w.pay.toNat < 16 then some w.pay.toNat else none

/-- R416 and R417. -/
def execGissr (n : Fin 16) (d a b : RegNo) (s : State) : Res :=
  ok (issueWith n giss48 noEarly (fun s =>
    let c := s.core n
    match gissGallery (c.getW b), operand addrTags 0 (c.getW a) with
    | none, _ => .exc (excIll c.pc.toNat) s
    | _, .error e => .exc e s
    | some g, .ok va => gissSend n d g va.toNat s) (GOut.finish n giss48) s)

/-- The core goes on with the reply of its GISS, which lands at distance 1, R417 and R432. -/
def gissReply (n : Nat) (w : Word) (s : State) : State :=
  match (s.core n).frozen with
  | none => s
  | some f =>
    let s := s.setCore n { s.core n with frozen := none }
    complete n 4 giss48.kind { writes := [.w f.dst w] } s

/-- A gallery-descriptor fault raised at the GISS, R417 and R459. -/
def gissFault (n sub : Nat) (s0 s : State) : State :=
  match (s.core n).frozen with
  | none => s
  | some f =>
    let s := s.setCore n { s.core n with frozen := none }
    instrExc giss48 n { code := 0x0F, sub := sub, eval := f.descVa.toNat } s0 s

/-- The oldest request of a gallery judged, R209; a waiting link takes a FREE slot first, R211. -/
def gissJudge (g : Nat) (s : State) : State :=
  match (s.gal g).reqs with
  | [] => s
  | q :: qs =>
    if s.junc.isolated ∨ (((s.gal g).links ≠ [] ∨ (s.gal g).linkWait.isSome) ∧ (s.freeSlot g).isSome) then s
    else
      let s1 := s.setGal g { s.gal g with reqs := qs }
      match judgeGiss g q s1 with
      | .wait s2 => keepWaiting s s2
      | .reply w s2 => gissReply q.core w s2
      | .fault sub s2 => gissFault q.core sub s s2

/-- R209. -/
def execGissJudgement (g : Fin 16) (s : State) : Res := ok (gissJudge g s)

/-- R419 and R237; the address of a bus error, which a GRESUME has none of, is free. -/
def execGresume (n : Fin 16) (d : RegNo) (g : Fin 16) (sl : RegNo) (s : State) : Res :=
  ok (runInstr n giss48 (fun s =>
    if s.junc.isolated then
      let r := s.freeNat
      .exc (excBus (r.1 % 2 ^ 48) .jerr false) r.2
    else match tokensInOrder n g s with
      | .wait s => .wait s
      | .got _ s =>
        let r := judgeResume g n sl.toNat s
        .done { writes := resW (s.core n) d r.1 } (freeze n r.2)) s)

/-- R420 and R495. -/
def execGtlbw (n g : Fin 16) (a b e : RegNo) (s : State) : Res :=
  ok (runInstr n tlb48 (fun s =>
    let c := s.core n
    match tlbExc c (c.getW a) (c.getW b) (c.getW e) with
    | some x => .exc x s
    | none => .done { occ := 2 } (galTlbLoad g n (c.getW a).pay (c.getW b).pay (c.getW e).pay s)) s)

/-- R420 and R497. -/
def execGtlbi (n g : Fin 16) (a : RegNo) (s : State) : Res :=
  ok (runInstr n tlb48 (fun s =>
    match operand addrTags 0 ((s.core n).getW a) with
    | .error x => .exc x s
    | .ok va => .done { occ := 2 } (galTlbInval g n (some va.toNat) s)) s)

/-- R420 and R497. -/
def execGtlbia (n g : Fin 16) (s : State) : Res :=
  ok (runInstr n tlb48 (fun s => .done { occ := 2 } (galTlbInval g n none s)) s)

end Sys2Proof.Machine
end

