-- ==== Sys2Proof/Machine/LanternInt.lean ====
section
/-! DEFINITION. Integer, bearing, decimal and move instructions of the Lantern cores (10 R391–R395, 02 R35–R42,
03 R102–R105). -/

namespace Sys2Proof.Machine

/-! ### Shapes -/

/-- A 24-bit ALU instruction. -/
def alu24 : Shape := { sz := 2 }
/-- A 48-bit ALU instruction. -/
def alu48 : Shape := { sz := 4 }
/-- MUL. -/
def mul24 : Shape := { sz := 2, kind := { unit := .mul } }
/-- MULH and MULHU. -/
def mul48 : Shape := { sz := 4, kind := { unit := .mul } }
/-- Integer division. -/
def div48 : Shape := { sz := 4, kind := { unit := .div } }
/-- DADD and DSUB issue alone, R432. -/
def dec24 : Shape := { sz := 2, kind := { alone := true }, routine := some 0 }

/-! ### Values -/

/-- A two-operand integer instruction: accepted tags, and the result of the payloads. -/
def intOp (ok : List Tag) (dist : Nat) (f : Payload → Payload → Payload) (d : RegNo) (x y : Word) (c : Core) : Chk Eff := do
  let a ← operand ok 0 x
  let b ← operand ok 1 y
  return { writes := resW c d (Word.int (f a b)), dist := dist }

/-- A sum or a difference, whose tag the operands decide, R393. -/
def sumOp (tagOf : Tag → Tag → Option Tag) (f : Payload → Payload → Payload) (d : RegNo) (x y : Word) (c : Core) :
    Chk Eff := do
  let a ← operand wordTags 0 x
  let b ← operand wordTags 1 y
  match tagOf x.tag y.tag with
  | some t => return { writes := resW c d ⟨t, f a b⟩ }
  | none => .error (excTag 1 y.tag)

/-- A shift by wb[5:0], R393. -/
def shiftOf (f : Payload → Nat → Payload) (a b : Payload) : Payload := f a (b.toNat % 64)
/-- The arithmetic right shift. -/
def sraOf (a : Payload) (k : Nat) : Payload := a.sshiftRight k
/-- The left shift. -/
def shlOf (a : Payload) (k : Nat) : Payload := a <<< k
/-- The logical right shift. -/
def shrOf (a : Payload) (k : Nat) : Payload := a >>> k

/-- Bits [95:48] of the signed product. -/
def mulhOf (a b : Payload) : Payload := BitVec.ofInt 48 (a.toInt * b.toInt / 2 ^ 48)
/-- Bits [95:48] of the unsigned product. -/
def mulhuOf (a b : Payload) : Payload := BitVec.ofNat 48 (a.toNat * b.toNat / 2 ^ 48)

/-- The quotient truncated toward zero; 0 for a divisor of 0, R393. -/
def divOf (a b : Payload) : Payload := if b = 0 then 0 else BitVec.ofInt 48 (a.toInt.tdiv b.toInt)
/-- The remainder with the dividend's sign; the dividend for a divisor of 0. -/
def remOf (a b : Payload) : Payload := if b = 0 then a else BitVec.ofInt 48 (a.toInt.tmod b.toInt)
/-- The unsigned quotient. -/
def divuOf (a b : Payload) : Payload := if b = 0 then 0 else a / b
/-- The unsigned remainder. -/
def remuOf (a b : Payload) : Payload := if b = 0 then a else a % b

/-- The distance of a division by magnitudes, R429. -/
def divDist (a b : Nat) : Nat := if b = 0 then 4 else 4 + (bitLen a + 1 - bitLen b + 1) / 2

/-- A signed division. -/
def sdivOp (f : Payload → Payload → Payload) (d : RegNo) (x y : Word) (c : Core) : Chk Eff :=
  intOp intTags (divDist x.pay.toInt.natAbs y.pay.toInt.natAbs) f d x y c
/-- An unsigned division. -/
def udivOp (f : Payload → Payload → Payload) (d : RegNo) (x y : Word) (c : Core) : Chk Eff :=
  intOp intTags (divDist x.pay.toNat y.pay.toNat) f d x y c

/-- A truth value as a payload. -/
def truth (b : Bool) : Payload := if b then 1 else 0

/-- How bearing a lies to bearing b, R394: 1 ahead, 0 equal, −1 behind. -/
def bcmpOf (a b : Payload) : Payload :=
  match sideOf 48 a.toNat b.toNat with
  | .ahead => 1
  | .equal => 0
  | .behind => -1

/-- A decimal sum or difference, R395: it wraps, and DOV is set. -/
def decSum (sub : Bool) (d : RegNo) (x y : Word) (c : Core) : Chk Eff := do
  let a ← operand decTags 0 x
  let b ← operand decTags 1 y
  if !decValid a.toNat then .error { code := 0x0E, sub := 1 }
  else if !decValid b.toNat then .error { code := 0x0E, sub := 2 }
  else
    let va := decValue a.toNat
    let vb := decValue b.toNat
    let r := decResult false (if sub then va - vb else va + vb)
    return { writes := resW c d ⟨Tags.dec, BitVec.ofNat 48 r.1⟩, flags := { dov := r.2 }, occ := 3 }

/-- A register-register instruction of the 24-bit set on general registers. -/
def rr (i : Shape) (n : Fin 16) (a b : RegNo) (f : Word → Word → Core → Chk Eff) (s : State) : Res :=
  ok (runReg n i (fun c => f (c.getW a) (c.getW b) c) s)

/-- A one-operand instruction on a general register. -/
def r1 (i : Shape) (n : Fin 16) (a : RegNo) (f : Word → Core → Chk Eff) (s : State) : Res :=
  ok (runReg n i (fun c => f (c.getW a) c) s)

/-! ### 24-bit instructions, R391 -/

/-- R391. -/
def execNop (n : Fin 16) (s : State) : Res := ok (runReg n alu24 (fun _ => .ok {}) s)
/-- R391 and R37. -/
def execMov (n : Fin 16) (d a : RegNo) (s : State) : Res :=
  r1 alu24 n a (fun x c => do return { writes := resW c d (← movable 0 x) }) s
/-- R393. -/
def execAdd (n : Fin 16) (d a b : RegNo) (s : State) : Res := rr alu24 n a b (sumOp sumTag (· + ·) d) s
/-- R393. -/
def execSub (n : Fin 16) (d a b : RegNo) (s : State) : Res := rr alu24 n a b (sumOp diffTag (· - ·) d) s
/-- R393. -/
def execAnd (n : Fin 16) (d a b : RegNo) (s : State) : Res := rr alu24 n a b (intOp wordTags 1 (· &&& ·) d) s
/-- R393. -/
def execOr (n : Fin 16) (d a b : RegNo) (s : State) : Res := rr alu24 n a b (intOp wordTags 1 (· ||| ·) d) s
/-- R393. -/
def execXor (n : Fin 16) (d a b : RegNo) (s : State) : Res := rr alu24 n a b (intOp wordTags 1 (· ^^^ ·) d) s
/-- R393. -/
def execShl (n : Fin 16) (d a b : RegNo) (s : State) : Res := rr alu24 n a b (intOp intTags 1 (shiftOf shlOf) d) s
/-- R393. -/
def execShr (n : Fin 16) (d a b : RegNo) (s : State) : Res := rr alu24 n a b (intOp intTags 1 (shiftOf shrOf) d) s
/-- R393. -/
def execSra (n : Fin 16) (d a b : RegNo) (s : State) : Res := rr alu24 n a b (intOp intTags 1 (shiftOf sraOf) d) s
/-- R391 and R393. -/
def execMul (n : Fin 16) (d a b : RegNo) (s : State) : Res := rr mul24 n a b (intOp intTags 3 (· * ·) d) s
/-- R393. -/
def execCmpeq (n : Fin 16) (d a b : RegNo) (s : State) : Res :=
  rr alu24 n a b (intOp wordTags 1 (fun x y => truth (x == y)) d) s
/-- R393. -/
def execCmplt (n : Fin 16) (d a b : RegNo) (s : State) : Res :=
  rr alu24 n a b (intOp intTags 1 (fun x y => truth (x.slt y)) d) s
/-- R393. -/
def execCmpltu (n : Fin 16) (d a b : RegNo) (s : State) : Res :=
  rr alu24 n a b (intOp wordTags 1 (fun x y => truth (x.ult y)) d) s
/-- R391. -/
def execTagget (n : Fin 16) (d a : RegNo) (s : State) : Res :=
  r1 alu24 n a (fun x c => .ok { writes := resW c d (Word.int (x.tag.setWidth 48)) }) s

/-- R391 and R392: the short form adds to wd itself. -/
def execAddi (n : Fin 16) (f : AddiForm) (s : State) : Res :=
  match f with
  | .short d imm => r1 alu24 n d (fun x c => sumOp sumTag (· + ·) d x (Word.int (imm.signExtend 48)) c) s
  | .long d a imm => r1 alu48 n a (fun x c => sumOp sumTag (· + ·) d x (Word.int (imm.signExtend 48)) c) s

/-- R391. -/
def execLis (n : Fin 16) (d : RegNo) (imm : BitVec 10) (s : State) : Res :=
  ok (runReg n alu24 (fun c => .ok { writes := resW c d (Word.int (imm.signExtend 48)) }) s)
/-- R395. -/
def execDadd (n : Fin 16) (d a b : RegNo) (s : State) : Res := rr dec24 n a b (decSum false d) s
/-- R395. -/
def execDsub (n : Fin 16) (d a b : RegNo) (s : State) : Res := rr dec24 n a b (decSum true d) s
/-- R394. -/
def execBcmp (n : Fin 16) (d a b : RegNo) (s : State) : Res := rr alu24 n a b (intOp bearTags 1 bcmpOf d) s
/-- R394. -/
def execBadd (n : Fin 16) (d a b : RegNo) (s : State) : Res :=
  rr alu24 n a b (fun x y c => do
    let p ← operand bearTags 0 x
    let q ← operand intTags 1 y
    return { writes := resW c d (Word.bear (p + q)) }) s

/-! ### 48-bit instructions, R392 -/

/-- R392. -/
def execLi (n : Fin 16) (d : RegNo) (imm : BitVec 34) (s : State) : Res :=
  ok (runReg n alu48 (fun c => .ok { writes := resW c d (Word.int (imm.signExtend 48)) }) s)
/-- R392. -/
def execLea (n : Fin 16) (d : RegNo) (imm : BitVec 34) (s : State) : Res :=
  ok (runReg n alu48 (fun c => .ok { writes := resW c d (Word.addr (c.pc + imm.signExtend 48)) }) s)
/-- R392. -/
def execLih (n : Fin 16) (d a : RegNo) (imm : BitVec 24) (s : State) : Res :=
  r1 alu48 n a (fun x c => do
    let p ← operand wordTags 0 x
    return { writes := resW c d ⟨x.tag, imm ++ p.setWidth 24⟩ }) s

/-- A logic instruction with an immediate, zero-extended. -/
def logicImm (f : Payload → Payload → Payload) (n : Fin 16) (d a : RegNo) (imm : BitVec 24) (s : State) : Res :=
  r1 alu48 n a (fun x c => intOp wordTags 1 f d x (Word.int (imm.setWidth 48)) c) s

/-- R392 and R393. -/
def execAndi (n : Fin 16) (d a : RegNo) (imm : BitVec 24) (s : State) : Res := logicImm (· &&& ·) n d a imm s
/-- R392 and R393. -/
def execOri (n : Fin 16) (d a : RegNo) (imm : BitVec 24) (s : State) : Res := logicImm (· ||| ·) n d a imm s
/-- R392 and R393. -/
def execXori (n : Fin 16) (d a : RegNo) (imm : BitVec 24) (s : State) : Res := logicImm (· ^^^ ·) n d a imm s

/-- A shift by an immediate count. -/
def shiftImm (f : Payload → Nat → Payload) (n : Fin 16) (d a : RegNo) (k : BitVec 6) (s : State) : Res :=
  r1 alu48 n a (fun x c => intOp intTags 1 (shiftOf f) d x (Word.int (k.setWidth 48)) c) s

/-- R392 and R393. -/
def execShli (n : Fin 16) (d a : RegNo) (k : BitVec 6) (s : State) : Res := shiftImm shlOf n d a k s
/-- R392 and R393. -/
def execShri (n : Fin 16) (d a : RegNo) (k : BitVec 6) (s : State) : Res := shiftImm shrOf n d a k s
/-- R392 and R393. -/
def execSrai (n : Fin 16) (d a : RegNo) (k : BitVec 6) (s : State) : Res := shiftImm sraOf n d a k s

/-- R392. -/
def execMulh (n : Fin 16) (d a b : RegNo) (s : State) : Res := rr mul48 n a b (intOp intTags 3 mulhOf d) s
/-- R392. -/
def execMulhu (n : Fin 16) (d a b : RegNo) (s : State) : Res := rr mul48 n a b (intOp intTags 3 mulhuOf d) s
/-- R393. -/
def execDiv (n : Fin 16) (d a b : RegNo) (s : State) : Res := rr div48 n a b (sdivOp divOf d) s
/-- R393. -/
def execDivu (n : Fin 16) (d a b : RegNo) (s : State) : Res := rr div48 n a b (udivOp divuOf d) s
/-- R393. -/
def execRem (n : Fin 16) (d a b : RegNo) (s : State) : Res := rr div48 n a b (sdivOp remOf d) s
/-- R393. -/
def execRemu (n : Fin 16) (d a b : RegNo) (s : State) : Res := rr div48 n a b (udivOp remuOf d) s

/-- R392 and R403: 0xD and 0xE are illegal, and SEAL is made at M alone. -/
def execTagset (n : Fin 16) (d a : RegNo) (t : Tag) (s : State) : Res :=
  r1 alu48 n a (fun x c =>
    if t.reserved then .error (excIll c.pc.toNat)
    else if t = Tags.sealT ∧ c.pl ≠ .m then .error (excPriv c.pc.toNat)
    else .ok { writes := resW c d ⟨t, x.pay⟩ }) s

/-- R392 and R393: it checks wc alone. -/
def execSel (n : Fin 16) (d a b k : RegNo) (s : State) : Res :=
  ok (runReg n alu48 (fun c => do
    let p ← operand intTags 2 (c.getW k)
    return { writes := resW c d (if p ≠ 0 then c.getW a else c.getW b) }) s)

/-- R381. -/
def execMtb (n : Fin 16) (bk : BitVec 3) (a : RegNo) (s : State) : Res :=
  r1 alu48 n a (fun x _ => do
    let p ← operand addrTags 0 x
    return { writes := [.b bk.toNat (BitVec.ofNat 32 (p.toNat / 2 ^ 16))] }) s
/-- R381. -/
def execMfb (n : Fin 16) (d : RegNo) (bk : BitVec 3) (s : State) : Res :=
  ok (runReg n alu48 (fun c => .ok { writes := resW c d (Word.addr (c.getB bk.toNat ++ (0 : BitVec 16))) }) s)

end Sys2Proof.Machine
end

