-- ==== Sys2Proof/Machine/Power.lean ====
section
/-! DEFINITION. The power-fail save sequence, and reset (17 R648–R663, 18 R686, R687, 19 R699, R703, R707, R709). -/

namespace Sys2Proof.Machine

/-! ### T0 to T0 + 16, R649 and R650 -/

/-- PFWIN as it acts, R652. -/
def State.pfWin (s : State) : Nat := min (s.fld R.PF_CFG F.PF_CFG_PFWIN) 160000

/-- The tick T0, in which the comparator has reported the rail below its threshold for PFFILT consecutive ticks.
(DEDUCED, log entry 80.) -/
def pfailAssert (s : State) : State :=
  if s.pf.stage ≠ .none ∨ s.sys.inReset then s
  else
    let s1 := { (s.setFld R.PF_STAT F.PF_STAT_PFAIL 1) with pf := { s.pf with
      stage := .window
      t0 := s.tick
      ts := s.tick + s.pfWin } }
    let s1 := (List.range 4).foldl (fun s k => marchAbort k s) (pinsPfail s1)
    logCairn .power 0x01 [⟨18, s1.fld R.PF_CFG F.PF_CFG_PFWIN⟩] s1

/-- R649 and R650. -/
def execPfailAssert (s : State) : Res := ok (pfailAssert s)

/-- A save is under way. -/
def State.saving (s : State) : Bool := s.pf.stage == .window || s.pf.stage == .saving

/-- T0 + 1, R650: what stops, what is captured, and PFAIL at every core. -/
def pfailHalt (s : State) : State :=
  if ¬ s.saving ∨ s.pf.halted ∨ s.tick < s.pf.t0 + 1 then s
  else
    let s := captureGaz (captureSlots s)
    let s := (List.range 16).foldl (fun s n => s.setCore n { s.core n with pfail := true, waiting := false }) s
    { s with
      pf := { s.pf with halted := true }
      trav := { s.trav with stopped := true }
      link := { s.link with stopped := true } }

/-- R650. -/
def execPfailHalt (s : State) : Res := ok (pfailHalt s)

/-- T0 + 16, R650. -/
def execSaveDomainIsolate (s : State) : Res :=
  ok (if s.saving ∧ s.pf.t0 + 16 ≤ s.tick then { s with junc := { s.junc with isolated := true } } else s)

/-! ### TS, R650, R651 and R659 -/

/-- A special register with the tag that MFSR reads. -/
def Core.srImage (c : Core) (k : Nat) : Word :=
  if k = 17 ∨ k = 18 then c.srW k
  else ⟨(srReset k).tag, if k = 0 then BitVec.ofNat 48 c.statRead else (c.srW k).pay⟩

/-- The words of a core's context, R659. -/
def coreWords (s : State) (n : Nat) : List Word :=
  let c := s.core n
  [Word.addr c.pc] ++ ((List.range 33).map fun i => c.wAt (i + 1))
    ++ (([0, 1, 2, 3, 4, 5, 6, 7, 16, 17, 18, 19, 21] ++ (List.range 12).map (24 + ·)).map c.srImage)
    ++ [Word.raw (s.reg (R.LANTERN_XDELEG n))]

/-- A core at its boundary is stopped there with its results landed, and its context is captured.
(DEDUCED, log entry 61.) -/
def captureCore (n : Nat) (s : State) : State :=
  if ¬ (s.core n).atBoundaryNow ∨ s.pf.captured.contains n ∨ s.pf.missed.contains n then s
  else
    let s := s.setCore n { (s.core n).landAll with stopped := true }
    let s := setImages (0x240 + 64 * n) (coreWords s n) s
    { s with pf := { s.pf with captured := s.pf.captured ++ [n] } }

/-- The mask of the cores captured. -/
def State.capturedMask (s : State) : Nat := (s.pf.captured.map (2 ^ ·)).sum

/-- The log accepts what it has queued. -/
def cairnDrain : Nat → State → State
  | 0, s => s
  | n + 1, s => cairnDrain n (cairnTake s)

/-- TS. -/
def saveWindowEnd (s : State) : State :=
  if s.pf.stage ≠ .window ∨ s.tick < s.pf.ts then s
  else
    let s := (List.range 16).foldl (fun s n => captureCore n s) s
    let s := logCairn .power 0x02 [⟨16, s.capturedMask⟩] s
    let s := cairnDrain s.cairn.queue.length s
    { s with
      pf := { s.pf with stage := .saving }
      cairn := { s.cairn with frozen := true } }

/-- R650 and R651. -/
def execSaveWindowEnd (s : State) : Res := ok (saveWindowEnd s)

/-- A core is captured if it stands at a boundary, and has missed the capture if it does not. -/
def settleCore (n : Nat) (s : State) : State :=
  let s := captureCore n s
  if s.pf.captured.contains n ∨ s.pf.missed.contains n then s
  else { s with pf := { s.pf with missed := s.pf.missed ++ [n] } }

/-- R651: 10 µs, 1,000 ticks, after TS. -/
def execCoreCaptureTimeout (n : Fin 16) (s : State) : Res :=
  ok (if s.pf.stage = .saving ∧ s.pf.ts + 1000 ≤ s.tick then settleCore n s else s)

/-! ### The image, R656 to R662 -/

/-- The words of the Cairn entry of a sequence number, R640. -/
def entryWords (s : State) (q : Nat) : List Word :=
  let e := s.cairnAt q
  [Word.int e.tick, Word.bear e.pos0, Word.int e.e2, Word.raw e.detail]

/-- Entries that the image holds, R657: 4,096 once the log has accepted as many, for E2 of a written entry is not
zero, R647. -/
def State.savedEntries (s : State) : Nat :=
  let n := s.fld R.CAIRN_SEQ F.CAIRN_SEQ_NEXT
  if n < 4096 ∧ (s.cairnAt (n + 61440)).e2 = 0 then n else 4096

/-- The last entries accepted, oldest first. -/
def captureLog (s : State) : State :=
  let n := s.savedEntries
  let q := s.fld R.CAIRN_SEQ F.CAIRN_SEQ_NEXT
  setImages 0xE40 ((List.range n).flatMap fun i => entryWords s (q + 65536 - n + i)) s

/-- Words of an image. -/
def imageLen : Nat := 0x44E40

/-- A word of an image slot written by the saver; one whose write fails holds a free container, R662. -/
def saveWord (k : Nat) (bad : List Nat) (i : Nat) (w : Word) (s : State) : State :=
  if bad.contains i then
    let r := s.freeNat
    r.2.setCont (imageBase k + i) (BitVec.ofNat 64 r.1)
  else s.putWord (imageBase k + i) w

/-- The body written, `n` words of it. -/
def saveBody (k : Nat) (bad : List Nat) (n : Nat) (s : State) : State :=
  (List.range n).foldl (fun s j => saveWord k bad (0x40 + j) (s.imageAt (0x40 + j)) s) s

/-- Header words 0 to 4 and 6 to 63, R658. -/
def headerWord (q t0 ts cores entries errs i : Nat) : Word :=
  match i with
  | 0 => Word.int 0x0000_5A4E_5046
  | 1 => Word.int (BitVec.ofNat 48 q)
  | 2 => Word.int (BitVec.ofNat 48 t0)
  | 3 => Word.int (BitVec.ofNat 48 ts)
  | 4 => Word.int (BitVec.ofNat 48 (cores + entries * 2 ^ 16 + min errs (2 ^ 19 - 1) * 2 ^ 29))
  | _ => Word.raw 0

/-- The slot to be written, R661, and the image's sequence number, R662. -/
def State.saveTarget (s : State) : Nat × Nat :=
  match s.newestImage with
  | some k => (1 - k, (s.imageSeq k + 1) % 2 ^ 32)
  | none => (0, 1)

/-- The image written whole, R662. -/
def saveImage (bad : List Nat) (s : State) : State :=
  let s := judgeReads false s
  let t := s.saveTarget
  let k := t.1
  let errs := ((List.range imageLen).filter bad.contains).length
  let s := saveWord k bad 5 (Word.int 0) s
  let s := saveBody k bad (imageLen - 0x40) s
  let s := ((List.range 64).filter (· ≠ 5)).foldl (fun s i =>
    saveWord k bad i (headerWord t.2 s.pf.t0 s.pf.ts s.capturedMask s.savedEntries errs i) s) s
  saveWord k bad 5 (Word.int 1) s

/-- The save has ended, R653. -/
def saveEnded (s : State) : State :=
  { s with
    pf := { s.pf with stage := .ended }
    sys := { s.sys with inReset := true } }

/-- Everything that the image takes is captured. -/
def captureRest (s : State) : State :=
  let s := (List.range 16).foldl (fun s n => settleCore n s) s
  captureLog (if s.pf.axesDone then s else captureAxes s)

/-- The save completes; with SAVEN = 0 the saver writes nothing, R649. -/
def imageSave (bad : List Nat) (s : State) : State :=
  if s.pf.stage ≠ .saving then s
  else
    let s := captureRest s
    saveEnded (if s.flag R.PF_CFG F.PF_CFG_SAVEN then saveImage bad s else s)

/-- R656 to R662. -/
def execImageSaveComplete (bad : List (BitVec 19)) (s : State) : Res := ok (imageSave (bad.map (·.toNat)) s)

/-! ### Reset, R653, R699, R703 and R709 -/

/-- A save ended before its commit, R653: word 5 holds COMMIT = 0, and how much of the body is written is free. -/
def saveCut (s : State) : State :=
  if s.pf.stage = .saving ∧ s.flag R.PF_CFG F.PF_CFG_SAVEN then
    let s := judgeReads false (captureRest s)
    let r := s.freeNat
    let k := r.2.saveTarget.1
    saveBody k [] (min r.1 (imageLen - 0x40)) (r.2.putWord (imageBase k + 5) (Word.int 0))
  else s

/-- The device is held in reset; a save in progress ends, R653. -/
def forceReset (s : State) : State :=
  if s.saving then saveEnded (saveCut s) else { s with sys := { s.sys with inReset := true } }

/-- R699: held off while a save is under way. -/
def execResetAssert (s : State) : Res := ok (if s.saving then s else { s with sys := { s.sys with inReset := true } })
/-- R703. -/
def execClockMonitorFault (s : State) : Res := ok (forceReset s)
/-- R709: THERMTRIP_N stays low until power is removed. -/
def execThermalTrip (s : State) : Res :=
  let s := forceReset s
  ok { s with sys := { s.sys with thermTrip := true } }

/-- The cells of the NVS. -/
def nvsCells (m : List Host.Cell) : List Host.Cell :=
  m.filter fun c => decide (8 * imageBase 0 ≤ c.1) && decide (c.1 < 8 * (imageBase 0 + 2 ^ 20))

/-- What the stacks keep through a reset: hard repairs always, R291, and soft repairs until power is removed, R290. -/
def hbmsAfterReset (cold : Bool) (s : State) : Tab Hbm :=
  (List.range 6).foldl (fun t st => tset (fun _ => {}) t st {
    soft := if cold then [] else (s.hbm st).soft
    hard := (s.hbm st).hard }) []

/-- The state after a device reset: the fuses, the flash, the NVS and row repairs last, and the commands that wait; memory
outside the NVS lasts where power was not removed. (DESIGN CHOICE, log entry 77.) -/
def afterReset (cold : Bool) (bootsel smba : Nat) (s : State) : State :=
  let t : State := { State.reset with
    pending := s.pending
    fresh := s.fresh
    flash := s.flash
    fuses := s.fuses
    mem := if cold then nvsCells s.mem else s.mem
    hbms := hbmsAfterReset cold s
    sec := { State.reset.sec with
      bootsel := bootsel
      smba := smba } }
  let t := t.setFld R.SEC_SVN F.SEC_SVN_SVNMIN s.fuses.svnMin
  let t := t.setFld R.SEC_DBG F.SEC_DBG_DBGDIS (b2n s.fuses.dbgDis)
  t.setFld R.PF_STAT F.PF_STAT_VHOK 1

/-- The device leaves reset with its straps sampled, R699 and R707; a power-on reset judges the image slots, R663.
`por`: power was removed. -/
def resetRelease (bootsel smba : Nat) (por : Bool) (s : State) : State :=
  if ¬ s.sys.inReset ∨ (s.sys.thermTrip ∧ ¬ por) then s
  else
    let cold : Bool := por || s.pf.stage == .ended
    let t := afterReset cold bootsel smba s
    if cold then imageJudge t else t

/-- R699, R686 and R663. -/
def execResetRelease (straps : Straps) (por : Bool) (s : State) : Res :=
  ok (resetRelease straps.bootsel.toNat straps.smba.toNat por s)

end Sys2Proof.Machine
end

