-- ==== Sys2Proof/Machine/Dispatch.lean ====
section
/-! DEFINITION. One arm per command: the command's effect on everything but the queue. -/

namespace Sys2Proof.Machine

/-- The effect of a command. (DESIGN CHOICE, log entry 10.) -/
def exec (i : Instr) (s : State) : Host.Outcome State Fault Refusal :=
  match i with
  | .tickAxisUpdate => Sys2Proof.Machine.execTickAxisUpdate s
  | .quadCountEdge e a b ph => Sys2Proof.Machine.execQuadCountEdge e a b ph s
  | .ssiPoll n alt => Sys2Proof.Machine.execSsiPoll n alt s
  | .ssiFrameComplete n alt raw low => Sys2Proof.Machine.execSsiFrameComplete n alt raw low s
  | .mainsCrossing n alt rise => Sys2Proof.Machine.execMainsCrossing n alt rise s
  | .sourceFault n => Sys2Proof.Machine.execSourceFault n s
  | .coastTimeout n => Sys2Proof.Machine.execCoastTimeout n s
  | .zEdge e z => Sys2Proof.Machine.execZEdge e z s
  | .axisEnable n v => Sys2Proof.Machine.execAxisEnable n v s
  | .axisDisable n v => Sys2Proof.Machine.execAxisDisable n v s
  | .setpos n v => Sys2Proof.Machine.execSetpos n v s
  | .gazArm ix v => Sys2Proof.Machine.execGazArm ix v s
  | .gazDisarm ix v => Sys2Proof.Machine.execGazDisarm ix v s
  | .gazEntryWrite ix k v => Sys2Proof.Machine.execGazEntryWrite ix k v s
  | .gazFire => Sys2Proof.Machine.execGazFire s
  | .comparatorPulseEnd c => Sys2Proof.Machine.execComparatorPulseEnd c s
  | .deadlineMiss => Sys2Proof.Machine.execDeadlineMiss s
  | .giss n d a g => Sys2Proof.Machine.execGiss n d a g s
  | .gissr n d a b => Sys2Proof.Machine.execGissr n d a b s
  | .gissJudgement g => Sys2Proof.Machine.execGissJudgement g s
  | .linkedDescriptorIssue g => Sys2Proof.Machine.execLinkedDescriptorIssue g s
  | .gresume n d g sl => Sys2Proof.Machine.execGresume n d g sl s
  | .gtlbw n g a b c => Sys2Proof.Machine.execGtlbw n g a b c s
  | .gtlbi n g a => Sys2Proof.Machine.execGtlbi n g a s
  | .gtlbia n g => Sys2Proof.Machine.execGtlbia n g s
  | .startBearingMet g sl => Sys2Proof.Machine.execStartBearingMet g sl s
  | .tokenSetPropagate => Sys2Proof.Machine.execTokenSetPropagate s
  | .tokpost g v => Sys2Proof.Machine.execTokpost g v s
  | .tokclr g v => Sys2Proof.Machine.execTokclr g v s
  | .slotSelect g => Sys2Proof.Machine.execSlotSelect g s
  | .preempt g => Sys2Proof.Machine.execPreempt g s
  | .relayWordReceive g x => Sys2Proof.Machine.execRelayWordReceive g x s
  | .elementCommit g => Sys2Proof.Machine.execElementCommit g s
  | .elementFault g mt => Sys2Proof.Machine.execElementFault g mt s
  | .instructionComplete g => Sys2Proof.Machine.execInstructionComplete g s
  | .retireRecordWrite g sl => Sys2Proof.Machine.execRetireRecordWrite g sl s
  | .crtailWrite g v => Sys2Proof.Machine.execCrtailWrite g v s
  | .crRingConfigWrite g ctl v => Sys2Proof.Machine.execCrRingConfigWrite g ctl v s
  | .abort g sl => Sys2Proof.Machine.execAbort g sl s
  | .galOwnerWrite g o => Sys2Proof.Machine.execGalOwnerWrite g o s
  | .quarantineEnter g why ma mpc => Sys2Proof.Machine.execQuarantineEnter g why ma mpc s
  | .quarantineLeave g => Sys2Proof.Machine.execQuarantineLeave g s
  | .quarantineResetDone g => Sys2Proof.Machine.execQuarantineResetDone g s
  | .ucLanternPatchWrite m lv n isMatch x v => Sys2Proof.Machine.execUcLanternPatchWrite m lv n isMatch x v s
  | .ucGalleryPatchWrite m lv isMatch x v => Sys2Proof.Machine.execUcGalleryPatchWrite m lv isMatch x v s
  | .hbmTrained st => Sys2Proof.Machine.execHbmTrained st s
  | .wordRead m a => Sys2Proof.Machine.execWordRead m a s
  | .wordWrite m a w => Sys2Proof.Machine.execWordWrite m a w s
  | .sampleStore m a v => Sys2Proof.Machine.execSampleStore m a v s
  | .fieldWrite m a w mask et => Sys2Proof.Machine.execFieldWrite m a w mask et s
  | .hbmScrubVisit st => Sys2Proof.Machine.execHbmScrubVisit st s
  | .chamberScrubVisit n => Sys2Proof.Machine.execChamberScrubVisit n s
  | .softRepair st lv v => Sys2Proof.Machine.execSoftRepair st lv v s
  | .hardRepair st lv v => Sys2Proof.Machine.execHardRepair st lv v s
  | .repairDone st good => Sys2Proof.Machine.execRepairDone st good s
  | .quiesceWrite st lv v => Sys2Proof.Machine.execQuiesceWrite st lv v s
  | .hbmTemperatureHigh st temp => Sys2Proof.Machine.execHbmTemperatureHigh st temp s
  | .marchGo k lv v => Sys2Proof.Machine.execMarchGo k lv v s
  | .marchAbort k lv v => Sys2Proof.Machine.execMarchAbort k lv v s
  | .marchEnd k mode tgt bg => Sys2Proof.Machine.execMarchEnd k mode tgt bg s
  | .junctionGrant t => Sys2Proof.Machine.execJunctionGrant t s
  | .junctionResponse m => Sys2Proof.Machine.execJunctionResponse m s
  | .defaultTargetAccess m a wr => Sys2Proof.Machine.execDefaultTargetAccess m a wr s
  | .junctionEnable v => Sys2Proof.Machine.execJunctionEnable v s
  | .junctionFullRate => Sys2Proof.Machine.execJunctionFullRate s
  | .sliceWrite m lv v => Sys2Proof.Machine.execSliceWrite m lv v s
  | .priParkWrite park m g lv v => Sys2Proof.Machine.execPriParkWrite park m g lv v s
  | .rd x hdr => Sys2Proof.Machine.execRd x hdr s
  | .wr x hdr data => Sys2Proof.Machine.execWr x hdr data s
  | .wrp x hdr data => Sys2Proof.Machine.execWrp x hdr data s
  | .sampst x hdr d => Sys2Proof.Machine.execSampst x hdr d s
  | .fldwr x hdr d => Sys2Proof.Machine.execFldwr x hdr d s
  | .atomFadd x hdr d => Sys2Proof.Machine.execAtomFadd x hdr d s
  | .atomSwap x hdr d => Sys2Proof.Machine.execAtomSwap x hdr d s
  | .atomCas x hdr d e => Sys2Proof.Machine.execAtomCas x hdr d e s
  | .pteupd x hdr d e => Sys2Proof.Machine.execPteupd x hdr d e s
  | .stream x hdr data => Sys2Proof.Machine.execStream x hdr data s
  | .rsp x hdr data => Sys2Proof.Machine.execRsp x hdr data s
  | .rspn x hdr => Sys2Proof.Machine.execRspn x hdr s
  | .credit x c => Sys2Proof.Machine.execCredit x c s
  | .init x c => Sys2Proof.Machine.execInit x c s
  | .flitReplay u => Sys2Proof.Machine.execFlitReplay u s
  | .linkRetrain u good rep => Sys2Proof.Machine.execLinkRetrain u good rep s
  | .internalLinkDown l => Sys2Proof.Machine.execInternalLinkDown l s
  | .siteLinkDown x unack => Sys2Proof.Machine.execSiteLinkDown x unack s
  | .siteRequestTimeout x => Sys2Proof.Machine.execSiteRequestTimeout x s
  | .siteResetRelease x lv v => Sys2Proof.Machine.execSiteResetRelease x lv v s
  | .siteTrained x nmod link active => Sys2Proof.Machine.execSiteTrained x nmod link active s
  | .siteBringupTimeout x => Sys2Proof.Machine.execSiteBringupTimeout x s
  | .siteResetAssert x lv v => Sys2Proof.Machine.execSiteResetAssert x lv v s
  | .vnomWrite x lv v win => Sys2Proof.Machine.execVnomWrite x lv v win s
  | .siteRailFault x aux => Sys2Proof.Machine.execSiteRailFault x aux s
  | .nop n => Sys2Proof.Machine.execNop n s
  | .mov n d a => Sys2Proof.Machine.execMov n d a s
  | .add n d a b => Sys2Proof.Machine.execAdd n d a b s
  | .sub n d a b => Sys2Proof.Machine.execSub n d a b s
  | .and n d a b => Sys2Proof.Machine.execAnd n d a b s
  | .or n d a b => Sys2Proof.Machine.execOr n d a b s
  | .xor n d a b => Sys2Proof.Machine.execXor n d a b s
  | .shl n d a b => Sys2Proof.Machine.execShl n d a b s
  | .shr n d a b => Sys2Proof.Machine.execShr n d a b s
  | .sra n d a b => Sys2Proof.Machine.execSra n d a b s
  | .mul n d a b => Sys2Proof.Machine.execMul n d a b s
  | .cmpeq n d a b => Sys2Proof.Machine.execCmpeq n d a b s
  | .cmplt n d a b => Sys2Proof.Machine.execCmplt n d a b s
  | .cmpltu n d a b => Sys2Proof.Machine.execCmpltu n d a b s
  | .tagget n d a => Sys2Proof.Machine.execTagget n d a s
  | .addi n f => Sys2Proof.Machine.execAddi n f s
  | .lis n d imm => Sys2Proof.Machine.execLis n d imm s
  | .lw n f => Sys2Proof.Machine.execLw n f s
  | .sw n f => Sys2Proof.Machine.execSw n f s
  | .dclean n a => Sys2Proof.Machine.execDclean n a s
  | .dinv n a => Sys2Proof.Machine.execDinv n a s
  | .dclinv n a => Sys2Proof.Machine.execDclinv n a s
  | .b n disp => Sys2Proof.Machine.execB n disp s
  | .jal n f slot48 => Sys2Proof.Machine.execJal n f slot48 s
  | .bz n a disp => Sys2Proof.Machine.execBz n a disp s
  | .bzA n a disp => Sys2Proof.Machine.execBzA n a disp s
  | .bnz n a disp => Sys2Proof.Machine.execBnz n a disp s
  | .bnzA n a disp => Sys2Proof.Machine.execBnzA n a disp s
  | .bltz n a disp => Sys2Proof.Machine.execBltz n a disp s
  | .bltzA n a disp => Sys2Proof.Machine.execBltzA n a disp s
  | .bgez n a disp => Sys2Proof.Machine.execBgez n a disp s
  | .bgezA n a disp => Sys2Proof.Machine.execBgezA n a disp s
  | .jr n a => Sys2Proof.Machine.execJr n a s
  | .jalr n a slot48 => Sys2Proof.Machine.execJalr n a slot48 s
  | .ret n => Sys2Proof.Machine.execRet n s
  | .scall n k => Sys2Proof.Machine.execScall n k s
  | .sret n => Sys2Proof.Machine.execSret n s
  | .eret n => Sys2Proof.Machine.execEret n s
  | .ibar n => Sys2Proof.Machine.execIbar n s
  | .mbar n => Sys2Proof.Machine.execMbar n s
  | .pflush n => Sys2Proof.Machine.execPflush n s
  | .pbar n k => Sys2Proof.Machine.execPbar n k s
  | .wait n => Sys2Proof.Machine.execWait n s
  | .lpop n => Sys2Proof.Machine.execLpop n s
  | .mfsr n d sr => Sys2Proof.Machine.execMfsr n d sr s
  | .mtsr n a sr => Sys2Proof.Machine.execMtsr n a sr s
  | .dadd n d a b => Sys2Proof.Machine.execDadd n d a b s
  | .dsub n d a b => Sys2Proof.Machine.execDsub n d a b s
  | .bcmp n d a b => Sys2Proof.Machine.execBcmp n d a b s
  | .badd n d a b => Sys2Proof.Machine.execBadd n d a b s
  | .fadd n d a b => Sys2Proof.Machine.execFadd n d a b s
  | .fsub n d a b => Sys2Proof.Machine.execFsub n d a b s
  | .fmul n d a b => Sys2Proof.Machine.execFmul n d a b s
  | .fdiv n d a b => Sys2Proof.Machine.execFdiv n d a b s
  | .fsqrt n d a => Sys2Proof.Machine.execFsqrt n d a s
  | .fmin n d a b => Sys2Proof.Machine.execFmin n d a b s
  | .fmax n d a b => Sys2Proof.Machine.execFmax n d a b s
  | .fabs n d a => Sys2Proof.Machine.execFabs n d a s
  | .fneg n d a => Sys2Proof.Machine.execFneg n d a s
  | .fcmpeq n d a b => Sys2Proof.Machine.execFcmpeq n d a b s
  | .fcmplt n d a b => Sys2Proof.Machine.execFcmplt n d a b s
  | .fcmple n d a b => Sys2Proof.Machine.execFcmple n d a b s
  | .fcvtwi n d a => Sys2Proof.Machine.execFcvtwi n d a s
  | .fcvtiw n d a => Sys2Proof.Machine.execFcvtiw n d a s
  | .fmvwf n d a => Sys2Proof.Machine.execFmvwf n d a s
  | .fmvfw n d a => Sys2Proof.Machine.execFmvfw n d a s
  | .li n d imm => Sys2Proof.Machine.execLi n d imm s
  | .lea n d imm => Sys2Proof.Machine.execLea n d imm s
  | .lih n d a imm => Sys2Proof.Machine.execLih n d a imm s
  | .andi n d a imm => Sys2Proof.Machine.execAndi n d a imm s
  | .ori n d a imm => Sys2Proof.Machine.execOri n d a imm s
  | .xori n d a imm => Sys2Proof.Machine.execXori n d a imm s
  | .shli n d a k => Sys2Proof.Machine.execShli n d a k s
  | .shri n d a k => Sys2Proof.Machine.execShri n d a k s
  | .srai n d a k => Sys2Proof.Machine.execSrai n d a k s
  | .mulh n d a b => Sys2Proof.Machine.execMulh n d a b s
  | .mulhu n d a b => Sys2Proof.Machine.execMulhu n d a b s
  | .div n d a b => Sys2Proof.Machine.execDiv n d a b s
  | .divu n d a b => Sys2Proof.Machine.execDivu n d a b s
  | .rem n d a b => Sys2Proof.Machine.execRem n d a b s
  | .remu n d a b => Sys2Proof.Machine.execRemu n d a b s
  | .tagset n d a t => Sys2Proof.Machine.execTagset n d a t s
  | .sel n d a b c => Sys2Proof.Machine.execSel n d a b c s
  | .lsu n d a imm => Sys2Proof.Machine.execLsu n d a imm s
  | .lss n d a imm => Sys2Proof.Machine.execLss n d a imm s
  | .ss n d a imm => Sys2Proof.Machine.execSs n d a imm s
  | .lwx n d a b => Sys2Proof.Machine.execLwx n d a b s
  | .swx n d a b => Sys2Proof.Machine.execSwx n d a b s
  | .vld n d a imm => Sys2Proof.Machine.execVld n d a imm s
  | .vst n d a imm => Sys2Proof.Machine.execVst n d a imm s
  | .amoadd n d a b => Sys2Proof.Machine.execAmoadd n d a b s
  | .amoswp n d a b => Sys2Proof.Machine.execAmoswp n d a b s
  | .amocas n d a b c => Sys2Proof.Machine.execAmocas n d a b c s
  | .lwb n d bk ad => Sys2Proof.Machine.execLwb n d bk ad s
  | .swb n d bk ad => Sys2Proof.Machine.execSwb n d bk ad s
  | .lsub n d bk ad => Sys2Proof.Machine.execLsub n d bk ad s
  | .ssb n d bk ad => Sys2Proof.Machine.execSsb n d bk ad s
  | .mtb n bk a => Sys2Proof.Machine.execMtb n bk a s
  | .mfb n d bk => Sys2Proof.Machine.execMfb n d bk s
  | .beq n a b disp => Sys2Proof.Machine.execBeq n a b disp s
  | .beqA n a b disp => Sys2Proof.Machine.execBeqA n a b disp s
  | .bne n a b disp => Sys2Proof.Machine.execBne n a b disp s
  | .bneA n a b disp => Sys2Proof.Machine.execBneA n a b disp s
  | .blt n a b disp => Sys2Proof.Machine.execBlt n a b disp s
  | .bltA n a b disp => Sys2Proof.Machine.execBltA n a b disp s
  | .bge n a b disp => Sys2Proof.Machine.execBge n a b disp s
  | .bgeA n a b disp => Sys2Proof.Machine.execBgeA n a b disp s
  | .bltu n a b disp => Sys2Proof.Machine.execBltu n a b disp s
  | .bltuA n a b disp => Sys2Proof.Machine.execBltuA n a b disp s
  | .bgeu n a b disp => Sys2Proof.Machine.execBgeu n a b disp s
  | .bgeuA n a b disp => Sys2Proof.Machine.execBgeuA n a b disp s
  | .j n disp => Sys2Proof.Machine.execJ n disp s
  | .call n mask disp => Sys2Proof.Machine.execCall n mask disp s
  | .callr n a mask => Sys2Proof.Machine.execCallr n a mask s
  | .loop n a disp => Sys2Proof.Machine.execLoop n a disp s
  | .loopi n k disp => Sys2Proof.Machine.execLoopi n k disp s
  | .tlbw n d a b c => Sys2Proof.Machine.execTlbw n d a b c s
  | .tlbi n a => Sys2Proof.Machine.execTlbi n a s
  | .tlbia n => Sys2Proof.Machine.execTlbia n s
  | .fma n d a b c => Sys2Proof.Machine.execFma n d a b c s
  | .vop n d a b op et sat side => Sys2Proof.Machine.execVop n d a b op et sat side s
  | .vbcast n d a => Sys2Proof.Machine.execVbcast n d a s
  | .vext n d a k => Sys2Proof.Machine.execVext n d a k s
  | .vins n d a k => Sys2Proof.Machine.execVins n d a k s
  | .vmov n d a => Sys2Proof.Machine.execVmov n d a s
  | .vfma n d a b => Sys2Proof.Machine.execVfma n d a b s
  | .resultWriteback n => Sys2Proof.Machine.execResultWriteback n s
  | .branchResolve n => Sys2Proof.Machine.execBranchResolve n s
  | .statChangeEffective n => Sys2Proof.Machine.execStatChangeEffective n s
  | .divideUnitFree n => Sys2Proof.Machine.execDivideUnitFree n s
  | .storeBufferDrain n => Sys2Proof.Machine.execStoreBufferDrain n s
  | .deterministicEntry n => Sys2Proof.Machine.execDeterministicEntry n s
  | .eventRaise src => Sys2Proof.Machine.execEventRaise src s
  | .swset m v => Sys2Proof.Machine.execSwset m v s
  | .routeWrite src lv v => Sys2Proof.Machine.execRouteWrite src lv v s
  | .trapEntry n at_ => Sys2Proof.Machine.execTrapEntry n at_ s
  | .adUpdate n va k => Sys2Proof.Machine.execAdUpdate n va k s
  | .adUpdateOutcome n => Sys2Proof.Machine.execAdUpdateOutcome n s
  | .laneEnable l m v => Sys2Proof.Machine.execLaneEnable l m v s
  | .laneDisable l m v => Sys2Proof.Machine.execLaneDisable l m v s
  | .laneLock l => Sys2Proof.Machine.execLaneLock l s
  | .laneFault l => Sys2Proof.Machine.execLaneFault l s
  | .laneRecover l => Sys2Proof.Machine.execLaneRecover l s
  | .laneClaim l m => Sys2Proof.Machine.execLaneClaim l m s
  | .laneRelease l m => Sys2Proof.Machine.execLaneRelease l m s
  | .frameTransmit l => Sys2Proof.Machine.execFrameTransmit l s
  | .dataRx l bs => Sys2Proof.Machine.execDataRx l bs s
  | .posRx l bs => Sys2Proof.Machine.execPosRx l bs s
  | .ack l bs => Sys2Proof.Machine.execAck l bs s
  | .nak l bs => Sys2Proof.Machine.execNak l bs s
  | .ackDelayExpiry l e => Sys2Proof.Machine.execAckDelayExpiry l e s
  | .rtoExpiry l e => Sys2Proof.Machine.execRtoExpiry l e s
  | .disc l m => Sys2Proof.Machine.execDisc l m s
  | .discoveryCollectEnd l => Sys2Proof.Machine.execDiscoveryCollectEnd l s
  | .report l bs => Sys2Proof.Machine.execReport l bs s
  | .reversalComplete l => Sys2Proof.Machine.execReversalComplete l s
  | .unrev l m => Sys2Proof.Machine.execUnrev l m s
  | .msgq l m v => Sys2Proof.Machine.execMsgq l m v s
  | .posPeriod l => Sys2Proof.Machine.execPosPeriod l s
  | .timePeriod l => Sys2Proof.Machine.execTimePeriod l s
  | .txqwWrite l m v => Sys2Proof.Machine.execTxqwWrite l m v s
  | .queueTailWrite k q v => Sys2Proof.Machine.execQueueTailWrite k q v s
  | .ethRx p ph bs => Sys2Proof.Machine.execEthRx p ph bs s
  | .txprod p m v => Sys2Proof.Machine.execTxprod p m v s
  | .ethTx p ph => Sys2Proof.Machine.execEthTx p ph s
  | .ethLinkChange p => Sys2Proof.Machine.execEthLinkChange p s
  | .ptpadj p m v => Sys2Proof.Machine.execPtpadj p m v s
  | .ptpsecRead p => Sys2Proof.Machine.execPtpsecRead p s
  | .resourceClaim r m v => Sys2Proof.Machine.execResourceClaim r m v s
  | .resourceRelease r m => Sys2Proof.Machine.execResourceRelease r m s
  | .adcGo c m ph => Sys2Proof.Machine.execAdcGo c m ph s
  | .adcSample c ph code => Sys2Proof.Machine.execAdcSample c ph code s
  | .adcConversionDone c => Sys2Proof.Machine.execAdcConversionDone c s
  | .encoderLossOfSignal e los => Sys2Proof.Machine.execEncoderLossOfSignal e los s
  | .swlvlWrite o m v => Sys2Proof.Machine.execSwlvlWrite o m v s
  | .gpioEdge g lvl => Sys2Proof.Machine.execGpioEdge g lvl s
  | .bar0Access f a op => Sys2Proof.Machine.execBar0Access f a op s
  | .bar2Access f a op => Sys2Proof.Machine.execBar2Access f a op s
  | .flr f => Sys2Proof.Machine.execFlr f s
  | .perst => Sys2Proof.Machine.execPerst s
  | .fnCfgEnable f v => Sys2Proof.Machine.execFnCfgEnable f v s
  | .sqdb f v => Sys2Proof.Machine.execSqdb f v s
  | .cqdb f v => Sys2Proof.Machine.execCqdb f v s
  | .commandNop f => Sys2Proof.Machine.execCommandNop f s
  | .commandCopy f => Sys2Proof.Machine.execCommandCopy f s
  | .commandFill f => Sys2Proof.Machine.execCommandFill f s
  | .commandAttest f => Sys2Proof.Machine.execCommandAttest f s
  | .commandReserved f => Sys2Proof.Machine.execCommandReserved f s
  | .mbdb f => Sys2Proof.Machine.execMbdb f s
  | .msigen f v => Sys2Proof.Machine.execMsigen f v s
  | .bootRom test trained flash fm sram good => Sys2Proof.Machine.execBootRom test trained flash fm sram good s
  | .hostBootGo => Sys2Proof.Machine.execHostBootGo s
  | .mlockSet m lv => Sys2Proof.Machine.execMlockSet m lv s
  | .csgo m lv v => Sys2Proof.Machine.execCsgo m lv v s
  | .attGo m lv => Sys2Proof.Machine.execAttGo m lv s
  | .attestDone => Sys2Proof.Machine.execAttestDone s
  | .debugSessionOpen ins => Sys2Proof.Machine.execDebugSessionOpen ins s
  | .idcode => Sys2Proof.Machine.execIdcode s
  | .bypass => Sys2Proof.Machine.execBypass s
  | .samplePreload => Sys2Proof.Machine.execSamplePreload s
  | .smbusReadBoot => Sys2Proof.Machine.execSmbusReadBoot s
  | .smbusReadTemp => Sys2Proof.Machine.execSmbusReadTemp s
  | .smbusReadIdpub => Sys2Proof.Machine.execSmbusReadIdpub s
  | .cairnEntryAccept => Sys2Proof.Machine.execCairnEntryAccept s
  | .rdat3Read m => Sys2Proof.Machine.execRdat3Read m s
  | .swent v => Sys2Proof.Machine.execSwent v s
  | .pfailAssert => Sys2Proof.Machine.execPfailAssert s
  | .pfailHalt => Sys2Proof.Machine.execPfailHalt s
  | .saveDomainIsolate => Sys2Proof.Machine.execSaveDomainIsolate s
  | .saveWindowEnd => Sys2Proof.Machine.execSaveWindowEnd s
  | .coreCaptureTimeout n => Sys2Proof.Machine.execCoreCaptureTimeout n s
  | .imageSaveComplete bad => Sys2Proof.Machine.execImageSaveComplete bad s
  | .vholdLow => Sys2Proof.Machine.execVholdLow s
  | .restore m lv => Sys2Proof.Machine.execRestore m lv s
  | .restoreDone => Sys2Proof.Machine.execRestoreDone s
  | .inval m lv => Sys2Proof.Machine.execInval m lv s
  | .heartbeatTimeout => Sys2Proof.Machine.execHeartbeatTimeout s
  | .cascConfigWrite lv off v => Sys2Proof.Machine.execCascConfigWrite lv off v s
  | .resetAssert => Sys2Proof.Machine.execResetAssert s
  | .resetRelease straps por => Sys2Proof.Machine.execResetRelease straps por s
  | .clockMonitorFault => Sys2Proof.Machine.execClockMonitorFault s
  | .thermalTrip => Sys2Proof.Machine.execThermalTrip s
  | .registerWrite m lv off w => Sys2Proof.Machine.execRegisterWrite m lv off w s
  | .siteRailRestored x aux => Sys2Proof.Machine.execSiteRailRestored x aux s
  | .atomReserved x hdr data => Sys2Proof.Machine.execAtomReserved x hdr data s
  | .pcieLinkChange up rate width => Sys2Proof.Machine.execPcieLinkChange up rate width s
  | .debugSessionClose => Sys2Proof.Machine.execDebugSessionClose s

end Sys2Proof.Machine
end

