-- ==== Sys2Proof/Machine/Step.lean ====
section
/-! DEFINITION. A step of the block: the command at the front of the queue runs on the state with the queue's rest; an
empty queue leaves the block idle. -/

namespace Sys2Proof.Machine

/-- One step. With no command waiting nothing happens: the clock's own effects are commands of the table
(TICK_AXIS_UPDATE and the other timed rows). (DESIGN CHOICE, log entry 4.) -/
def step (s : State) : Host.Outcome State Fault Refusal :=
  match s.pending with
  | [] => .next s
  | c :: cs => exec c { s with pending := cs }

/-- The command that a word spells put at the front of the queue; the state unchanged where it spells none. -/
def State.withFetchWord (s : State) (nbits w : Nat) : State :=
  match decodeTableWord nbits w with
  | some c => { s with pending := c :: s.pending }
  | none => s

end Sys2Proof.Machine
end

