-- ==== Sys2Proof/Safety.lean ====
section
/-! DEFINITION. The terms in which statements speak of states: memories in canonical form, accesses that are performed at
once, and what commands do and leave alone, unit by unit. -/

namespace Sys2Proof.Machine

/-- A memory is in canonical form: addresses strictly rising, no byte that an unlisted address reads as. -/
def memWf (m : List Host.Cell) : Bool := twf (fun _ => 0) m

/-- Every memory of the state is in canonical form. -/
def State.canonical (s : State) : Bool := memWf s.mem && memWf s.niche && memWf s.flash

/-- Master m may make accesses, and nothing waits in the Junction, R334, R339 and R632. -/
def State.turn (s : State) (m : Nat) : Bool := !s.barred m && !s.junc.draining && s.junc.waiting.isEmpty

/-- An access of master m to address a is performed at once by an HBM stack, a chamber or a lane buffer: there is a path
and no link of it is down, nothing waits in the Junction, the word is not locked by a march, the stack is trained, not
quiesced and not being repaired there, and the word lies in no save region. -/
def State.performs (s : State) (m a : Nat) : Bool :=
  (match targetOf a with
    | .hbm st => !s.hbmWaits st (a / 4) && !s.flag (R.HBM_QUIESCE st) F.HBM_QUIESCE_Q
    | .cham _ => decide (a % 0x800000 < 0x7F0000)
    | .lbuf _ => true
    | _ => false)
  && hasPath m (targetOf a) && !s.junc.isolated && (s.lockedBy (a / 4)).isNone
  && !s.pathDown (s.masterDie m a) (dieOfTarget (targetOf a)) && s.turn m

/-- The state once an access has been presented to its target: the gallery port of a chamber may have been in its way,
R306. -/
def State.presented (s : State) (a : Nat) (wr : Bool) : State :=
  match targetOf a with
  | .cham n => chamberPort n a wr s
  | _ => s

/-- The word of master m stored at address a by an access of its own. -/
def State.storedBy (s : State) (m a : Nat) (w : Word) : State :=
  ((s.presented a true).putWord (a / 4) w).granted (targetOf a).id m

/-- The state once master m has read at address a a word that needs no correction. -/
def State.readBy (s : State) (m a : Nat) : State := (s.presented a false).granted (targetOf a).id m

/-- Every byte of memory outside word index w is the same in two states. -/
def State.sameBut (s t : State) (w : Nat) : Prop :=
  ∀ i, i < 8 * w ∨ 8 * w + 8 ≤ i → memByte t.mem i = memByte s.mem i

/-- A master has received an answer at a target, and one word of memory at most has changed. -/
def State.answered (s t : State) (m a : Nat) (st : Status) (x : Word) (wr : Bool) (w : Nat) : Prop :=
  s.sameBut t w
    ∧ t.junc = { s.junc with ports := t.junc.ports, rsps := s.junc.rsps ++ [{ m := m, a := a, st := st, w := x, wr := wr, va := evalAddr m a }] }
    ∧ (t.port (s.portOf m a).id).last = some m
    ∧ t = { s with mem := t.mem, junc := t.junc, fresh := t.fresh, chams := t.chams }

/-- The visit of a pseudo-channel's scrubber is due, R288, and no soft repair of the pseudo-channel runs, R290. -/
def State.scrubDue (s : State) (st q : Nat) : Bool :=
  decide ((tget (fun _ => {}) (s.hbm st).scrubs q).due ≤ s.tick)
    && !((s.hbm st).running.any fun r => !r.hard && r.q == q)

/-- The first word of the granule that the scrubber of a pseudo-channel visits next, R282 and R288. -/
def State.scrubWordAt (s : State) (st q : Nat) : Nat :=
  8 * hbmGranule (32 * st + q) (tget (fun _ => {}) (s.hbm st).scrubs q).next

/-- The first word of the block that a chamber's scrubber visits next, R309. -/
def State.blockAt (s : State) (n : Nat) : Nat := (0x200_0000_0000 + n * 0x800000) / 4 + 32 * (s.chamber n).scrub.next

/-- An access of gallery g is performed at once: over the gallery port of its own chamber at a word that no march holds,
below the save region, or over the Junction. -/
def State.galServes (s : State) (g a : Nat) : Bool :=
  if targetOf a = .cham g then decide (a % 0x800000 < 0x7F0000) && (s.lockedBy (a / 4)).isNone
  else s.performs (16 + g) a

/-- No march run holds a word locked. -/
def State.noMarch (s : State) : Prop := ∀ k, k < 4 → (s.march k).run = none

/-- A slot waits for nothing under the scoreboard of gallery g in state s. -/
def Slot.waitsNot (s : State) (g : Nat) (x : Slot) : Bool :=
  (!x.aw0 || s.token g x.desc.await0) && (!x.aw1 || s.token g x.desc.await1) && !x.sbw

/-- No slot of gallery g waits with an instruction without elements, which would complete as soon as it is READY, R158. -/
def State.noEmptyWait (s : State) (g : Nat) : Prop :=
  ∀ sl, sl < 32 → (s.slot g sl).st = .wait → (s.slot g sl).desc.len ≠ 0

/-- Every slot but one of gallery g is the same in two states. -/
def State.slotsBut (s t : State) (g sl : Nat) : Prop := ∀ i, i ≠ sl → t.slot g i = s.slot g i

/-- A slot has ended as far as its instruction goes: FREE or RETIRE. -/
def SlotSt.over (x : SlotSt) : Bool := x == .free || x == .retire

/-- The chain of a descriptor takes one whole-word element from the chamber and gives one whole word to the chamber:
streams A and result are UNIT streams of the chamber with base multiples of 4, the other streams are OFF, nothing is
masked, packed or reduced. -/
def Desc.wordChain (d : Desc) : Bool :=
  d.form 0 == 1 && d.space 0 == 1 && d.form 1 == 0 && d.form 2 == 0 && d.form 3 == 1 && d.space 3 == 1
    && d.msrc == 0 && d.pack == 0 && d.redStep.isNone && d.et.perWord == 1 && d.ft.perWord == 1
    && d.base 0 % 4 == 0 && d.base 3 % 4 == 0

/-- Where the next record of gallery g's ring goes. -/
def State.ringAt (s : State) (g : Nat) : Nat :=
  (s.fld (R.GAL_CRBASE g) F.GAL_CRBASE_CRBASE / 4 * 4 + 16 * s.fld (R.GAL_CRHEAD g) F.GAL_CRHEAD_HEAD) % 2 ^ 42

/-- The ring of gallery g takes a record at once. -/
def State.ringTakes (s : State) (g : Nat) : Prop :=
  2 ≤ s.crlen g ∧ s.crSpace g ≠ 0 ∧ s.pf.halted = false ∧
    ∀ i, i < 4 → s.galServes g (s.ringAt g + 4 * i) = true

/-- Function f is served with its BAR2 word at window byte 8 · w of an open segment, which lies at physical address pa. -/
def State.bar2At (s : State) (f w : Nat) (wr : Bool) (pa : Nat) : Prop :=
  s.flag R.HOST_CTL F.HOST_CTL_OPEN = true ∧ (f = 0 ∨ f ≤ s.fld R.HOST_CTL F.HOST_CTL_TOTVF)
    ∧ s.flag (R.FN_SEG f (w / 2 ^ 26)) F.FN_SEG_V = true
    ∧ s.flag (R.FN_SEG f (w / 2 ^ 26)) (if wr then F.FN_SEG_WR else F.FN_SEG_RD) = true
    ∧ pa = s.fld (R.FN_SEG f (w / 2 ^ 26)) F.FN_SEG_BASE * 2 ^ 28 + w % 2 ^ 26 * 4

/-- The 8 window bytes of a word, R599. -/
def winBytes (x : Word) : List (BitVec 8) := bytesOf x.pay.toNat 6 ++ [x.tag.setWidth 8, 0]

/-- A write of 8 bytes, all enabled. -/
def allOf (bs : List (BitVec 8)) : PciOp := .wr (bs.map some)

/-- The tag that a BAR2 write stores, R604. -/
def hostTag (tagp : Bool) (t : Tag) : Tag :=
  if t = 0xD ∨ t = 0xE then Tags.uni
  else if tagp = false ∧ (t = Tags.addr ∨ t = Tags.code ∨ t = Tags.pte ∨ t = Tags.desc ∨ t = Tags.sealT) then Tags.raw
  else t

/-- A request of function f has failed: R605. -/
def State.barFailure (s t : State) (f a : Nat) (c : PcieCpl) : Prop :=
  t.host.cpl = some c ∧ t.regN (R.FN_ERRADDR f) = a ∧ t.flag (R.FN_STAT f) F.FN_STAT_BADACC = true
    ∧ t.fld R.HOST_ERRCNT F.HOST_ERRCNT_ERRCNT = (s.fld R.HOST_ERRCNT F.HOST_ERRCNT_ERRCNT + 1) % 2 ^ F.HOST_ERRCNT_ERRCNT.w
    ∧ t = { s with regs := t.regs, host := t.host, cairn := t.cairn, fresh := t.fresh }

/-- The length of a ring, R609. -/
def ringOf (log : Nat) : Nat := if 1 ≤ log ∧ log ≤ 12 then 2 ^ log else 2 ^ 12

/-- Function f, which is served next, finds the command ws, none of whose words carries a wrong tag, at CONS of its
ring, and its completion queue has room at an accepting slot. -/
def State.commandAt (s : State) (f : Nat) (ws : List Word) : Prop :=
  s.nextFn = some f ∧ s.cmdRuns = false ∧ s.host.run = none ∧ s.cqSpace f = true ∧ ws.length = 8
    ∧ (∀ i, i < 8 → let a := s.fld (R.FN_SQBASE f) F.FN_SQBASE_BASE + 32 * (s.fld (R.FN_SQIDX f) F.FN_SQIDX_CONS
          % ringOf (s.fld (R.FN_CFG f) F.FN_CFG_SQLOG2)) + 4 * i
        s.performs 34 a = true ∧ a % 4 = 0 ∧ decodeContainer (s.cont (a / 4)) = .clean (ws.getD i Word.uni0))

/-- The address of the next completion of function f. -/
def State.cqAt (s : State) (f : Nat) : Nat :=
  s.fld (R.FN_CQBASE f) F.FN_CQBASE_BASE + 16 * (s.fld (R.FN_CQIDX f) F.FN_CQIDX_PROD
    % ringOf (s.fld (R.FN_CFG f) F.FN_CFG_CQLOG2))

/-- The next completion of function f can be written. -/
def State.cqTakes (s : State) (f : Nat) : Prop :=
  ∀ i, i < 4 → s.performs 34 (s.cqAt f + 4 * i) = true ∧ (s.cqAt f + 4 * i) % 4 = 0

/-- Two states differ at most in registers, memory, the host port and what accesses leave behind in the Junction and the
chambers. -/
def State.moved (s t : State) : State :=
  { s with
    regs := t.regs
    mem := t.mem
    host := t.host
    fresh := t.fresh
    chams := t.chams
    junc := { s.junc with ports := t.junc.ports } }

/-- The command at CONS of function f has completed, R613 to R615: its four words, the indices, the rotation and the
history; of the registers no others change but FN.STAT, whose BUSY is clear, and no other function's state. -/
def State.completed (s t : State) (f : Nat) (id : BitVec 64) (st jst done : Nat) (replay : Bool) : Prop :=
  let lg := s.fld (R.FN_CFG f) F.FN_CFG_CQLOG2
  let prod := s.fld (R.FN_CQIDX f) F.FN_CQIDX_PROD
  let cons := s.fld (R.FN_SQIDX f) F.FN_SQIDX_CONS
  let ph := if bit prod (if 1 ≤ lg ∧ lg ≤ 12 then lg else 12) then 0 else 1
  t.cont (s.cqAt f / 4) = encodeWord (Word.int (BitVec.ofNat 48
      (cons + st * 2 ^ 16 + jst * 2 ^ 24 + (if replay then 2 ^ 28 else 0) + ph * 2 ^ 47)))
    ∧ t.cont (s.cqAt f / 4 + 1) = encodeWord (Word.int (id.setWidth 48))
    ∧ t.cont (s.cqAt f / 4 + 2) = encodeWord (Word.int (BitVec.ofNat 48 (id.toNat / 2 ^ 48)))
    ∧ t.cont (s.cqAt f / 4 + 3) = encodeWord (Word.int (BitVec.ofNat 48 done))
    ∧ t.fld (R.FN_SQIDX f) F.FN_SQIDX_CONS = (cons + 1) % 2 ^ 16
    ∧ t.fld (R.FN_CQIDX f) F.FN_CQIDX_PROD = (prod + 1) % 2 ^ 16 ∧ t.host.lastFn = f
    ∧ t.hostFn f = { s.hostFn f with hist := if id = 0 ∨ replay = true then (s.hostFn f).hist
        else ((⟨id, st, jst, done⟩ : HistEnt) :: (s.hostFn f).hist).take 4096 }
    ∧ (∀ i, i ≠ f → t.hostFn i = s.hostFn i) ∧ t.host = { s.host with lastFn := f, fns := t.host.fns }
    ∧ t.flag (R.FN_STAT f) F.FN_STAT_BUSY = false
    ∧ (∀ k, k ≠ R.FN_STAT f → k ≠ R.FN_SQIDX f → k ≠ R.FN_CQIDX f → t.reg k = s.reg k) ∧ t = s.moved t

/-- Memory words other than those of listed addresses read the same in two states. -/
def State.memBut (s t : State) (as : List Nat) : Prop := ∀ w, (∀ a ∈ as, w ≠ a / 4) → t.cont w = s.cont w

/-- Every register but those at the listed offsets is the same in two states. -/
def State.regsBut (s t : State) (l : List Nat) : Prop := ∀ k, k ∉ l → t.reg k = s.reg k

/-- The registers that a change of lane l's or of its endpoints' states may write. -/
def laneRegs (l : Nat) : List Nat :=
  [R.LANE_STAT l, R.LANE_EVT l, R.EVC_PEND ((192 + l) / 32), R.CAIRN_DROPCNT]

/-- Lane l can send: it is UP or RETURN, link DMA is not stopped, and none of its messages waits to be queued or read. -/
def State.laneSends (s : State) (l : Nat) : Bool :=
  (s.laneSt l == 2 || s.laneSt l == 4) && !s.link.stopped && (s.link.asks.filter fun a => a.lane == l).isEmpty
    && (s.lane l).reading.isEmpty

/-- The sideband of lane l's die is up, so that the lane's events are raised, R28. -/
def State.laneHeard (s : State) (l : Nat) : Prop := s.sideDown (eventDie (192 + l)) = false

/-- What sending a frame leaves on lane l: its bytes, and its blocks after an idle block. -/
def Lane.onWire (y : Lane) (f : YFrame) : Lane :=
  { y with
    wire := yBytes f
    blocks := .idle :: yBlocks (yBytes f) }

/-- The bytes on lane l are a frame of this type from endpoint e of the lane itself, which is UP. -/
def State.hears (s : State) (l : Nat) (bs : List (BitVec 8)) (ty e : Nat) (f : YFrame) : Prop :=
  s.laneSt l = 2 ∧ yParse bs = some f ∧ f.ty = ty ∧ s.rxEp l f = some e

/-- How far a sequence number lies beyond TXUNACK of an endpoint. -/
def State.beyondUnack (s : State) (l e a : Nat) : Nat := (a + 65536 - s.epSeq l e F.EP_SEQ_TXUNACK) % 65536

/-- A queue delivers to memory: it is enabled, stores to memory, its engine runs and nothing waits there, every word of n
words in its next slot and its status word is performed at once, and they do not overlap. -/
def State.queueStores (s : State) (k q n : Nat) : Prop :=
  let slot := s.fld (R.Q_BASE k q) F.Q_BASE_BASE + 4 * s.fld (R.Q_SIZE k q) F.Q_SIZE_SLOTW * s.fld (R.Q_HEAD k q) F.Q_HEAD_HEAD
  let stw := s.fld (R.Q_SBASE k q) F.Q_SBASE_SBASE + 4 * s.fld (R.Q_HEAD k q) F.Q_HEAD_HEAD
  s.flag (R.Q_CFG k q) F.Q_CFG_EN = true ∧ s.flag (R.Q_CFG k q) F.Q_CFG_SDST = false
    ∧ s.linkOps k = [] ∧ s.link.stopped = false
    ∧ s.ringFull k q = false ∧ n ≤ s.fld (R.Q_SIZE k q) F.Q_SIZE_SLOTW
    ∧ slot % 4 = 0 ∧ stw % 4 = 0 ∧ (stw + 4 ≤ slot ∨ slot + 4 * n ≤ stw)
    ∧ s.performs (32 + k) stw = true ∧ ∀ i, i < n → s.performs (32 + k) (slot + 4 * i) = true

/-- Two states differ at most in registers, cores, memory and what accesses leave behind in the Junction and the chambers. -/
def State.stores (s t : State) : State :=
  { s with
    regs := t.regs
    cores := t.cores
    mem := t.mem
    fresh := t.fresh
    chams := t.chams
    junc := { s.junc with ports := t.junc.ports } }

/-- The word address of the next slot of a queue. -/
def State.slotAt (s : State) (k q : Nat) : Nat :=
  (s.fld (R.Q_BASE k q) F.Q_BASE_BASE + 4 * s.fld (R.Q_SIZE k q) F.Q_SIZE_SLOTW * s.fld (R.Q_HEAD k q) F.Q_HEAD_HEAD) / 4

/-- The word address of the next status word of a queue. -/
def State.statusAt (s : State) (k q : Nat) : Nat :=
  (s.fld (R.Q_SBASE k q) F.Q_SBASE_SBASE + 4 * s.fld (R.Q_HEAD k q) F.Q_HEAD_HEAD) / 4

/-- The queue k.q of t holds these words in the slot that s would fill next, this status value, and its HEAD and PH
have moved on. -/
def State.queued (s t : State) (k q lp ep kind st id : Nat) (ws : List Word) : Prop :=
  (∀ i, i < ws.length → t.cont (s.slotAt k q + i) = encodeWord (ws.getD i Word.uni0))
  ∧ t.cont (s.statusAt k q) = encodeWord (Word.int (BitVec.ofNat 48 (lp + ep * 2 ^ 8 + kind * 2 ^ 12 + st * 2 ^ 14
      + id % 2 ^ 16 * 2 ^ 17 + ws.length % 2 ^ 14 * 2 ^ 33 + s.fld (R.Q_HEAD k q) F.Q_HEAD_PH * 2 ^ 47)))
  ∧ t.fld (R.Q_HEAD k q) F.Q_HEAD_HEAD = (s.fld (R.Q_HEAD k q) F.Q_HEAD_HEAD + 1) % s.nslot k q
  ∧ t.fld (R.Q_HEAD k q) F.Q_HEAD_PH = (if (s.fld (R.Q_HEAD k q) F.Q_HEAD_HEAD + 1) % s.nslot k q = 0
      then 1 - s.fld (R.Q_HEAD k q) F.Q_HEAD_PH else s.fld (R.Q_HEAD k q) F.Q_HEAD_PH)
  ∧ ∀ i, (i < 8 * s.statusAt k q ∨ 8 * s.statusAt k q + 8 ≤ i) →
      (i < 8 * s.slotAt k q ∨ 8 * (s.slotAt k q + ws.length) ≤ i) → memByte t.mem i = memByte s.mem i

/-- Core n issues an instruction of sz samples at once: nothing holds it back, no trap is due, its pipeline is empty,
no STAT change, branch or boundary write is pending, it stands in no delay slot and resumes no routine, and the PC fits
the size. -/
def State.clear (s : State) (n sz : Nat) : Bool :=
  let c := s.core n
  s.mayIssue n && c.delay.isNone && c.slot0.isNone && c.inflight.isEmpty && c.statPend.isEmpty && c.branches.isEmpty
    && c.atBoundary.isEmpty && c.ucHeld.isEmpty && c.resume.isNone && c.divLeft == 0
    && (sz == 2 || c.pc.toNat % 4 == 0)

/-- The same, and the instruction ends no active loop. -/
def State.ready (s : State) (n sz : Nat) : Bool :=
  s.clear n sz && (List.range (s.core n).depth).all fun k => (s.core n).le k != (s.core n).seqNext sz

/-- Every general, vector, bank and special register reads the same; of FPCFG the payload. -/
def Core.sameRegs (c d : Core) : Prop :=
  (∀ k, d.wAt k = c.wAt k) ∧ (∀ r k, d.getV r k = c.getV r k) ∧ (∀ k, d.getB k = c.getB k)
    ∧ (∀ k, k ≠ 19 → d.srW k = c.srW k) ∧ d.srN 19 = c.srN 19

/-- Everything but the registers, the PC and the CODE words fetched ahead is the same. -/
def Core.restSame (c d : Core) : Prop :=
  d = { c with pc := d.pc, w := d.w, v := d.v, b := d.b, sr := d.sr, entered := d.entered, fbuf := d.fbuf }

/-- The counters that an instruction of core n may move. -/
def countRegs (n : Nat) : List Nat :=
  [R.LANTERN_ISSCNT n, R.LANTERN_FETCHCNT n, R.LANTERN_PAIRCNT n, R.LANTERN_HOLDCNT n, R.LANTERN_MISPCNT n,
    R.LANTERN_FRZCNT n]

/-- Core n has gone on to the PC p, and once its results have landed it holds exactly the given writes and flags. -/
def State.came (s t : State) (n : Nat) (p : Nat) (ws : List RegWr) (fl : Flg) : Prop :=
  (t.core n).pc = BitVec.ofNat 48 p ∧ ((landWrites ws (s.core n)).addFlags fl).sameRegs (t.core n).landAll

/-- The same, and of the other cores and of the registers of the register space only its counters have changed. -/
def State.landed (s t : State) (n : Nat) (p : Nat) (ws : List RegWr) (fl : Flg) : Prop :=
  s.came t n p ws fl ∧ (∀ m, m ≠ n → t.core m = s.core m) ∧ s.regsBut t (countRegs n)

/-- Two states differ at most in registers, cores and the free values taken. -/
def State.coresOf (s t : State) : State := { s with regs := t.regs, cores := t.cores, fresh := t.fresh }

/-- The same with the niche memories. -/
def State.nicheOf (s t : State) : State := { s.coresOf t with niche := t.niche }

/-- An instruction of sz samples that changes nothing but these registers and flags has run on core n. -/
def State.ran (s t : State) (n sz : Nat) (ws : List RegWr) (fl : Flg) : Prop :=
  s.landed t n ((s.core n).seqNext sz) ws fl ∧ (s.core n).restSame (t.core n).landAll

/-- An instruction that only writes registers runs to completion. -/
def State.runs (s : State) (c : Instr) (n sz : Nat) (ws : List RegWr) (fl : Flg) : Prop :=
  ∃ t, exec c s = .next t ∧ s.ran t n sz ws fl ∧ t = s.coresOf t

/-- Core n may reach the niche sample address a without translation. -/
def State.nicheAt (s : State) (n a : Nat) : Bool :=
  !(s.core n).te && ((s.core n).pl == .m || ((s.core n).pl == .s && s.inWindow n a)) && inNiche a

/-- The container of core n's niche word at a sample address. -/
def State.nicheCont (s : State) (n a : Nat) : Container := contAt s.niche (nicheIx n a)

/-- Every niche container but those of core n's words at the listed addresses is the same in two states. -/
def State.nicheBut (s t : State) (n : Nat) (as : List Nat) : Prop :=
  ∀ i, (∀ a ∈ as, i ≠ nicheIx n a) → contAt t.niche i = contAt s.niche i

/-- The frame that an entry at a level pushes: 12 words below the level's stack pointer. -/
def State.frameAt (s : State) (n : Nat) (lv : Level) : Nat :=
  (((s.core n).wAt (31 + lvlCode lv)).pay.toNat + 2 ^ 48 - 48) % 2 ^ 48

/-- A trap of core n to a level finds room for its frame in the niche memory. -/
def State.framed (s : State) (n : Nat) (lv : Level) : Prop :=
  ((s.core n).wAt (31 + lvlCode lv)).tag ∈ addrTags ∧ s.frameAt n lv % 4 = 0
    ∧ 0x303_0000_0000 ≤ s.frameAt n lv ∧ s.frameAt n lv + 48 ≤ 0x303_0004_0000

/-- Core n has taken the trap k, R467 to R470: the frame in its niche memory, the trap registers, the level, and the
PC at the vector of its index. In deterministic mode, where nothing has issued behind the boundary, R441, nothing else
changes but what the entry logs. -/
def State.trapped (s t : State) (n : Nat) (k : Trap) : Prop :=
  let c := s.core n
  let d := t.core n
  d.pc = BitVec.ofNat 48 (c.srN 5 + 8 * k.hidx)
    ∧ d.srN 0 = setBits (setBits (match k.ev with | some e => setBits c.stat 6 6 e.prio | none => c.stat)
        0 2 (lvlCode k.lvl)) 2 2 0
    ∧ d.srN 1 = k.ra.toNat ∧ d.srN 2 = estatOf c k ∧ d.srN 3 = k.hidx + k.sub % 2 ^ 16 * 2 ^ 11
    ∧ d.srN 4 = k.eval % 2 ^ 48 ∧ d.depth = 0 ∧ d.delay = none ∧ d.waiting = false
    ∧ d.wAt (31 + lvlCode k.lvl) = Word.addr (BitVec.ofNat 48 (s.frameAt n k.lvl))
    ∧ (∀ r, r ≠ 31 + lvlCode k.lvl → d.wAt r = c.wAt r) ∧ (∀ r j, d.getV r j = c.getV r j) ∧ (∀ j, d.getB j = c.getB j)
    ∧ (∀ j, 4 < j → j ≠ 16 → j ≠ 17 → j ≠ 18 → j ≠ 19 → j ≠ 21 → d.srW j = c.srW j) ∧ d.srN 19 = c.srN 19
    ∧ (∀ i, i < 12 → t.nicheCont n (s.frameAt n k.lvl + 4 * i) = encodeWord ((frameWords c k).getD i Word.uni0))
    ∧ s.nicheBut t n ((List.range 12).map fun i => s.frameAt n k.lvl + 4 * i)
    ∧ (c.det = true → t.mem = s.mem ∧ (∀ m, m ≠ n → t.core m = s.core m)
        ∧ (k.ev = none → k.hidx ∉ [0x0D, 0x12, 0x20, 0x21, 0x22] → t = s.nicheOf t ∧ s.regsBut t (countRegs n)))

/-- The trap that an exception of the instruction at the PC comes to. -/
def State.faultTrap (s : State) (n : Nat) (e : Exc) : Trap := excTrap n e (s.core n).pc false s

/-- Everything but the registers, the PC, the CODE words fetched ahead, the delay slot and the prediction is the same. -/
def Core.flowSame (c d : Core) : Prop :=
  d = { c with pc := d.pc, w := d.w, v := d.v, b := d.b, sr := d.sr, entered := d.entered, fbuf := d.fbuf,
               delay := d.delay, ctr := d.ctr, gh := d.gh, ras := d.ras, branches := d.branches, pbar := d.pbar }

/-- A transfer of core n with a delay slot has issued: the slot comes next, and the core remembers the transfer. -/
def State.branched (s t : State) (n sz : Nat) (ws : List RegWr) (d : DelaySlot) : Prop :=
  s.landed t n ((s.core n).seqNext sz) ws {} ∧ (t.core n).delay = some d ∧ (s.core n).flowSame (t.core n).landAll
    ∧ t = s.coresOf t

/-- Core n has made a transfer without a delay slot to a target, and these registers land. -/
def State.jumped (s t : State) (n : Nat) (target : Payload) (ws : List RegWr) : Prop :=
  s.landed t n target.toNat ws {} ∧ (t.core n).delay = none

/-- The same, and all else of core n is as before but for the transfer that has yet to resolve. -/
def State.jumpedOnly (s t : State) (n : Nat) (target : Payload) (ws : List RegWr) (c : Core) : Prop :=
  s.jumped t n target ws ∧ c.restSame { (t.core n).landAll with branches := c.branches }

/-- The direction that the counters predict, R435. -/
def Core.predicted (c : Core) : Bool := decide (2 ≤ c.counter (xorN (bits c.pc.toNat 1 13) c.gh))

/-- A conditional branch carries the penalty, R434. -/
def Core.pays (c : Core) (taken : Bool) : Bool :=
  if c.pbar ≠ 0 ∨ c.det then taken else c.predicted != taken

/-- Core n stands before a delay-slot instruction of sz samples, and nothing else holds it. -/
def State.inSlot (s : State) (n sz : Nat) (d : DelaySlot) : Bool :=
  let c := s.core n
  s.mayIssue n && c.delay == some d && c.slot0.isNone && c.inflight.isEmpty && c.statPend.isEmpty && c.branches.isEmpty
    && c.atBoundary.isEmpty && c.ucHeld.isEmpty && c.resume.isNone && c.divLeft == 0 && (sz == 2 || c.pc.toNat % 4 == 0)
    && (c.depth == 0 || c.le (c.depth - 1) != c.seqNext sz)

/-- Core n stands at an instruction boundary with an empty pipeline and no change pending. -/
def State.calm (s : State) (n : Nat) : Bool :=
  let c := s.core n
  !c.shut && !s.heldAtTs n && c.delay.isNone && c.slot0.isNone && c.inflight.isEmpty && c.statPend.isEmpty
    && c.branches.isEmpty && c.atBoundary.isEmpty && c.ucHeld.isEmpty && c.resume.isNone && c.divLeft == 0

/-- The tag that MFSR gives a special register, R383. -/
def srTag (k : Nat) : Tag :=
  if k = 1 ∨ k = 5 ∨ k = 6 ∨ (8 ≤ k ∧ k ≤ 15) ∨ k = 20 ∨ (24 ≤ k ∧ k ≤ 31) then Tags.addr else Tags.int

/-- The bits that an MTSR of a special register other than STAT stores, R72, R271, R386 and R470. -/
def srMask (k : Nat) : Payload :=
  match k with
  | 2 => 0x7FFFFF
  | 3 => 0x7FFFFFF
  | 5 => 0x3FFFFFFC000
  | 7 => 0x7FFF
  | 16 => 0x3FFF
  | 19 => 0x7F1F
  | 21 => 7
  | _ => 0xFFFFFFFFFFFF

/-- Gallery g reads the descriptor d at 16 physical addresses: every word is stored clean with tag DESC, the checks of
R204 pass, and it names no LUT table. -/
def State.descAt (s : State) (g : Nat) (at_ : Nat → Nat) (d : Desc) : Prop :=
  d.length = 16 ∧ d.check g = none ∧ d.hasLut = false
    ∧ ∀ i, i < 16 → s.galServes g (at_ i) = true ∧ at_ i % 4 = 0
      ∧ decodeContainer (s.cont (at_ i / 4)) = .clean ⟨Tags.desc, d.getD i 0⟩

/-- Slot sl of gallery g has taken the descriptor d of a request in t: R210, R203 and R213. -/
def State.accepted (s t : State) (g sl : Nat) (d : Desc) (q : GReq) (links : List GReq) : Prop :=
  (t.slot g sl).desc = d ∧ (t.slot g sl).daddr = q.va ∧ (t.slot g sl).lvl = q.lv ∧ (t.slot g sl).core = q.core
    ∧ (t.slot g sl).done = 0 ∧ (t.slot g sl).watched = (d.dpol != 0)
    ∧ (t.slot g sl).st = (if (d.await0 = 0 ∨ t.token g d.await0 = true) ∧ (d.await1 = 0 ∨ t.token g d.await1 = true)
        ∧ d.sben = false then SlotSt.ready else SlotSt.wait)
    ∧ (d.own ≠ 0 → ∀ i, i < 16 → s.pathDown (galDie g) (galDie i) = false → t.token i d.own = false) ∧ s.slotsBut t g sl
    ∧ (∀ i k, i < 16 → k ≠ d.own → t.token i k = s.token i k)
    ∧ (t.gal g).links = links ++ (if d.w 15 = 0 then [] else [{ q with va := BitVec.ofNat 48 (d.w 15) }])
    ∧ t.mem = s.mem ∧ t.cairn = s.cairn

/-- A frozen core has gone on with the word w in the destination of its GISS. -/
def Core.replied (c d : Core) (f : Frozen) (w : Word) : Prop :=
  d.frozen = none ∧ d.pc = BitVec.ofNat 48 (c.seqNext 4) ∧ (landWrites [.w f.dst w] c).sameRegs d.landAll
    ∧ Core.restSame { c with frozen := none } d.landAll

/-- No TOKPOST or TOKCLR write of core n to gallery g is still on its way, R218. -/
def State.tokensDone (s : State) (n g : Nat) : Prop :=
  (∀ e ∈ (s.core n).stores, isTokenWrite g e.pa (.wr e.w) = false)
    ∧ ∀ r ∈ s.junc.waiting, r.m = n → isTokenWrite g r.a r.op = false

/-- The reply word of R208. -/
def giReply (status slot : Nat) : Word := Word.int (BitVec.ofNat 48 (slot + 32 * status))

/-- A request with this header and d data slots can be taken from site x and answered at once, with r data slots: the
link is up, the header is well formed, nothing waits in either direction and the credits suffice. -/
def State.siteUp (s : State) (x : Nat) (hdr : BitVec 192) (d r : Nat) : Bool :=
  s.siteLive x && (s.site x).gotInit && s.flag (R.SITE_STAT x) F.SITE_STAT_UP
    && headerGood s x { hdr := hdr, data := [] } && (s.site x).rxq.isEmpty && (s.site x).txq.isEmpty
    && decide (1 ≤ (s.site x).theirs.reqH) && decide (d ≤ (s.site x).theirs.reqD)
    && decide (1 ≤ (s.site x).ours.rspH) && decide (r ≤ (s.site x).ours.rspD)

/-- The same, and site requests are enabled. -/
def State.siteTakes (s : State) (x : Nat) (hdr : BitVec 192) (d r : Nat) : Bool :=
  s.siteUp x hdr d r && s.flag (R.SITE_CTL x) F.SITE_CTL_EN

/-- Serving a site changed its own state, memory and what accesses change at ports. -/
def State.served (s t : State) : Prop :=
  t = { s with sites := t.sites, mem := t.mem, junc := { s.junc with ports := t.junc.ports }, fresh := t.fresh, chams := t.chams }

/-- The physical address and TAGP of the page that lets site x make the accesses of a header. -/
def State.sitePage (s : State) (x : Nat) (hdr : BitVec 192) (r w : Bool) : Option (Nat × Bool) :=
  let a := bits hdr.toNat 32 42
  match ioLookup s x a with
  | some e =>
    if a % e.size + 4 * (reqLen hdr.toNat - 1) < e.size ∧ (r = true → e.rd = true) ∧ (w = true → e.wr = true) then
      some (e.base + a % e.size, e.tagp)
    else none
  | none => none

/-- RSP with the given words for a request header: SRC and TAG echoed, R352. -/
def rspFor (hdr : BitVec 192) (ws : List Word) : PTx :=
  { hdr := BitVec.ofNat 192 (6 + bits hdr.toNat 8 18 * 2 ^ 8 + (ws.length - 1) * 2 ^ 26), data := ws.map encodeWord }

/-- RSPN with a status for a request header. -/
def rspnFor (hdr : BitVec 192) (st : Nat) : PTx :=
  { hdr := BitVec.ofNat 192 (7 + st * 2 ^ 4 + bits hdr.toNat 8 18 * 2 ^ 8), data := [] }

/-- The master that a header of site x names, R368. -/
def siteMaster (x : Nat) (hdr : BitVec 192) : Nat := 40 + 4 * x + bits hdr.toNat 8 2

/-- The words of image slot k, R656, as word indices of memory. -/
def inImage (k w : Nat) : Prop := imageBase k ≤ w ∧ w < imageBase k + imageLen

/-- The header words of both image slots hold their containers intact. -/
def State.headersClean (s : State) : Prop :=
  ∀ k i, k < 2 → i < 6 → ∃ w, decodeContainer (s.cont (imageBase k + i)) = .clean w

/-- A register that no unit of its own rules writes: the Traverse unit's beyond the axes' and the host's from HOST.CTL
to below the security engine's, but HOST.BOOT. -/
def plainReg (off : Nat) : Prop := (0x200400 ≤ off ∧ off < 0x300000) ∨ (R.HOST_CTL ≤ off ∧ off < 0x3D00000 ∧ off ≠ R.HOST_BOOT)

/-- The physical address of the register at an offset. -/
def regAddr (off : Nat) : Nat := 0x300_0000_0000 + off

/-- An access by master m of the register at an offset is performed at once: there is a path and no link of it is down,
nothing waits in the Junction and no restore runs. -/
def State.regOpen (s : State) (m off : Nat) : Prop :=
  hasPath m (targetOf (regAddr off)) = true ∧ s.junc.isolated = false
    ∧ s.pathDown (s.masterDie m (regAddr off)) (dieOfTarget (targetOf (regAddr off))) = false
    ∧ s.turn m = true ∧ s.pf.restoring = false ∧ off % 4 = 0

/-- Master m is answered after the target of a register's address has granted its access. -/
def State.regDone (s : State) (m off : Nat) (wr : Bool) (r : Ans) : State :=
  respond m (regAddr off) wr (if wr then evalAddr m (regAddr off) else 0) r (s.granted (targetOf (regAddr off)).id m)

/-- A field after a write, R17: `m` where the access is made at M, `lock` where MLOCK is set. -/
def codeWrites (acc : Access) (m lock : Bool) (w old v new : Nat) : Prop :=
  match acc with
  | .rw => new = v
  | .ro => new = old
  | .wo => new = old
  | .w1c => ∀ i, i < w → bit new i = (bit old i && !bit v i)
  | .rwm => new = if m then v else old
  | .rwl => new = if lock then old else v

end Sys2Proof.Machine
end

