-- ==== Sys2Proof/Certificates/Slice0/Obligations.lean ====
section
/-! DEFINITION. The statements for the provers, unit by unit. -/

section

open Sys2Proof Sys2Proof.Machine

/-! ### The machine as a whole, registers, cascade and power -/

/-- The queue of commands is the model's own, log entry 4. -/
def Obligations.StepRunsFront : Prop :=
  (∀ (c : Instr) (cs : List Instr) (s : State), s.pending = c :: cs → step s = exec c { s with pending := cs })
    ∧ (∀ s : State, s.pending = [] → step s = .next s)
    ∧ ∀ (c : Instr) (s : State), ∃ t, exec c s = .next t

/-- R686. -/
def Obligations.ResetCanonical : Prop :=
  State.reset.canonical = true ∧ State.reset.mem = [] ∧ State.reset.niche = [] ∧ State.reset.flash = []
    ∧ State.reset.pending = [] ∧ (∀ k, State.reset.reg k = regReset k)
    ∧ (∀ n, (State.reset.axis n).st = .off ∧ (State.reset.core n).pl = .m ∧ (State.reset.core n).inRom = true
        ∧ ∀ sl, (State.reset.slot n sl).st = .free)
    ∧ State.reset.cairn.queue = [] ∧ State.reset.cairn.ring = []

/-- Equal memories stay equal data. -/
def Obligations.StepKeepsCanonical : Prop :=
  ∀ s t : State, s.canonical = true → step s = .next t → t.canonical = true

/-- The decoder of the cores reads what the encoding tables write. -/
def Obligations.LanternRoundTrip : Prop :=
  ∀ (i : Instr) (b : Bool) (x : Nat), encodeLantern i = some (b, x) →
    x < 2 ^ (if b then 48 else 24)
    ∧ (∃ n nx, decodeAt n nx false x = some (i, if b then 4 else 2))
    ∧ (b = false → ∃ n nx, ∀ lo, lo < 2 ^ 24 → lo % 2 = 0 → decodeAt n nx true (lo + x * 2 ^ 24) = some (i, 2))

/-- R17, R21, R645 and R680 to R683. -/
def Obligations.RegisterWrites : Prop :=
  (∀ (m : Fin 48) (lv : Level) (off : BitVec 26) (w : Word) (s : State), s.regOpen m off.toNat →
    (w.tag.poisoned = true → exec (.registerWrite m lv off w) s = .next (s.regDone m off.toNat true { st := .tref }))
    ∧ (w.tag.poisoned = false → regAt off.toNat = none →
      exec (.registerWrite m lv off w) s = .next (s.regDone m off.toNat true { st := .ok }))
    ∧ (w.tag.poisoned = false → plainReg off.toNat → ∀ r ix, regAt off.toNat = some (r, ix) →
      ∃ t : State, exec (.registerWrite m lv off w) s = .next (t.regDone m off.toNat true { st := .ok })
        ∧ (∀ f ∈ r.fields, codeWrites f.acc (decide (accessLevel m lv s = .m))
            (s.flag R.SEC_LOCK F.SEC_LOCK_MLOCK) f.w (bits (s.regN off.toNat) f.lo f.w) (bits w.pay.toNat f.lo f.w)
            (bits (t.regN off.toNat) f.lo f.w))
        ∧ (∀ k, k ≠ off.toNat → t.reg k = s.reg k) ∧ t = { s with regs := t.regs }))
  ∧ ∀ (m : Fin 48) (s : State), s.regOpen m (R.CAIRN_RDAT 3) →
    exec (.rdat3Read m) s = .next ((rdat3Read s).regDone m (R.CAIRN_RDAT 3) false { st := .ok, w := Word.raw (s.rdat 3) })

/-- R563 and R665 to R672. -/
def Obligations.CascadeRules : Prop :=
  (∀ (l : Fin 256) (bs : List (BitVec 8)) (f : YFrame) (g : Nat × Nat) (gs : List (Nat × Nat)) (id ep own : Nat) (s : State),
    s.laneSt l = 2 → s.laneMode l = 6 → yParse bs = some f → f.ty = 3 → posGroups (payloadWords f.body) = g :: gs →
    id = bits g.1 7 3 → ep = bits g.1 11 16 → own = s.fld R.CASC_EPOCH F.CASC_EPOCH_EPOCH → s.cairn.queue.length ≤ 200 →
    (s.beatLane l = true → id = s.fld R.CASC_CFG F.CASC_CFG_ID → ∃ t, exec (.posRx l bs) s = .next t
      ∧ t.flag R.CASC_STAT F.CASC_STAT_DUPID = true ∧ t.isPending 780 = true
      ∧ t.fld R.CASC_HBAGE F.CASC_HBAGE_HBAGE = s.fld R.CASC_HBAGE F.CASC_HBAGE_HBAGE
      ∧ t = { s with regs := t.regs, cores := t.cores, cairn := t.cairn })
    ∧ (s.beatLane l = true → id ≠ s.fld R.CASC_CFG F.CASC_CFG_ID → bit g.1 10 = true → own ≤ ep →
      ∃ t, exec (.posRx l bs) s = .next t ∧ t.fld R.CASC_HBAGE F.CASC_HBAGE_HBAGE = 0
        ∧ t.flag R.CASC_STAT F.CASC_STAT_HBOK = true ∧ t.fld R.CASC_EPOCH F.CASC_EPOCH_EPOCH = ep
        ∧ t.fld R.CASC_STAT F.CASC_STAT_CURLANE = l ∧ t.casc = { s.casc with
            wasOk := true
            lost := false
            counted := true }
        ∧ t.reg R.CASC_CFG = s.reg R.CASC_CFG
        ∧ (l.val ≠ s.fld R.CASC_STAT F.CASC_STAT_CURLANE → t.isPending 781 = true)
        ∧ (s.casc.lost = true → t.isPending 779 = true)
        ∧ t = { s with regs := t.regs, cores := t.cores, cairn := t.cairn, axes := t.axes, casc := t.casc })
    ∧ (s.cascRole = 1 → bit g.1 10 = true → (own < ep ∨ (ep = own ∧ id < s.fld R.CASC_CFG F.CASC_CFG_ID)) →
      ∃ t, exec (.posRx l bs) s = .next t ∧ t.cascRole = 0 ∧ t.flag R.CASC_STAT F.CASC_STAT_DEPOSED = true
        ∧ t.isPending 777 = true ∧ (∀ n, n < 16 → t.srcOf n = s.srcOf n)
        ∧ t = { s with regs := t.regs, cores := t.cores, cairn := t.cairn, axes := t.axes })
    ∧ (s.beatLane l = false → ∀ n inst p, n < 16 → s.tracked n false = some (5, inst) → s.cascLane inst = l.val →
      (g :: gs).find? (fun x => x.1 % 16 == s.fld (R.AXIS_SRCP n) F.AXIS_SRCP_PTPS) = some p →
      ∃ t, exec (.posRx l bs) s = .next t ∧ (t.axis n).src.quiet = 0 ∧ (t.axis n).src.meas
        = some { base := p.2 * 2 ^ 20, age := 16 * s.fld (R.AXIS_SRCP n) F.AXIS_SRCP_SSIPOLL }))
  ∧ (∀ s : State, s.cairn.queue.length ≤ 200 →
      ((s.cascRole = 0 ∨ s.cascRole = 1 ∨ s.casc.lost = true
          ∨ s.ageNow < max 1 (s.fld R.CASC_CFG F.CASC_CFG_HBTO)) →
        exec .heartbeatTimeout s = .next s)
      ∧ (2 ≤ s.cascRole → s.casc.lost = false → max 1 (s.fld R.CASC_CFG F.CASC_CFG_HBTO) ≤ s.ageNow →
        ∃ t, exec .heartbeatTimeout s = .next t ∧ t.flag R.CASC_STAT F.CASC_STAT_HBOK = false ∧ t.isPending 778 = true
          ∧ t.fld R.CASC_HBAGE F.CASC_HBAGE_HBAGE = s.ageNow
          ∧ t.casc = { s.casc with
              lost := true
              counted := true
              taking := (s.cascRole == 3 && s.casc.wasOk) || s.casc.taking }
          ∧ ((s.cascRole = 2 ∨ s.casc.wasOk = false) → t.reg R.CASC_CFG = s.reg R.CASC_CFG
              ∧ t.reg R.CASC_EPOCH = s.reg R.CASC_EPOCH)
          ∧ (s.cascRole = 3 → s.casc.wasOk = true → t.cascRole = 1
              ∧ t.fld R.CASC_EPOCH F.CASC_EPOCH_EPOCH = (s.fld R.CASC_EPOCH F.CASC_EPOCH_EPOCH + 1) % 2 ^ 16
              ∧ t.flag R.CASC_STAT F.CASC_STAT_TOOK = true ∧ t.isPending 776 = true)
          ∧ t = { s with regs := t.regs, cores := t.cores, cairn := t.cairn, casc := t.casc }))
  ∧ (∀ s : State, ∃ t, exec .tickAxisUpdate s = .next t ∧ t.casc.taking = false ∧ t.casc.counted = false
      ∧ (2 ≤ s.cascRole → t.fld R.CASC_HBAGE F.CASC_HBAGE_HBAGE = s.ageNow)
      ∧ (s.casc.taking = false → t.casc.switched = s.casc.switched)
      ∧ (s.casc.taking = true → ∀ n, n < 16 → (n ∈ t.casc.switched ↔ n ∈ s.casc.switched
          ∨ (bit (s.regN R.CASC_TAKEAX) n = true ∧ 1 ≤ s.fld (R.CASC_ALT n) F.CASC_ALT_SRC
              ∧ s.fld (R.CASC_ALT n) F.CASC_ALT_SRC ≤ 4))))
  ∧ (∀ (off : BitVec 12) (v : Payload) (s : State),
      (s.cascRole ≠ 0 → (off = 0 ∧ setBits (setBits (s.regN R.CASC_CFG) 0 42 v.toNat) 3 2 0 ≠ setBits (s.regN R.CASC_CFG) 3 2 0
          ∨ off = 4 ∨ off = 8 ∨ (0x20 ≤ off.toNat ∧ off.toNat ≤ 0x98 ∧ off.toNat % 8 = 0)) → s.cairn.queue.length ≤ 200 →
        ∃ t, exec (.cascConfigWrite .m off v) s = .next t ∧ t.flag R.CASC_STAT F.CASC_STAT_STERR = true
          ∧ (∀ k, k ≠ R.CASC_STAT → t.reg k = s.reg k) ∧ t = { s with regs := t.regs, cairn := t.cairn })
      ∧ (s.cascRole = 0 → ∃ t, exec (.cascConfigWrite .m 0 v) s = .next t
          ∧ bits (t.regN R.CASC_CFG) 0 42 = bits v.toNat 0 42
          ∧ t.fld R.CASC_STAT F.CASC_STAT_CURLANE = bits v.toNat F.CASC_CFG_DLANE.lo F.CASC_CFG_DLANE.w
          ∧ (∀ k, k ≠ R.CASC_CFG → k ≠ R.CASC_STAT → t.reg k = s.reg k) ∧ t = { s with regs := t.regs, casc := t.casc })
      ∧ (s.cascRole ≠ 0 → setBits (setBits (s.regN R.CASC_CFG) 0 42 v.toNat) 3 2 0 = setBits (s.regN R.CASC_CFG) 3 2 0 →
        ∃ t, exec (.cascConfigWrite .m 0 v) s = .next t ∧ t.cascRole = bits v.toNat 3 2
          ∧ (∀ k, k ≠ R.CASC_CFG → t.reg k = s.reg k) ∧ t = { s with regs := t.regs, casc := t.casc })
      ∧ (∀ lv, lv ≠ .m → (off = 0 ∨ off = 4 ∨ off = 8) → ∃ t, exec (.cascConfigWrite lv off v) s = .next t
          ∧ (∀ k, t.reg k = s.reg k) ∧ t = { s with regs := t.regs }))

/-- R649 to R662. -/
def Obligations.SaveRules : Prop :=
  (∀ s : State,
    (s.pf.stage ≠ .none ∨ s.sys.inReset = true → exec .pfailAssert s = .next s)
    ∧ (s.pf.stage = .none → s.sys.inReset = false → ∃ t, exec .pfailAssert s = .next t
      ∧ t.flag R.PF_STAT F.PF_STAT_PFAIL = true
      ∧ t.pf = { s.pf with stage := .window, t0 := s.tick, ts := s.tick + min (s.fld R.PF_CFG F.PF_CFG_PFWIN) 160000 }
      ∧ t.pins.frozen = true ∧ t.noMarch
      ∧ (∀ o, o < 64 → s.useOf (R.PO_CLAIM o) ≠ 0 → s.fld (R.PO_CFG o) F.PO_CFG_PFS = 1 → t.poPin o = .low)
      ∧ (s.noMarch → t = { s with regs := t.regs, pf := t.pf, pins := t.pins, cairn := t.cairn })))
  ∧ (∀ s : State, (s.saving = false ∨ s.pf.halted = true ∨ s.tick ≤ s.pf.t0 → exec .pfailHalt s = .next s)
    ∧ (s.saving = true → s.pf.halted = false → s.pf.t0 < s.tick → ∃ t, exec .pfailHalt s = .next t
      ∧ t.pf.halted = true ∧ t.trav = { s.trav with stopped := true } ∧ t.link = { s.link with stopped := true }
      ∧ (∀ n, n < 16 → t.core n = { s.core n with pfail := true, waiting := false })
      ∧ (∀ g sl, g < 16 → sl < 32 → (s.gal g).quar = false → (s.slot g sl).st ≠ .free →
          t.imageAt (0x640 + 128 * g + 4 * sl + 2) = Word.addr (s.slot g sl).daddr)
      ∧ t = { s with pf := { s.pf with halted := true, image := t.pf.image }, trav := t.trav, link := t.link, cores := t.cores })
    ∧ (s.saving = true → s.pf.t0 + 16 ≤ s.tick →
      exec .saveDomainIsolate s = .next { s with junc := { s.junc with isolated := true } })
    ∧ (s.saving = false ∨ s.tick < s.pf.t0 + 16 → exec .saveDomainIsolate s = .next s))
  ∧ (∀ (n : Fin 16) (s : State), (s.pf.stage ≠ .window ∨ s.tick < s.pf.ts → exec .saveWindowEnd s = .next s)
    ∧ (s.pf.stage = .window → s.pf.ts ≤ s.tick → ∃ t, exec .saveWindowEnd s = .next t
      ∧ t.pf.stage = .saving ∧ t.cairn.frozen = true
      ∧ ((s.core n).atBoundaryNow = true → n.val ∉ s.pf.captured → n.val ∉ s.pf.missed →
          n.val ∈ t.pf.captured ∧ (t.core n).stopped = true
          ∧ t.imageAt (0x240 + 64 * n) = Word.addr (s.core n).landAll.pc
          ∧ ∀ i, i < 33 → t.imageAt (0x241 + 64 * n + i) = (s.core n).landAll.wAt (i + 1))
      ∧ ((s.core n).atBoundaryNow = false → (n.val ∈ t.pf.captured ↔ n.val ∈ s.pf.captured)
          ∧ (t.core n).stopped = (s.core n).stopped)
      ∧ t = { s with regs := t.regs, pf := t.pf, cores := t.cores, cairn := t.cairn })
    ∧ (s.pf.stage = .saving → s.pf.ts + 1000 ≤ s.tick → n.val ∉ s.pf.captured → n.val ∉ s.pf.missed →
      ∃ t, exec (.coreCaptureTimeout n) s = .next t
        ∧ ((s.core n).atBoundaryNow = true → n.val ∈ t.pf.captured ∧ (t.core n).stopped = true
            ∧ t.imageAt (0x240 + 64 * n) = Word.addr (s.core n).landAll.pc)
        ∧ ((s.core n).atBoundaryNow = false → n.val ∈ t.pf.missed ∧ t.core n = s.core n)
        ∧ (∀ k, k ≠ n.val → t.core k = s.core k) ∧ t = { s with pf := t.pf, cores := t.cores }))
  ∧ (∀ (bad : List (BitVec 19)) (k q : Nat) (s : State),
      (s.pf.stage ≠ .saving → exec (.imageSaveComplete bad) s = .next s)
      ∧ (s.pf.stage = .saving → ∃ t, exec (.imageSaveComplete bad) s = .next t
        ∧ t.pf.stage = .ended ∧ t.sys = { s.sys with inReset := true }
        ∧ (s.flag R.PF_CFG F.PF_CFG_SAVEN = false → t.mem = s.mem ∧ t.fresh = s.fresh)
        ∧ (s.flag R.PF_CFG F.PF_CFG_SAVEN = true → (∀ i ∈ bad, 64 ≤ i.toNat) →
            (k = (match s.newestImage with | some j => 1 - j | none => 0)) →
            (q = (match s.newestImage with | some j => (s.imageSeq j + 1) % 2 ^ 32 | none => 1)) →
            t.imageValid k = true ∧ t.imageSeq k = q
            ∧ t.nvsWord k 2 = Word.int (BitVec.ofNat 48 s.pf.t0) ∧ t.nvsWord k 3 = Word.int (BitVec.ofNat 48 s.pf.ts)
            ∧ (∀ i, 0x40 ≤ i → i < imageLen → (∀ b ∈ bad, b.toNat ≠ i) → t.cont (imageBase k + i) = encodeWord (t.imageAt i))
            ∧ ∀ w, ¬ inImage k w → t.cont w = s.cont w)
        ∧ t = { s with pf := t.pf, cores := t.cores, sys := t.sys, mem := t.mem, fresh := t.fresh, regs := t.regs, cairn := t.cairn }))

/-- R653 to R664, R686, R699, R703 and R709. -/
def Obligations.ResetAndRestore : Prop :=
  (∀ s : State, (s.saving = true → exec .resetAssert s = .next s)
    ∧ (s.saving = false → exec .resetAssert s = .next { s with sys := { s.sys with inReset := true } }
        ∧ exec .clockMonitorFault s = .next { s with sys := { s.sys with inReset := true } }
        ∧ exec .thermalTrip s = .next { s with sys := { s.sys with inReset := true, thermTrip := true } })
    ∧ (s.saving = true → ∀ k, (k = (match s.newestImage with | some j => 1 - j | none => 0)) →
        ∀ c ∈ [Instr.clockMonitorFault, .thermalTrip], ∃ t, exec c s = .next t
          ∧ t.pf.stage = .ended ∧ t.sys.inReset = true ∧ (s.pf.stage = .window → t.mem = s.mem)
          ∧ (s.pf.stage = .saving → s.flag R.PF_CFG F.PF_CFG_SAVEN = true → t.imageValid k = false)
          ∧ (∀ w, ¬ inImage k w → t.cont w = s.cont w)
          ∧ t = { s with pf := t.pf, cores := t.cores, sys := t.sys, mem := t.mem, fresh := t.fresh, regs := t.regs, cairn := t.cairn }))
  ∧ (∀ (b : Straps) (por : Bool) (s : State),
      (s.sys.inReset = false ∨ (s.sys.thermTrip = true ∧ por = false) → exec (.resetRelease b por) s = .next s)
      ∧ (s.sys.inReset = true → (s.sys.thermTrip = false ∨ por = true) → memWf s.mem = true →
        ∃ t, exec (.resetRelease b por) s = .next t
          ∧ (∀ w, imageBase 0 ≤ w → w < imageBase 0 + 2 ^ 17 → t.cont w = s.cont w)
          ∧ (por = false → s.pf.stage ≠ .ended → t.mem = s.mem)
          ∧ (∀ st, st < 6 → (t.hbm st).hard = (s.hbm st).hard
              ∧ (por = false → s.pf.stage ≠ .ended → (t.hbm st).soft = (s.hbm st).soft)
              ∧ (por = true ∨ s.pf.stage = .ended → (t.hbm st).soft = []))
          ∧ ((por = false ∧ s.pf.stage ≠ .ended) ∨ s.headersClean → ∀ k, k ≠ R.SEC_SVN → k ≠ R.SEC_DBG → k ≠ R.PF_STAT → k ≠ R.PF_IMGSEQ → k ≠ R.EVC_PEND 24 → t.reg k = regReset k)
          ∧ t.fld R.SEC_SVN F.SEC_SVN_SVNMIN = s.fuses.svnMin % 2 ^ F.SEC_SVN_SVNMIN.w
          ∧ t.flag R.PF_STAT F.PF_STAT_VHOK = true ∧ t.flag R.PF_STAT F.PF_STAT_PFAIL = false
          ∧ ((por = true ∨ s.pf.stage = .ended) →
              t.flag R.PF_STAT F.PF_STAT_IMGV = s.newestImage.isSome
              ∧ ∀ j, s.newestImage = some j → t.fld R.PF_STAT F.PF_STAT_SLOT = j
                  ∧ t.fld R.PF_IMGSEQ F.PF_IMGSEQ_SEQ = s.imageSeq j ∧ t.isPending 769 = true)
          ∧ t = { State.reset with
              pending := s.pending
              fresh := s.fresh
              flash := s.flash
              fuses := s.fuses
              mem := t.mem
              hbms := t.hbms
              regs := t.regs
              cores := t.cores
              cairn := t.cairn
              sec := { State.reset.sec with
                bootsel := b.bootsel.toNat
                smba := b.smba.toNat } }))
  ∧ (∀ (m : Fin 48) (lv : Level) (s : State),
      (lv ≠ .m → ∀ c ∈ [Instr.restore m lv, .inval m lv], exec c s
        = .next (logCairn .power 0x05 [⟨26, R.PF_CMD⟩, ⟨6, m⟩] s))
      ∧ (lv = .m → (s.flag R.PF_STAT F.PF_STAT_IMGV = false ∨ s.flag R.PF_STAT F.PF_STAT_RESTORED = true
            ∨ (∃ n, n < 16 ∧ (s.axis n).st ≠ .off) ∨ s.liveEnts ≠ [] ∨ s.pf.restoring = true) →
          ∃ t, exec (.restore m lv) s = .next t ∧ t.flag R.PF_STAT F.PF_STAT_STERR = true
            ∧ t = { s with regs := t.regs, cairn := t.cairn })
      ∧ (lv = .m → s.flag R.PF_STAT F.PF_STAT_IMGV = true → s.flag R.PF_STAT F.PF_STAT_RESTORED = false →
          (∀ n, n < 16 → (s.axis n).st = .off) → s.liveEnts = [] → s.pf.restoring = false →
          exec (.restore m lv) s = .next { s with pf := { s.pf with restoring := true } })
      ∧ (lv = .m → s.pf.restoring = true → ∃ t, exec (.inval m lv) s = .next t
          ∧ t.flag R.PF_STAT F.PF_STAT_STERR = true ∧ t = { s with regs := t.regs, cairn := t.cairn })
      ∧ (lv = .m → s.pf.restoring = false → ∃ t, exec (.inval m lv) s = .next t
          ∧ t.imageValid 0 = false ∧ t.imageValid 1 = false
          ∧ (∀ w, w ≠ imageBase 0 + 5 → w ≠ imageBase 1 + 5 → t.cont w = s.cont w) ∧ t = { s with mem := t.mem })
      ∧ (s.pf.stage = .none → ∃ t, exec .vholdLow s = .next t ∧ t.flag R.PF_STAT F.PF_STAT_VHOK = false
          ∧ t.flag R.PF_STAT F.PF_STAT_VHLOW = true ∧ t.isPending 770 = true
          ∧ t = { s with regs := t.regs, cores := t.cores, cairn := t.cairn })
      ∧ (s.pf.stage ≠ .none → exec .vholdLow s = .next s))
  ∧ (∀ (k : Nat) (w : Nat → Word) (s : State), s.pf.restoring = true → k = s.fld R.PF_STAT F.PF_STAT_SLOT →
      (∀ i, i < imageLen → decodeContainer (s.cont (imageBase k + i)) = .clean (w i)) →
      ∃ t, exec .restoreDone s = .next t ∧ t.flag R.PF_STAT F.PF_STAT_RESTORED = true ∧ t.isPending 768 = true
        ∧ t.pf = { s.pf with restoring := false }
        ∧ (∀ n, n < 16 → t.flag (R.AXIS_CFG n) F.AXIS_CFG_EN = false
            ∧ bits (t.regN (R.AXIS_CFG n)) 1 19 = bits (w (0x40 + 32 * n)).pay.toNat 1 19
            ∧ t.reg (R.AXIS_GAIN n) = (w (0x41 + 32 * n)).pay ∧ t.reg (R.AXIS_GATE n) = (w (0x42 + 32 * n)).pay
            ∧ t.reg (R.AXIS_TIME n) = (w (0x43 + 32 * n)).pay ∧ t.reg (R.AXIS_SYNV n) = (w (0x45 + 32 * n)).pay
            ∧ t.reg (R.AXIS_SYNR n) = (w (0x46 + 32 * n)).pay)
        ∧ (∀ i, i < 65536 → t.reg (R.ENT_W0 i) = (w (0x4E40 + 4 * i)).pay ∧ t.reg (R.ENT_W1 i) = (w (0x4E41 + 4 * i)).pay
            ∧ t.reg (R.ENT_W3 i) = (w (0x4E43 + 4 * i)).pay
            ∧ bits (t.regN (R.ENT_W2 i)) 0 46 = bits (w (0x4E42 + 4 * i)).pay.toNat 0 46
            ∧ bits (t.regN (R.ENT_W2 i)) 46 2 = (if bits (w (0x4E42 + 4 * i)).pay.toNat 46 2 = 3 then 1
                else bits (w (0x4E42 + 4 * i)).pay.toNat 46 2))
        ∧ t = { s with regs := t.regs, pf := t.pf, cores := t.cores, cairn := t.cairn })
    ∧ (∀ s : State, s.pf.restoring = false → exec .restoreDone s = .next s)
    ∧ (∀ (n : Fin 16) (i : Fin 65536) (j : Fin 4) (v : Payload) (s : State), s.pf.restoring = true →
        ∀ c ∈ [Instr.axisEnable n v, .axisDisable n v, .setpos n v, .gazArm i v, .gazDisarm i v, .gazEntryWrite i j v],
          exec c s = .next s)

/-! ### Traverse and Gazetteer -/

/-- The state changes of R119 and the SETPOS write of R120. -/
def Obligations.AxisCommands : Prop :=
  ((∀ (n : Fin 16) (v : Payload) (s : State), s.pf.restoring = false → (s.axis n).st = .off → (s.axis n).now = .off →
    bits v.toNat F.AXIS_CFG_SRC.lo F.AXIS_CFG_SRC.w ≤ 5 →
    ∃ t, exec (.axisEnable n v) s = .next t
      ∧ (bits v.toNat F.AXIS_CFG_SRC.lo F.AXIS_CFG_SRC.w ≤ 1 →
          (t.axis n).st = .track ∧ (t.axis n).pos = 0 ∧ (t.axis n).vel = 0 ∧ (t.axis n).acc = 0
            ∧ (t.axis n).src.n = 0 ∧ (t.axis n).front = 0)
      ∧ (2 ≤ bits v.toNat F.AXIS_CFG_SRC.lo F.AXIS_CFG_SRC.w →
          (t.axis n).st = .acquire ∧ (t.axis n).pos = (s.axis n).pos ∧ (t.axis n).vel = (s.axis n).vel
            ∧ (t.axis n).acc = (s.axis n).acc)
      ∧ t.isPending n = true
      ∧ (∀ k, k ≠ n.val → t.axis k = s.axis k)
      ∧ (∀ k, k ≠ R.AXIS_CFG n → k ≠ R.EVC_PEND 0 → k ≠ R.CAIRN_DROPCNT → t.reg k = s.reg k)
      ∧ t = { s with regs := t.regs, axes := t.axes, cores := t.cores, cairn := t.cairn, casc := t.casc })
  ∧ (∀ (n : Fin 16) (v : Payload) (s : State), s.pf.restoring = false → (s.axis n).st ≠ .off →
      ((s.axis n).now = .off ∨ setBits (setBits (s.regN (R.AXIS_CFG n)) 0 20 (setBits v.toNat 0 1 0)) 0 1 0
        = setBits (s.regN (R.AXIS_CFG n)) 0 1 0) →
      ∃ t, exec (.axisDisable n v) s = .next t
        ∧ t.axis n = { s.axis n with st := .off, runAs := some (s.axis n).now }
        ∧ t.isPending n = true
        ∧ (∀ k, k ≠ n.val → t.axis k = s.axis k)
        ∧ (∀ k, k ≠ R.AXIS_CFG n → k ≠ R.EVC_PEND 0 → k ≠ R.CAIRN_DROPCNT → t.reg k = s.reg k)
        ∧ t = { s with regs := t.regs, axes := t.axes, cores := t.cores, cairn := t.cairn, casc := t.casc })
  ∧ (∀ (n : Fin 16) (s : State), (s.axis n).st = .track → (s.axis n).now = .track → s.faultNow n = true → (s.axis n).coastmax ≠ 0 →
      ∃ t, exec (.sourceFault n) s = .next t
        ∧ t.axis n = { s.axis n with st := .coast, coastFor := 0, runAs := some (s.axis n).now }
        ∧ t.fld (R.AXIS_STAT n) F.AXIS_STAT_LOSS = 1 ∧ t.isPending n = true
        ∧ (∀ k, k ≠ n.val → t.axis k = s.axis k)
        ∧ (∀ k, k ≠ R.AXIS_STAT n → k ≠ R.EVC_PEND 0 → k ≠ R.CAIRN_DROPCNT → t.reg k = s.reg k)
        ∧ t = { s with regs := t.regs, axes := t.axes, cores := t.cores, cairn := t.cairn })
  ∧ (∀ (n : Fin 16) (s : State), (s.axis n).st = .coast → (s.axis n).runAs = none →
      (s.axis n).coastmax ≤ (s.axis n).coastFor + 1 →
      (s.filterNow n (s.srcOf n).1 (s.srcOf n).2 .coast).2.ok = false →
      ∃ t, exec (.coastTimeout n) s = .next t
        ∧ t.axis n = { s.axis n with st := .lost, runAs := some .coast }
        ∧ t.isPending n = true
        ∧ (∀ k, k ≠ n.val → t.axis k = s.axis k)
        ∧ (∀ k, k ≠ R.EVC_PEND 0 → k ≠ R.CAIRN_DROPCNT → t.reg k = s.reg k)
        ∧ t = { s with regs := t.regs, axes := t.axes, cores := t.cores, cairn := t.cairn }))
  ∧ (∀ (n : Fin 16) (v : Payload) (s : State), s.pf.restoring = false →
    ((s.axis n).now = .track ∨ (s.axis n).now = .coast →
      exec (.setpos n v) s = .next (logCairn .traverse 0x03 [⟨4, n⟩, ⟨48, v.toNat⟩]
        (s.setAxis n { s.axis n with rebases := (s.axis n).rebases ++ [v] })))
    ∧ ((s.axis n).now ≠ .track → (s.axis n).now ≠ .coast →
      exec (.setpos n v) s = .next (logCairn .traverse 0x09 [⟨4, n⟩, ⟨26, R.AXIS_SETPOS n⟩]
        (s.setFld (R.AXIS_STAT n) F.AXIS_STAT_ERRCFG 1))))

/-- The sources of an axis between two tick ends (R107 to R109, R116, R586, R589, R714). -/
def Obligations.AxisSources : Prop :=
  (∀ (e ph : Fin 16) (a b : Bool) (sa sb : BitVec 8) (s : State), s.encUse e 1 = true →
    ∃ t, exec (.quadCountEdge e ⟨a, sa⟩ ⟨b, sb⟩ ph) s = .next t
      ∧ (∀ n, n < 16 → s.tracked n false = some (1, e.val) →
          let x := (s.axis n).src
          let a' := filtered (s.qifilt n) sa.toNat a x.fa
          let b' := filtered (s.qifilt n) sb.toNat b x.fb
          let fwd := (quadPhase a' b' == (quadPhase x.fa x.fb + 1) % 4) != s.flag (R.AXIS_CFG n) F.AXIS_CFG_INV
          (t.axis n).src.fa = a' ∧ (t.axis n).src.fb = b'
            ∧ (a' = x.fa → b' = x.fb → (t.axis n).src = x)
            ∧ (a' ≠ x.fa → b' ≠ x.fb → (t.axis n).src.n = x.n ∧ (t.axis n).glcnt = (s.axis n).glcnt + 1
                ∧ t.flag (R.AXIS_STAT n) F.AXIS_STAT_GLITCH = true)
            ∧ ((a' != x.fa) ≠ (b' != x.fb) → (t.axis n).glcnt = (s.axis n).glcnt
                ∧ (fwd = true → (t.axis n).src.n = x.n + 1
                    ∧ (t.axis n).src.edge = some { fwd := true, ph := ph, b := (x.n + 1).toNat })
                ∧ (fwd = false → (t.axis n).src.n = x.n - 1
                    ∧ (t.axis n).src.edge = some { fwd := false, ph := ph, b := x.n.toNat })))
      ∧ (∀ n, s.tracked n false ≠ some (1, e.val) → (t.axis n).src = (s.axis n).src)
      ∧ (∀ n, (t.axis n).pos = (s.axis n).pos ∧ (t.axis n).vel = (s.axis n).vel ∧ (t.axis n).st = (s.axis n).st)
      ∧ t.reg (R.ENC_STAT e) = BitVec.ofNat 48
          (setBits (setBits (s.regN (R.ENC_STAT e)) 0 1 (b2n a)) 1 1 (b2n b))
      ∧ (∀ k, k ≠ R.ENC_STAT e → (∀ n, n < 16 → k ≠ R.AXIS_STAT n) → t.reg k = s.reg k)
      ∧ t = { s with regs := t.regs, axes := t.axes })
  ∧ (∀ (n : Fin 16) (alt : Bool) (inst : Nat) (s : State), s.tracked n alt = some (2, inst) →
      ((s.axis n).srcSt alt).pollAt ≤ s.tick → ((s.axis n).srcSt alt).frame = none →
      exec (.ssiPoll n alt) s = .next (modSrc n alt (fun x => { x with
        pollAt := s.tick + max 1 (s.fld (R.AXIS_SRCP n) F.AXIS_SRCP_SSIPOLL), frame := some (16 * s.tick) }) s))
  ∧ (∀ (n : Fin 16) (alt : Bool) (inst g : Nat) (raw : BitVec 48) (s : State),
      s.tracked n alt = some (2, inst) → s.encUse inst 2 = true → ((s.axis n).srcSt alt).frame = some g →
      s.ssiLast n g ≤ 16 * s.tick + 15 →
      exec (.ssiFrameComplete n alt raw false) s = .next (modSrc n alt (fun x =>
        let u : BitVec 36 := match x.code with
          | none => BitVec.ofNat 36 (s.ssiCode n raw.toNat)
          | some p => x.u + BitVec.ofInt 36
              (signedOf (s.ssiBits n) (s.ssiCode n raw.toNat + 2 ^ s.ssiBits n - p))
        { x with frame := none, code := some (s.ssiCode n raw.toNat), u := u, quiet := 0,
                 meas := some { base := u.toNat * 2 ^ 32,
                                age := 16 * (s.tick + 1) - (g + s.fld (R.AXIS_SRCP n) F.AXIS_SRCP_SSIDLY : Int) } }) s))
  ∧ (∀ (c : Fin 32) (v : AdcConv) (vs : List AdcConv) (s : State), s.convs c = v :: vs →
      v.at' + 768 ≤ 16 * s.tick + 15 → s.useOf (R.ADC_CLAIM c) = 2 → ∃ t, exec (.adcConversionDone c) s = .next t
      ∧ t.regN (R.ADC_DATA c) = v.code.toNat + 4096 * b2n v.trig + 8192 * (v.at' % 16)
      ∧ (∀ n, n < 16 → ∀ alt, s.tracked n alt = some (3, c.val) →
          let x := (s.axis n).srcSt alt
          let y := (t.axis n).srcSt alt
          let p := s.regN (R.AXIS_SRCP n)
          let u : Int := if s.mainsRise n = true then v.code.toInt else -v.code.toInt
          y.sample = some (v.at', u)
            ∧ (u < 0 → u ≤ -(bits p 0 12 : Int) → y.armed = true)
            ∧ (∀ g0 v0, x.sample = some (g0, v0) → x.armed = true → v0 < 0 → 0 ≤ u →
                y.armed = false ∧ y.cross = some { g0 := g0, v0 := v0, g1 := v.at', v1 := u })
            ∧ (x.armed = false ∨ u < 0 → y.cross = x.cross)
            ∧ y.n = x.n ∧ y.meas = x.meas ∧ y.quiet = x.quiet)
      ∧ (∀ n, (t.axis n).pos = (s.axis n).pos ∧ (t.axis n).vel = (s.axis n).vel ∧ (t.axis n).st = (s.axis n).st)
      ∧ (∀ k, k ≠ R.ADC_DATA c → k ≠ R.ADC_STAMP c → k ≠ R.EVC_PEND ((576 + c) / 32) → t.reg k = s.reg k)
      ∧ t = { s with regs := t.regs, axes := t.axes, pins := t.pins, cores := t.cores })
  ∧ (∀ (n : Fin 16) (alt rise : Bool) (inst : Nat) (c : Crossing) (s : State),
      s.tracked n alt = some (3, inst) → inst < 32 → s.useOf (R.ADC_CLAIM inst) = 2 →
      ((s.axis n).srcSt alt).cross = some c →
      (rise = bit (s.regN (R.AXIS_SRCP n)) 16 → exec (.mainsCrossing n alt rise) s = .next s)
      ∧ (rise ≠ bit (s.regN (R.AXIS_SRCP n)) 16 → exec (.mainsCrossing n alt rise) s = .next (modSrc n alt (fun x => { x with
        n := x.n + 1
        meas := some { base := (x.n + 1).toNat * 2 ^ 32
                       age := (16 * (s.tick + 1) - c.g0 : Int) * (c.v1 - c.v0) + (c.g1 - c.g0 : Int) * c.v0
                       den := (c.v1 - c.v0).toNat }
        quiet := 0
        cross := none }) s)))
  ∧ (∀ (e : Fin 16) (lvl : Bool) (sz : BitVec 8) (s : State), bit (s.regN (R.ENC_STAT e)) 2 ≠ lvl →
      s.useOf (R.ENC_CLAIM e) = 3 → s.flag (R.ENC_CFG e) F.ENC_CFG_EVZ = true →
      exec (.zEdge e ⟨lvl, sz⟩) s = .next (raise (656 + e)
        (s.setRegN (R.ENC_STAT e) (setBits (s.regN (R.ENC_STAT e)) 2 1 (b2n lvl)))))
  ∧ (∀ (e : Fin 16) (lvl : Bool) (sz : BitVec 8) (s : State), s.useOf (R.ENC_CLAIM e) = 1 →
      ∃ t, exec (.zEdge e ⟨lvl, sz⟩) s = .next t
        ∧ (∀ n, n < 16 → (s.axis n).st ≠ .off → s.srcOf n = (1, e.val) →
            (t.axis n).src.fz = filtered (s.qifilt n) sz.toNat lvl (s.axis n).src.fz
              ∧ (filtered (s.qifilt n) sz.toNat lvl (s.axis n).src.fz ≠ (s.axis n).src.fz →
                  lvl ≠ s.flag (R.AXIS_SRCP n) F.AXIS_SRCP_QZPOL → (t.axis n).zhit = true)
              ∧ (filtered (s.qifilt n) sz.toNat lvl (s.axis n).src.fz = (s.axis n).src.fz
                  ∨ lvl = s.flag (R.AXIS_SRCP n) F.AXIS_SRCP_QZPOL → (t.axis n).zhit = (s.axis n).zhit))
        ∧ (∀ n, (s.axis n).st = .off ∨ s.srcOf n ≠ (1, e.val) → t.axis n = s.axis n)
        ∧ (∀ n, (t.axis n).pos = (s.axis n).pos ∧ (t.axis n).vel = (s.axis n).vel ∧ (t.axis n).st = (s.axis n).st)
        ∧ (∀ k, k ≠ R.ENC_STAT e → k ≠ R.EVC_PEND ((656 + e) / 32) → t.reg k = s.reg k)
        ∧ t = { s with regs := t.regs, axes := t.axes, cores := t.cores })

/-- R125 and R126, for every entry and every word. -/
def Obligations.GazetteerWrites : Prop :=
  ∀ (i : Fin 65536) (v : Payload) (s : State), s.pf.restoring = false →
    (bits v.toNat 46 2 ≠ 1 → ∀ c ∈ [Instr.gazDisarm i v, Instr.gazEntryWrite i 2 v], ∃ t, exec c s = .next t
      ∧ t.entSt i = 0 ∧ t.entP i = bits v.toNat 0 46
      ∧ t.trav = { s.trav with fires := s.trav.fires.filter (fun f => !(f.i == i.val && !f.fb)),
                               marks := tset (fun _ => {}) s.trav.marks i {} }
      ∧ (∀ k, k ≠ R.ENT_W2 i → t.reg k = s.reg k)
      ∧ t = { s with regs := t.regs, trav := t.trav })
    ∧ ((s.entSt i = 0 ∨ s.entSt i = 2) ∧ s.ent1 i F.ENT_W1_DIR ≠ 0 ∧ s.ent1 i F.ENT_W1_ACTION ≠ 7
          ∧ ¬ (s.ent1 i F.ENT_W1_DPOL = 3 ∧ i.val = 65535) → ∃ t, exec (.gazArm i v) s = .next t
      ∧ t.entSt i = 1 ∧ t.entP i = bits v.toNat 0 46
      ∧ t.trav = { s.trav with marks := tset (fun _ => {}) s.trav.marks i {} }
      ∧ (∀ k, k ≠ R.ENT_W2 i → t.reg k = s.reg k)
      ∧ t = { s with regs := t.regs, trav := t.trav })
    ∧ (s.entSt i = 1 ∨ s.entSt i = 3 ∨ s.ent1 i F.ENT_W1_DIR = 0 ∨ s.ent1 i F.ENT_W1_ACTION = 7
          ∨ (s.ent1 i F.ENT_W1_DPOL = 3 ∧ i.val = 65535) →
        exec (.gazArm i v) s = .next (logCairn .traverse 0x06 [⟨16, i⟩, ⟨2, 2⟩]
          (s.setFld R.GAZ_STATUS F.GAZ_STATUS_REJ 1)))
    ∧ (∀ k : Fin 4, k ≠ 2 →
        (s.entSt i = 0 ∨ s.entSt i = 2 →
          exec (.gazEntryWrite i k v) s = .next (s.setReg (R.ENT_W0 i + 4 * k) v))
        ∧ (s.entSt i = 1 ∨ s.entSt i = 3 →
          exec (.gazEntryWrite i k v) s = .next (logCairn .traverse 0x06 [⟨16, i⟩, ⟨2, k⟩]
            (s.setFld R.GAZ_STATUS F.GAZ_STATUS_REJ 1))))

/-- R114: the update of every SYNTH axis that is in TRACK and is not rebased in the tick, and R119 for a LOST axis. -/
def Obligations.SynthTick : Prop :=
  ∀ s : State, ∃ t, exec .tickAxisUpdate s = .next t ∧ t.tick = s.tick + 1
    ∧ t.mem = s.mem ∧ t.niche = s.niche ∧ t.flash = s.flash
    ∧ (∀ n, n < 16 → (s.axis n).st = .track → (s.axis n).runAs = none → (s.axis n).rebases = [] →
        (s.axis n).zhit = false → (s.srcOf n).1 = 0 → -(2 : Int) ^ 47 ≤ (s.axis n).vel → (s.axis n).vel < 2 ^ 47 →
        let ramp : Int := (s.axis n).lat.synr.toNat
        let step : Int := max (-ramp) (min ramp ((s.axis n).lat.synv.toInt - (s.axis n).vel))
        let pos := (s.axis n).pos + BitVec.ofInt 68 ((s.axis n).vel + step)
        (t.axis n).st = .track ∧ (t.axis n).vel = (s.axis n).vel + step
          ∧ (t.axis n).acc = max (-(2 : Int) ^ 47) (min (step * 2 ^ 16) (2 ^ 47 - 1))
          ∧ (t.axis n).pos = pos ∧ (t.axis n).front = pos + BitVec.ofInt 68 ((s.axis n).vel + step))
    ∧ ∀ n, n < 16 → (s.axis n).st = .lost → (s.axis n).runAs = none → (s.axis n).rebases = [] →
        (s.axis n).zhit = false →
        (t.axis n).st = .lost ∧ (t.axis n).vel = 0 ∧ (t.axis n).acc = 0 ∧ (t.axis n).pos = (s.axis n).pos
          ∧ (t.axis n).front = (s.axis n).pos

/-- One fire of a tick (R131 to R135), and R143 and R147 for a Gazetteer entry that is ARMED or PENDING. -/
def Obligations.FireAndMiss : Prop :=
  (∀ (f : Fire) (s : State), s.trav.fires = [f] → s.trav.fired = false → s.trav.stopped = false →
    s.trav.misses = [] → f.fb = false → f.i < 65536 → f.late0 = 0 → s.tick = f.evalAt + 1 →
    (s.axis (s.ent1 f.i F.ENT_W1_AXIS)).now.live = true → (s.mark f.i).missed = false →
    s.ent1 f.i F.ENT_W1_ACTION = 1 →
    ∃ t, exec .gazFire s = .next t
      ∧ t.isPending (16 + s.entP f.i % 64) = true
      ∧ t.regN R.GAZ_LASTFIRE = f.i
      ∧ t.fld R.GAZ_FIRECNT F.GAZ_FIRECNT_FIRECNT = (s.fld R.GAZ_FIRECNT F.GAZ_FIRECNT_FIRECNT + 1) % 2 ^ 48
      ∧ t.trav.fires = [] ∧ t.trav.fired = true
      ∧ (s.ent1 f.i F.ENT_W1_DPOL = 0 ∧ s.reg (R.ENT_W3 f.i) ≠ 0 →
          t.entSt f.i = 1 ∧ t.reg (R.ENT_W0 f.i) = s.reg (R.ENT_W0 f.i) + s.reg (R.ENT_W3 f.i))
      ∧ (¬ (s.ent1 f.i F.ENT_W1_DPOL = 0 ∧ s.reg (R.ENT_W3 f.i) ≠ 0) →
          t.entSt f.i = 2 ∧ t.reg (R.ENT_W0 f.i) = s.reg (R.ENT_W0 f.i))
      ∧ t = { s with regs := t.regs, cores := t.cores, trav := t.trav })
  ∧ (∀ (i : Fin 65536) (p n : Nat) (l : List Miss) (s : State),
    s.trav.misses = { item := .gaz i, policy := p, axis := n } :: l → s.trav.stopped = false →
    (s.entSt i = 1 ∨ s.entSt i = 3) → 1 ≤ p → p ≤ 3 →
    ∃ t, exec .deadlineMiss s = .next t
      ∧ t.isPending 83 = true
      ∧ t.fld R.DLM_STATUS F.DLM_STATUS_MISS = 1
      ∧ t.fld R.DLM_MISSCNT F.DLM_MISSCNT_MISSCNT = (s.fld R.DLM_MISSCNT F.DLM_MISSCNT_MISSCNT + 1) % 2 ^ 48
      ∧ t.trav.misses = l
      ∧ (p = 1 ∨ p = 3 → t.entSt i = 0)
      ∧ (p = 2 → t.entSt i = s.entSt i ∧ (t.mark i).missed = true)
      ∧ (p = 3 → ∃ f, t.trav.fires = s.trav.fires.filter (fun f => !(f.i == i.val && !f.fb)) ++ [f]
          ∧ f.i = i.val + 1 ∧ f.fb = true ∧ f.onTime = true ∧ f.k = 0)
      ∧ (∀ j, j ≠ i.val → t.entSt j = s.entSt j)
      ∧ t = { s with regs := t.regs, cores := t.cores, cairn := t.cairn, trav := t.trav })

/-! ### Measurement inputs and pins -/

/-- R578 to R581, for every claimable resource of chapter 15. -/
def Obligations.PinClaims : Prop :=
  (∀ (r : PinRes) (m : Fin 48) (v : Payload) (s : State), bit v.toNat F.ADC_CLAIM_REL.lo = false →
    isClaimant m = true → s.flag (pinClaimReg r) F.ADC_CLAIM_OWNED = false →
    pinUseListed r (bits v.toNat F.ADC_CLAIM_USE.lo F.ADC_CLAIM_USE.w) = true →
    ∃ t, exec (.resourceClaim r m v) s = .next t
      ∧ t.ownsPin (pinClaimReg r) m = true
      ∧ t.useOf (pinClaimReg r) = bits v.toNat F.ADC_CLAIM_USE.lo F.ADC_CLAIM_USE.w
      ∧ t.fld (pinClaimReg r) F.ADC_CLAIM_RES = 1
      ∧ (∀ o, r = .po o → t.reg (R.PO_SWLVL o) = 0 ∧ t.flag (R.PO_STAT o) F.PO_STAT_LVL = false)
      ∧ (∀ k, k ≠ pinClaimReg r → (∀ o, r = .po o → k ≠ R.PO_SWLVL o ∧ k ≠ R.PO_STAT o) → t.reg k = s.reg k)
      ∧ t = { s with regs := t.regs })
  ∧ (∀ (r : PinRes) (m : Fin 48) (v : Payload) (s : State), bit v.toNat F.ADC_CLAIM_REL.lo = false →
      s.ownsPin (pinClaimReg r) m = false →
      isClaimant m = false ∨ s.flag (pinClaimReg r) F.ADC_CLAIM_OWNED = true
        ∨ pinUseListed r (bits v.toNat F.ADC_CLAIM_USE.lo F.ADC_CLAIM_USE.w) = false →
      exec (.resourceClaim r m v) s = .next (logCairn .measure 0x01
        [pinDf r, ⟨6, m⟩, ⟨6, s.fld (pinClaimReg r) F.ADC_CLAIM_OWNER⟩]
        (s.setFld (pinClaimReg r) F.ADC_CLAIM_RES 2)))
  ∧ (∀ (r : PinRes) (m : Fin 48) (v : Payload) (s : State), bit v.toNat F.ADC_CLAIM_REL.lo = false →
      s.ownsPin (pinClaimReg r) m = true → exec (.resourceClaim r m v) s = .next s)
  ∧ (∀ (r : PinRes) (m : Fin 48) (s : State), s.ownsPin (pinClaimReg r) m = true →
      ∃ t, exec (.resourceRelease r m) s = .next t
        ∧ t.flag (pinClaimReg r) F.ADC_CLAIM_OWNED = false ∧ t.useOf (pinClaimReg r) = 0
        ∧ (∀ k, k ≠ pinClaimReg r → t.reg k = s.reg k)
        ∧ (∀ o, r = .po o → ∀ i, i < 4 → t.pulseEnd (4 * o.val + i) = none)
        ∧ t = { s with regs := t.regs, trav := t.trav })
  ∧ (∀ (r : PinRes) (m : Fin 48) (s : State), s.ownsPin (pinClaimReg r) m = false →
      exec (.resourceRelease r m) s = .next (pinClerr r s))

/-- R583 to R593, each command on its own path. -/
def Obligations.MeasureAndDrive : Prop :=
  (∀ (c : Fin 32) (m : Fin 48) (ph : Fin 16) (s : State), s.ownsPin (R.ADC_CLAIM c) m = true →
    exec (.adcGo c m ph) s = .next { s with pins := { s.pins with
      trigs := s.pins.trigs ++ [{ c := c, at' := 16 * s.tick + ph + 2, gaz := false, by' := m }] } })
  ∧ (∀ (c : Fin 32) (ph : Fin 16) (code : BitVec 12) (t : AdcTrig) (s : State), s.pins.trigs = [t] → t.c = c →
      t.at' < 16 * s.tick + 16 → s.useOf (R.ADC_CLAIM c) = 1 → t.gaz = true ∨ s.ownsPin (R.ADC_CLAIM c) t.by' = true →
      (∀ g, tget (fun _ => none) s.pins.lastSample c = some g → g + 800 ≤ t.at') →
      exec (.adcSample c ph code) s = .next { s with pins := { s.pins with
        trigs := [],
        convs := tset (fun _ => []) s.pins.convs c (s.convs c ++ [{ at' := t.at', code := code, trig := t.gaz }]),
        lastSample := tset (fun _ => none) s.pins.lastSample c (some t.at') } })
  ∧ (∀ (c : Fin 32) (v : AdcConv) (vs : List AdcConv) (s : State), s.convs c = v :: vs →
      v.at' + 768 ≤ 16 * s.tick + 15 → s.useOf (R.ADC_CLAIM c) ≠ 2 → s.flag (R.ADC_CFG c) F.ADC_CFG_CEV = true →
      exec (.adcConversionDone c) s = .next (raise (576 + c)
        (({ s with pins := { s.pins with convs := tset (fun _ => []) s.pins.convs c vs } }.setRegN (R.ADC_DATA c)
            (v.code.toNat + 4096 * b2n v.trig + 8192 * (v.at' % 16))).setRegN (R.ADC_STAMP c) (v.at' / 16))))
  ∧ (∀ (e : Fin 16) (los : BitVec 3) (s : State), s.useOf (R.ENC_CLAIM e) ≠ 2 →
      s.fld (R.ENC_STAT e) F.ENC_STAT_LOS = 0 → los ≠ 0 → s.flag (R.ENC_CFG e) F.ENC_CFG_EVLOS = true →
      exec (.encoderLossOfSignal e los) s = .next (raise (656 + e)
        ((s.setFld (R.ENC_STAT e) F.ENC_STAT_LOS los.toNat).setFld (R.ENC_STAT e) F.ENC_STAT_LOSEV 1)))
  ∧ (∀ (c : Fin 256) (g : Nat) (s : State), s.pulseEnd c = some g → g < 16 * s.tick + 16 → s.pins.frozen = false →
      s.useOf (R.PO_CLAIM (c / 4)) = 1 → tget (fun _ => none) s.pins.poForced (c.val / 4) = none →
      exec (.comparatorPulseEnd c) s = .next ((s.setPulseEnd c none).setFld (R.PO_STAT (c / 4)) F.PO_STAT_LVL 0))
  ∧ (∀ (o : Fin 64) (m : Fin 48) (v : Payload) (s : State), s.ownsPin (R.PO_CLAIM o) m = true →
      s.useOf (R.PO_CLAIM o) = 2 → tget (fun _ => none) s.pins.poForced o.val = none →
      ∃ t, exec (.swlvlWrite o m v) s = .next t
        ∧ t.regN (R.PO_SWLVL o) = v.toNat % 2 ∧ t.fld (R.PO_STAT o) F.PO_STAT_LVL = v.toNat % 2
        ∧ (v.toNat % 2 = 1 → s.flag (R.PO_STAT o) F.PO_STAT_LVL = false → s.flag (R.PO_CFG o) F.PO_CFG_EVR = true →
            t.isPending (672 + o) = true)
        ∧ (∀ k, k ≠ R.PO_SWLVL o → k ≠ R.PO_STAT o → k ≠ R.EVC_PEND ((672 + o) / 32) → t.reg k = s.reg k)
        ∧ t = { s with regs := t.regs, cores := t.cores })
  ∧ (∀ (g : Fin 48) (lvl : Bool) (s : State), s.useOf (R.GPIO_CLAIM g) ≠ 0 →
      s.flag (R.GPIO_STAT g) F.GPIO_STAT_IN ≠ s.gpioLevel g lvl →
      bit (s.fld (R.GPIO_CFG g) F.GPIO_CFG_EDGE) (if s.gpioLevel g lvl then 0 else 1) = true →
      exec (.gpioEdge g lvl) s = .next (raise (608 + g)
        ((s.setFld (R.GPIO_STAT g) F.GPIO_STAT_IN (b2n (s.gpioLevel g lvl))).setFld (R.GPIO_STAT g)
          F.GPIO_STAT_EDG 1)))
  ∧ (∀ (g : Fin 48) (lvl : Bool) (s : State), s.useOf (R.GPIO_CLAIM g) = 0 → ∃ t, exec (.gpioEdge g lvl) s = .next t
      ∧ t.flag (R.GPIO_STAT g) F.GPIO_STAT_IN = s.gpioLevel g lvl
      ∧ (∀ k, k ≠ R.GPIO_STAT g → t.reg k = s.reg k) ∧ t = { s with regs := t.regs })
  ∧ (∀ (g : Fin 48) (lvl : Bool) (s : State), tget (fun _ => none) s.pins.gpioForced g.val = none →
      s.gpioLevel g lvl = (if s.useOf (R.GPIO_CLAIM g) = 2 then s.flag (R.GPIO_CFG g) F.GPIO_CFG_OUT
        else if s.useOf (R.GPIO_CLAIM g) = 3 then s.flag (R.GPIO_CFG g) F.GPIO_CFG_OUT && lvl else lvl))

/-! ### Events, the log and memory -/

/-- R462 to R464 for every source. That waking a core is the effect of a routed event is DEDUCED (log entry 59). -/
def Obligations.EventRules : Prop :=
  (∀ (src : Fin 1024) (s : State), reservedSource src = false → s.sideDown (eventDie src) = false →
    ∃ t, exec (.eventRaise src) s = .next t
    ∧ t.isPending src = true ∧ (∀ n, n < 1024 → n ≠ src.val → t.isPending n = s.isPending n)
    ∧ (∀ k, k ≠ R.EVC_PEND (src / 32) → t.reg k = s.reg k)
    ∧ (∀ n, t.core n = if s.flag (R.EVC_ROUTE src) F.EVC_ROUTE_EN = true
          ∧ s.fld (R.EVC_ROUTE src) F.EVC_ROUTE_CORE = n then { s.core n with waiting := false } else s.core n)
    ∧ t = { s with regs := t.regs, cores := t.cores })
  ∧ (∀ (src : Fin 1024) (s : State), reservedSource src = true ∨ s.sideDown (eventDie src) = true →
      exec (.eventRaise src) s = .next s)
  ∧ (∀ (m : Fin 48) (v : Payload) (s : State),
      (992 ≤ v.toNat % 1024 → ∀ src : Fin 1024, src.val = v.toNat % 1024 →
        exec (.swset m v) s = exec (.eventRaise src) s)
      ∧ (v.toNat % 1024 < 992 →
        exec (.swset m v) s = .next (logCairn .event 0x01 [⟨10, v.toNat % 1024⟩, ⟨6, m⟩] s)))
  ∧ (∀ (src : Fin 1024) (lv : Level) (v : Payload) (s : State), ∃ t, exec (.routeWrite src lv v) s = .next t
      ∧ t.fld (R.EVC_ROUTE src) F.EVC_ROUTE_CORE = bits v.toNat 0 4
      ∧ t.fld (R.EVC_ROUTE src) F.EVC_ROUTE_PRIO = bits v.toNat 4 6
      ∧ t.fld (R.EVC_ROUTE src) F.EVC_ROUTE_LVL = bits v.toNat 10 1
      ∧ t.fld (R.EVC_ROUTE src) F.EVC_ROUTE_EN = bits v.toNat 11 1
      ∧ (∀ k, k ≠ R.EVC_ROUTE src → t.reg k = s.reg k)
      ∧ (∀ n, t.core n = if s.isPending src = true ∧ bits v.toNat 11 1 = 1 ∧ bits v.toNat 0 4 = n
          then { s.core n with waiting := false } else s.core n)
      ∧ t = { s with regs := t.regs, cores := t.cores })

/-- The log's input and output (R639 to R646), while the entry it replaces has been consumed. -/
def Obligations.CairnRules : Prop :=
  (∀ (v : Payload) (s : State), s.cairn.frozen = false → s.cairn.queue.length < 256 →
    exec (.swent v) s = .next { s with cairn := { s.cairn with queue := s.cairn.queue ++
      [{ tick := BitVec.ofNat 48 s.tick, pos0 := (s.axis 0).bearing, src := 0x11, code := v.toNat % 256,
         cont := false, detail := BitVec.ofNat 48 (v.toNat / 256) }] } })
  ∧ (∀ (e : CairnIn) (q : List CairnIn) (s : State), s.cairn.queue = e :: q → s.cairn.frozen = false →
      s.cairnLag < 65536 → s.cairnInTick < 16 → ∃ t, exec .cairnEntryAccept s = .next t
        ∧ t.cairn.queue = q ∧ t.cairn.dropped = false ∧ t.cairnInTick = s.cairnInTick + 1
        ∧ t.cairnAt (s.fld R.CAIRN_SEQ F.CAIRN_SEQ_NEXT) = {
            tick := e.tick, pos0 := e.pos0, detail := e.detail,
            e2 := BitVec.ofNat 48 (e.code + e.src * 2 ^ 8 + b2n e.cont * 2 ^ 13 + b2n s.cairn.dropped * 2 ^ 14
              + s.fld R.CAIRN_SEQ F.CAIRN_SEQ_NEXT * 2 ^ 16) }
        ∧ (∀ i, i % 65536 ≠ s.fld R.CAIRN_SEQ F.CAIRN_SEQ_NEXT % 65536 → t.cairnAt i = s.cairnAt i)
        ∧ t.fld R.CAIRN_SEQ F.CAIRN_SEQ_NEXT = (s.fld R.CAIRN_SEQ F.CAIRN_SEQ_NEXT + 1) % 2 ^ 32
        ∧ (s.fld R.CAIRN_CFG F.CAIRN_CFG_WMTHR ≠ 0 →
            s.fld R.CAIRN_CFG F.CAIRN_CFG_WMTHR ≤ s.cairnLag + 1 → t.flag R.CAIRN_STAT F.CAIRN_STAT_WMARK = true)
        ∧ (s.flag R.CAIRN_CFG F.CAIRN_CFG_MEN = true → e.src = s.fld R.CAIRN_CFG F.CAIRN_CFG_MSRC →
            e.code = s.fld R.CAIRN_CFG F.CAIRN_CFG_MCODE → t.flag R.CAIRN_STAT F.CAIRN_STAT_MATCH = true)
        ∧ t = { s with regs := t.regs, cores := t.cores, cairn := t.cairn })
  ∧ (∀ s : State, 16 ≤ s.cairnInTick → exec .cairnEntryAccept s = .next s)
  ∧ (∀ (m : Fin 48) (s : State), hasPath m .cairn = true → s.turn m = true → ∃ t, exec (.rdat3Read m) s = .next t
      ∧ t.junc.rsps = s.junc.rsps ++ [{ m := m, a := 0x300_0000_0000 + R.CAIRN_RDAT 3, st := .ok, w := ⟨Tags.raw, (s.cairnAt (s.fld R.CAIRN_RIDX F.CAIRN_RIDX_RIDX)).detail⟩, wr := false }]
      ∧ t.fld R.CAIRN_RIDX F.CAIRN_RIDX_RIDX = (s.fld R.CAIRN_RIDX F.CAIRN_RIDX_RIDX + 1) % 65536
      ∧ (∀ k, k ≠ R.CAIRN_RIDX → t.reg k = s.reg k)
      ∧ t = { s with regs := t.regs, junc := { s.junc with rsps := t.junc.rsps, ports := t.junc.ports } })

/-- The memory words of HBM, chambers and lane buffers. What the gallery port presents is free (log entry 97). -/
def Obligations.WordAccesses : Prop :=
  (∀ (m : Fin 48) (a : PAddr) (w : Word) (s : State), s.performs m a.toNat = true → a.toNat % 4 = 0 →
    ∃ t, exec (.wordWrite m a w) s = .next t ∧ t.cont (a.toNat / 4) = encodeWord w
      ∧ s.answered t m a.toNat .ok Word.uni0 true (a.toNat / 4))
  ∧ (∀ (m : Fin 48) (a : PAddr) (x : Word) (s : State), s.performs m a.toNat = true → a.toNat % 4 = 0 →
      (decodeContainer (s.cont (a.toNat / 4)) = .clean x →
        ∃ t, exec (.wordRead m a) s = .next t ∧ t.mem = s.mem ∧ s.answered t m a.toNat .ok x false (a.toNat / 4))
      ∧ (decodeContainer (s.cont (a.toNat / 4)) = .corrected x →
        exec (.wordRead m a) s = .next (respond m a.toNat false (evalAddr m a.toNat) { st := .ok, w := x }
          ((noteCorrected (a.toNat / 4) (s.presented a.toNat false)).granted (targetOf a.toNat).id m)))
      ∧ (decodeContainer (s.cont (a.toNat / 4)) = .uncorrectable →
        exec (.wordRead m a) s = .next (respond m a.toNat false (evalAddr m a.toNat) { st := .ok, w := Word.uni0 }
          ((logCairn .memory 0x01 [dfTargetOfWord (a.toNat / 4), ⟨42, 4 * (a.toNat / 4)⟩, ⟨6, m⟩]
            (raiseOn (dieOfWord (a.toNat / 4)) 132 (countUncorrectable (a.toNat / 4)
              (s.presented a.toNat false)))).granted (targetOf a.toNat).id m))))
  ∧ (∀ (m : Fin 48) (a : PAddr) (v : BitVec 12) (x : Word) (s : State), s.performs m a.toNat = true →
      decodeContainer (s.cont (a.toNat / 4)) = .clean x →
      (x.tag = Tags.quad → ∃ t, exec (.sampleStore m a v) s = .next t
        ∧ t.cont (a.toNat / 4) = encodeWord ⟨Tags.quad,
            BitVec.ofNat 48 (setBits x.pay.toNat (12 * (a.toNat % 4)) 12 v.toNat)⟩
        ∧ s.answered t m a.toNat .ok Word.uni0 true (a.toNat / 4))
      ∧ (x.tag ≠ Tags.quad → ∃ t, exec (.sampleStore m a v) s = .next t ∧ t.mem = s.mem
        ∧ s.answered t m a.toNat .tref Word.uni0 true (a.toNat / 4)))
  ∧ (∀ (m : Fin 48) (a : PAddr) (w x : Word) (mask : BitVec 4) (et : BitVec 3) (s : State),
      s.performs m a.toNat = true → a.toNat % 4 = 0 → decodeContainer (s.cont (a.toNat / 4)) = .clean x →
      x.tag = w.tag → ∃ t, exec (.fieldWrite m a w mask et) s = .next t
        ∧ t.cont (a.toNat / 4) = encodeWord ⟨x.tag,
            BitVec.ofNat 48 (mergeFields et.toNat mask.toNat x.pay.toNat w.pay.toNat)⟩
        ∧ s.answered t m a.toNat .ok Word.uni0 true (a.toNat / 4))
  ∧ (∀ (n sa : Nat) (wr : Bool) (s : State), (s.galPort n).1.conflicts wr sa = true →
      (chamberGclk n sa wr s).1 = ((s.galPort n).2.chamber n).rot
      ∧ ((chamberGclk n sa wr s).2.chamber n).rot = !((s.galPort n).2.chamber n).rot)
  ∧ (∀ (n a : Nat) (wr : Bool) (s : State),
      (chamberGclk n (subArray (a % 0x800000 / 4)) wr s).1 = false →
      ((chamberGclk n (subArray (a % 0x800000 / 4)) wr
        (chamberGclk n (subArray (a % 0x800000 / 4)) wr s).2)).1 = true)

/-- Training and the scrubbers (R285, R288, R309). The spare rows that a stack reports are free (log entry 39). -/
def Obligations.ScrubRules : Prop :=
  (∀ (st : Fin 6) (s : State), ∃ t, exec (.hbmTrained st) s = .next t
    ∧ t.flag (R.HBM_STAT st) F.HBM_STAT_TRAINED = true
    ∧ (∀ q, q < 32 → t.fld (R.PC_SPARE st q) F.PC_SPARE_SPARE
        = (Config.spareRows (32 * st + q)).toNat - ((s.hbm st).hard.filter fun r => r.1 == q).length)
    ∧ (∀ k, k ≠ R.HBM_STAT st → (∀ q, q < 32 → k ≠ R.PC_SPARE st q) → t.reg k = s.reg k)
    ∧ t = { s with regs := t.regs })
  ∧ (∀ (n : Fin 16) (s : State), s.flag (R.CHAM_CFG n) F.CHAM_CFG_SCREN = true →
      (s.chamber n).scrub.due < 16 * (s.tick + 1) → (s.chamber n).scrub.next < 0x10000 →
      ∃ t, exec (.chamberScrubVisit n) s = .next t
        ∧ (t.chamber n).scrub.next = ((s.chamber n).scrub.next + 1) % 0x10000
        ∧ (t.chamber n).scrub.due
            = max (s.chamber n).scrub.due (16 * s.tick) + max 1 (s.fld (R.CHAM_CFG n) F.CHAM_CFG_SCRINT)
        ∧ (∀ e x, e < 32 → s.lockedBy (s.blockAt n + e) = none →
            decodeContainer (s.cont (s.blockAt n + e)) = .corrected x → t.cont (s.blockAt n + e) = encodeWord x)
        ∧ (∀ w, (∀ x, decodeContainer (s.cont w) ≠ .corrected x) → t.cont w = s.cont w)
        ∧ (∀ w, w < s.blockAt n ∨ s.blockAt n + 32 ≤ w → t.cont w = s.cont w))
  ∧ (∀ (n : Fin 16) (s : State), s.flag (R.CHAM_CFG n) F.CHAM_CFG_SCREN = false →
      exec (.chamberScrubVisit n) s = .next s)
  ∧ (∀ (st : Fin 6) (s : State), s.flag (R.HBM_CFG st) F.HBM_CFG_SCREN = true →
      s.flag (R.HBM_STAT st) F.HBM_STAT_TRAINED = true → s.flag (R.HBM_QUIESCE st) F.HBM_QUIESCE_Q = false →
      ∃ t, exec (.hbmScrubVisit st) s = .next t
        ∧ (∀ q, q < 32 → s.scrubDue st q = true →
            (tget (fun _ => {}) (t.hbm st).scrubs q).next
                = ((tget (fun _ => {}) (s.hbm st).scrubs q).next + 1) % 0xC00000
            ∧ (tget (fun _ => {}) (t.hbm st).scrubs q).due = s.tick + max 1 (s.fld (R.HBM_CFG st) F.HBM_CFG_SCRINT)
            ∧ ∀ e x, e < 8 → (tget (fun _ => {}) (s.hbm st).scrubs q).next < 0xC00000 →
              s.lockedBy (s.scrubWordAt st q + e) = none →
              decodeContainer (s.cont (s.scrubWordAt st q + e)) = .corrected x →
              t.cont (s.scrubWordAt st q + e) = encodeWord x)
        ∧ (∀ q, q < 32 → s.scrubDue st q = false →
            tget (fun _ => {}) (t.hbm st).scrubs q = tget (fun _ => {}) (s.hbm st).scrubs q)
        ∧ (∀ w, (∀ x, decodeContainer (s.cont w) ≠ .corrected x) → t.cont w = s.cont w))
  ∧ (∀ (st : Fin 6) (s : State), s.flag (R.HBM_CFG st) F.HBM_CFG_SCREN = false →
      exec (.hbmScrubVisit st) s = .next s)

/-- R290 to R292. What a replaced row holds is free (log entry 39). -/
def Obligations.RepairRules : Prop :=
  (∀ (st : Fin 6) (lv : Level) (v : Payload) (s : State), bits v.toNat F.HBM_PPR_GO.lo 1 = 1 →
    bits v.toNat F.HBM_PPR_HARD.lo 1 = 0 → s.flag (R.HBM_STAT st) F.HBM_STAT_PPRBUSY = false →
    bits v.toNat 10 15 ≤ 24575 → (s.hbm st).soft.contains (32 * bits v.toNat 0 5 + bits v.toNat 5 5) = false →
    ∃ t, exec (.softRepair st lv v) s = .next t
      ∧ (t.hbm st).running
          = some { hard := false, q := bits v.toNat 0 5, bank := bits v.toNat 5 5, row := bits v.toNat 10 15 }
      ∧ t.flag (R.HBM_STAT st) F.HBM_STAT_PPRBUSY = true
      ∧ (∀ k, k ≠ R.HBM_PPR st → k ≠ R.HBM_STAT st → t.reg k = s.reg k)
      ∧ t = { s with regs := t.regs, hbms := t.hbms })
  ∧ (∀ (st : Fin 6) (lv : Level) (v : Payload) (s : State), bits v.toNat F.HBM_PPR_GO.lo 1 = 1 →
    bits v.toNat F.HBM_PPR_HARD.lo 1 = 1 → s.flag (R.HBM_STAT st) F.HBM_STAT_PPRBUSY = false →
    bits v.toNat 10 15 ≤ 24575 → s.flag (R.HBM_QUIESCE st) F.HBM_QUIESCE_Q = true →
    s.fld (R.PC_SPARE st (bits v.toNat 0 5)) F.PC_SPARE_SPARE ≠ 0 →
    ∃ t, exec (.hardRepair st lv v) s = .next t
      ∧ (t.hbm st).running
          = some { hard := true, q := bits v.toNat 0 5, bank := bits v.toNat 5 5, row := bits v.toNat 10 15 }
      ∧ t.flag (R.HBM_STAT st) F.HBM_STAT_PPRBUSY = true
      ∧ (∀ k, k ≠ R.HBM_PPR st → k ≠ R.HBM_STAT st → t.reg k = s.reg k)
      ∧ t = { s with regs := t.regs, hbms := t.hbms })
  ∧ (∀ (hard : Bool) (st : Fin 6) (lv : Level) (v : Payload) (s : State) (res : Nat),
      bits v.toNat F.HBM_PPR_GO.lo 1 = 1 → bits v.toNat F.HBM_PPR_HARD.lo 1 = b2n hard →
      repairRefusal s st (bits v.toNat 0 5) (bits v.toNat 5 5) (bits v.toNat 10 15) hard = some res →
      ∃ t, exec (if hard then .hardRepair st lv v else .softRepair st lv v) s = .next t
        ∧ t.fld (R.HBM_PPR st) F.HBM_PPR_RES = res ∧ t.hbms = s.hbms ∧ t.mem = s.mem
        ∧ (∀ k, k ≠ R.HBM_PPR st → k ≠ R.CAIRN_DROPCNT → t.reg k = s.reg k)
        ∧ t.cairn = (logCairn .memory 0x05 [⟨3, st⟩, ⟨5, bits v.toNat 0 5⟩, ⟨5, bits v.toNat 5 5⟩,
            ⟨15, bits v.toNat 10 15⟩, ⟨3, res⟩] s).cairn)
  ∧ (∀ (st : Fin 6) (r : Repair) (s : State), (s.hbm st).running = some r → r.q < 32 →
      (r.hard = true → s.fld (R.PC_SPARE st r.q) F.PC_SPARE_SPARE ≠ 0) →
      ∃ t, exec (.repairDone st true) s = .next t
        ∧ (t.hbm st).running = none ∧ t.flag (R.HBM_STAT st) F.HBM_STAT_PPRBUSY = false
        ∧ t.fld (R.HBM_PPR st) F.HBM_PPR_RES = 1
        ∧ t.fld (R.PC_SPARE st r.q) F.PC_SPARE_SPARE + b2n r.hard = s.fld (R.PC_SPARE st r.q) F.PC_SPARE_SPARE
        ∧ (t.hbm st).hard = (if r.hard = true then (r.q, r.bank, r.row) :: (s.hbm st).hard else (s.hbm st).hard)
        ∧ (t.hbm st).soft = (if r.hard = true then (s.hbm st).soft else (32 * r.q + r.bank) :: (s.hbm st).soft)
        ∧ (∀ w, w ∉ rowWords st r → t.cont w = s.cont w))
  ∧ (∀ (st : Fin 6) (r : Repair) (s : State), (s.hbm st).running = some r →
      exec (.repairDone st false) s = .next (logCairn .memory 0x05
        [⟨3, st⟩, ⟨5, r.q⟩, ⟨5, r.bank⟩, ⟨15, r.row⟩, ⟨3, 5⟩]
        (((s.setFld (R.HBM_STAT st) F.HBM_STAT_PPRBUSY 0).setHbm st { s.hbm st with running := none }).setFld
          (R.HBM_PPR st) F.HBM_PPR_RES 5)))
  ∧ (∀ (st : Fin 6) (lv : Level) (v : Payload) (s : State), ∃ t, exec (.quiesceWrite st lv v) s = .next t
      ∧ t.fld (R.HBM_QUIESCE st) F.HBM_QUIESCE_Q
          = (if lv = .m then v.toNat % 2 else s.fld (R.HBM_QUIESCE st) F.HBM_QUIESCE_Q)
      ∧ (∀ k, k ≠ R.HBM_QUIESCE st → t.reg k = s.reg k) ∧ t = { s with regs := t.regs })
  ∧ (∀ (st : Fin 6) (temp : BitVec 8) (s : State), temp.toInt > 95 →
      signedOf 8 (s.fld (R.HBM_STAT st) F.HBM_STAT_TEMP) ≤ 95 → s.flag (R.HBM_STAT st) F.HBM_STAT_TEMPHI = false →
      exec (.hbmTemperatureHigh st temp) s = .next (logCairn .memory 0x09 [⟨3, st⟩, ⟨8, temp.toNat⟩]
        (raise (155 + st) ((s.setFld (R.HBM_STAT st) F.HBM_STAT_TEMP temp.toNat).setFld (R.HBM_STAT st)
          F.HBM_STAT_TEMPHI 1))))

/-- R311 to R318 for a march of HBM or of a chamber. What failing cells return, and how far an aborted march came, is
free (log entry 40). -/
def Obligations.MarchRules : Prop :=
  (∀ (k : Fin 4) (lv : Level) (v : Payload) (s : State),
    let r := marchAsked s k (setBits (setBits v.toNat 1 1 0) 0 1 1)
    (marchRefusal s k r = none → r.tgt ≠ 2 → r.len * 7 < 2 ^ 37 → ∃ t, exec (.marchGo k lv v) s = .next t
      ∧ (∃ b, (t.march k).run = some { r with bad := b }) ∧ (t.march k).refusedOne = false
      ∧ t.flag (R.MARCH_STAT k) F.MARCH_STAT_BUSY = true
      ∧ t.fld (R.MARCH_TOTAL k) F.MARCH_TOTAL_TOTAL = r.len * (if r.mode = 0 then (if r.bg = 0 then 6 else 7) else 1)
      ∧ (∀ o, o ∈ [R.MARCH_PROG k, R.MARCH_PCT k, R.MARCH_FADDR k, R.MARCH_FXLO k, R.MARCH_FXHI k,
          R.MARCH_FAILCNT k, R.MARCH_REFCNT k] → t.reg o = 0)
      ∧ (r.tgt = 0 → t.flag (R.CHAM_STAT (4 * k + r.csel)) F.CHAM_STAT_LOCKED = true)
      ∧ t.mem = s.mem)
    ∧ (∀ rej, marchRefusal s k r = some rej → ∃ t, exec (.marchGo k lv v) s = .next t
      ∧ t.fld (R.MARCH_STAT k) F.MARCH_STAT_REJ = rej ∧ t.flag (R.MARCH_STAT k) F.MARCH_STAT_REJV = true
      ∧ (∀ o, o ≠ R.MARCH_STAT k → o ≠ R.MARCH_CMD k → o ≠ R.CAIRN_DROPCNT → t.reg o = s.reg o)
      ∧ t.cairn = (logCairn .memory 0x06 [⟨2, k⟩, ⟨3, rej⟩] s).cairn
      ∧ t.marches = s.marches ∧ t.mem = s.mem))
  ∧ (∀ (k : Fin 4) (r : MarchRun) (s : State), (s.march k).run = some r → r.tgt ≠ 2 → r.csel < 4 →
      r.failed s r.total = [] → s.fld (R.MARCH_FAILCNT k) F.MARCH_FAILCNT_FAILCNT = 0 → s.sideDown (1 + k) = false →
      ∀ mode tgt bg : BitVec 2, r.isOf mode.toNat tgt.toNat bg.toNat = true → ∃ t, exec (.marchEnd k mode tgt bg) s = .next t
        ∧ (t.march k).run = none ∧ t.flag (R.MARCH_STAT k) F.MARCH_STAT_BUSY = false
        ∧ t.flag (R.MARCH_STAT k) F.MARCH_STAT_DONE = true ∧ t.isPending (161 + k) = true
        ∧ t.fld (R.MARCH_PCT k) F.MARCH_PCT_PCT = 10000
        ∧ (r.mode = 1 → t.mem = s.mem)
        ∧ (r.mode ≠ 1 → ∀ w, r.w0 ≤ w → w < r.w0 + r.len → contAt t.mem w = 0)
        ∧ (∀ w, w < r.w0 ∨ r.w0 + r.len ≤ w → contAt t.mem w = contAt s.mem w))
  ∧ (∀ (k : Fin 4) (r : MarchRun) (b : BadRead) (s : State), (s.march k).run = some r → r.tgt ≠ 2 → r.csel < 4 →
      r.firstOf (r.failed s (r.ends s)) = some b → s.fld (R.MARCH_FAILCNT k) F.MARCH_FAILCNT_FAILCNT = 0 →
      ∀ mode tgt bg : BitVec 2, r.isOf mode.toNat tgt.toNat bg.toNat = true → ∃ t, exec (.marchEnd k mode tgt bg) s = .next t
        ∧ t.fld (R.MARCH_FAILCNT k) F.MARCH_FAILCNT_FAILCNT = min (r.failed s (r.ends s)).length (2 ^ 36 - 1)
        ∧ t.fld (R.MARCH_FADDR k) F.MARCH_FADDR_FADDR = 4 * (r.w0 + b.word) % 2 ^ 42
        ∧ t.fld (R.MARCH_FXLO k) F.MARCH_FXLO_FXLO = (r.diff (s.cont (r.w0 + b.word)) b).toNat % 2 ^ 32
        ∧ t.fld (R.MARCH_FXHI k) F.MARCH_FXHI_FXHI = (r.diff (s.cont (r.w0 + b.word)) b).toNat / 2 ^ 32
        ∧ t.flag (R.MARCH_STAT k) F.MARCH_STAT_FAIL = true ∧ t.flag (R.MARCH_STAT k) F.MARCH_STAT_DONE = true
        ∧ (∀ w, w < r.w0 ∨ r.w0 + r.len ≤ w → contAt t.mem w = contAt s.mem w))
  ∧ (∀ (k : Fin 4) (mode tgt bg : BitVec 2) (s : State),
      (∀ r, (s.march k).run = some r → r.isOf mode.toNat tgt.toNat bg.toNat = false) →
      exec (.marchEnd k mode tgt bg) s = .next s)
  ∧ (∀ (k : Fin 4) (lv : Level) (v : Payload) (r : MarchRun) (s : State), (s.march k).run = some r → r.tgt ≠ 2 →
      r.csel < 4 → ∃ t, exec (.marchAbort k lv v) s = .next t
        ∧ (t.march k).run = none ∧ t.flag (R.MARCH_STAT k) F.MARCH_STAT_BUSY = false
        ∧ t.flag (R.MARCH_STAT k) F.MARCH_STAT_ABORTED = true ∧ t.flag (R.MARCH_STAT k) F.MARCH_STAT_DONE = true
        ∧ (r.mode = 1 → r.bad = [] → t.mem = s.mem)
        ∧ (∀ w, w < r.w0 ∨ r.w0 + r.len ≤ w → contAt t.mem w = contAt s.mem w))

/-- The Junction's commands. The drain of EN is DEDUCED (log entry 43). -/
def Obligations.JunctionRules : Prop :=
  (∀ (n : Fin 16) (r : JReq) (w : Word) (s : State), s.junc.waiting = [r] → r.fresh = false →
    s.junc.draining = false → (s.port (6 + n)).gap = 0 →
    targetOf r.a = .cham n → r.op = .wr w → r.a % 4 = 0 →
    ({ s with junc := { s.junc with waiting := [] } } : State).performs r.m r.a = true → s.starved r = false →
    (∀ x, x < 2 → (s.site x).rxq = [] ∧ (s.site x).strq = [] ∧ s.linkOps x = []) →
    ∃ t, exec (.junctionGrant ⟨6 + n, by omega⟩) s = .next t
      ∧ t.cont (r.a / 4) = encodeWord w ∧ s.sameBut t (r.a / 4) ∧ (t.port (6 + n)).last = some r.m
      ∧ t.junc = { s.junc with waiting := [], ports := t.junc.ports, rsps := s.junc.rsps ++ [{ m := r.m, a := r.a, st := .ok, w := Word.uni0, wr := true, va := r.va }] }
      ∧ t = { s with mem := t.mem, junc := t.junc, fresh := t.fresh, chams := t.chams })
  ∧ (∀ (m : Fin 48) (r : JRsp) (l : List JRsp) (s : State), s.junc.rsps = r :: l → r.m = m.val → r.st = .ok →
      exec (.junctionResponse m) s = .next { s with junc := { s.junc with
        rsps := l, delivered := tset (fun _ => none) s.junc.delivered m (some r) } })
  ∧ (∀ (m : Fin 16) (r : JRsp) (l : List JRsp) (s : State), s.junc.rsps = r :: l → r.m = m.val → r.st ≠ .ok →
      r.wr = true → (s.core m).astore = none → ∃ t, exec (.junctionResponse ⟨m, by omega⟩) s = .next t
        ∧ (t.core m).astore = some (BitVec.ofNat 48 r.va, r.st.code) ∧ t.junc.rsps = l)
  ∧ (∀ (m : Fin 48) (a : PAddr) (wr : Bool) (s : State), s.turn m = true →
      targetOf a.toNat = .default ∨ (s.junc.isolated = false ∧ hasPath m (targetOf a.toNat) = false) →
      ∃ t, exec (.defaultTargetAccess m a wr) s = .next t
        ∧ t.fld R.JUNC_ERRADDR F.JUNC_ERRADDR_ADDR = a.toNat
        ∧ t.regN R.JUNC_ERRINFO = (if targetOf a.toNat = .default then m + 64 * b2n wr
            else m + 64 * b2n wr + 128 + 256 * (targetOf a.toNat).id)
        ∧ t.fld R.JUNC_ERRCNT F.JUNC_ERRCNT_ERRCNT
            = (s.fld R.JUNC_ERRCNT F.JUNC_ERRCNT_ERRCNT + 1) % 2 ^ F.JUNC_ERRCNT_ERRCNT.w
        ∧ t.isPending 165 = true
        ∧ t.junc.rsps = s.junc.rsps ++ [{ m := m, a := a.toNat, st := .jerr, w := Word.uni0, wr := wr, va := evalAddr m a.toNat }]
        ∧ t.mem = s.mem)
  ∧ (∀ (v : Payload) (s : State), v.toNat % 2 = 1 → s.mlock = false → s.flag R.JUNC_CTL F.JUNC_CTL_EN = false →
      exec (.junctionEnable v) s = .next { (s.setFld R.JUNC_CTL F.JUNC_CTL_EN 1) with
        junc := { s.junc with draining := true } })
  ∧ (∀ s : State, s.junc.draining = true → s.junc.rsps = [] → (∀ x, x < 2 → (s.site x).reqs = []) →
      ∃ t, exec .junctionFullRate s = .next t
      ∧ t.junc.draining = false ∧ t.flag R.JUNC_STAT F.JUNC_STAT_ACTIVE = true
      ∧ (∀ m, m < 48 → tget (fun _ => 0) t.junc.slices m = s.reg (R.JUNC_SLICE m))
      ∧ (∀ k, k ≠ R.JUNC_STAT → t.reg k = s.reg k) ∧ t = { s with regs := t.regs, junc := t.junc })
  ∧ (∀ (m : Fin 48) (lv : Level) (v : Payload) (s : State),
      (s.flag R.JUNC_CTL F.JUNC_CTL_EN = true →
        exec (.sliceWrite m lv v) s = .next (logCairn .junction 0x02 [⟨6, m⟩]
          (s.setFld R.JUNC_STAT F.JUNC_STAT_STERR 1)))
      ∧ (s.flag R.JUNC_CTL F.JUNC_CTL_EN = false → s.mlock = false → ∃ t, exec (.sliceWrite m lv v) s = .next t
        ∧ t.fld (R.JUNC_SLICE m) F.JUNC_SLICE_SLICE = bits v.toNat 0 38
        ∧ (∀ k, k ≠ R.JUNC_SLICE m → t.reg k = s.reg k) ∧ t = { s with regs := t.regs }))
  ∧ (∀ (m : Fin 48) (g : Fin 4) (lv : Level) (v : Payload) (s : State),
      (g.val < 3 → ∃ t, exec (.priParkWrite false m g lv v) s = .next t
        ∧ t.reg (R.JUNC_PRI m g) = (if lv = .m then v else s.reg (R.JUNC_PRI m g))
        ∧ (∀ k, k ≠ R.JUNC_PRI m g → t.reg k = s.reg k) ∧ t = { s with regs := t.regs })
      ∧ (g.val = 3 → ∃ t, exec (.priParkWrite false m g lv v) s = .next t
        ∧ t.fld (R.JUNC_PRI3 m) F.JUNC_PRI3_PRI
            = (if lv = .m then bits v.toNat 0 8 else s.fld (R.JUNC_PRI3 m) F.JUNC_PRI3_PRI)
        ∧ (∀ k, k ≠ R.JUNC_PRI3 m → t.reg k = s.reg k) ∧ t = { s with regs := t.regs })
      ∧ (m.val < 38 → ∃ t, exec (.priParkWrite true m g lv v) s = .next t
        ∧ t.fld (R.JUNC_PARK m) F.JUNC_PARK_MODE
            = (if s.mlock = true then s.fld (R.JUNC_PARK m) F.JUNC_PARK_MODE else bits v.toNat 0 3)
        ∧ t.fld (R.JUNC_PARK m) F.JUNC_PARK_DM
            = (if s.mlock = true then s.fld (R.JUNC_PARK m) F.JUNC_PARK_DM else bits v.toNat 3 6)
        ∧ (∀ k, k ≠ R.JUNC_PARK m → t.reg k = s.reg k) ∧ t = { s with regs := t.regs }))

/-! ### Passage -/

/-- R353 and R355 for requests whose words are clean and whose targets perform at once. -/
def Obligations.SiteRequests : Prop :=
  (∀ (x : Fin 2) (hdr : BitVec 192) (pa : Nat) (tp : Bool) (ws : List Word) (s : State), hdr.toNat % 16 = 1 →
    ws.length = bits hdr.toNat 26 6 + 1 → s.siteTakes x hdr 0 (dataSlots ws.length) = true →
    s.sitePage x hdr true false = some (pa, tp) → pa % 4 = 0 →
    (∀ i, i < ws.length → s.performs (siteMaster x hdr) (pa + 4 * i) = true
      ∧ decodeContainer (s.cont (pa / 4 + i)) = .clean (ws.getD i Word.uni0)) →
    ∃ t, exec (.rd x hdr) s = .next t ∧ s.served t ∧ t.mem = s.mem
      ∧ (t.site x).sent = (s.site x).sent ++ [rspFor hdr ws]
      ∧ (t.site x).theirs = (s.site x).theirs.add (s.site x).owed)
  ∧ (∀ (x : Fin 2) (hdr : BitVec 192) (data : List Container) (pa : Nat) (tp : Bool) (ws : List Word)
      (s : State), data.length = bits hdr.toNat 26 6 + 1 →
      data.map decodeContainer = ws.map .clean → s.siteTakes x hdr (dataSlots data.length) 0 = true →
      s.sitePage x hdr false true = some (pa, tp) → pa % 4 = 0 →
      (∀ i, i < ws.length → s.performs (siteMaster x hdr) (pa + 4 * i) = true) →
      (hdr.toNat % 16 = 2 → ∃ t, exec (.wr x hdr data) s = .next t
        ∧ (∀ i, i < ws.length → t.cont (pa / 4 + i) = encodeWord (siteTag tp (ws.getD i Word.uni0)))
        ∧ (∀ i, i < 8 * (pa / 4) ∨ 8 * (pa / 4 + ws.length) ≤ i → memByte t.mem i = memByte s.mem i)
        ∧ (t.site x).sent = (s.site x).sent ++ [rspnFor hdr 0]
        ∧ (t.site x).theirs = (s.site x).theirs.add (s.site x).owed ∧ s.served t)
      ∧ (hdr.toNat % 16 = 3 → ∃ t, exec (.wrp x hdr data) s = .next t
        ∧ (∀ i, i < ws.length → t.cont (pa / 4 + i) = encodeWord (siteTag tp (ws.getD i Word.uni0)))
        ∧ (∀ i, i < 8 * (pa / 4) ∨ 8 * (pa / 4 + ws.length) ≤ i → memByte t.mem i = memByte s.mem i)
        ∧ (t.site x).sent = (s.site x).sent
        ∧ (t.site x).theirs = (s.site x).theirs.add (s.site x).owed ∧ s.served t))
  ∧ (∀ (x : Fin 2) (hdr : BitVec 192) (d : Container) (pa : Nat) (tp : Bool) (w y : Word) (s : State),
      hdr.toNat % 16 = 4 → decodeContainer d = .clean w → s.siteTakes x hdr 1 1 = true →
      s.sitePage x hdr true true = some (pa, tp) → s.performs (siteMaster x hdr) pa = true →
      decodeContainer (s.cont (pa / 4)) = .clean y →
      (bits hdr.toNat 78 4 = 0 → y.tag = Tags.quad → ∃ t, exec (.sampst x hdr d) s = .next t
        ∧ t.cont (pa / 4) = encodeWord ⟨Tags.quad, BitVec.ofNat 48
            (setBits y.pay.toNat (12 * (pa % 4)) 12 (bits w.pay.toNat 0 12))⟩
        ∧ (t.site x).sent = (s.site x).sent ++ [rspnFor hdr 0] ∧ s.sameBut t (pa / 4) ∧ s.served t)
      ∧ (pa % 4 = 0 → bits hdr.toNat 78 4 = 1 → (∃ e, EType.decode (bits hdr.toNat 86 3) = some e ∧ y.tag = e.tag) →
        ∃ t, exec (.fldwr x hdr d) s = .next t
        ∧ t.cont (pa / 4) = encodeWord ⟨y.tag, BitVec.ofNat 48
            (mergeFields (bits hdr.toNat 86 3) (bits hdr.toNat 82 4) y.pay.toNat w.pay.toNat)⟩
        ∧ (t.site x).sent = (s.site x).sent ++ [rspnFor hdr 0] ∧ s.sameBut t (pa / 4) ∧ s.served t)
      ∧ (pa % 4 = 0 → bits hdr.toNat 78 4 = 2 → y.tag = Tags.int ∨ y.tag = Tags.raw →
        ∃ t, exec (.atomFadd x hdr d) s = .next t
        ∧ t.cont (pa / 4) = encodeWord ⟨y.tag, y.pay + w.pay⟩
        ∧ (t.site x).sent = (s.site x).sent ++ [rspFor hdr [y]] ∧ s.sameBut t (pa / 4) ∧ s.served t)
      ∧ (pa % 4 = 0 → bits hdr.toNat 78 4 = 3 → ∃ t, exec (.atomSwap x hdr d) s = .next t
        ∧ t.cont (pa / 4) = encodeWord (siteTag tp w)
        ∧ (t.site x).sent = (s.site x).sent ++ [rspFor hdr [y]] ∧ s.sameBut t (pa / 4) ∧ s.served t)
      ∧ (∀ (e : Container) (n : Word), decodeContainer e = .clean n → pa % 4 = 0 → bits hdr.toNat 78 4 = 4 →
        ∃ t, exec (.atomCas x hdr d e) s = .next t
        ∧ t.cont (pa / 4) = (if y = w then encodeWord (siteTag tp n) else s.cont (pa / 4))
        ∧ (t.site x).sent = (s.site x).sent ++ [rspFor hdr [y]] ∧ s.sameBut t (pa / 4) ∧ s.served t))

/-- R355, R367, R370 and R372. -/
def Obligations.SiteRefusals : Prop :=
  (∀ (x : Fin 2) (hdr : BitVec 192) (d e : Container) (data : List Container) (v w : Word) (p : Nat × Bool) (s : State),
    hdr.toNat % 16 = 4 → s.siteTakes x hdr 1 0 = true → s.sitePage x hdr true true = some p →
    (bits hdr.toNat 78 4 = 5 → decodeContainer d = .clean v → decodeContainer e = .clean w →
      ∃ t, exec (.pteupd x hdr d e) s = .next t ∧ t = { s with sites := t.sites }
        ∧ (t.site x).sent = (s.site x).sent ++ [rspnFor hdr 2])
    ∧ (6 ≤ bits hdr.toNat 78 4 → data = [] →
      ∃ t, exec (.atomReserved x hdr data) s = .next t ∧ t = { s with sites := t.sites }
        ∧ (t.site x).sent = (s.site x).sent ++ [rspnFor hdr 2]))
  ∧ (∀ (x : Fin 2) (hdr : BitVec 192) (s : State), hdr.toNat % 16 = 1 → s.siteUp x hdr 0 0 = true →
      s.flag (R.SITE_CTL x) F.SITE_CTL_EN = false → ∃ t, exec (.rd x hdr) s = .next t
        ∧ t = { s with sites := t.sites } ∧ (t.site x).sent = (s.site x).sent ++ [rspnFor hdr 2])
  ∧ (∀ (x : Fin 2) (hdr : BitVec 192) (s : State), hdr.toNat % 16 = 1 → s.siteTakes x hdr 0 0 = true →
      s.sideDown (siteDie x) = false →
      (ioLookup s x (bits hdr.toNat 32 42) = none → ∃ t, exec (.rd x hdr) s = .next t
        ∧ t.mem = s.mem ∧ t.isPending (168 + x) = true
        ∧ t.fld (R.SITE_MISSADDR x) F.SITE_MISSADDR_ADDR = bits hdr.toNat 32 42
        ∧ t.flag (R.SITE_STAT x) F.SITE_STAT_MISS = true
        ∧ (t.site x).sent = (s.site x).sent ++ [rspnFor hdr 5])
      ∧ (∀ e, ioLookup s x (bits hdr.toNat 32 42) = some e → e.rd = false → ∃ t, exec (.rd x hdr) s = .next t
        ∧ t.mem = s.mem ∧ t.isPending (168 + x) = true
        ∧ t.fld (R.SITE_MISSADDR x) F.SITE_MISSADDR_ADDR = bits hdr.toNat 32 42
        ∧ t.flag (R.SITE_STAT x) F.SITE_STAT_PERM = true
        ∧ (t.site x).sent = (s.site x).sent ++ [rspnFor hdr 6]))
  ∧ (∀ (x : Fin 2) (hdr : BitVec 192) (s : State), hdr.toNat % 16 = 1 → s.siteLive x = true →
      (s.site x).gotInit = true → s.fld (R.SITE_CAP x) F.SITE_CAP_NMASTER ≤ bits hdr.toNat 8 8 →
      s.sideDown (siteDie x) = false → ∃ t, exec (.rd x hdr) s = .next t ∧ t.mem = s.mem
        ∧ t.flag (R.SITE_STAT x) F.SITE_STAT_UP = false ∧ t.flag (R.SITE_STAT x) F.SITE_STAT_DOWN = true
        ∧ t.isPending (166 + x) = true)

/-- R346, R347, R350, R354, R358, R359 and R366. -/
def Obligations.SiteAnswers : Prop :=
  (∀ (x : Fin 2) (hdr : BitVec 192) (data : List Container) (ws : List Word) (r : PReq) (s : State),
    s.siteLive x = true → (s.site x).gotInit = true → headerGood s x { hdr := hdr, data := [] } = true →
    1 ≤ (s.site x).theirs.rspH → dataSlots data.length ≤ (s.site x).theirs.rspD → (s.site x).txq = [] →
    (s.site x).reqs = [r] → r.m = bits hdr.toNat 8 8 → r.tag = bits hdr.toNat 16 10 →
    (hdr.toNat % 16 = 6 → bits hdr.toNat 4 4 = 0 → data.length = bits hdr.toNat 26 6 + 1 →
      data.map decodeContainer = ws.map .clean → ∃ t, exec (.rsp x hdr data) s = .next t
        ∧ (t.site x).reqs = []
        ∧ (t.site x).dones = (s.site x).dones ++ [{ m := r.m, a := r.a, wr := r.wr, st := .ok, ws := ws }]
        ∧ t = { s with sites := t.sites })
    ∧ (hdr.toNat % 16 = 7 → data = [] → bits hdr.toNat 4 4 ≠ 0 → ∃ t, exec (.rspn x hdr) s = .next t
        ∧ (t.site x).reqs = []
        ∧ (t.site x).dones = (s.site x).dones ++
            [{ m := r.m, a := r.a, wr := r.wr, st := Status.decode (bits hdr.toNat 4 4), ws := [] }]
        ∧ t = { s with sites := t.sites }))
  ∧ (∀ (x : Fin 2) (c : BitVec 192) (s : State), s.siteLive x = true → (s.site x).gotInit = true →
      c.toNat % 16 = 1 → (((s.site x).ours.add (slotCredits c)).le (s.site x).grant) = true → (s.site x).txq = [] →
      ∃ t, exec (.credit x c) s = .next t ∧ (t.site x).ours = (s.site x).ours.add (slotCredits c)
        ∧ (t.site x).sent = (s.site x).sent ∧ t = { s with sites := t.sites })
  ∧ (∀ (x : Fin 2) (c : BitVec 192) (s : State), s.siteLive x = true → (s.site x).gotInit = false →
      c.toNat % 16 = 2 → leastGrant.le (slotCredits c) = true → bits c.toNat 60 4 = 1 → bits c.toNat 64 3 ≤ 4 →
      s.sideDown (siteDie x) = false →
      ∃ t, exec (.init x c) s = .next t ∧ (t.site x).gotInit = true ∧ (t.site x).ours = slotCredits c
        ∧ (t.site x).theirs = ⟨64, 256, 64, 512, 32, 512⟩
        ∧ t.flag (R.SITE_STAT x) F.SITE_STAT_UP = true ∧ t.regN (R.SITE_CAP x) = bits c.toNat 60 9
        ∧ t.isPending (166 + x) = true
        ∧ t = { s with sites := t.sites, regs := t.regs, cores := t.cores, cairn := t.cairn })
  ∧ (∀ (ctl : BitVec 192) (l : List PTx), (∀ t ∈ l, t.hdr.toNat % 16 ≠ 0 ∧ t.data.length = headerWords t.hdr.toNat) →
      readFlits (flitsOf ctl (l.flatMap PTx.slots).length (l.flatMap PTx.slots)) = l
      ∧ ∀ f ∈ flitsOf ctl (l.flatMap PTx.slots).length (l.flatMap PTx.slots), f.length = 10)

/-- R28 and R363 to R366. -/
def Obligations.LinkLoss : Prop :=
  (∀ (u : Fin 13) (s : State), exec (.flitReplay u) s = .next
      (if u.val < 11 then s.bump (R.PLINK_CRCERR u) F.PLINK_CRCERR_CRCERR
        else s.bump (R.SITE_CRCERR (u - 11)) F.SITE_CRCERR_CRCERR))
  ∧ (∀ (u : Fin 13) (rep : Bool) (s : State), (u.val < 11 → s.junc.linksDown.contains u.val = false →
      s.flag (R.PLINK_STAT u) F.PLINK_STAT_UP = true →
      exec (.linkRetrain u true rep) s = .next ((s.bump (R.PLINK_RETRAIN u) F.PLINK_RETRAIN_RETRAIN).setFld
        (R.PLINK_STAT u) F.PLINK_STAT_REPAIRED (b2n rep)))
      ∧ (11 ≤ u.val → exec (.linkRetrain u true rep) s
          = .next (s.bump (R.SITE_RETRAIN (u - 11)) F.SITE_RETRAIN_RETRAIN)))
  ∧ (∀ (l : Fin 11) (s : State), s.junc.linksDown.contains l.val = false → ∃ t, exec (.internalLinkDown l) s = .next t
      ∧ t.junc.linksDown = l.val :: s.junc.linksDown ∧ t.flag (R.PLINK_STAT l) F.PLINK_STAT_UP = false
      ∧ (∀ n, n < 16 → (t.core n).mcheck = (s.core n).mcheck ++ [{ sub := 4, eval := BitVec.ofNat 48 l }])
      ∧ (∀ r ∈ s.junc.waiting, (routeLinks (s.masterDie r.m r.a) (dieOfTarget (targetOf r.a))).contains l.val = true →
          r ∉ t.junc.waiting
          ∧ { m := r.m, a := r.a, st := .linkdown, w := Word.uni0, wr := r.op.writes, va := r.va } ∈ t.junc.rsps)
      ∧ (∀ n, eventDie n = l.val + 1 → raise n t = t)
      ∧ t.mem = s.mem ∧ t.gals = s.gals ∧ t.lanes = s.lanes)
  ∧ (∀ (x : Fin 2) (u : BitVec 16) (s : State), s.flag (R.SITE_STAT x) F.SITE_STAT_UP = true →
      s.sideDown (siteDie x) = false → ∃ t, exec (.siteLinkDown x u) s = .next t
        ∧ t.flag (R.SITE_STAT x) F.SITE_STAT_UP = false ∧ t.flag (R.SITE_STAT x) F.SITE_STAT_DOWN = true
        ∧ t.fld (R.SITE_UNACK x) F.SITE_UNACK_UNACK = u.toNat ∧ (t.site x).reqs = []
        ∧ (t.site x).dones = (s.site x).dones ++ (s.site x).reqs.map (fun r =>
            { m := r.m, a := r.a, wr := r.wr, st := .linkdown, ws := [] })
        ∧ t.isPending (166 + x) = true
        ∧ t = { s with sites := t.sites, regs := t.regs, cores := t.cores, cairn := t.cairn })
  ∧ (∀ (x : Fin 2) (r : PReq) (l : List PReq) (s : State), (s.site x).reqs = r :: l →
      s.fld (R.SITE_CTL x) F.SITE_CTL_TMO ≠ 0 → r.sentAt + s.fld (R.SITE_CTL x) F.SITE_CTL_TMO ≤ s.tick →
      exec (.siteRequestTimeout x) s = .next (logCairn .passage 0x04 [⟨1, x⟩, ⟨6, r.m⟩, ⟨10, r.tag⟩]
        ((s.setSite x { s.site x with
            reqs := l, retired := (s.site x).retired ++ [r],
            dones := (s.site x).dones ++ [{ m := r.m, a := r.a, wr := r.wr, st := .timeout, ws := [] }] }).bump
          (R.SITE_TMOCNT x) F.SITE_TMOCNT_TMOCNT)))

/-- R373, R374 and R711. -/
def Obligations.SiteBringup : Prop :=
  (∀ (x : Fin 2) (v : Payload) (s : State), s.flag (R.SITE_CTL x) F.SITE_CTL_RSTN = false → s.railsGood x = true →
    (s.site x).released = false → ∃ t, exec (.siteResetRelease x .m v) s = .next t
      ∧ t.flag (R.SITE_CTL x) F.SITE_CTL_RSTN = true
      ∧ t.site x = { s.site x with released := true, stage := 2, step := 3, failed := false, since := some s.tick }
      ∧ (∀ k, k ≠ R.SITE_CTL x → t.reg k = s.reg k) ∧ t = { s with regs := t.regs, sites := t.sites })
  ∧ (∀ (x : Fin 2) (nmod : BitVec 2) (link : SiteLink) (active : Bool) (s : State),
      (s.site x).released = true → (s.site x).stage = 2 ∨ (s.site x).stage = 3 → (s.site x).since.isSome = true →
      ∃ t, exec (.siteTrained x nmod link active) s = .next t
        ∧ t.fld (R.SITE_STAT x) F.SITE_STAT_NMOD = nmod.toNat ∧ t.fld (R.SITE_STAT x) F.SITE_STAT_WIDTH = link.width.toNat
        ∧ t.fld (R.SITE_STAT x) F.SITE_STAT_RATE = link.rate.toNat
        ∧ (active = false → t.site x = { s.site x with stage := 3, step := 4 })
        ∧ (active = true → ∃ f, t.site x = { s.site x with stage := 4, step := 5, wire := [deviceInit :: f] })
        ∧ (∀ k, k ≠ R.SITE_STAT x → t.reg k = s.reg k) ∧ t = { s with regs := t.regs, sites := t.sites })
  ∧ (∀ (x : Fin 2) (t0 : Nat) (s : State), (s.site x).since = some t0 → t0 + 1000000 ≤ s.tick →
      exec (.siteBringupTimeout x) s = .next (logCairn .passage 0x03 [⟨1, x⟩, ⟨16, (s.site x).step⟩]
        ((s.setFld (R.SITE_STAT x) F.SITE_STAT_FAIL 1).setSite x
          { s.site x with since := none, stage := 0, step := 0, failed := true })))
  ∧ (∀ (x : Fin 2) (v : Payload) (s : State), ∃ t, exec (.siteResetAssert x .m v) s = .next t
        ∧ t.flag (R.SITE_CTL x) F.SITE_CTL_RSTN = false ∧ t.flag (R.SITE_CTL x) F.SITE_CTL_EN = false
        ∧ (t.site x).released = false ∧ (t.site x).gotInit = false ∧ (t.site x).since = none
        ∧ (s.flag (R.SITE_STAT x) F.SITE_STAT_UP = false →
          (∀ k, k ≠ R.SITE_CTL x → t.reg k = s.reg k) ∧ t = { s with regs := t.regs, sites := t.sites }))
  ∧ (∀ (x : Fin 2) (v : Payload) (win : Bool) (s : State),
      (s.flag (R.SITE_CTL x) F.SITE_CTL_RSTN = false → ∃ t, exec (.vnomWrite x .m v win) s = .next t
        ∧ t.fld (R.SITE_VMON x) F.SITE_VMON_VNOM = v.toNat % 1024
        ∧ (t.flag (R.SITE_VMON x) F.SITE_VMON_VOK = true ↔
            win = true ∧ 650 ≤ v.toNat % 1024 ∧ v.toNat % 1024 ≤ 950)
        ∧ (∀ k, k ≠ R.SITE_VMON x → t.reg k = s.reg k) ∧ t = { s with regs := t.regs })
      ∧ (s.flag (R.SITE_CTL x) F.SITE_CTL_RSTN = true → ∀ lv,
        exec (.vnomWrite x lv v win) s = .next (logCairn .passage 0x09 [⟨1, x⟩, ⟨10, v.toNat % 1024⟩] s)))
  ∧ (∀ (x : Fin 2) (aux : Bool) (s : State),
      (∃ t, exec (.siteRailFault x aux) s = .next t
        ∧ t.flag (R.SITE_VMON x) (if aux then F.SITE_VMON_VAOK else F.SITE_VMON_VOK) = false
        ∧ (t.site x).released = false
        ∧ (s.flag (R.SITE_STAT x) F.SITE_STAT_UP = false → (∀ k, k ≠ R.SITE_VMON x → t.reg k = s.reg k)
          ∧ t = { s with regs := t.regs, sites := t.sites }))
      ∧ (650 ≤ s.fld (R.SITE_VMON x) F.SITE_VMON_VNOM → s.fld (R.SITE_VMON x) F.SITE_VMON_VNOM ≤ 950 →
        ∃ t, exec (.siteRailRestored x aux) s = .next t
          ∧ t.flag (R.SITE_VMON x) (if aux then F.SITE_VMON_VAOK else F.SITE_VMON_VOK) = true
          ∧ (∀ k, k ≠ R.SITE_VMON x → t.reg k = s.reg k)
          ∧ t = { s with regs := t.regs, sites := t.sites }))

/-! ### Lanes, messages and Ethernet -/

/-- R524 to R526 for every frame whose fields fit the header. -/
def Obligations.FrameRoundTrip : Prop :=
  ∀ f : YFrame, 1 ≤ f.ty → f.ty ≤ 7 → f.ep < 16 → f.seq < 65536 → f.axis < 16 → f.sub < 256 → f.hop < 256 →
    f.body.length ≤ 4096 → yParse (yBytes f) = some f ∧ blockBytes (yBlocks (yBytes f)) = yBytes f
      ∧ ∃ (ds : List (List (BitVec 8))) (r : List (BitVec 8)), yBlocks (yBytes f) = .start ((yBytes f).take 7) :: (ds.map Block.data ++ [.term r])
          ∧ r.length < 8 ∧ ∀ d ∈ ds, d.length = 8

/-- R517 to R522 and R553. -/
def Obligations.LaneOwnership : Prop :=
  (∀ (l : Fin 256) (m : Fin 48) (s : State),
    (isClaimant m = true → s.flag (R.LANE_CLAIM l) F.LANE_CLAIM_OWNED = false → ∃ t, exec (.laneClaim l m) s = .next t
      ∧ t.ownsLane m l = true ∧ t.fld (R.LANE_CLAIM l) F.LANE_CLAIM_RES = 1
      ∧ s.regsBut t [R.LANE_CLAIM l] ∧ t = { s with regs := t.regs })
    ∧ (s.ownsLane m l = true → exec (.laneClaim l m) s = .next s)
    ∧ (isClaimant m = false → s.flag (R.LANE_CLAIM l) F.LANE_CLAIM_OWNED = false → ∃ t, exec (.laneClaim l m) s = .next t
      ∧ t.flag (R.LANE_CLAIM l) F.LANE_CLAIM_OWNED = false ∧ t.fld (R.LANE_CLAIM l) F.LANE_CLAIM_RES = 2
      ∧ s.regsBut t [R.LANE_CLAIM l, R.CAIRN_DROPCNT] ∧ t = { s with regs := t.regs, cairn := t.cairn })
    ∧ (∀ o, s.ownsLane o l = true → o ≠ m.val → ∃ t, exec (.laneClaim l m) s = .next t
      ∧ t.ownsLane o l = true ∧ t.fld (R.LANE_CLAIM l) F.LANE_CLAIM_RES = 2
      ∧ s.regsBut t [R.LANE_CLAIM l, R.CAIRN_DROPCNT] ∧ t = { s with regs := t.regs, cairn := t.cairn })
    ∧ (s.ownsLane m l = true → s.laneSt l = 0 → ∃ t, exec (.laneRelease l m) s = .next t
      ∧ t.flag (R.LANE_CLAIM l) F.LANE_CLAIM_OWNED = false
      ∧ s.regsBut t [R.LANE_CLAIM l] ∧ t = { s with regs := t.regs })
    ∧ (s.laneSt l ≠ 0 ∨ s.ownsLane m l = false → ∃ t, exec (.laneRelease l m) s = .next t
      ∧ t.flag (R.LANE_STAT l) F.LANE_STAT_STERR = true ∧ s.regsBut t [R.LANE_STAT l, R.CAIRN_DROPCNT]
      ∧ t = { s with regs := t.regs, cairn := t.cairn }))
  ∧ (∀ (l : Fin 256) (m : Fin 48) (v : Payload) (s : State), s.ownsLane m l = false →
      ∀ c ∈ [Instr.laneEnable l m v, .laneDisable l m v, .txqwWrite l m v, .msgq l m v, .disc l m, .unrev l m],
        ∃ t, exec c s = .next t ∧ t.flag (R.LANE_STAT l) F.LANE_STAT_CLERR = true
          ∧ s.regsBut t [R.LANE_STAT l, R.CAIRN_DROPCNT] ∧ t = { s with regs := t.regs, cairn := t.cairn })
  ∧ (∀ (l : Fin 256) (m : Fin 48) (v : Payload) (s u : State), s.ownsLane m l = true → s.laneSt l = 0 →
      u = s.setRegN (R.LANE_CFG l) (setBits (s.regN (R.LANE_CFG l)) 0 30 (2 * bits v.toNat 1 29)) →
      (bits v.toNat 1 3 = 0 → exec (.laneEnable l m v) s = .next (u.setFld (R.LANE_CFG l) F.LANE_CFG_EN 1))
      ∧ (bits v.toNat 1 3 ≠ 0 → laneRefused u l = false → s.laneHeard l → ∃ t, exec (.laneEnable l m v) s = .next t
        ∧ t.regN (R.LANE_CFG l) = setBits (s.regN (R.LANE_CFG l)) 0 30 (2 * bits v.toNat 1 29 + 1) ∧ t.laneSt l = 1
        ∧ t.flag (R.LANE_EVT l) F.LANE_EVT_STCHG = true ∧ t.isPending (192 + l) = true
        ∧ s.regsBut t (R.LANE_CFG l :: laneRegs l) ∧ t = { s with regs := t.regs, cores := t.cores, cairn := t.cairn })
      ∧ (bits v.toNat 1 3 ≠ 0 → laneRefused u l = true → ∃ t, exec (.laneEnable l m v) s = .next t
        ∧ t.reg (R.LANE_CFG l) = u.reg (R.LANE_CFG l) ∧ t.laneSt l = 0
        ∧ t.flag (R.LANE_STAT l) F.LANE_STAT_ERRCFG = true
        ∧ s.regsBut t [R.LANE_CFG l, R.LANE_STAT l, R.CAIRN_DROPCNT] ∧ t = { s with regs := t.regs, cairn := t.cairn })
      ∧ exec (.laneDisable l m v) s = .next u)
  ∧ (∀ (l : Fin 256) (m : Fin 48) (v : Payload) (s : State), s.ownsLane m l = true → s.laneSt l ≠ 0 → s.laneHeard l →
      bits v.toNat 1 29 = bits (s.regN (R.LANE_CFG l)) 1 29 → ∃ t, exec (.laneDisable l m v) s = .next t
        ∧ t.laneSt l = 0 ∧ t.flag (R.LANE_CFG l) F.LANE_CFG_EN = false
        ∧ t.flag (R.LANE_EVT l) F.LANE_EVT_STCHG = true ∧ t.isPending (192 + l) = true
        ∧ (∀ e, e < 16 → t.epSt l e = 0 ∧ t.regN (R.EP_SEQ l e) = 0 ∧ (t.ep l e).fifo = [] ∧ (t.ep l e).unack = [])
        ∧ (∀ n g, t.msg n = some g → g.lane ≠ l) ∧ (t.lane l).disc = .idle
        ∧ t.axes = s.axes ∧ t.gals = s.gals ∧ t.niche = s.niche)
  ∧ (∀ (l : Fin 256) (m : Fin 48) (v : Payload) (s : State), s.ownsLane m l = true →
      let others := (((List.range 128).filter fun i => l.val / 128 * 128 + i != l.val).map fun i =>
        s.fld (R.LANE_TXCFG (l.val / 128 * 128 + i)) F.LANE_TXCFG_TXQW).sum
      (others + bits v.toNat 6 20 ≤ 0x80000 → ∃ t, exec (.txqwWrite l m v) s = .next t
        ∧ t.regN (R.LANE_TXCFG l) = setBits (s.regN (R.LANE_TXCFG l)) 0 33 v.toNat
        ∧ s.regsBut t [R.LANE_TXCFG l] ∧ t = { s with regs := t.regs })
      ∧ (0x80000 < others + bits v.toNat 6 20 → ∃ t, exec (.txqwWrite l m v) s = .next t
        ∧ t.flag (R.LANE_STAT l) F.LANE_STAT_STERR = true ∧ s.regsBut t [R.LANE_STAT l, R.CAIRN_DROPCNT]
        ∧ t = { s with regs := t.regs, cairn := t.cairn }))

/-- R518, R561 and R562. -/
def Obligations.LaneStates : Prop :=
  (∀ (l : Fin 256) (s : State), s.laneSt l = 1 → s.laneMode l ≠ 5 → s.laneHeard l → ∃ t, exec (.laneLock l) s = .next t
      ∧ t.laneSt l = (if s.flag (R.LANE_CFG l) F.LANE_CFG_RET = true then 4 else 2)
      ∧ t.flag (R.LANE_EVT l) F.LANE_EVT_STCHG = true ∧ t.isPending (192 + l) = true
      ∧ (s.laneMode l = 6 → t.epSt l 0 = 2 ∧ t.regN (R.EP_SEQ l 0) = 0)
      ∧ s.regsBut t (R.EP_SEQ l 0 :: R.EP_STAT l 0 :: laneRegs l)
      ∧ (s.laneMode l ≠ 6 → s.regsBut t (laneRegs l) ∧ t = { s with regs := t.regs, cores := t.cores, cairn := t.cairn })
      ∧ t = { s with regs := t.regs, cores := t.cores, cairn := t.cairn, lanes := t.lanes })
  ∧ (∀ (l : Fin 256) (s : State), s.laneMode l = 5 →
      ((∃ i, i < 4 ∧ s.laneSt (l.val / 4 * 4 + i) = 0) → exec (.laneLock l) s = .next s)
      ∧ ((∀ i, i < 4 → s.laneSt (l.val / 4 * 4 + i) ≠ 0) → ∃ t, exec (.laneLock l) s = .next t
        ∧ (∀ i, i < 4 → s.laneSt (l.val / 4 * 4 + i) = 1 → t.laneSt (l.val / 4 * 4 + i)
            = (if s.flag (R.LANE_CFG (l.val / 4 * 4 + i)) F.LANE_CFG_RET = true then 4 else 2))
        ∧ (∀ i, s.laneSt i ≠ 1 ∨ i / 4 ≠ l.val / 4 → t.laneSt i = s.laneSt i)
        ∧ t = { s with regs := t.regs, cores := t.cores, cairn := t.cairn, lanes := t.lanes }))
  ∧ (∀ (l : Fin 256) (s : State), s.laneSt l = 2 ∨ s.laneSt l = 4 → s.laneHeard l →
      (s.returnOf l = none → ∃ t, exec (.laneFault l) s = .next t ∧ t.laneSt l = 3
        ∧ t.lane l = { s.lane l with
            before := s.laneSt l
            faultAt := s.tick } ∧ (∀ i, i ≠ l.val → t.lane i = s.lane i)
        ∧ t.isPending (192 + l) = true ∧ s.regsBut t (laneRegs l)
        ∧ t = { s with regs := t.regs, cores := t.cores, cairn := t.cairn, lanes := t.lanes })
      ∧ (∀ r, s.returnOf l = some r → r ≠ l.val → (s.lane l).rev = none → ∃ t, exec (.laneFault l) s = .next t
        ∧ t.laneSt l = 3 ∧ (t.lane l).before = s.laneSt l ∧ (t.lane l).faultAt = s.tick
        ∧ (t.lane l).rev = some s.tick ∧ (t.lane l).revQuery = none ∧ (t.lane l).revReports = [] ∧ (t.lane l).failed = []
        ∧ (s.laneSt r = 3 ∨ s.laneSt r = 4 → (t.lane r).ctl = (s.lane r).ctl ++ [{ ty := 7, bc := true, sub := 0 }])
        ∧ (s.laneSt r ≠ 3 → s.laneSt r ≠ 4 → t.lane r = s.lane r) ∧ s.regsBut t (laneRegs l)
        ∧ t = { s with regs := t.regs, cores := t.cores, cairn := t.cairn, lanes := t.lanes }))
  ∧ (∀ (l : Fin 256) (s : State), s.laneSt l = 3 → (s.lane l).before = 2 ∨ (s.lane l).before = 4 →
      (s.tick < (s.lane l).faultAt + 100000 → exec (.laneRecover l) s = .next s)
      ∧ ((s.lane l).faultAt + 100000 ≤ s.tick → s.laneHeard l → ∃ t, exec (.laneRecover l) s = .next t ∧ t.laneSt l = (s.lane l).before ∧ t.isPending (192 + l) = true
        ∧ s.regsBut t (laneRegs l) ∧ t = { s with regs := t.regs, cores := t.cores, cairn := t.cairn }))
  ∧ (∀ (l : Fin 256) (m : Fin 48) (s : State), s.ownsLane m l = true →
      (s.laneSt l = 2 → ∃ t, exec (.unrev l m) s = .next t ∧ (∀ e, e < 16 → t.epRev l e = false)
        ∧ (∀ e, e < 16 → s.epRev l e = true → (t.ep l e).unack = (s.ep l e).unack.map fun q =>
            if q.dead then q else { q with again := true })
        ∧ s.regsBut t ((List.range 16).map (R.EP_STAT l)) ∧ t = { s with regs := t.regs, lanes := t.lanes })
      ∧ (s.laneSt l ≠ 2 → ∃ t, exec (.unrev l m) s = .next t ∧ t.flag (R.LANE_STAT l) F.LANE_STAT_STERR = true
        ∧ s.regsBut t [R.LANE_STAT l, R.CAIRN_DROPCNT] ∧ t = { s with regs := t.regs, cairn := t.cairn }))

/-- R541, R542, R546, R554 and R555. -/
def Obligations.LaneSends : Prop :=
  (∀ (l : Fin 256) (f : YFrame) (fs : List YFrame) (s : State), s.laneSends l = true → ¬ (f.ty = 4 ∧ f.sub = 1) →
    ¬ (f.ty = 7 ∧ f.sub = 0) →
    ((s.lane l).ctl = f :: fs → exec (.frameTransmit l) s = .next (laneCount l 1 (s.setLane l
      ({ s.lane l with ctl := fs }.onWire f))))
    ∧ ((s.lane l).ctl = [] → (s.lane l).timed = f :: fs → exec (.frameTransmit l) s = .next (laneCount l 1
      (s.setLane l ({ s.lane l with timed := fs }.onWire f)))))
  ∧ (∀ (l : Fin 256) (f : YFrame) (fs : List YFrame) (s : State), s.laneSends l = true → f.ty = 4 → f.sub = 1 →
      (s.lane l).ctl = [] → (s.lane l).timed = f :: fs → exec (.frameTransmit l) s = .next (laneCount l 1
        (s.setLane l ({ s.lane l with timed := fs }.onWire { f with bearing := s.tickP }))))
  ∧ (∀ (l : Fin 256) (f : YFrame) (fs : List YFrame) (s : State), s.laneSends l = true → s.laneSt l = 2 → f.ty = 7 →
      f.sub = 0 → (s.lane l).ctl = f :: fs → (s.lane l).disc = .collect none →
      exec (.frameTransmit l) s = .next (laneCount l 1 (s.setLane l
        ({ s.lane l with
            ctl := fs
            disc := .collect (some s.tick) }.onWire f))))
  ∧ (∀ (l : Fin 256) (e : Nat) (q : QFrame) (s : State), s.laneSends l = true → (s.lane l).ctl = [] →
      (s.lane l).timed = [] → oldestAgain s (s.carried l) = some (l.val, e, q) → q.f.ty = 1 ∨ q.f.ty = 2 →
      ∃ t, exec (.frameTransmit l) s = .next t ∧ (t.lane l).wire = yBytes { q.f with retx := true }
        ∧ (t.lane l).blocks = .idle :: yBlocks (yBytes { q.f with retx := true })
        ∧ (∀ r ∈ (s.ep l e).unack, { r with again := r.again && r.ord != q.ord } ∈ (t.ep l e).unack)
        ∧ t.fld (R.LANE_CNTRS l 1) F.LANE_CNTRS_CNT = (s.fld (R.LANE_CNTRS l 1) F.LANE_CNTRS_CNT + 1) % 2 ^ 32
        ∧ t.fld (R.LANE_CNTRS l 3) F.LANE_CNTRS_CNT = (s.fld (R.LANE_CNTRS l 3) F.LANE_CNTRS_CNT + 1) % 2 ^ 32
        ∧ s.regsBut t [R.LANE_CNTRS l 1, R.LANE_CNTRS l 3] ∧ t = { s with regs := t.regs, lanes := t.lanes })
  ∧ (∀ (l : Fin 256) (e : Nat) (q : QFrame) (qs : List QFrame) (s : State), s.laneSends l = true →
      (s.lane l).ctl = [] → (s.lane l).timed = [] → oldestAgain s (s.carried l) = none →
      nextFifo s l (s.carried l) = some (l.val, e) → (s.ep l e).fifo = q :: qs → q.f.ty = 1 ∨ q.f.ty = 2 →
      (∀ m, q.src ≠ .msg m) →
      ∃ t, exec (.frameTransmit l) s = .next t
        ∧ (t.lane l).wire = yBytes { q.f with seq := s.epSeq l e F.EP_SEQ_TXNEXT }
        ∧ (t.ep l e).fifo = qs ∧ (t.lane l).lastEp = e
        ∧ (t.ep l e).unack = (s.ep l e).unack ++
            [{ q with f := { q.f with seq := s.epSeq l e F.EP_SEQ_TXNEXT }, ord := (s.lane l).sends }]
        ∧ t.epSeq l e F.EP_SEQ_TXNEXT = (s.epSeq l e F.EP_SEQ_TXNEXT + 1) % 65536
        ∧ t.epSeq l e F.EP_SEQ_TXUNACK = s.epSeq l e F.EP_SEQ_TXUNACK
        ∧ s.regsBut t [R.LANE_CNTRS l 1, R.EP_SEQ l e] ∧ t = { s with regs := t.regs, lanes := t.lanes })
  ∧ (∀ (l : Fin 256) (e : Fin 16) (s : State), (s.ep l e).ackN ≠ 0 →
      (s.ep l e).ackFrom + s.fld (R.LANE_TIMING l) F.LANE_TIMING_ACKDLY ≤ s.tick → s.epRev l e = false →
      ∃ t, exec (.ackDelayExpiry l e) s = .next t ∧ (t.ep l e) = { s.ep l e with ackN := 0 }
        ∧ (t.lane l).ctl = (s.lane l).ctl ++ [{ ty := 5, ep := e, seq := s.epSeq l e F.EP_SEQ_RXEXP }]
        ∧ t = { s with lanes := t.lanes })
  ∧ (∀ (l : Fin 256) (e : Fin 16) (s : State), (s.ep l e).unack ≠ [] → (s.ep l e).assign = none →
      (s.ep l e).setseq = none → (s.ep l e).since + s.fld (R.LANE_TIMING l) F.LANE_TIMING_RTO ≤ s.tick →
      ((s.ep l e).expiries + 1 < max 1 (s.fld (R.LANE_TIMING l) F.LANE_TIMING_RETRYMAX) →
        exec (.rtoExpiry l e) s = .next (s.setEp l e { s.ep l e with
          expiries := (s.ep l e).expiries + 1, since := s.tick,
          unack := (s.ep l e).unack.map fun q => if q.dead then q else { q with again := true } }))
      ∧ (max 1 (s.fld (R.LANE_TIMING l) F.LANE_TIMING_RETRYMAX) ≤ (s.ep l e).expiries + 1 → s.returnOf l = none → s.laneHeard l →
        (s.ep l e).found = none → (s.lane l).disc = .idle → s.epSt l e = 2 →
        (s.msgsOf fun g => g.lane == l.val && g.ep == e.val) = [] →
        ∃ t, exec (.rtoExpiry l e) s = .next t ∧ t.epSt l e = 3 ∧ (t.ep l e).fifo = [] ∧ (t.ep l e).unack = []
          ∧ t.flag (R.LANE_EVT l) F.LANE_EVT_EPCHG = true ∧ t.isPending (192 + l) = true
          ∧ s.regsBut t (R.EP_STAT l e :: laneRegs l)
          ∧ t = { s with regs := t.regs, cores := t.cores, cairn := t.cairn, lanes := t.lanes }))
  ∧ (∀ (l : Fin 256) (e : Fin 16) (v : Nat) (s : State), (s.ep l e).unack = [] → (s.ep l e).assign = none →
      (s.ep l e).setseq = some v → (s.ep l e).ctlSince + s.fld (R.LANE_TIMING l) F.LANE_TIMING_RTO ≤ s.tick →
      (s.ep l e).ctlExpiries + 1 < max 1 (s.fld (R.LANE_TIMING l) F.LANE_TIMING_RETRYMAX) → s.epRev l e = false →
      ∃ t, exec (.rtoExpiry l e) s = .next t
        ∧ t.ep l e = { s.ep l e with
            ctlExpiries := (s.ep l e).ctlExpiries + 1
            ctlSince := s.tick }
        ∧ (t.lane l).ctl = (s.lane l).ctl ++ [{ ty := 4, ep := e, seq := v, sub := 0 }] ∧ t = { s with lanes := t.lanes })
  ∧ (∀ (l : Fin 256) (s : State), s.laneSt l = 2 → s.link.stopped = false → (∀ e, e < 16 → s.epRev l e = false) →
      (s.fld (R.LANE_POSCFG l) F.LANE_POSCFG_PERIOD ≠ 0 → (s.lane l).posAt ≤ s.tick →
        (s.laneMode l = 6 → s.cascRole = 1 ∧ s.casc.taking = false) →
        exec (.posPeriod l) s = .next (s.setLane l { s.lane l with
          posAt := s.tick + s.fld (R.LANE_POSCFG l) F.LANE_POSCFG_PERIOD
          timed := (s.lane l).timed ++ [{
            ty := 3, bc := true, tag := Tags.raw, bearing := s.tickP - 1,
            body := wordBytes (((List.range 16).filter fun n => bit (s.fld (R.LANE_POSCFG l) F.LANE_POSCFG_AXMASK) n).flatMap
              fun n => [BitVec.ofNat 48 (n + 16 * (s.axis n).st.code + (if s.laneMode l = 6 then
                  s.fld R.CASC_CFG F.CASC_CFG_ID * 2 ^ 7 + 2 ^ 10 + s.fld R.CASC_EPOCH F.CASC_EPOCH_EPOCH * 2 ^ 11 else 0)),
                (s.axis n).bearing, BitVec.ofNat 48 (patternOf 48 (s.axis n).velNow)]) }] }))
      ∧ (s.flag (R.LANE_TIMING l) F.LANE_TIMING_TIMEN = true → (s.lane l).timeAt ≤ s.tick →
        exec (.timePeriod l) s = .next (s.setLane l { s.lane l with
          timeAt := s.tick + 1000
          timed := (s.lane l).timed ++ [{ ty := 4, bc := true, sub := 1 }] })))
  ∧ (∀ (l : Fin 256) (s : State), (s.fld (R.LANE_POSCFG l) F.LANE_POSCFG_PERIOD = 0 ∨ s.tick < (s.lane l).posAt →
        exec (.posPeriod l) s = .next s)
      ∧ (s.flag (R.LANE_TIMING l) F.LANE_TIMING_TIMEN = false ∨ s.tick < (s.lane l).timeAt →
        exec (.timePeriod l) s = .next s))

/-- R539 to R544 and R556 to R559. -/
def Obligations.LaneReceives : Prop :=
  (∀ (l : Fin 256) (bs : List (BitVec 8)) (s : State), s.laneSt l = 2 → yParse bs = none →
    ∀ c ∈ [Instr.dataRx l bs, .posRx l bs, .ack l bs, .nak l bs, .report l bs],
      exec c s = .next (laneCount l 2 s))
  ∧ (∀ (l : Fin 256) (bs : List (BitVec 8)) (e : Nat) (f : YFrame) (s : State), s.hears l bs 1 e f → e < 16 →
      f.seq = s.epSeq l e F.EP_SEQ_RXEXP → (s.ep l e).ackN < 15 →
      (∀ q, s.rxQueue l e = some q → s.queueStores (l.val / 128) q (payloadWords f.body).length →
        ∃ t, exec (.dataRx l bs) s = .next t
          ∧ s.queued t (l.val / 128) q l e 0 (if f.tag.poisoned then 2 else 0) f.seq ((payloadWords f.body).map fun p =>
              ⟨storedTag (s.flag (R.LANE_CFG l) F.LANE_CFG_TAGP) f.tag, p⟩)
          ∧ t.epSeq l e F.EP_SEQ_RXEXP = (f.seq + 1) % 65536 ∧ (t.ep l e).ackN = (s.ep l e).ackN + 1
          ∧ s.regsBut t [R.EP_SEQ l e, R.Q_HEAD (l.val / 128) q, R.LANE_CNTRS l 0, R.EVC_PEND ((448 + 32 * (l.val / 128) + q) / 32)]
          ∧ t = { s.stores t with lanes := t.lanes })
      ∧ (∀ q, s.rxQueue l e = some q → s.flag (R.Q_CFG (l.val / 128) q) F.Q_CFG_MODE = false →
        s.ringFull (l.val / 128) q = true → exec (.dataRx l bs) s = .next (laneCount l 0 s))
      ∧ (s.rxQueue l e = none → ∃ t, exec (.dataRx l bs) s = .next t
          ∧ t.epSeq l e F.EP_SEQ_RXEXP = (f.seq + 1) % 65536
          ∧ t.fld (R.LANE_CNTRS l 6) F.LANE_CNTRS_CNT = (s.fld (R.LANE_CNTRS l 6) F.LANE_CNTRS_CNT + 1) % 2 ^ 32
          ∧ s.regsBut t [R.EP_SEQ l e, R.LANE_CNTRS l 0, R.LANE_CNTRS l 6]
          ∧ t = { s with regs := t.regs, lanes := t.lanes }))
  ∧ (∀ (l : Fin 256) (bs : List (BitVec 8)) (e : Nat) (f : YFrame) (s : State), s.hears l bs 1 e f →
      1 ≤ (s.epSeq l e F.EP_SEQ_RXEXP + 65536 - f.seq) % 65536 →
      (s.epSeq l e F.EP_SEQ_RXEXP + 65536 - f.seq) % 65536 ≤ 32768 →
      exec (.dataRx l bs) s = .next (sendAck l e (s.epSeq l e F.EP_SEQ_RXEXP) (laneCount l 4 (laneCount l 0 s))))
  ∧ (∀ (l : Fin 256) (bs : List (BitVec 8)) (e : Nat) (f : YFrame) (s : State), s.hears l bs 1 e f →
      32768 < (s.epSeq l e F.EP_SEQ_RXEXP + 65536 - f.seq) % 65536 → (s.ep l e).nakFor = none → s.epRev l e = false →
      ∃ t, exec (.dataRx l bs) s = .next t
        ∧ (t.lane l).ctl = (s.lane l).ctl ++ [{ ty := 6, ep := e, seq := s.epSeq l e F.EP_SEQ_RXEXP }]
        ∧ t.ep l e = { s.ep l e with nakFor := some (s.epSeq l e F.EP_SEQ_RXEXP, s.tick) }
        ∧ s.regsBut t [R.LANE_CNTRS l 0] ∧ t = { s with regs := t.regs, lanes := t.lanes })
  ∧ (∀ (l : Fin 256) (bs : List (BitVec 8)) (e : Nat) (f : YFrame) (s : State), s.hears l bs 2 e f →
      f.seq = s.epSeq l e F.EP_SEQ_RXEXP → (s.ep l e).ackN < 15 → ∃ t, exec (.dataRx l bs) s = .next t
        ∧ t.epSeq l e F.EP_SEQ_RXEXP = (f.seq + 1) % 65536 ∧ (t.ep l e).ackN = (s.ep l e).ackN + 1
        ∧ s.regsBut t [R.EP_SEQ l e, R.LANE_CNTRS l 0] ∧ t = { s with regs := t.regs, lanes := t.lanes })
  ∧ (∀ (l : Fin 256) (bs : List (BitVec 8)) (e : Nat) (f : YFrame) (s : State), s.hears l bs 5 e f →
      (s.ep l e).assign = none → (s.ep l e).setseq = none →
      (1 ≤ s.beyondUnack l e f.seq → s.beyondUnack l e f.seq ≤ s.beyondUnack l e (s.epSeq l e F.EP_SEQ_TXNEXT) →
        (∀ q ∈ (s.ep l e).unack, ∀ m, q.src ≠ .msg m) → ∃ t, exec (.ack l bs) s = .next t
          ∧ t.epSeq l e F.EP_SEQ_TXUNACK = f.seq % 65536
          ∧ (t.ep l e) = { s.ep l e with
              unack := (s.ep l e).unack.drop (s.beyondUnack l e f.seq), since := s.tick, expiries := 0 }
          ∧ s.regsBut t [R.EP_SEQ l e, R.LANE_CNTRS l 0] ∧ t = { s with regs := t.regs, lanes := t.lanes })
      ∧ (∀ m q g, (s.ep l e).unack = [q] → q.src = .msg m → q.f.last = true → s.msg m = some g → g.left = 1 →
        g.lane = l.val → g.ep = e → s.beyondUnack l e f.seq = 1 →
        s.beyondUnack l e (s.epSeq l e F.EP_SEQ_TXNEXT) = 1 → s.flag (R.LANE_TXCFG l) F.LANE_TXCFG_CQEN = false →
        ∃ t, exec (.ack l bs) s = .next t ∧ t.msg m = none ∧ t.regN (R.MSG_STAT m) = 0 ∧ (t.ep l e).unack = []
          ∧ t = { s with regs := t.regs, lanes := t.lanes, link := t.link })
      ∧ (s.beyondUnack l e (s.epSeq l e F.EP_SEQ_TXNEXT) < s.beyondUnack l e f.seq →
        exec (.ack l bs) s = .next (laneCount l 0 s)))
  ∧ (∀ (l : Fin 256) (bs : List (BitVec 8)) (e : Nat) (f : YFrame) (s : State), s.hears l bs 6 e f →
      s.beyondUnack l e f.seq = 0 → exec (.nak l bs) s = .next ((laneCount l 5 (laneCount l 0 s)).setEp l e
        { s.ep l e with unack := (s.ep l e).unack.map fun q => if q.dead then q else { q with again := true } }))

/-- R535, R536 and R561. -/
def Obligations.DiscoveryRules : Prop :=
  (∀ (l : Fin 256) (m : Fin 48) (s : State), s.ownsLane m l = true →
    ((s.lane l).disc = .idle → s.msgsOf (·.lane == l.val) = [] → ∃ t, exec (.disc l m) s = .next t
      ∧ t.lane l = { s.lane l with
          disc := .collect none, reports := [],
          ctl := (s.lane l).ctl ++ [{ ty := 7, bc := true, sub := 3 }, { ty := 7, bc := true, sub := 0 }] }
      ∧ t.flag (R.LANE_DISCST l) F.LANE_DISCST_BUSY = true ∧ t.fld (R.LANE_DISCST l) F.LANE_DISCST_NFOUND = 0
      ∧ s.regsBut t [R.LANE_DISCST l] ∧ t = { s with regs := t.regs, lanes := t.lanes })
    ∧ ((s.lane l).disc ≠ .idle ∨ s.msgsOf (·.lane == l.val) ≠ [] → ∃ t, exec (.disc l m) s = .next t
      ∧ t.flag (R.LANE_STAT l) F.LANE_STAT_STERR = true ∧ s.regsBut t [R.LANE_STAT l, R.CAIRN_DROPCNT]
      ∧ t = { s with regs := t.regs, cairn := t.cairn }))
  ∧ (∀ (l : Fin 256) (bs : List (BitVec 8)) (f : YFrame) (t0 : Nat) (s : State), s.laneSt l = 2 →
      yParse bs = some f → f.ty = 7 → f.sub = 1 → f.up = true → f.body.length = 16 →
      (s.lane l).disc = .collect (some t0) →
      (s.tick ≤ t0 + 2000 → exec (.report l bs) s = .next ((laneCount l 0 s).setLane l { s.lane l with
        reports := (s.lane l).reports ++ [reportOf f] }))
      ∧ (t0 + 2000 < s.tick → exec (.report l bs) s = .next (laneCount l 0 s)))
  ∧ (∀ (l : Fin 256) (r : Report) (t0 : Nat) (s : State), (s.lane l).disc = .collect (some t0) → t0 + 2000 ≤ s.tick →
      (s.lane l).reports = [r] → (∀ e, e < 16 → s.epSt l e = 0) →
      ∃ t, exec (.discoveryCollectEnd l) s = .next t
        ∧ t.epSt l 0 = 1 ∧ t.fld (R.LANE_DISCST l) F.LANE_DISCST_NFOUND = 1 ∧ t.regN (R.EP_SEQ l 0) = 0
        ∧ t.epRev l 0 = false ∧ (t.ep l 0).assign = some r ∧ (t.lane l).disc = .assign
        ∧ (t.lane l).ctl = (s.lane l).ctl ++ [{
            ty := 7, bc := true, sub := 2, body := bytesOf r.uid.toNat 6 ++ bytesOf 0 1 ++ [0] }]
        ∧ (∀ e, 1 ≤ e → e < 16 → t.epSt l e = 0)
        ∧ s.regsBut t (R.LANE_DISCST l :: R.EP_SEQ l 0 :: R.EP_STAT l 0 :: laneRegs l)
        ∧ t = { s with regs := t.regs, cores := t.cores, cairn := t.cairn, lanes := t.lanes })
  ∧ (∀ (l : Fin 256) (bs : List (BitVec 8)) (e : Nat) (f : YFrame) (r : Report) (s : State), s.hears l bs 5 e f →
      f.seq = 0 → s.epRev l e = false →
      ((s.ep l e).assign = some r → ∃ t, exec (.ack l bs) s = .next t
        ∧ (t.ep l e).assign = none ∧ (t.ep l e).found = some r ∧ (t.ep l e).setseq = some 0
        ∧ (t.lane l).ctl = (s.lane l).ctl ++ [{ ty := 4, ep := e, seq := 0, sub := 0 }]
        ∧ s.regsBut t [R.LANE_CNTRS l 0] ∧ t = { s with regs := t.regs, lanes := t.lanes })
      ∧ ((s.ep l e).assign = none → (s.ep l e).setseq = some 0 → (s.ep l e).found = some r → s.epSt l e = 1 →
        s.beyondUnack l e 0 = 0 → ∃ t, exec (.ack l bs) s = .next t ∧ t.epSt l e = 2
          ∧ t.reg (R.EP_UID l e) = r.uid ∧ t.reg (R.EP_CAP l e) = r.cap
          ∧ t.fld (R.EP_STAT l e) F.EP_STAT_FLAGS = r.flags % 8
          ∧ t.flag (R.LANE_EVT l) F.LANE_EVT_EPCHG = true))
  ∧ (∀ (l : Fin 256) (s : State), (s.lane l).disc = .collect none → exec (.discoveryCollectEnd l) s = .next s)
  ∧ (∀ (l : Fin 256) (r t0 : Nat) (s : State), (s.lane l).rev = some t0 → s.returnOf l = some r →
      ((s.lane l).revQuery = none → s.tick < t0 + 5000 → exec (.reversalComplete l) s = .next s)
      ∧ (t0 + 5000 ≤ s.tick ∨ (∃ q, (s.lane l).revQuery = some q ∧ q + 2000 ≤ s.tick) →
        (s.lane l).failed = [] → s.laneHeard l → ∃ t, exec (.reversalComplete l) s = .next t
        ∧ (t.lane l).rev = none ∧ (t.lane l).revQuery = none ∧ (t.lane l).revReports = []
        ∧ (∀ e, e < 16 → t.epRev l e = (s.epRev l e ||
            ((s.epSt l e == 1 || s.epSt l e == 2) && (s.lane l).revReports.any fun p => p.ep == e && bit p.flags 1)))
        ∧ t.flag (R.LANE_EVT l) F.LANE_EVT_REV = true ∧ t.isPending (192 + l) = true
        ∧ s.regsBut t ((List.range 16).map (R.EP_STAT l) ++ laneRegs l)
        ∧ t = { s with regs := t.regs, cores := t.cores, cairn := t.cairn, lanes := t.lanes }))

/-- R549, R552 and R559. -/
def Obligations.MessageRules : Prop :=
  (∀ (l : Fin 256) (m : Fin 48) (v : Payload) (p0 p1 p2 p3 : Word) (ws : List Word) (s : State),
    s.ownsLane m l = true → s.msg (v.toNat % 4096) = none → s.flag (R.LANE_TXCFG l) F.LANE_TXCFG_MSG = true →
    s.laneSt l ≠ 0 → s.link.stopped = false → (s.lane l).reading = [] → (s.laneHeld l = 0 ∨ ws.length ≤ s.laneSpace l) →
    bits p0.pay.toNat 24 1 = 0 → bits p0.pay.toNat 29 2 = 0 →
    ws.length = bits p0.pay.toNat 0 20 → ws.length ≤ 682 →
    descTagsGood [p0, p1, p2, p3] = true → s.epSt l (bits p0.pay.toNat 20 4) = 2 →
    (s.fld R.LINK_MSGBASE F.LINK_MSGBASE_BASE + 16 * (v.toNat % 4096)) % 4 = 0 → p1.pay.toNat % 4 = 0 →
    (∀ i, i < 4 → s.performs (32 + l.val / 128) (s.fld R.LINK_MSGBASE F.LINK_MSGBASE_BASE + 16 * (v.toNat % 4096) + 4 * i) = true
      ∧ decodeContainer (s.cont ((s.fld R.LINK_MSGBASE F.LINK_MSGBASE_BASE + 16 * (v.toNat % 4096)) / 4 + i))
        = .clean ([p0, p1, p2, p3].getD i Word.uni0)) →
    (∀ i, i < ws.length → s.performs (32 + l.val / 128) (p1.pay.toNat % 2 ^ 42 + 4 * i) = true
      ∧ decodeContainer (s.cont (p1.pay.toNat % 2 ^ 42 / 4 + i)) = .clean (ws.getD i Word.uni0)) →
    ∃ t, exec (.msgq l m v) s = .next t
      ∧ t.regN (R.MSG_STAT (v.toNat % 4096)) = 1 + 4 * l.val
      ∧ (t.msg (v.toNat % 4096)).map (·.left) = some 1
      ∧ (t.ep l (bits p0.pay.toNat 20 4)).fifo = (s.ep l (bits p0.pay.toNat 20 4)).fifo ++ [{
          src := .msg (v.toNat % 4096),
          f := { ty := 1, ep := bits p0.pay.toNat 20 4, last := true, tag := frameTag ws, body := wordBytes (ws.map (·.pay)) } }]
      ∧ s.regsBut t [R.MSG_STAT (v.toNat % 4096)] ∧ t.mem = s.mem ∧ t.cores = s.cores
      ∧ t = { s.stores t with lanes := t.lanes, link := t.link })
  ∧ (∀ (l : Fin 256) (m : Fin 48) (v : Payload) (s : State), s.ownsLane m l = true → s.link.stopped = false →
      (s.msg (v.toNat % 4096)).isSome = true → ∃ t, exec (.msgq l m v) s = .next t
        ∧ t.link = s.link ∧ t.lanes = s.lanes ∧ s.regsBut t [R.CAIRN_DROPCNT]
        ∧ t = { s with regs := t.regs, cairn := t.cairn, fresh := t.fresh })
  ∧ (∀ (x : Fin 2) (l e : Nat) (hdr : BitVec 192) (data : List Container) (ws : List Word) (s : State), s.siteLive x = true →
      (s.site x).gotInit = true → hdr.toNat % 16 = 5 → lenMatches hdr data = true →
      bits hdr.toNat 89 7 = 0 → bits hdr.toNat 104 88 = 0 →
      ((s.site x).theirs.take 2 (dataSlots data.length)).isSome = true → (s.site x).strq = [] →
      l = bits hdr.toNat 96 8 → e = s.fld (R.LANE_TXCFG l) F.LANE_TXCFG_STREP → s.pathDown (siteDie x) (laneDie l) = false →
      s.laneSt l ≠ 0 → s.flag (R.LANE_TXCFG l) F.LANE_TXCFG_STR = true → data.length ≤ s.laneSpace l →
      s.link.stopped = false → data.map decodeContainer = ws.map .clean → s.epSt l e = 2 →
      ∃ t, exec (.stream x hdr data) s = .next t
        ∧ t.ep l e = { s.ep l e with
            fifo := (s.ep l e).fifo ++ [{
              src := .site
              f := { ty := 1, ep := e, last := true, tag := frameTag ws, body := wordBytes (ws.map (·.pay)) } }] }
        ∧ (∀ i, i ≠ l → t.lane i = s.lane i) ∧ (t.site x).strq = [] ∧ (∀ i, i ≠ x.val → t.site i = s.site i)
        ∧ t = { s with lanes := t.lanes, sites := t.sites })
  ∧ (∀ (k : Fin 2) (q : Fin 32) (v : Payload) (s : State), exec (.queueTailWrite k q v) s
      = .next (s.setFld (R.Q_TAIL k q) F.Q_TAIL_TAIL
          (v.toNat % 2 ^ 16 % max 2 (s.fld (R.Q_SIZE k q) F.Q_SIZE_NSLOT))))

/-- R565 to R569 and R575. -/
def Obligations.EthernetRules : Prop :=
  (∀ (p : Fin 64) (ph : Fin 16) (bs : List (BitVec 8)) (s : State), s.portUp p = true → 64 ≤ bs.length →
    ((numOf (bs.drop (bs.length - 4)) ≠ crc32 (bs.take (bs.length - 4)) ∨ s.fld (R.ETH_CFG p) F.ETH_CFG_MTU < bs.length) →
      exec (.ethRx p ph bs) s = .next (s.bump (R.ETH_CNTRS p 1) F.ETH_CNTRS_CNT))
    ∧ (numOf (bs.drop (bs.length - 4)) = crc32 (bs.take (bs.length - 4)) →
      bs.length ≤ s.fld (R.ETH_CFG p) F.ETH_CFG_MTU → s.flag (R.ETH_CFG p) F.ETH_CFG_PAUSE = false →
      (addrPass s p (bs.take (bs.length - 4)) = false → exec (.ethRx p ph bs) s =
        .next ((s.bump (R.ETH_CNTRS p 0) F.ETH_CNTRS_CNT).bump (R.ETH_CNTRS p 2) F.ETH_CNTRS_CNT))
      ∧ (∀ i o, addrPass s p (bs.take (bs.length - 4)) = true → isSync s p (bs.take (bs.length - 4)) = false →
        ethRule s p (bs.take (bs.length - 4)) = some (i, o) →
        (s.flag (R.RULE_ACT p i) F.RULE_ACT_DROP = true →
          exec (.ethRx p ph bs) s = .next (s.bump (R.ETH_CNTRS p 0) F.ETH_CNTRS_CNT))
        ∧ (s.flag (R.RULE_ACT p i) F.RULE_ACT_DROP = false →
          s.flag (R.Q_CFG (p.val / 32) (s.fld (R.RULE_ACT p i) F.RULE_ACT_Q)) F.Q_CFG_TSEN = false →
          s.queueStores (p.val / 32) (s.fld (R.RULE_ACT p i) F.RULE_ACT_Q)
            (unpack (s.fld (R.RULE_ACT p i) F.RULE_ACT_UNPACK) ((bs.take (bs.length - 4)).drop o)).length →
          ∃ t id, exec (.ethRx p ph bs) s = .next t
            ∧ s.queued t (p.val / 32) (s.fld (R.RULE_ACT p i) F.RULE_ACT_Q) p i 2 0 id
                (unpack (s.fld (R.RULE_ACT p i) F.RULE_ACT_UNPACK) ((bs.take (bs.length - 4)).drop o))
            ∧ t = s.stores t))))
  ∧ (∀ (p : Fin 64) (m : Fin 48) (v : Payload) (s : State), s.ownsLane m (4 * p) = true →
      s.fld (R.ETH_TXLEN p) F.ETH_TXLEN_LEN ≠ 0 →
      exec (.txprod p m v) s = .next (s.setFld (R.ETH_TXPROD p) F.ETH_TXPROD_PROD
        (v.toNat % 2 ^ 16 % s.fld (R.ETH_TXLEN p) F.ETH_TXLEN_LEN)))
  ∧ (∀ (p : Fin 64) (m : Fin 48) (v : Payload) (s : State), s.ownsLane m (4 * p) = true →
      ∃ t, exec (.ptpadj p m v) s = .next t
        ∧ (t.ptpClock p : Int) = (s.ptpClock p + signedOf 48 v.toNat * 2 ^ 32) % (2 ^ 48 * 1000000000 * 2 ^ 32)
        ∧ t.fld (R.ETH_PTPNS p) F.ETH_PTPNS_NS < 1000000000
        ∧ s.regsBut t [R.ETH_PTPSEC p, R.ETH_PTPNS p] ∧ t = { s with regs := t.regs, eths := t.eths })
  ∧ (∀ (p : Fin 64) (m : Fin 48) (v : Payload) (s : State), s.ownsLane m (4 * p) = false →
      ∀ c ∈ [Instr.txprod p m v, .ptpadj p m v], ∃ t, exec c s = .next t
        ∧ t.flag (R.LANE_STAT (4 * p)) F.LANE_STAT_CLERR = true
        ∧ s.regsBut t [R.LANE_STAT (4 * p), R.CAIRN_DROPCNT] ∧ t = { s with regs := t.regs, cairn := t.cairn })
  ∧ (∀ (p : Fin 64) (s : State), exec (.ptpsecRead p) s = .next (s.setEth p { s.eth p with
      latch := some (s.reg (R.ETH_PTPNS p)) }))
  ∧ (∀ (p : Fin 64) (s : State), s.flag (R.ETH_STAT p) F.ETH_STAT_LINK ≠ s.portUp p → s.sideDown (eventDie (512 + p)) = false →
      ∃ t, exec (.ethLinkChange p) s = .next t ∧ t.flag (R.ETH_STAT p) F.ETH_STAT_LINK = s.portUp p
        ∧ t.flag (R.ETH_STAT p) F.ETH_STAT_LCHG = true ∧ t.isPending (512 + p) = true
        ∧ (s.portUp p = false → t.flag (R.ETH_PTPCTL p) F.ETH_PTPCTL_LOCK = false)
        ∧ s.regsBut t [R.ETH_STAT p, R.ETH_PTPCTL p, R.EVC_PEND ((512 + p) / 32)]
        ∧ t = { s with regs := t.regs, cores := t.cores })
  ∧ (∀ (p : Fin 64) (ph : Fin 16) (d0 d1 : Word) (ws : List Word) (s : State), s.portUp p = true →
      s.link.stopped = false → (s.eth p).pauseTo ≤ s.tick → s.fld (R.ETH_TXLEN p) F.ETH_TXLEN_LEN ≠ 0 →
      s.fld (R.ETH_TXCONS p) F.ETH_TXCONS_CONS ≠ s.fld (R.ETH_TXPROD p) F.ETH_TXPROD_PROD →
      d0.tag = Tags.addr → d1.tag = Tags.int → bits d1.pay.toNat 14 2 = 0 →
      ws.length = (bits d1.pay.toNat 0 14 + 5) / 6 → d0.pay.toNat % 4 = 0 → s.fld (R.ETH_TXBASE p) F.ETH_TXBASE_BASE % 4 = 0 →
      (∀ i, i < 2 → s.performs (32 + p.val / 32) (s.fld (R.ETH_TXBASE p) F.ETH_TXBASE_BASE
            + 16 * s.fld (R.ETH_TXCONS p) F.ETH_TXCONS_CONS + 4 * i) = true
        ∧ decodeContainer (s.cont (s.fld (R.ETH_TXBASE p) F.ETH_TXBASE_BASE / 4
            + 4 * s.fld (R.ETH_TXCONS p) F.ETH_TXCONS_CONS + i)) = .clean ([d0, d1].getD i Word.uni0)) →
      (∀ i, i < ws.length → s.performs (32 + p.val / 32) (bits d0.pay.toNat 0 42 + 4 * i) = true
        ∧ decodeContainer (s.cont (bits d0.pay.toNat 0 42 / 4 + i)) = .clean (ws.getD i Word.uni0)) →
      s.flag (R.Q_CFG (p.val / 32) (bits d1.pay.toNat 16 5)) F.Q_CFG_EN = false →
      ∃ t, exec (.ethTx p ph) s = .next t
        ∧ (t.eth p).wire = (let b := (wordBytes (ws.map (·.pay))).take (bits d1.pay.toNat 0 14)
            let c := b ++ List.replicate (60 - b.length) 0
            c ++ bytesOf (crc32 c) 4)
        ∧ t.fld (R.ETH_TXCONS p) F.ETH_TXCONS_CONS
            = (s.fld (R.ETH_TXCONS p) F.ETH_TXCONS_CONS + 1) % s.fld (R.ETH_TXLEN p) F.ETH_TXLEN_LEN
        ∧ s.regsBut t [R.ETH_TXCONS p, R.ETH_CNTRS p 3] ∧ t.mem = s.mem ∧ t.cores = s.cores
        ∧ t = { s.stores t with eths := t.eths })

/-! ### Galleries -/

/-- R214 to R217 and R220. -/
def Obligations.TokenRules : Prop :=
  (∀ (g : Fin 16) (v : Payload) (s : State), s.pf.halted = false → s.noEmptyWait g → ∃ t, exec (.tokpost g v) s = .next t
    ∧ t.token g (v.toNat % 65536) = true
    ∧ (∀ k, k ≠ v.toNat % 65536 → t.token g k = s.token g k)
    ∧ (∀ sl, sl < 32 → (t.slot g sl).st = if (s.slot g sl).st = .wait ∧ (s.slot g sl).waitsNot t g = true then .ready
        else (s.slot g sl).st)
    ∧ (∀ h, h ≠ g.val → t.gal h = s.gal h) ∧ t = { s with gals := t.gals })
  ∧ (∀ (g : Fin 16) (v : Payload) (s : State), ∃ t, exec (.tokclr g v) s = .next t
    ∧ t.token g (v.toNat % 65536) = decide (v.toNat % 65536 = 0)
    ∧ (∀ k, k ≠ v.toNat % 65536 → t.token g k = s.token g k) ∧ (∀ sl, t.slot g sl = s.slot g sl)
    ∧ (∀ h, h ≠ g.val → t.gal h = s.gal h) ∧ t = { s with gals := t.gals })
  ∧ (∀ (m : TokenMove) (ms : List TokenMove) (s : State), s.moves = m :: ms → s.pf.halted = false →
      (∀ g, g < 16 → s.noEmptyWait g) → ∃ t, exec .tokenSetPropagate s = .next t ∧ t.moves = ms
        ∧ (∀ g, g < 16 → g ≠ m.src → s.pathDown (galDie m.src) (galDie g) = false → t.token g m.token = true)
        ∧ (∀ g, s.pathDown (galDie m.src) (galDie g) = true → t.gal g = s.gal g) ∧ t.gal m.src = s.gal m.src
        ∧ t = { s with gals := t.gals, moves := t.moves })
  ∧ (∀ (g : Fin 16) (sl : Fin 32) (s : State), (s.slot g sl).st = .wait → (s.slot g sl).sbw = true →
      (s.slot g sl).sbmet = true → (s.slot g sl).desc.len ≠ 0 →
      (({ s.slot g sl with sbw := false } : Slot).waitsNot s g = true → ∃ t, exec (.startBearingMet g sl) s = .next t
        ∧ (t.slot g sl).st = .ready ∧ s.slotsBut t g sl ∧ t = { s with gals := t.gals })
      ∧ (({ s.slot g sl with sbw := false } : Slot).waitsNot s g = false → ∃ t, exec (.startBearingMet g sl) s = .next t
        ∧ (t.slot g sl).st = .wait ∧ (t.slot g sl).sbw = false ∧ s.slotsBut t g sl ∧ t = { s with gals := t.gals }))

/-- R188, R221, R222 and R235. -/
def Obligations.SlotSelection : Prop :=
  (∀ (g : Fin 16) (sl : Nat) (s : State), (s.gal g).quar = false → (∀ i, i < 32 → (s.slot g i).st ≠ .run) → sl < 32 →
    (s.slot g sl).st = .ready → (s.slot g sl).saved = false →
    (∀ i, i < 32 → i ≠ sl → (s.slot g i).st = .ready → (s.slot g sl).before (s.slot g i) = true) →
    ∃ t, exec (.slotSelect g) s = .next t ∧ t.slot g sl = { s.slot g sl with st := .run, cache := [] }
      ∧ s.slotsBut t g sl ∧ (∀ h, h ≠ g.val → t.gal h = s.gal h) ∧ t = { s with gals := t.gals })
  ∧ (∀ (g : Fin 16) (sl hi : Nat) (s : State), sl < 32 → hi < 32 → (s.slot g sl).st = .run →
      (∀ i, i < 32 → i ≠ sl → (s.slot g i).st ≠ .run) → (s.slot g hi).st = .ready →
      (s.slot g sl).prio < (s.slot g hi).prio → (s.slot g sl).done < (s.slot g sl).desc.len →
      s.flag (R.GAL_CFG g) F.GAL_CFG_PREN = true → s.noMarch → ∃ t, exec (.preempt g) s = .next t
        ∧ t.slot g sl = { s.slot g sl with st := .ready, saved := true, cache := [], mv := false }
        ∧ s.slotsBut t g sl
        ∧ (∀ i, i < 64 → t.cont (chamAddr g (saveOff sl) / 4 + i) = encodeWord
            ((saveWords sl (s.slot g sl) 0 (s.slot g sl).seWords true (Word.raw 0) none).getD i Word.uni0))
        ∧ (∀ i, i < 8 * (chamAddr g (saveOff 0) / 4) ∨ 8 * (chamAddr g 0x7FA000 / 4) ≤ i →
            memByte t.mem i = memByte s.mem i)
        ∧ t = { s with gals := t.gals, mem := t.mem })
  ∧ (∀ (g : Fin 16) (x : Fin 3) (l r : List RPair) (p : RPair) (w : Word) (ws : List Word) (s : State),
      (s.relayIn g x).pairs = l ++ p :: r → (∀ q ∈ l, q.flight = []) → p.flight = w :: ws →
      (∀ q ∈ l ++ r, (q.sDone && q.rDone && q.flight.isEmpty) = false) →
      (p.rDone = false → ∃ t, exec (.relayWordReceive g x) s = .next t
        ∧ t.relayIn g x = { s.relayIn g x with pairs := l ++ { p with buf := p.buf ++ [w], flight := ws } :: r }
        ∧ (∀ sl, t.slot g sl = s.slot g sl) ∧ t = { s with gals := t.gals })
      ∧ (p.rDone = true → ∃ u, exec (.relayWordReceive g x) s = .next (relayDiscard g x u)
        ∧ (u.relayIn g x).pairs = l ++ (if p.sDone && ws.isEmpty then [] else [{ p with flight := ws }]) ++ r
        ∧ (∀ sl, u.slot g sl = s.slot g sl) ∧ u = { s with gals := u.gals }))

/-- R81, R82, R83 and R166. -/
def Obligations.FixedRules : Prop :=
  (∀ (t : EType) (m : XRound) (sat : Bool) (n : Int), t.fixed = true →
    (t.mint ≤ n → n ≤ t.maxt → fixResult t m sat n 1 = (n, {}))
    ∧ (t.maxt < n → fixResult t m true n 1 = (t.maxt, { sat := true }))
    ∧ (n < t.mint → fixResult t m true n 1 = (t.mint, { sat := true }))
    ∧ fixResult t m false n 1 = (valueOf t (patternOf t.width n), {}))
  ∧ (∀ (v : ChainEnv) (keep : Bool) (i : Nat) (e : Elem) (k : Nat) (c : ChainSt), k < 6 →
      (v.d.typeAt v.d.et k).fixed = true → v.d.msrc ≠ 4 →
      let t := v.d.typeAt v.d.et k
      let s := sideValue v.d e t k (v.d.sel k)
      let n := shiftCount t s
      let r (num : Int) (den : Nat) := fixResult t v.xmode v.d.satm num den
      let out (y : Int × Flg) : Except (Nat × Option Nat) ChainSt :=
        .ok { c with x := y.1, wide := false, flags := c.flags.or y.2 }
      (v.d.op k = 0x01 → chainStep v keep i e k c = out (r (c.x + s) 1))
      ∧ (v.d.op k = 0x02 → chainStep v keep i e k c = out (r (c.x - s) 1))
      ∧ (v.d.op k = 0x03 → chainStep v keep i e k c = out (r (s - c.x) 1))
      ∧ (v.d.op k = 0x04 → chainStep v keep i e k c = out (r (-c.x) 1))
      ∧ (v.d.op k = 0x05 → chainStep v keep i e k c = out (r |c.x| 1))
      ∧ (v.d.op k = 0x06 → chainStep v keep i e k c = out (r |c.x - s| 1))
      ∧ (v.d.op k = 0x07 → chainStep v keep i e k c = out (min c.x s, {}))
      ∧ (v.d.op k = 0x08 → chainStep v keep i e k c = out (max c.x s, {}))
      ∧ (v.d.op k = 0x10 → chainStep v keep i e k c = out (r (c.x * s) 1))
      ∧ (v.d.op k = 0x11 → chainStep v keep i e k c
          = out (r (c.x * s) (if t = .s12u then 2 ^ 12 else 2 ^ (t.width - 1))))
      ∧ (v.d.op k = 0x18 → chainStep v keep i e k c = out (r (c.x * 2 ^ n) 1))
      ∧ (v.d.op k = 0x19 → chainStep v keep i e k c = out (r c.x (2 ^ n)))
      ∧ (v.d.op k = 0x22 → chainStep v keep i e k c = out (if c.x < s then 1 else 0, {}))
      ∧ (v.d.op k = 0x25 → chainStep v keep i e k c = out (if s ≤ c.x then 1 else 0, {})))

/-- R231 to R235 for chains of whole chamber words, and for the fault of the first element. -/
def Obligations.ElementRules : Prop :=
  (∀ (g : Fin 16) (sl : Nat) (w : Word) (q : ChainRes) (s : State), (s.gal g).quar = false → s.pf.halted = false →
    s.noMarch → sl < 32 → (s.slot g sl).st = .run → (∀ i, i < 32 → i ≠ sl → (s.slot g i).st ≠ .run) →
    (s.slot g sl).done < (s.slot g sl).desc.len → (s.slot g sl).desc.wordChain = true → (s.slot g sl).part = none →
    (s.slot g sl).cache = [] → (s.slot g sl).seWords = [] → s.unpatched .sequencer = true → (s.slot g sl).mv = false →
    (s.slot g sl).desc.base 0 + 4 * (s.slot g sl).done + 4 ≤ 2 ^ 23 →
    (s.slot g sl).desc.base 3 + 4 * (s.slot g sl).done < 0x7F0000 →
    decodeContainer (s.cont (chamAddr g ((s.slot g sl).desc.base 0 + 4 * (s.slot g sl).done) / 4)) = .clean w →
    w.tag = (s.slot g sl).desc.et.tag →
    chainElem { d := (s.slot g sl).desc, ftz := (s.slot g sl).ftz, lut := (s.slot g sl).lut } (s.slot g sl).done
      { a := if (s.slot g sl).desc.et = .i48 then signedOf 48 w.pay.toNat
             else if (s.slot g sl).desc.et = .fp then (w.pay.toNat % 2 ^ 32 : Nat) else (w.pay.toNat : Nat) }
      (s.slot g sl).acc (s.slot g sl).red = .ok q → q.active = true →
    ∃ t, exec (.elementCommit g) s = .next t
      ∧ t.cont (chamAddr g ((s.slot g sl).desc.base 3 + 4 * (s.slot g sl).done) / 4) = encodeWord
          ⟨if (s.slot g sl).desc.tcm = 2 then w.tag else (s.slot g sl).desc.ft.tag,
            BitVec.ofNat 48 ((s.slot g sl).desc.pattern q.x)⟩
      ∧ s.sameBut t (chamAddr g ((s.slot g sl).desc.base 3 + 4 * (s.slot g sl).done) / 4)
      ∧ (t.slot g sl).done = (s.slot g sl).done + 1 ∧ (t.slot g sl).acc = q.acc ∧ (t.slot g sl).st = .run
      ∧ (t.slot g sl).flags = (s.slot g sl).flags.or q.flags ∧ (t.slot g sl).desc = (s.slot g sl).desc
      ∧ s.slotsBut t g sl ∧ t = { s with gals := t.gals, mem := t.mem })
  ∧ (∀ (g : Fin 16) (sl : Nat) (f : EFault) (mt : Option (BitVec 14 × Word × Word)) (s : State),
      (s.gal g).quar = false → s.pf.halted = false → s.noMarch → sl < 32 → (s.slot g sl).st = .run →
      (∀ i, i < 32 → i ≠ sl → (s.slot g i).st ≠ .run) → (s.slot g sl).done < (s.slot g sl).desc.len →
      groupPass g sl (s.slot g sl).desc.len s = .bad f s → f.elem = (s.slot g sl).done →
      s.unpatched .sequencer = true → (s.slot g sl).mv = false → (∀ m ∈ mt, m.1.toNat < 0x2400) →
      f.cause ≠ 0x06 → f.cause ≠ 0x07 → f.cause ≠ 0x0A → s.sideDown (eventDie (100 + g)) = false → ∃ t, exec (.elementFault g mt) s = .next t
        ∧ (t.slot g sl).st = .susp ∧ (t.slot g sl).done = (s.slot g sl).done ∧ (t.slot g sl).mv = mt.isSome
        ∧ (t.slot g sl).fault = { cause := f.cause, elem := f.elem, stream := f.stream, step := f.step, faddr := BitVec.ofNat 48 f.addr }
        ∧ t.isPending (100 + g) = true ∧ s.slotsBut t g sl
        ∧ (∀ i, i < 64 → t.cont (chamAddr g (saveOff sl) / 4 + i) = encodeWord
            ((saveWords sl (s.slot g sl) f.cause f.se false ⟨f.tag, BitVec.ofNat 48 f.addr⟩ mt).getD i Word.uni0))
        ∧ (∀ i, i < 8 * (chamAddr g (saveOff 0) / 4) ∨ 8 * (chamAddr g 0x7FA000 / 4) ≤ i →
            memByte t.mem i = memByte s.mem i)
        ∧ s.regsBut t [R.EVC_PEND ((100 + g) / 32)]
        ∧ t = { s with gals := t.gals, mem := t.mem, regs := t.regs, cores := t.cores })

/-- R213 and R225 to R229, and R238. -/
def Obligations.EndingRules : Prop :=
  (∀ (g : Fin 16) (sl : Fin 32) (c : Instr) (s : State), s.crlen g < 2 → s.pf.halted = false →
    (s.slot g sl).recs = [] → (s.slot g sl).owes = 0 → (s.slot g sl).desc.cev = false → s.noEmptyWait g →
    (∀ x, x < 4 → (s.slot g sl).desc.on x = true → (s.slot g sl).desc.space x ≠ 2) →
    (c = .abort g sl ∧ (s.slot g sl).st.over = false) ∨
      (c = .instructionComplete g ∧ (s.gal g).quar = false ∧ (s.slot g sl).st = .run
        ∧ (∀ i, i < 32 → i ≠ sl.val → (s.slot g i).st ≠ .run)
        ∧ (s.slot g sl).desc.len ≤ (s.slot g sl).done ∧ (s.slot g sl).desc.redStep = none) →
    ∃ t, exec c s = .next t ∧ (t.slot g sl).st = .free ∧ (t.slot g sl).done = (s.slot g sl).done
      ∧ t.token g (s.slot g sl).desc.own = true
      ∧ t.moves = s.moves ++ (if (s.slot g sl).desc.own = 0 then [] else [{ token := (s.slot g sl).desc.own, src := g }])
      ∧ t.fld (R.GAL_ENDCNT g) F.GAL_ENDCNT_ENDCNT
          = (s.fld (R.GAL_ENDCNT g) F.GAL_ENDCNT_ENDCNT + 1) % 2 ^ F.GAL_ENDCNT_ENDCNT.w
      ∧ (∀ i, i ≠ sl.val → (t.slot g i).st = .ready ∨ (t.slot g i).st = (s.slot g i).st)
      ∧ s.regsBut t [R.GAL_ENDCNT g, R.CAIRN_DROPCNT]
      ∧ t = { s with gals := t.gals, regs := t.regs, cairn := t.cairn, moves := t.moves })
  ∧ (∀ (g : Fin 16) (sl : Fin 32) (s : State), (s.slot g sl).st.over = true → ∃ t, exec (.abort g sl) s = .next t
      ∧ t.flag (R.GAL_ERR g) F.GAL_ERR_STERR = true ∧ s.regsBut t [R.GAL_ERR g, R.CAIRN_DROPCNT]
      ∧ t = { s with regs := t.regs, cairn := t.cairn })
  ∧ (∀ (g : Fin 16) (sl : Fin 32) (r : CRec) (l : List Nat) (s : State), (s.gal g).retiring = sl.val :: l →
      (s.slot g sl).recs = [r] → (s.slot g sl).st = .retire → s.ringTakes g → s.ringAt g % 4 = 0 →
      s.sideDown (eventDie (84 + g)) = false → ∃ t : State,
      exec (.retireRecordWrite g sl) s = .next t ∧ (t.slot g sl).st = .free ∧ (t.gal g).retiring = l
        ∧ (∀ i, i < 4 → t.cont (s.ringAt g / 4 + i)
            = encodeWord ((recordWords g sl (s.fld (R.GAL_CRHEAD g) F.GAL_CRHEAD_PH) r).getD i Word.uni0))
        ∧ (∀ i, i < 8 * (s.ringAt g / 4) ∨ 8 * (s.ringAt g / 4 + 4) ≤ i → memByte t.mem i = memByte s.mem i)
        ∧ t.fld (R.GAL_CRHEAD g) F.GAL_CRHEAD_HEAD = (s.fld (R.GAL_CRHEAD g) F.GAL_CRHEAD_HEAD + 1) % s.crlen g
        ∧ (r.cev = true → t.isPending (84 + g) = true) ∧ s.slotsBut t g sl
        ∧ s.regsBut t [R.GAL_CRHEAD g, R.EVC_PEND ((84 + g) / 32)]
        ∧ t = { s.stores t with gals := t.gals })
  ∧ (∀ (g : Fin 16) (v : Payload) (s : State), s.crlen g ≠ 0 → exec (.crtailWrite g v) s
      = .next (s.setFld (R.GAL_CRTAIL g) F.GAL_CRTAIL_TAIL (v.toNat % 65536 % s.crlen g)))
  ∧ (∀ (g : Fin 16) (ctl : Bool) (v : Payload) (s : State),
      ((s.gal g).busy = false → ∃ t, exec (.crRingConfigWrite g ctl v) s = .next t
        ∧ (ctl = true → t.crlen g = bits v.toNat F.GAL_CRCTL_CRLEN.lo F.GAL_CRCTL_CRLEN.w)
        ∧ (ctl = false → t.fld (R.GAL_CRBASE g) F.GAL_CRBASE_CRBASE = bits v.toNat 0 42)
        ∧ t.fld (R.GAL_CRHEAD g) F.GAL_CRHEAD_HEAD = 0 ∧ t.fld (R.GAL_CRHEAD g) F.GAL_CRHEAD_PH = 1
        ∧ t.fld (R.GAL_CRTAIL g) F.GAL_CRTAIL_TAIL = 0
        ∧ s.regsBut t [if ctl then R.GAL_CRCTL g else R.GAL_CRBASE g, R.GAL_CRHEAD g, R.GAL_CRTAIL g]
        ∧ t = { s with regs := t.regs })
      ∧ ((s.gal g).busy = true → ∃ t, exec (.crRingConfigWrite g ctl v) s = .next t
        ∧ t.flag (R.GAL_ERR g) F.GAL_ERR_STERR = true ∧ s.regsBut t [R.GAL_ERR g, R.CAIRN_DROPCNT]
        ∧ t = { s with regs := t.regs, cairn := t.cairn, fresh := t.fresh }))

/-- R207 and R244 to R246. -/
def Obligations.QuarantineRules : Prop :=
  (∀ (g o : Fin 16) (s : State), (s.gal g).quar = false → s.flag (R.GAL_CFG g) F.GAL_CFG_QUAR = false →
    ((s.gal g).busy = false ∨ o.val = s.galOwner g → ∃ t, exec (.galOwnerWrite g o) s = .next t
      ∧ t.galOwner g = o.val
      ∧ t.gal g = (if o.val = s.galOwner g then s.gal g else { s.gal g with tlb := tlbInvalAll (s.gal g).tlb })
      ∧ (∀ h, h ≠ g.val → t.gal h = s.gal h) ∧ s.regsBut t [R.GAL_CFG g] ∧ t = { s with regs := t.regs, gals := t.gals })
    ∧ ((s.gal g).busy = true → o.val ≠ s.galOwner g → ∃ t, exec (.galOwnerWrite g o) s = .next t
      ∧ t.galOwner g = s.galOwner g ∧ t.flag (R.GAL_ERR g) F.GAL_ERR_STERR = true
      ∧ s.regsBut t [R.GAL_ERR g, R.CAIRN_DROPCNT] ∧ t = { s with regs := t.regs, cairn := t.cairn, fresh := t.fresh }))
  ∧ (∀ (g : Fin 16) (why : Fin 4) (ma : Bool) (mpc : BitVec 14) (s : State), (s.gal g).quar = false →
      (∀ sl, (s.slot g sl).st = .free ∧ (s.slot g sl).fbWait = none) → (why.val = 2 → (ma = true ↔ 0x2400 ≤ mpc.toNat)) →
      s.sideDown (eventDie (116 + g)) = false → ∃ t, exec (.quarantineEnter g why ma mpc) s = .next t
        ∧ (t.gal g).quar = true ∧ (t.gal g).ierr = decide (why.val ≠ 0) ∧ (t.gal g).links = [] ∧ (t.gal g).linkWait = none
        ∧ t.isPending (116 + g) = true ∧ (∀ sl, t.slot g sl = s.slot g sl)
        ∧ (∀ x, x < 3 → ∀ p ∈ (t.relayIn g x).pairs, p.rDone = true ∧ p.buf = [] ∧ (crossDie p.src g = false → p.flight = []))
        ∧ (why.val = 0 → t.flag (R.GAL_CFG g) F.GAL_CFG_QUAR = true)
        ∧ (why.val ≠ 0 → (t.core (s.galOwner g)).mcheck
            = (s.core (s.galOwner g)).mcheck ++ [{ sub := 3, eval := BitVec.ofNat 48 g }])
        ∧ (∀ h, h ≠ g.val → t.gal h = s.gal h)
        ∧ s.regsBut t [R.GAL_CFG g, R.EVC_PEND ((116 + g) / 32), R.CAIRN_DROPCNT]
        ∧ t = { s with regs := t.regs, gals := t.gals, cores := t.cores, cairn := t.cairn, fresh := t.fresh })
  ∧ (∀ (g : Fin 16) (why : Fin 4) (ma : Bool) (mpc : BitVec 14) (s : State), (s.gal g).quar = false →
      (why.val = 2 → (ma = true ↔ 0x2400 ≤ mpc.toNat)) → (∀ sl, (s.slot g sl).fbWait.isSome = true → (s.slot g sl).st.over = true) →
      ∃ t, exec (.quarantineEnter g why ma mpc) s = .next t ∧ (t.gal g).quar = true
        ∧ ∀ sl, sl < 32 → (t.slot g sl).st.over = true)
  ∧ (∀ (g : Fin 16) (ma : Bool) (mpc : BitVec 14) (s : State), (ma = true ↔ mpc.toNat < 0x2400) →
      exec (.quarantineEnter g 2 ma mpc) s = .next s)
  ∧ (∀ (g : Fin 16) (s : State), (s.gal g).quar = true → ∃ t, exec (.quarantineLeave g) s = .next t
      ∧ t.gal g = { s.gal g with resetting := true } ∧ t.flag (R.GAL_CFG g) F.GAL_CFG_QUAR = false
      ∧ s.regsBut t [R.GAL_CFG g] ∧ (∀ h, h ≠ g.val → t.gal h = s.gal h) ∧ t = { s with regs := t.regs, gals := t.gals })
  ∧ (∀ (g : Fin 16) (s : State), (s.gal g).resetting = true → ∃ t, exec (.quarantineResetDone g) s = .next t
      ∧ (t.gal g).quar = false ∧ (t.gal g).resetting = false ∧ (∀ sl, t.slot g sl = {})
      ∧ (∀ k, t.token g k = true) ∧ (t.gal g).tlb = tlbInvalAll (s.gal g).tlb
      ∧ s.regsBut t [R.CAIRN_DROPCNT] ∧ (∀ h, h ≠ g.val → t.gal h = s.gal h)
      ∧ t = { s with regs := t.regs, gals := t.gals, cairn := t.cairn })

/-- R258 to R262 for both images. -/
def Obligations.MicrocodeWrites : Prop :=
  (∀ (m : Fin 48) (lv : Level) (n : Fin 16) (mt : Bool) (x : Fin 512) (y : Fin 1024) (v : Payload) (s : State),
    (mayWriteUcode m lv = true → s.mlock = false →
      (∃ t, exec (.ucLanternPatchWrite m lv n mt x v) s = .next t
        ∧ (let off := if mt then R.UC_LMATCH n (x.val % 16) else R.UC_LPATCH n x
          if (s.core n).atBoundaryNow = true then t.cores = s.cores else t.ucReg n off = s.ucReg n off)
        ∧ (mt = false → t.fld (R.UC_LPATCH n x) F.UC_LPATCH_UWORD = v.toNat % 2 ^ 24
            ∧ s.regsBut t [R.UC_LPATCH n x])
        ∧ (mt = true → bits (t.regN (R.UC_LMATCH n (x.val % 16))) 0 24 = v.toNat % 2 ^ 24
            ∧ s.regsBut t [R.UC_LMATCH n (x.val % 16)])
        ∧ t = { s with regs := t.regs, cores := t.cores })
      ∧ (s.allSlotsFree = true → ∃ t, exec (.ucGalleryPatchWrite m lv mt y v) s = .next t
        ∧ (mt = false → t.fld (R.UC_GPATCH y) F.UC_GPATCH_UWORD = v.toNat % 2 ^ 24
            ∧ s.regsBut t [R.UC_GPATCH y])
        ∧ (mt = true → bits (t.regN (R.UC_GMATCH (y.val % 16))) 0 24 = v.toNat % 2 ^ 24
            ∧ s.regsBut t [R.UC_GMATCH (y.val % 16)])
        ∧ t = { s with regs := t.regs })
      ∧ (s.allSlotsFree = false → ∃ t, exec (.ucGalleryPatchWrite m lv mt y v) s = .next t
        ∧ t.flag R.UC_STAT F.UC_STAT_WREJ = true ∧ s.regsBut t [R.UC_STAT, R.CAIRN_DROPCNT]
        ∧ t = { s with regs := t.regs, cairn := t.cairn }))
    ∧ (∀ c ∈ [Instr.ucLanternPatchWrite m lv n mt x v, .ucGalleryPatchWrite m lv mt y v],
      (mayWriteUcode m lv = true → s.mlock = true → ∃ t, exec c s = .next t
        ∧ t.flag R.UC_STAT F.UC_STAT_WLOCK = true ∧ s.regsBut t [R.UC_STAT, R.CAIRN_DROPCNT]
        ∧ t = { s with regs := t.regs, cairn := t.cairn })
      ∧ (mayWriteUcode m lv = false → ∃ t r, exec c s = .next t
        ∧ t.junc.rsps = s.junc.rsps ++ [r] ∧ r.m = m.val ∧ r.st = .tref ∧ r.wr = true
        ∧ s.regsBut t [R.CAIRN_DROPCNT]
        ∧ t = { s with regs := t.regs, cairn := t.cairn, junc := { s.junc with rsps := t.junc.rsps } })))
  ∧ (∀ (s : State) (u : UcUnit) (a p k : Nat) (rom patches : Nat),
      (rom, patches) = (match u with | .lantern _ => (0x1000, 512) | .sequencer => (0x2000, 1024)) →
      (rom + patches ≤ a → s.microFetch u a = none)
      ∧ (rom ≤ a → a < rom + patches → s.microFetch u a = some (a, microword (s.patchWord u (a - rom))))
      ∧ (a < rom → (∀ j, j < 16 → (s.matchReg u j).1 = true → (s.matchReg u j).2.1 ≠ a) →
          ∃ w, s.microFetch u a = some (a, w))
      ∧ (a < rom → k < 16 → s.matchReg u k = (true, a, p) →
          (∀ j, j < k → (s.matchReg u j).1 = true → (s.matchReg u j).2.1 ≠ a) →
          s.microFetch u a = some (rom + p % patches, microword (s.patchWord u (p % patches)))))

/-! ### Lantern: registers, arithmetic and niche memory -/

/-- R391 and R393 to R395: each instruction with the word that its destination holds. -/
def Obligations.ShortRegisterOps : Prop :=
  (∀ (ws : List RegWr) (c : Core), (landWrites ws c).wAt 0 = Word.int 0)
  ∧ (∀ (n : Fin 16) (d a b : RegNo) (imm : BitVec 10) (s : State) (c : Core) (x y : Word), s.ready n 2 = true →
    c = s.core n → x = c.getW a → y = c.getW b →
    s.runs (.nop n) n 2 [] {}
    ∧ s.runs (.lis n d imm) n 2 (resW c d (Word.int (imm.signExtend 48))) {}
    ∧ s.runs (.tagget n d a) n 2 (resW c d (Word.int (x.tag.setWidth 48))) {}
    ∧ (x.tag ≠ 0xD → x.tag ≠ 0xE → s.runs (.mov n d a) n 2 (resW c d x) {})
    ∧ (x.tag ∈ intTags → y.tag ∈ intTags → ∀ p ∈
        [(Instr.shl n d a b, x.pay <<< (y.pay.toNat % 64)), (.shr n d a b, x.pay >>> (y.pay.toNat % 64)),
         (.sra n d a b, x.pay.sshiftRight (y.pay.toNat % 64)), (.mul n d a b, x.pay * y.pay),
         (.cmplt n d a b, if x.pay.toInt < y.pay.toInt then 1 else 0)],
        s.runs p.1 n 2 (resW c d (Word.int p.2)) {})
    ∧ (x.tag ∈ wordTags → y.tag ∈ wordTags → ∀ p ∈
        [(Instr.and n d a b, x.pay &&& y.pay), (.or n d a b, x.pay ||| y.pay), (.xor n d a b, x.pay ^^^ y.pay),
         (.cmpeq n d a b, if x.pay = y.pay then 1 else 0), (.cmpltu n d a b, if x.pay.toNat < y.pay.toNat then 1 else 0)],
        s.runs p.1 n 2 (resW c d (Word.int p.2)) {})
    ∧ (x.tag ∈ wordTags → y.tag ∈ wordTags → ¬ (x.tag = Tags.addr ∧ y.tag = Tags.addr) →
        s.runs (.add n d a b) n 2 (resW c d ⟨if (x.tag = Tags.addr ∧ y.tag = Tags.int) ∨ (x.tag = Tags.int ∧ y.tag = Tags.addr)
          then Tags.addr else Tags.int, x.pay + y.pay⟩) {})
    ∧ (x.tag ∈ wordTags → y.tag ∈ wordTags → ¬ (x.tag = Tags.int ∧ y.tag = Tags.addr) →
        s.runs (.sub n d a b) n 2 (resW c d ⟨if x.tag = Tags.addr ∧ y.tag = Tags.int then Tags.addr else Tags.int,
          x.pay - y.pay⟩) {})
    ∧ ((c.getW d).tag ∈ wordTags → s.runs (.addi n (.short d imm)) n 2 (resW c d
        ⟨if (c.getW d).tag = Tags.addr then Tags.addr else Tags.int, (c.getW d).pay + imm.signExtend 48⟩) {})
    ∧ (x.tag ∈ bearTags → y.tag ∈ intTags → s.runs (.badd n d a b) n 2 (resW c d (Word.bear (x.pay + y.pay))) {})
    ∧ (x.tag ∈ bearTags → y.tag ∈ bearTags → s.runs (.bcmp n d a b) n 2 (resW c d (Word.int
        (if x.pay = y.pay then 0 else if (x.pay - y.pay).toNat < 2 ^ 47 then 1 else -1))) {})
    ∧ (s.unpatched (.lantern n) = true → x.tag ∈ decTags → y.tag ∈ decTags → decValid x.pay.toNat = true → decValid y.pay.toNat = true →
        ∀ p ∈ [(Instr.dadd n d a b, decValue x.pay.toNat + decValue y.pay.toNat),
               (.dsub n d a b, decValue x.pay.toNat - decValue y.pay.toNat)],
          s.runs p.1 n 2 (resW c d ⟨Tags.dec, BitVec.ofNat 48 (decResult false p.2).1⟩) { dov := (decResult false p.2).2 }))

/-- R392 and R393: each instruction with the word that its destination holds. -/
def Obligations.LongRegisterOps : Prop :=
  ∀ (n : Fin 16) (d a b e : RegNo) (imm34 : BitVec 34) (imm : BitVec 24) (k : BitVec 6) (bk : BitVec 3) (t : Tag)
    (s : State) (c : Core) (x y z : Word), s.ready n 4 = true → c = s.core n → x = c.getW a → y = c.getW b → z = c.getW e →
    s.runs (.li n d imm34) n 4 (resW c d (Word.int (imm34.signExtend 48))) {}
    ∧ s.runs (.lea n d imm34) n 4 (resW c d (Word.addr (c.pc + imm34.signExtend 48))) {}
    ∧ s.runs (.mfb n d bk) n 4 (resW c d (Word.addr (BitVec.ofNat 48 ((c.getB bk.toNat).toNat * 2 ^ 16)))) {}
    ∧ (x.tag ∈ addrTags → s.runs (.mtb n bk a) n 4 [.b bk.toNat (BitVec.ofNat 32 (x.pay.toNat / 2 ^ 16))] {})
    ∧ (t ≠ 0xD → t ≠ 0xE → (t = Tags.sealT → c.pl = .m) → s.runs (.tagset n d a t) n 4 (resW c d ⟨t, x.pay⟩) {})
    ∧ (x.tag ∈ wordTags → s.runs (.lih n d a imm) n 4
        (resW c d ⟨x.tag, BitVec.ofNat 48 (imm.toNat * 2 ^ 24 + x.pay.toNat % 2 ^ 24)⟩) {})
    ∧ (x.tag ∈ wordTags → s.runs (.addi n (.long d a imm)) n 4 (resW c d
        ⟨if x.tag = Tags.addr then Tags.addr else Tags.int, x.pay + imm.signExtend 48⟩) {})
    ∧ (x.tag ∈ wordTags → ∀ p ∈
        [(Instr.andi n d a imm, x.pay &&& imm.setWidth 48), (.ori n d a imm, x.pay ||| imm.setWidth 48),
         (.xori n d a imm, x.pay ^^^ imm.setWidth 48)], s.runs p.1 n 4 (resW c d (Word.int p.2)) {})
    ∧ (x.tag ∈ intTags → ∀ p ∈
        [(Instr.shli n d a k, x.pay <<< k.toNat), (.shri n d a k, x.pay >>> k.toNat),
         (.srai n d a k, x.pay.sshiftRight k.toNat)], s.runs p.1 n 4 (resW c d (Word.int p.2)) {})
    ∧ (x.tag ∈ intTags → y.tag ∈ intTags → ∀ p ∈
        [(Instr.mulh n d a b, BitVec.ofInt 48 (x.pay.toInt * y.pay.toInt / 2 ^ 48)),
         (.mulhu n d a b, BitVec.ofNat 48 (x.pay.toNat * y.pay.toNat / 2 ^ 48)),
         (.div n d a b, if y.pay = 0 then 0 else BitVec.ofInt 48 (x.pay.toInt.tdiv y.pay.toInt)),
         (.divu n d a b, BitVec.ofNat 48 (x.pay.toNat / y.pay.toNat)),
         (.rem n d a b, if y.pay = 0 then x.pay else BitVec.ofInt 48 (x.pay.toInt.tmod y.pay.toInt)),
         (.remu n d a b, BitVec.ofNat 48 (x.pay.toNat % y.pay.toNat))], s.runs p.1 n 4 (resW c d (Word.int p.2)) {})
    ∧ (z.tag ∈ intTags → s.runs (.sel n d a b e) n 4 (resW c d (if z.pay ≠ 0 then x else y)) {})

/-- R411 to R415. -/
def Obligations.FloatVectorOps : Prop :=
  (∀ (n : Fin 16) (d a b : RegNo) (s : State) (c : Core) (x y : Word) (p q : Nat), s.ready n 2 = true → c = s.core n →
    x = c.getF a → y = c.getF b → p = x.pay.toNat % 2 ^ 32 → q = y.pay.toNat % 2 ^ 32 → x.tag ∈ fpTags →
    (∀ r ∈ [(Instr.fsqrt n d a, fpSqrt c.fmode p), (.fabs n d a, (fpSignOp false p, {})), (.fneg n d a, (fpSignOp true p, {}))],
      s.runs r.1 n 2 [resV d 0 (fpWord r.2.1)] r.2.2)
    ∧ s.runs (.fcvtwi n d a) n 2 (resW c d (Word.int (BitVec.ofInt 48 (fpToFixed c.fmode .i48 p).1))) (fpToFixed c.fmode .i48 p).2
    ∧ (y.tag ∈ fpTags →
      (∀ r ∈ [(Instr.fadd n d a b, fpAdd c.fmode p q), (.fsub n d a b, fpSub c.fmode p q), (.fmul n d a b, fpMul c.fmode p q),
          (.fdiv n d a b, fpDiv c.fmode p q), (.fmin n d a b, fpMinMax c.fmode false p q),
          (.fmax n d a b, fpMinMax c.fmode true p q)], s.runs r.1 n 2 [resV d 0 (fpWord r.2.1)] r.2.2)
      ∧ (∀ r ∈ [(Instr.fcmpeq n d a b, Cmp.eq), (.fcmplt n d a b, Cmp.lt), (.fcmple n d a b, Cmp.le)],
          s.runs r.1 n 2 (resW c d (Word.int (if (fpCmp c.fmode r.2 p q).1 then 1 else 0))) (fpCmp c.fmode r.2 p q).2)))
  ∧ (∀ (n : Fin 16) (d a : RegNo) (s : State) (c : Core), s.ready n 2 = true → c = s.core n →
      ((c.getW a).tag ∈ intTags → s.runs (.fcvtiw n d a) n 2 [resV d 0 (fpWord (fpOfInt c.fmode (c.getW a).pay.toInt).1)]
        (fpOfInt c.fmode (c.getW a).pay.toInt).2)
      ∧ ((c.getW a).tag.reserved = false → s.runs (.fmvwf n d a) n 2 [resV d 0 (c.getW a)] {})
      ∧ ((c.getF a).tag.reserved = false → s.runs (.fmvfw n d a) n 2 (resW c d (c.getF a)) {}))
  ∧ (∀ (n : Fin 16) (d a b e : RegNo) (k : BitVec 2) (s : State) (c : Core), s.ready n 4 = true → c = s.core n →
      ((c.getF a).tag ∈ fpTags → (c.getF b).tag ∈ fpTags → (c.getF e).tag ∈ fpTags →
        let r := fpFma c.fmode ((c.getF a).pay.toNat % 2 ^ 32) ((c.getF b).pay.toNat % 2 ^ 32) ((c.getF e).pay.toNat % 2 ^ 32)
        s.runs (.fma n d a b e) n 4 [resV d 0 (fpWord r.1)] r.2)
      ∧ ((c.getW a).tag.reserved = false → s.runs (.vbcast n d a) n 4 ((List.range 4).map fun i => resV d i (c.getW a)) {})
      ∧ ((c.getV a k.toNat).tag.reserved = false → s.runs (.vext n d a k) n 4 (resW c d (c.getV a k.toNat)) {})
      ∧ ((c.getW a).tag.reserved = false → s.runs (.vins n d a k) n 4 [resV d k.toNat (c.getW a)] {})
      ∧ ((∀ i, i < 4 → (c.getV a i).tag.reserved = false) →
        s.runs (.vmov n d a) n 4 ((List.range 4).map fun i => resV d i (c.getV a i)) {})
      ∧ ((∀ i, i < 4 → (c.getV a i).tag ∈ fpTags ∧ (c.getV b i).tag ∈ fpTags ∧ (c.getV d i).tag ∈ fpTags) →
        let r (i : Nat) := fpFma c.fmode ((c.getV a i).pay.toNat % 2 ^ 32) ((c.getV b i).pay.toNat % 2 ^ 32)
          ((c.getV d i).pay.toNat % 2 ^ 32)
        s.runs (.vfma n d a b) n 4 ((List.range 4).map fun i => resV d i (fpWord (r i).1))
          ((List.range 4).foldl (fun f i => f.or (r i).2) {})))
  ∧ (∀ (n : Fin 16) (d a b : RegNo) (op : BitVec 6) (et : BitVec 3) (sat : Bool) (ty : EType) (s : State) (c : Core),
      s.ready n 4 = true → c = s.core n → vopType op.toNat et.toNat = some ty →
      (∀ i, i < 4 → (c.getV a i).tag ∈ [ty.tag, Tags.raw] ∧ (c.getV b i).tag ∈ [ty.tag, Tags.raw]) →
      vopNoSide op.toNat = false →
      let u := (cvtTo op.toNat).getD ty
      let v := vopEnv c ty u sat
      let r (i j : Nat) := vopLane v ty op.toNat (laneValue ty (c.getV a i).pay.toNat j) (laneValue ty (c.getV b i).pay.toNat j)
      s.runs (.vop n d a b op et sat false) n 4
        ((List.range 4).map fun i => resV d i (packLanes u ((List.range ty.perWord).map fun j => (r i j).1)))
        ((List.range 4).foldl (fun f i => f.or ((List.range ty.perWord).foldl (fun g j => g.or (r i j).2) {})) {}))

/-- R396 and R397 for the niche memory of the issuing core: `e` is the effective address. -/
def Obligations.NicheAccesses : Prop :=
  (∀ (n : Fin 16) (sz e : Nat) (d : RegNo) (c : Core) (w : Word) (s : State), s.ready n sz = true → c = s.core n →
    s.nicheAt n e = true → decodeContainer (s.nicheCont n e) = .clean w →
    (∀ i : Instr,
      ((∃ a disp, i = .lw n (.short d a disp) ∧ sz = 2 ∧ (c.getW a).tag ∈ addrTags ∧ e = addrOf (c.getW a).pay (4 * disp.toNat))
        ∨ (∃ a disp, i = .lw n (.long d a disp) ∧ sz = 4 ∧ (c.getW a).tag ∈ addrTags ∧ e = addrOf (c.getW a).pay disp.toInt)
        ∨ (∃ a b, i = .lwx n d a b ∧ sz = 4 ∧ (c.getW a).tag ∈ addrTags ∧ (c.getW b).tag ∈ intTags
            ∧ e = ((c.getW a).pay + 4 * (c.getW b).pay).toNat)
        ∨ (∃ bk ad, i = .lwb n d bk ad ∧ sz = 4 ∧ e = (c.getB bk.toNat).toNat * 2 ^ 16 + ad.toNat)) →
      e % 4 = 0 → w.tag.reserved = false → s.runs i n sz (resW c d w) {})
    ∧ (∀ i : Instr, ∀ sg : Bool, sz = 4 →
      ((∃ a imm, i = (if sg then .lss n d a imm else .lsu n d a imm) ∧ (c.getW a).tag ∈ addrTags
            ∧ e = addrOf (c.getW a).pay imm.toInt)
        ∨ (∃ bk ad, i = .lsub n d bk ad ∧ sg = false ∧ e = (c.getB bk.toNat).toNat * 2 ^ 16 + ad.toNat)) →
      w.tag = Tags.quad → let v : BitVec 12 := BitVec.ofNat 12 (w.pay.toNat / 2 ^ (12 * (e % 4)))
      s.runs i n 4 (resW c d (Word.int (if sg then v.signExtend 48 else v.setWidth 48))) {})
    ∧ (∀ i : Instr, sz = 4 →
      ((∃ a imm, i = .ss n d a imm ∧ (c.getW a).tag ∈ addrTags ∧ e = addrOf (c.getW a).pay imm.toInt)
        ∨ (∃ bk ad, i = .ssb n d bk ad ∧ e = (c.getB bk.toNat).toNat * 2 ^ 16 + ad.toNat)) →
      w.tag = Tags.quad → (c.getW d).tag ∈ intTags → ∃ t, exec i s = .next t ∧ s.ran t n 4 [] {}
        ∧ t.nicheCont n e = encodeWord ⟨Tags.quad, BitVec.ofNat 48
            (setBits w.pay.toNat (12 * (e % 4)) 12 ((c.getW d).pay.toNat % 2 ^ 12))⟩
        ∧ s.nicheBut t n [e] ∧ t = s.nicheOf t)
    ∧ (∀ (a b g : RegNo), sz = 4 → e = (c.getW a).pay.toNat → e % 4 = 0 → (c.getW a).tag ∈ addrTags →
      (∀ p ∈ [(Instr.amoadd n d a b, (w.tag = Tags.int ∨ w.tag = Tags.raw) ∧ (c.getW b).tag ∈ intTags,
                 encodeWord ⟨w.tag, w.pay + (c.getW b).pay⟩),
               (.amoswp n d a b, True, encodeWord (c.getW b)),
               (.amocas n d a b g, True, if w = c.getW b then encodeWord (c.getW g) else s.nicheCont n e)],
        p.2.1 → ∃ t, exec p.1 s = .next t ∧ s.ran t n 4 (resW c d w) {}
          ∧ t.nicheCont n e = p.2.2 ∧ s.nicheBut t n [e]
          ∧ t = s.nicheOf t)))
  ∧ (∀ (n : Fin 16) (sz e : Nat) (d : RegNo) (c : Core) (i : Instr) (s : State), s.ready n sz = true → c = s.core n →
      s.nicheAt n e = true → e % 4 = 0 →
      ((∃ a disp, i = .sw n (.short d a disp) ∧ sz = 2 ∧ (c.getW a).tag ∈ addrTags ∧ e = addrOf (c.getW a).pay (4 * disp.toNat))
        ∨ (∃ a disp, i = .sw n (.long d a disp) ∧ sz = 4 ∧ (c.getW a).tag ∈ addrTags ∧ e = addrOf (c.getW a).pay disp.toInt)
        ∨ (∃ a b, i = .swx n d a b ∧ sz = 4 ∧ (c.getW a).tag ∈ addrTags ∧ (c.getW b).tag ∈ intTags
            ∧ e = ((c.getW a).pay + 4 * (c.getW b).pay).toNat)
        ∨ (∃ bk ad, i = .swb n d bk ad ∧ sz = 4 ∧ e = (c.getB bk.toNat).toNat * 2 ^ 16 + ad.toNat)) →
      ∃ t, exec i s = .next t ∧ s.ran t n sz [] {} ∧ t.nicheCont n e = encodeWord (c.getW d) ∧ s.nicheBut t n [e]
        ∧ t = s.nicheOf t)
  ∧ (∀ (n : Fin 16) (d a : RegNo) (imm : BitVec 24) (e : Nat) (c : Core) (ws : List Word) (s : State),
      s.ready n 4 = true → c = s.core n → (c.getW a).tag ∈ addrTags → e = addrOf (c.getW a).pay imm.toInt → e % 4 = 0 →
      (∀ i, i < 4 → s.nicheAt n (e + 4 * i) = true) →
      (ws.length = 4 → (∀ i, i < 4 → decodeContainer (s.nicheCont n (e + 4 * i)) = .clean (ws.getD i Word.uni0)
          ∧ (ws.getD i Word.uni0).tag.reserved = false) →
        s.runs (.vld n d a imm) n 4 ((List.range 4).map fun i => resV d i (ws.getD i Word.uni0)) {})
      ∧ (∃ t, exec (.vst n d a imm) s = .next t ∧ s.ran t n 4 [] {}
        ∧ (∀ i, i < 4 → t.nicheCont n (e + 4 * i) = encodeWord (c.getV d i))
        ∧ s.nicheBut t n ((List.range 4).map fun i => e + 4 * i)
        ∧ t = s.nicheOf t))
  ∧ (∀ (n : Fin 16) (a : RegNo) (s : State), s.ready n 2 = true → ((s.core n).getW a).tag ∈ addrTags →
      s.nicheAt n ((s.core n).getW a).pay.toNat = true →
      ∀ i ∈ [Instr.dclean n a, .dinv n a, .dclinv n a], s.runs i n 2 [] {})

/-! ### Lantern: control flow -/

/-- R399 with R434 to R436 and R439. -/
def Obligations.BranchRules : Prop :=
  (∀ (n : Fin 16) (sz : Nat) (an taken : Bool) (target : Payload) (i : Instr) (a b : RegNo) (d10 : BitVec 10)
    (d29 : BitVec 29) (s : State) (c : Core) (x y : Word), c = s.core n → x = c.getW a → y = c.getW b →
    s.ready n sz = true →
    ((sz = 2 ∧ target = c.pc + 2 * d10.signExtend 48 ∧
        ((x.tag ∈ wordTags ∧ taken = decide (x.pay = 0) ∧ i = if an then .bzA n a d10 else .bz n a d10)
        ∨ (x.tag ∈ wordTags ∧ taken = decide (x.pay ≠ 0) ∧ i = if an then .bnzA n a d10 else .bnz n a d10)
        ∨ (x.tag ∈ intTags ∧ taken = decide (x.pay.toInt < 0) ∧ i = if an then .bltzA n a d10 else .bltz n a d10)
        ∨ (x.tag ∈ intTags ∧ taken = decide (0 ≤ x.pay.toInt) ∧ i = if an then .bgezA n a d10 else .bgez n a d10)))
      ∨ (sz = 4 ∧ target = c.pc + 2 * d29.signExtend 48 ∧
        ((x.tag ∈ wordTags ∧ y.tag ∈ wordTags ∧
          ((taken = decide (x.pay = y.pay) ∧ i = if an then .beqA n a b d29 else .beq n a b d29)
          ∨ (taken = decide (x.pay ≠ y.pay) ∧ i = if an then .bneA n a b d29 else .bne n a b d29)
          ∨ (taken = decide (x.pay.toNat < y.pay.toNat) ∧ i = if an then .bltuA n a b d29 else .bltu n a b d29)
          ∨ (taken = decide (y.pay.toNat ≤ x.pay.toNat) ∧ i = if an then .bgeuA n a b d29 else .bgeu n a b d29)))
        ∨ (x.tag ∈ intTags ∧ y.tag ∈ intTags ∧
          ((taken = decide (x.pay.toInt < y.pay.toInt) ∧ i = if an then .bltA n a b d29 else .blt n a b d29)
          ∨ (taken = decide (y.pay.toInt ≤ x.pay.toInt) ∧ i = if an then .bgeA n a b d29 else .bge n a b d29)))))) →
    ∃ t, exec i s = .next t ∧ s.branched t n sz [] ⟨c.pc, target, taken, an && !taken, c.pays taken, none⟩
      ∧ (t.core n).pbar = c.pbar - 1 ∧ (t.core n).ras = c.ras
      ∧ (t.core n).gh = if c.pbar ≠ 0 ∨ c.det then c.gh else (2 * c.gh + b2n c.predicted) % 8192)
  ∧ (∀ (n : Fin 16) (sz k : Nat) (slot48 : Bool) (i : Instr) (link : Option Nat) (target : Payload) (d15 : BitVec 15)
      (d29 : BitVec 29) (s : State) (c : Core), c = s.core n → s.ready n sz = true → k = (if slot48 then 4 else 2) →
      ((i = .b n d15 ∧ sz = 2 ∧ link = none ∧ target = c.pc + 2 * d15.signExtend 48)
        ∨ (i = .j n d29 ∧ sz = 4 ∧ link = none ∧ target = c.pc + 2 * d29.signExtend 48)
        ∨ (i = .jal n (.short d15) slot48 ∧ sz = 2 ∧ link = some k ∧ target = c.pc + 2 * d15.signExtend 48)
        ∨ (i = .jal n (.long d29) slot48 ∧ sz = 4 ∧ link = some k ∧ target = c.pc + 2 * d29.signExtend 48)) →
      let ret (k : Nat) : Payload := BitVec.ofNat 48 (c.seqNext sz + k)
      ∃ t, exec i s = .next t
        ∧ s.branched t n sz (match link with | none => [] | some k => [.w 30 (Word.addr (ret k))])
            ⟨c.pc, target, true, false, c.det, link.map fun _ => c.wAt 30⟩
        ∧ (t.core n).pbar = c.pbar ∧ (t.core n).gh = c.gh
        ∧ (t.core n).ras = match link with
            | some k => if c.det then c.ras else (ret k :: c.ras).take 16
            | none => c.ras)
  ∧ (∀ (n : Fin 16) (a : RegNo) (slot48 : Bool) (s : State) (c : Core) (x : Word), c = s.core n → s.ready n 2 = true →
      x = c.getW a → x.tag = Tags.addr → x.pay.toNat % 2 = 0 →
      (∃ t, exec (.jr n a) s = .next t
        ∧ s.branched t n 2 [] ⟨c.pc, x.pay, true, false,
            decide (c.pbar ≠ 0 ∨ c.det = true ∨ a ≠ 30 ∨ c.ras.head? ≠ some x.pay), none⟩
        ∧ (t.core n).pbar = c.pbar - 1 ∧ (t.core n).gh = c.gh
        ∧ (t.core n).ras = if c.pbar ≠ 0 ∨ c.det ∨ a ≠ 30 then c.ras else c.ras.drop 1)
      ∧ (a ≠ 30 →
        let ret : Payload := BitVec.ofNat 48 (c.seqNext 2 + if slot48 then 4 else 2)
        ∃ t, exec (.jalr n a slot48) s = .next t
        ∧ s.branched t n 2 [.w 30 (Word.addr ret)] ⟨c.pc, x.pay, true, false, true, some (c.wAt 30)⟩
        ∧ (t.core n).pbar = c.pbar - 1 ∧ (t.core n).gh = c.gh
        ∧ (t.core n).ras = if c.pbar ≠ 0 ∨ c.det then c.ras else (ret :: c.ras).take 16)
      ∧ (a = 30 → s.framed n (s.causeLevel n 1) → ∃ t, exec (.jalr n a slot48) s = .next t
        ∧ s.trapped t n { hidx := 1, eval := c.pc.toNat, lvl := s.causeLevel n 1, ra := c.pc }))

/-- R399, R400, R404 to R406 and R479. -/
def Obligations.SlotAndLoopRules : Prop :=
  (∀ (n : Fin 16) (r : RegNo) (imm : BitVec 10) (s : State) (c : Core) (d : DelaySlot), c = s.core n →
    s.inSlot n 2 d = true →
    let p := if d.taken then d.target.toNat else c.seqNext 2
    let ws := if d.annul then [] else resW c r (Word.int (imm.signExtend 48))
    ∃ t, exec (.lis n r imm) s = .next t ∧ (t.core n).delay = none ∧ s.came t n p ws {}
      ∧ (d.penalty = false ∨ c.det = true → s.landed t n p ws {} ∧ t = s.coresOf t))
  ∧ (∀ (n : Fin 16) (d15 : BitVec 15) (s : State) (d : DelaySlot), s.inSlot n 2 d = true → d.annul = false →
      d.old = none → s.framed n (s.causeLevel n 1) →
      ∃ t, exec (.b n d15) s = .next t
        ∧ s.trapped t n { hidx := 1, eval := d.branch.toNat, lvl := s.causeLevel n 1, ra := d.branch })
  ∧ (∀ (n : Fin 16) (i : Instr) (count : Int) (k : Nat) (disp : BitVec 18) (s : State) (c : Core) (e start : Payload),
      c = s.core n → s.ready n 4 = true → k = c.depth → e = c.pc + 2 * disp.signExtend 48 →
      start = BitVec.ofNat 48 (c.seqNext 4) → e ≠ start → (e - start).toNat < 2 ^ 47 →
      ((∃ a, i = .loop n a disp ∧ (c.getW a).tag ∈ intTags ∧ count = (c.getW a).pay.toInt)
        ∨ (∃ u : BitVec 16, i = .loopi n u disp ∧ count = u.toNat)) →
      (k < 4 → 0 < count → ∃ t, exec i s = .next t
        ∧ s.jumpedOnly t n start [.sr (24 + k) (Word.addr start), .sr (28 + k) (Word.addr e),
            .sr (32 + k) (Word.int (BitVec.ofInt 48 count)), .sr 21 (Word.int (BitVec.ofNat 48 (k + 1)))] c
        ∧ t = s.coresOf t)
      ∧ (k < 4 → count ≤ 0 → ∃ t, exec i s = .next t ∧ s.came t n e.toNat [] {} ∧ (t.core n).delay = none
        ∧ (c.det = true → s.jumpedOnly t n e [] c ∧ t = s.coresOf t))
      ∧ (k = 4 → s.framed n (s.causeLevel n 1) → ∃ t, exec i s = .next t
        ∧ s.trapped t n { hidx := 1, eval := c.pc.toNat, lvl := s.causeLevel n 1, ra := c.pc }))
  ∧ (∀ (n : Fin 16) (k : Nat) (s : State) (c : Core), c = s.core n → c.depth = k + 1 → c.seqNext 2 = c.le k →
      s.clear n 2 = true →
      (1 < c.lc k → ∃ t, exec (.nop n) s = .next t
        ∧ s.landed t n (c.ls k) [.sr (32 + k) (Word.int (BitVec.ofNat 48 (c.lc k - 1)))] {}
        ∧ c.restSame (t.core n).landAll ∧ t = s.coresOf t)
      ∧ (c.lc k ≤ 1 → (k = 0 ∨ c.le (k - 1) ≠ c.seqNext 2) → ∃ t, exec (.nop n) s = .next t
        ∧ s.landed t n (c.seqNext 2) [.sr (32 + k) (Word.int 0), .sr 21 (Word.int (BitVec.ofNat 48 k))] {}
        ∧ c.restSame (t.core n).landAll ∧ t = s.coresOf t)
      ∧ (s.framed n (s.causeLevel n 1) → ∀ d15, ∃ t, exec (.b n d15) s = .next t
        ∧ s.trapped t n { hidx := 1, eval := c.pc.toNat, lvl := s.causeLevel n 1, ra := c.pc }))

/-- R409. DEPTH counts as R386 says: a value above 4 acts as 4. -/
def Obligations.LoopPop : Prop :=
  ∀ (n : Fin 16) (s : State) (c : Core), c = s.core n → s.ready n 2 = true →
    (c.depth = 0 → s.runs (.lpop n) n 2 [] {})
    ∧ (∀ k, c.depth = k + 1 →
      s.runs (.lpop n) n 2 [.sr (32 + k) (Word.int 0), .sr 21 (Word.int (BitVec.ofNat 48 k))] {})

/-- R401, R402 and R477. -/
def Obligations.CallRules : Prop :=
  (∀ (n : Fin 16) (i : Instr) (mask : BitVec 16) (target : Payload) (s : State) (c : Core) (rs : List Nat) (a ssp : Nat)
    (ret : Payload) (frame : List Word), c = s.core n → s.ready n 4 = true → s.unpatched (.lantern n) = true →
    ((∃ d23 : BitVec 23, i = .call n mask d23 ∧ target = c.pc + 2 * d23.signExtend 48)
      ∨ (∃ b, i = .callr n b mask ∧ (c.getW b).tag = Tags.addr ∧ (c.getW b).pay = target ∧ target.toNat % 2 = 0)) →
    rs = maskRegs mask.toNat → (c.getW 31).tag ∈ addrTags →
    a = ((c.getW 31).pay.toNat + 2 ^ 48 - 4 * (rs.length + 2)) % 2 ^ 48 → ssp = (c.srN 20 + 2 ^ 48 - 4) % 2 ^ 48 →
    ret = BitVec.ofNat 48 (c.seqNext 4) →
    frame = [Word.addr ret, Word.int (mask.setWidth 48)] ++ rs.map (fun r => c.wAt r) →
    a % 4 = 0 → ssp % 4 = 0 → s.nicheAt n ssp = true → (∀ k, k < frame.length → s.nicheAt n (a + 4 * k) = true) →
    (∀ k, k < frame.length → ssp ≠ a + 4 * k) →
    ∃ t, exec i s = .next t
      ∧ s.jumped t n target [.w (wKey c.pl 31) (Word.addr (BitVec.ofNat 48 a)), .w 30 (Word.addr ret),
          .sr 20 (Word.addr (BitVec.ofNat 48 ssp))]
      ∧ (∀ k, k < frame.length → t.nicheCont n (a + 4 * k) = encodeWord (frame.getD k Word.uni0))
      ∧ t.nicheCont n ssp = encodeWord ⟨Tags.sealT, BitVec.ofNat 48 (ret.toNat / 2 * 2 + if c.pl = .u then 0 else 1)⟩
      ∧ s.nicheBut t n (ssp :: (List.range frame.length).map fun k => a + 4 * k)
      ∧ (t.core n).ras = (if c.det then c.ras else (ret :: c.ras).take 16)
      ∧ c.restSame { (t.core n).landAll with ras := c.ras, branches := c.branches }
      ∧ t = s.nicheOf t)
  ∧ (∀ (n : Fin 16) (s : State) (c : Core) (f ssp mask : Nat) (sl : Word) (ret : Payload) (m : Payload) (ws : List Word)
      (rs : List Nat), c = s.core n → s.ready n 2 = true → s.unpatched (.lantern n) = true → (c.getW 31).tag ∈ addrTags → f = (c.getW 31).pay.toNat →
      ssp = c.srN 20 → f % 4 = 0 → ssp % 4 = 0 → s.nicheAt n ssp = true → mask = m.toNat % 2 ^ 16 →
      rs = maskRegs mask → ws.length = rs.length → (∀ k, k < rs.length + 2 → s.nicheAt n (f + 4 * k) = true) →
      decodeContainer (s.nicheCont n ssp) = .clean sl → decodeContainer (s.nicheCont n f) = .clean (Word.addr ret) →
      decodeContainer (s.nicheCont n (f + 4)) = .clean (Word.int m) →
      (∀ k, k < rs.length → decodeContainer (s.nicheCont n (f + 8 + 4 * k)) = .clean (ws.getD k Word.uni0)
        ∧ (ws.getD k Word.uni0).tag.reserved = false) → ret.toNat % 2 = 0 →
      (sl = ⟨Tags.sealT, BitVec.ofNat 48 (ret.toNat + if c.pl = .u then 0 else 1)⟩ →
        let lands := (rs.zip ws).map (fun x => RegWr.w x.1 x.2)
              ++ [.w (wKey c.pl 31) (Word.addr (BitVec.ofNat 48 (f + 4 * (rs.length + 2)))),
                  .sr 20 (Word.addr (BitVec.ofNat 48 (ssp + 4)))]
        ∃ t, exec (.ret n) s = .next t ∧ s.came t n ret.toNat lands {} ∧ (t.core n).delay = none
          ∧ (c.det = true ∨ c.ras.head? = some ret → s.jumped t n ret lands
            ∧ (t.core n).ras = (if c.det then c.ras else c.ras.drop 1) ∧ c.flowSame (t.core n).landAll
            ∧ t = s.coresOf t))
      ∧ (∀ sub, s.framed n (s.causeLevel n 0xD) →
          sub = (if sl.tag ≠ Tags.sealT then 1 else if sl.pay.toNat / 2 ≠ ret.toNat / 2 then 2 else 4) →
          sl ≠ ⟨Tags.sealT, BitVec.ofNat 48 (ret.toNat + if c.pl = .u then 0 else 1)⟩ →
          ∃ t, exec (.ret n) s = .next t ∧ (t.core n).pc = BitVec.ofNat 48 (c.srN 5 + 8 * 0xD)
            ∧ (t.core n).srN 3 = 0xD + sub * 2 ^ 11 ∧ (t.core n).srN 4 = ret.toNat))

/-! ### Lantern: system, translation and cycles -/

/-- R472, R473, R475 and R476. -/
def Obligations.SystemReturns : Prop :=
  (∀ (n : Fin 16) (k : BitVec 3) (s : State) (c : Core) (e : Word), c = s.core n → s.ready n 2 = true →
    s.unpatched (.lantern n) = true →
    e = c.srW (8 + k.toNat) → e.pay.toNat % 2 = 0 →
    (e.tag = Tags.addr → ∃ t, exec (.scall n k) s = .next t
      ∧ s.jumpedOnly t n e.pay [.sr 6 (Word.addr (BitVec.ofNat 48 (c.seqNext 2))),
          .sr 7 (Word.int (BitVec.ofNat 48 (c.stat % 2 ^ 12 + c.depth * 2 ^ 12))), .sr 21 (Word.int 0),
          .sr 0 (Word.int (BitVec.ofNat 48 (setBits (setBits c.stat 0 2 (if c.pl = .m then 2 else 1)) 3 1 0)))] c
      ∧ t = s.coresOf t)
    ∧ (e.tag ≠ Tags.addr → s.framed n (s.causeLevel n 5) → ∃ t, exec (.scall n k) s = .next t
        ∧ ∃ j, j < 8 ∧ s.trapped t n (s.faultTrap n { code := 5, sub := e.tag.toNat + 16 * j })))
  ∧ (∀ (n : Fin 16) (s : State) (c : Core) (pl : Nat), c = s.core n → s.ready n 2 = true → pl = c.srN 7 % 4 →
      c.srN 6 % 2 = 0 →
      (c.pl = .u → s.framed n (s.causeLevel n 2) → ∃ t, exec (.sret n) s = .next t
        ∧ s.trapped t n (s.faultTrap n { code := 2, eval := c.pc.toNat }))
      ∧ (c.pl ≠ .u → (pl = 3 ∨ lvlCode c.pl < pl) → s.framed n .m → ∃ t, exec (.sret n) s = .next t
        ∧ s.trapped t n (s.faultTrap n { code := 0x22, sub := 2 + 16 * 2, eval := c.srN 6 }))
      ∧ (c.pl ≠ .u → pl ≤ lvlCode c.pl → pl ≠ 3 → ∃ t, exec (.sret n) s = .next t
        ∧ s.jumpedOnly t n (BitVec.ofNat 48 (c.srN 6)) [.sr 0 (Word.int (BitVec.ofNat 48 (c.srN 7 % 2 ^ 12))),
            .sr 21 (Word.int (BitVec.ofNat 48 (bits (c.srN 7) 12 3)))] c
        ∧ t = s.coresOf t))
  ∧ (∀ (n : Fin 16) (s : State) (c : Core) (f : Nat) (ws : List Word) (v : Nat → Word) (d : Nat), c = s.core n →
      s.ready n 2 = true → s.unpatched (.lantern n) = true → c.pl ≠ .u → s.chained n = none → (c.getW 31).tag ∈ addrTags → f = (c.getW 31).pay.toNat →
      f % 4 = 0 → (∀ i, i < 12 → inNiche (f + 4 * i) = true
        ∧ decodeContainer (s.nicheCont n (f + 4 * i)) = .clean (v i) ∧ (v i).tag.reserved = false) →
      (v 0).pay.toNat % 2 = 0 → d = min (bits (v 10).pay.toNat 0 3) 4 → ws = (List.range 12).map v →
      ((v 0).tag = Tags.addr → (v 1).tag = Tags.int → (v 10).tag = Tags.int → bits (v 1).pay.toNat 0 2 ≤ lvlCode c.pl →
        bits (v 10).pay.toNat 4 2 = lvlCode c.pl → ∃ t, exec (.eret n) s = .next t
        ∧ s.jumpedOnly t n (v 0).pay (((List.range 8).map fun i => RegWr.w (i + 1) (v (2 + i)))
            ++ [.sr 21 (Word.int (BitVec.ofNat 48 (bits (v 10).pay.toNat 0 3)))]
            ++ (if d = 0 then [] else [.sr (32 + (d - 1)) (Word.int (v 11).pay)])
            ++ [.w (wKey c.pl 31) (Word.addr (BitVec.ofNat 48 (f + 48))),
                .sr 0 (Word.int (BitVec.ofNat 48 (bits (v 1).pay.toNat 0 12))),
                .sr 16 (Word.int (BitVec.ofNat 48 (setBits (c.srN 16) 13 1 0)))])
            { c with
              rfl' := false
              resume := if bit (c.srN 16) 13 then some (c.srN 16 % 2 ^ 13, c.srW 17, c.srW 18) else none }
        ∧ t = s.coresOf t)
      ∧ (∀ r, s.framed n .m →
          r = (if (v 0).tag ≠ Tags.addr ∨ (v 1).tag ≠ Tags.int ∨ (v 10).tag ≠ Tags.int then 1
            else if bits (v 1).pay.toNat 0 2 = 3 ∨ lvlCode c.pl < bits (v 1).pay.toNat 0 2 then 2
            else if bits (v 10).pay.toNat 4 2 ≠ lvlCode c.pl then 3 else 0) → r ≠ 0 →
          ∃ t, exec (.eret n) s = .next t ∧ s.trapped t n (s.faultTrap n { code := 0x22, sub := 1 + 16 * r, eval := f })))
  ∧ (∀ (n : Fin 16) (s : State) (c : Core) (e : Ev), c = s.core n → s.ready n 2 = true →
      s.unpatched (.lantern n) = true → c.pl ≠ .u →
      s.chained n = some e →
      s.offered n e.src = some e ∧ e.lvl = c.pl
      ∧ ((bits (c.srN 2) 16 6 < e.prio ∧ bit (c.srN 2) 22 = true)
          ∨ (c.pl = .m ∧ 0 < e.prio ∧ bits (c.srN 2) 0 2 < 2))
      ∧ ∃ t, exec (.eret n) s = .next t
        ∧ (t.core n).pc = BitVec.ofNat 48 (c.srN 5 + 8 * (64 + e.src))
        ∧ (s.holdsPending e.src = false → t.isPending e.src = false)
        ∧ (∀ k, (t.core n).wAt k = c.wAt k) ∧ (t.core n).srN 1 = c.srN 1 ∧ (t.core n).srN 3 = 64 + e.src
        ∧ (t.core n).srN 4 = 0
        ∧ (t.core n).srN 2 = setBits (setBits (setBits (c.srN 2) 3 1 1) 4 10 e.src) 14 2 (lvlCode e.lvl)
        ∧ (t.core n).srN 0 = setBits (setBits c.stat 6 6 e.prio) 3 1 0
        ∧ t.mem = s.mem ∧ t.niche = s.niche)

/-- R383 to R386, R398, R438, R439, R442, R444, R447 and R457. -/
def Obligations.SpecialRegisterRules : Prop :=
  (∀ (n : Fin 16) (d : RegNo) (sr : BitVec 6) (s : State) (c : Core) (k : Nat), c = s.core n → s.ready n 2 = true →
    k = sr.toNat →
    (k < 36 → k ≠ 22 → (k < 19 → c.pl ≠ .u) → s.runs (.mfsr n d sr) n 2 (resW c d
      (if k = 23 then Word.int (BitVec.ofNat 48 (n + n / 4 * 16)) else if k = 17 ∨ k = 18 then c.srW k
       else ⟨srTag k, (c.srW k).pay⟩)) {})
    ∧ (k = 22 → ∃ t ph, ph < 16 ∧ exec (.mfsr n d sr) s = .next t
        ∧ s.ran t n 2 (resW c d (Word.int (BitVec.ofNat 48 (16 * s.tick + ph)))) {}
        ∧ t = s.coresOf t)
    ∧ (36 ≤ k → s.framed n (s.causeLevel n 1) → ∃ t, exec (.mfsr n d sr) s = .next t
        ∧ s.trapped t n (s.faultTrap n { code := 1, eval := c.pc.toNat }))
    ∧ (k < 19 → c.pl = .u → s.framed n (s.causeLevel n 2) → ∃ t, exec (.mfsr n d sr) s = .next t
        ∧ s.trapped t n (s.faultTrap n { code := 2, eval := c.pc.toNat })))
  ∧ (∀ (n : Fin 16) (a : RegNo) (sr : BitVec 6) (s : State) (c : Core) (k : Nat) (x : Word), c = s.core n →
      s.ready n 2 = true → k = sr.toNat → x = c.getW a →
      (k = 22 ∨ k = 23 → x.tag ∈ intTags → s.runs (.mtsr n a sr) n 2 [] {})
      ∧ (k < 36 → k ≠ 0 → k ≠ 22 → k ≠ 23 → (k = 5 → c.pl = .m) → (k < 19 ∨ k = 20 → c.pl ≠ .u) →
          (if k = 17 ∨ k = 18 then x.tag.reserved = false else x.tag = Tags.raw ∨ x.tag = srTag k) →
          s.runs (.mtsr n a sr) n 2
            [.sr k ⟨if k = 17 ∨ k = 18 ∨ (8 ≤ k ∧ k ≤ 15) then x.tag else srTag k, x.pay &&& srMask k⟩] {})
      ∧ (k = 0 → x.tag ∈ intTags → c.pl ≠ .u → bits x.pay.toNat 0 2 ≤ lvlCode c.pl → ∃ t, exec (.mtsr n a sr) s = .next t
          ∧ s.landed t n (c.seqNext 2) [.sr 0 (Word.int (BitVec.ofNat 48 (setBits c.stat 5 7 (bits x.pay.toNat 5 7))))] {}
          ∧ Core.restSame { c with statPend := [(3, x.pay)] } (t.core n).landAll
          ∧ t = s.coresOf t)
      ∧ (k = 0 → bits x.pay.toNat 0 2 = 3 → s.framed n (s.causeLevel n 1) →
          ∃ t, exec (.mtsr n a sr) s = .next t ∧ s.trapped t n (s.faultTrap n { code := 1, eval := c.pc.toNat }))
      ∧ ((k = 0 → bits x.pay.toNat 0 2 ≠ 3) →
          (k = 5 ∧ c.pl ≠ .m) ∨ ((k < 19 ∨ k = 20) ∧ c.pl = .u) ∨ (k = 0 ∧ lvlCode c.pl < bits x.pay.toNat 0 2) →
          s.framed n (s.causeLevel n 2) →
          ∃ t, exec (.mtsr n a sr) s = .next t ∧ s.trapped t n (s.faultTrap n { code := 2, eval := c.pc.toNat }))
      ∧ (k < 36 → k ≠ 0 → c.pl = .m → s.framed n .m →
          ¬ (if k = 17 ∨ k = 18 then x.tag.reserved = false else x.tag = Tags.raw ∨ x.tag = srTag k) →
          ∃ t, exec (.mtsr n a sr) s = .next t
            ∧ ∃ j, j < 8 ∧ s.trapped t n (s.faultTrap n { code := 5, sub := x.tag.toNat + 16 * j })))
  ∧ (∀ (n : Fin 16) (k : RegNo) (s : State) (c : Core), c = s.core n → s.ready n 2 = true →
      (∃ t, exec (.pbar n k) s = .next t ∧ s.landed t n (c.seqNext 2) [] {}
        ∧ Core.restSame { c with pbar := k.toNat } (t.core n).landAll ∧ t = s.coresOf t)
      ∧ (∃ t, exec (.pflush n) s = .next t ∧ s.landed t n (c.seqNext 2) [] {}
        ∧ (∀ i, (t.core n).counter i = 1) ∧ (t.core n).gh = 0 ∧ (t.core n).ras = []
        ∧ c.flowSame (t.core n).landAll ∧ t = s.coresOf t)
      ∧ (∃ t, exec (.wait n) s = .next t ∧ s.landed t n (c.seqNext 2) [] {}
        ∧ (t.core n).waiting = !(s.pendingSources.any fun x => (s.offered n x).isSome)
        ∧ Core.restSame { c with waiting := (t.core n).waiting } (t.core n).landAll
        ∧ t = s.coresOf t)
      ∧ (c.stores = [] → s.ownWaiting n = false →
        (∃ t, exec (.ibar n) s = .next t ∧ s.landed t n (c.seqNext 2) [] {}
          ∧ Core.restSame { c with l1i := [] } (t.core n).landAll ∧ t = s.coresOf t)
        ∧ (s.ownResponses n = false → s.runs (.mbar n) n 2 [] {})
        ∧ (s.ownResponses n = true → exec (.mbar n) s = .next (keepWaiting s s))))

/-- R495 to R497 and R505 to R508. -/
def Obligations.TlbRules : Prop :=
  (∀ (n : Fin 16) (d a b e : RegNo) (s : State) (c : Core) (x y z : Word) (r : Tab TlbE × Nat × Nat), c = s.core n →
    s.ready n 4 = true → x = c.getW a → y = c.getW b → z = c.getW e →
    (c.pl = .u → s.framed n (s.causeLevel n 2) → ∀ i ∈ [Instr.tlbw n d a b e, .tlbi n a, .tlbia n],
      ∃ t, exec i s = .next t ∧ s.trapped t n (s.faultTrap n { code := 2, eval := c.pc.toNat }))
    ∧ (c.pl ≠ .u → x.tag = Tags.pte → y.tag ∈ addrTags → z.tag ∈ wordTags → bits x.pay.toNat 8 2 ≠ 3 →
        (bit x.pay.toNat 12 = true → bits x.pay.toNat 16 8 = 0) → z.pay.toNat < 2 ^ 42 → z.pay.toNat % 4 = 0 →
        r = tlbLoad 128 (s.fld (R.LANTERN_TLBCFG n) F.LANTERN_TLBCFG_WIRED) c.tlbNext (tlbNew x.pay y.pay z.pay) c.tlb →
        ∃ t, exec (.tlbw n d a b e) s = .next t
          ∧ s.landed t n (c.seqNext 4) (resW c d (Word.int (BitVec.ofNat 48 r.2.2))) {}
          ∧ Core.restSame { c with tlb := r.1, tlbNext := r.2.1 } (t.core n).landAll
          ∧ t = s.coresOf t)
    ∧ (c.pl ≠ .u → x.tag ∈ addrTags → ∃ t, exec (.tlbi n a) s = .next t ∧ s.landed t n (c.seqNext 4) [] {}
        ∧ (twf (fun _ => {}) c.tlb = true → ∀ i, tlbAt (t.core n).tlb i
            = if (tlbAt c.tlb i).hits x.pay.toNat then (tlbAt c.tlb i).drop else tlbAt c.tlb i)
        ∧ Core.restSame { c with tlb := (t.core n).tlb } (t.core n).landAll ∧ t = s.coresOf t)
    ∧ (c.pl ≠ .u → ∃ t, exec (.tlbia n) s = .next t ∧ s.landed t n (c.seqNext 4) [] {}
        ∧ (twf (fun _ => {}) c.tlb = true → ∀ i, (tlbAt (t.core n).tlb i).valid = false)
        ∧ Core.restSame { c with tlb := (t.core n).tlb } (t.core n).landAll ∧ t = s.coresOf t))
  ∧ (∀ (k wired next : Nat) (e : TlbE) (tab : Tab TlbE) (i : Nat), twf (fun _ => {}) tab = true →
      let r := tlbLoad k wired next e tab
      tlbAt r.1 r.2.2 = e
      ∧ (∀ j, j ≠ r.2.2 → (tlbAt r.1 j).valid = ((tlbAt tab j).valid && !(tlbAt tab j).overlaps e))
      ∧ ((tlbAt tab i).valid = true → (tlbAt tab i).overlaps e = true → r.2.2 ≤ i ∧ r.2.1 = next)
      ∧ ((∀ j, (tlbAt tab j).valid = true → (tlbAt tab j).overlaps e = false) →
          (wired ≤ i → i < k → (tlbAt tab i).valid = false → wired ≤ r.2.2 ∧ r.2.2 ≤ i ∧ r.2.1 = next)
          ∧ ((∀ j, wired ≤ j → j < k → (tlbAt tab j).valid = true) →
              r.2.2 = max next wired ∧ r.2.1 = if max next wired + 1 = k then wired else max next wired + 1)))
  ∧ (∀ (n : Fin 16) (va : Payload) (acc : AdAcc) (k : AccKind) (i : Nat) (e : TlbE) (x : Word) (s : State) (c : Core),
      c = s.core n → c.shut = false → c.te = true → tlbFind c.tlb va.toNat = some i → e = tlbAt c.tlb i →
      k = (match acc with
        | .fetch => .fetch | .load => .load | .store => .store | .rmw => .rmw | .sealWr => .sealWr | .sealRd => .sealRd) →
      levelGrants c.pl c.sg e.pte.toNat = true → k.granted e.pte.toNat = true →
      (bit e.pte.toNat 10 = false ∨ (k.writes = true ∧ bit e.pte.toNat 11 = false)) →
      (targetOf e.ptea.toNat).owns = true → s.performs n e.ptea.toNat = true → e.ptea.toNat % 4 = 0 →
      s.l2Line n e.ptea.toNat = none → decodeContainer (s.cont (e.ptea.toNat / 4)) = .clean x →
      (x.tag = Tags.pte → bits x.pay.toNat 16 26 = bits e.pte.toNat 16 26 → bit x.pay.toNat 12 = bit e.pte.toNat 12 →
        ∃ t, exec (.adUpdate n va acc) s = .next t
          ∧ t.cont (e.ptea.toNat / 4) = encodeWord ⟨Tags.pte, x.pay ||| if k.writes then 0xC00 else 0x400⟩
          ∧ s.sameBut t (e.ptea.toNat / 4) ∧ (t.core n).ad = some ⟨i, va, acc, .done⟩
          ∧ t = { s.stores t with clusters := t.clusters } ∧ s.regsBut t (countRegs n))
      ∧ ((x.tag ≠ Tags.pte ∨ bits x.pay.toNat 16 26 ≠ bits e.pte.toNat 16 26) →
        ∃ t : State, exec (.adUpdate n va acc) s = .next t ∧ t.mem = s.mem ∧ (t.core n).ad = some ⟨i, va, acc, .stale⟩))
  ∧ (∀ (n : Fin 16) (p : AdPend) (s u : State) (c : Core), c = s.core n → c.ad = some p →
      (p.res = .done → ∀ e : TlbE, e = tlbAt c.tlb p.idx →
        exec (.adUpdateOutcome n) s = .next (s.setCore n { c with
          ad := none
          tlb := tlbPut c.tlb p.idx { e with pte := e.pte ||| if (adKind p.acc).writes then 0xC00 else 0x400 } }))
      ∧ (u = s.setCore n { c with ad := none } → p.res = .stale → p.acc ≠ .fetch → u.calm n = true →
          u.framed n (u.causeLevel n 0x0C) → ∃ t, exec (.adUpdateOutcome n) s = .next t
            ∧ u.trapped t n (u.faultTrap n { code := 0x0C, sub := b2n (adKind p.acc).writes, eval := p.va.toNat })
            ∧ (tlbAt (t.core n).tlb p.idx).valid = false))

/-- R465 to R470, with frames in niche memory. -/
def Obligations.TrapEntries : Prop :=
  (∀ (n : Fin 16) (e : Exc) (s : State) (c : Core), c = s.core n → s.calm n = true → c.dueExc = some e →
    s.framed n (s.causeLevel n e.code) → ∃ t, exec (.trapEntry n .boundary) s = .next t
      ∧ s.trapped t n (s.faultTrap n e)
      ∧ (c.det = true → ((t.core n).pfail, (t.core n).mcheck, (t.core n).pteloc, (t.core n).astore, (t.core n).linkFault)
        = if c.pfail then (false, c.mcheck, c.pteloc, c.astore, c.linkFault)
          else if c.mcheck ≠ [] then (false, c.mcheck.drop 1, c.pteloc, c.astore, c.linkFault)
          else if c.pteloc ≠ [] then (false, [], c.pteloc.drop 1, c.astore, c.linkFault)
          else if c.astore.isSome then (false, [], [], none, c.linkFault)
          else (false, [], [], none, c.linkFault.drop 1)))
  ∧ (∀ (c : Core) (m : MCheck) (ms : List MCheck) (va : Payload) (st : Nat),
      (c.pfail = true → c.dueExc = some { code := 0x24 })
      ∧ (c.pfail = false → c.mcheck = m :: ms → c.dueExc = some { code := 0x21, sub := m.sub, eval := m.eval.toNat })
      ∧ (c.pfail = false → c.mcheck = [] → c.pteloc = [] → c.astore = some (va, st) →
          c.dueExc = some { code := 0x12, sub := st, eval := va.toNat }))
  ∧ (∀ (n : Fin 16) (e : Ev) (mpc : BitVec 13) (m0 m1 : Word) (s : State) (c : Core), c = s.core n → s.calm n = true →
      c.dueExc = none → s.dueEvent n = some e → s.framed n e.lvl →
      s.offered n e.src = some e ∧ e.may c.pl c.ie c.cpri = true
      ∧ (∃ t, exec (.trapEntry n .boundary) s = .next t
        ∧ s.trapped t n { hidx := 64 + e.src, lvl := e.lvl, ev := some e, ra := c.pc }
        ∧ (c.det = true → s.holdsPending e.src = false → t.isPending e.src = false
          ∧ ∀ k, k < 1024 → k ≠ e.src → t.isPending k = s.isPending k)
        ∧ (t.core n).srN 16 = setBits (c.srN 16) 13 1 0)
      ∧ (mpc.toNat < 0x1200 → s.instrNow n = some (.ret n) → ∃ t, exec (.trapEntry n (.micro mpc m0 m1)) s = .next t
        ∧ s.trapped t n { hidx := 64 + e.src, lvl := e.lvl, ev := some e, ra := c.pc }
        ∧ (t.core n).srN 16 = mpc.toNat + 2 ^ 13 ∧ (t.core n).srW 17 = m0 ∧ (t.core n).srW 18 = m1)
      ∧ (∀ d a b : RegNo, s.instrNow n = some (.dadd n d a b) → exec (.trapEntry n (.micro mpc m0 m1)) s = .next s))
  ∧ (∀ (n : Fin 16) (check : Bool) (mpc : BitVec 13) (s : State), s.calm n = true →
      (check = false → mpc.toNat < 0x1200 → exec (.trapEntry n (.microFault check mpc)) s = .next s)
      ∧ (check = true ∨ 0x1200 ≤ mpc.toNat → s.framed n .m → ∃ t, exec (.trapEntry n (.microFault check mpc)) s = .next t
        ∧ s.trapped t n (s.faultTrap n { code := 0x21, sub := 2, eval := mpc.toNat })
        ∧ (t.core n).srN 16 = mpc.toNat + 2 ^ 13))
  ∧ (∀ (n : Fin 16) (s : State) (c : Core), c = s.core n → s.calm n = true → s.trapDue n = false → c.waiting = false →
      c.te = false → c.copyOf (c.pc.toNat / 4 * 4) 0 = none →
      (c.pl = .m → c.entered = none → 2 ^ 42 ≤ c.pc.toNat → s.framed n (s.causeLevel n 7) →
        ∃ t, exec (.trapEntry n .boundary) s = .next t
          ∧ s.trapped t n (s.faultTrap n { code := 7, eval := c.pc.toNat }))
      ∧ (∀ w : Word, s.nicheAt n (c.pc.toNat / 4 * 4) = true →
          decodeContainer (s.nicheCont n (c.pc.toNat / 4 * 4)) = .clean w → w.tag = Tags.code →
          (decodeAt n false (c.pc.toNat % 4 == 2) w.pay.toNat).isSome = true →
          ∃ l, exec (.trapEntry n .boundary) s = .next (s.setCore n { c with fbuf := l })))
  ∧ (∀ (n : Fin 16) (d a b : RegNo) (s : State) (c : Core), c = s.core n → s.ready n 2 = true →
      s.framed n (s.causeLevel n 5) →
      ((c.getW a).tag ∉ wordTags → ∃ t, exec (.and n d a b) s = .next t
        ∧ s.trapped t n (s.faultTrap n { code := 5, sub := (c.getW a).tag.toNat }))
      ∧ ((c.getW a).tag ∈ wordTags → (c.getW b).tag ∉ wordTags → ∃ t, exec (.and n d a b) s = .next t
        ∧ s.trapped t n (s.faultTrap n { code := 5, sub := (c.getW b).tag.toNat + 16 })))
  ∧ (∀ (n : Fin 16) (d a : RegNo) (k : BitVec 5) (imm : BitVec 34) (s : State) (c : Core), c = s.core n →
      (s.ready n 2 = true → (c.getW a).tag ∈ addrTags → (addrOf (c.getW a).pay (4 * k.toNat)) % 4 ≠ 0 →
        s.framed n (s.causeLevel n 6) → ∃ t, exec (.lw n (.short d a k)) s = .next t
          ∧ s.trapped t n (s.faultTrap n { code := 6, eval := addrOf (c.getW a).pay (4 * k.toNat) }))
      ∧ (s.calm n = true → s.trapDue n = false → c.waiting = false → c.pc.toNat % 4 ≠ 0 →
        s.framed n (s.causeLevel n 1) → ∃ t, exec (.li n d imm) s = .next t
          ∧ s.trapped t n (s.faultTrap n { code := 1, eval := c.pc.toNat })))

/-- R425, R431, R435, R437, R442 and R451, and R295 for the store buffer. -/
def Obligations.CoreCycles : Prop :=
  (∀ (n : Fin 16) (s : State) (c : Core), c = s.core n →
    (c.shut = true → ∀ i ∈ [Instr.resultWriteback n, .branchResolve n, .statChangeEffective n, .divideUnitFree n,
      .deterministicEntry n], exec i s = .next s)
    ∧ (c.shut = false → ∃ t, exec (.resultWriteback n) s = .next t
      ∧ (t.core n).inflight = (c.inflight.filter (fun f => decide (1 < f.left))).map (fun f => { f with left := f.left - 1 })
      ∧ (((c.inflight.filter fun f => decide (f.left ≤ 1)).foldl (fun c f => landWrites f.writes c) c).addFlags
          ((c.inflight.filter fun f => decide (f.left ≤ 1)).foldl (fun g f => g.or f.flags) {})).sameRegs (t.core n)
      ∧ (t.core n).slot0 = none ∧ (t.core n).divLeft = c.divLeft - 1 ∧ (t.core n).pc = c.pc
      ∧ (∀ m, m ≠ n → t.core m = s.core m) ∧ t = { s with cores := t.cores })
    ∧ (c.shut = false → ∀ b : Branch, c.branches = [b] → b.left ≠ 0 → ∃ t, exec (.branchResolve n) s = .next t
      ∧ (t.core n).branches = []
      ∧ (∀ i, (t.core n).counter i = if b.ctr = some i then (if b.taken then min 3 (c.counter i + 1) else c.counter i - 1)
          else c.counter i)
      ∧ (t.core n).gh = (if b.wrong then (if b.cond then (2 * b.check.gh + b2n b.taken) % 8192 else b.check.gh) else c.gh)
      ∧ (t.core n).ras = (if b.wrong then b.check.restore c.ras else c.ras)
      ∧ (t.core n).pc = c.pc ∧ (∀ m, m ≠ n → t.core m = s.core m) ∧ t = { s with cores := t.cores })
    ∧ (c.shut = false → ∀ (v : Payload) (l : List (Nat × Payload)), c.statPend = (0, v) :: l → (∀ x ∈ l, x.1 ≠ 0) →
      ∃ t, exec (.statChangeEffective n) s = .next t ∧ (t.core n).stat = setBits c.stat 0 5 v.toNat
        ∧ t = s.setCore n { c with sr := (t.core n).sr, statPend := l } ∧ ∀ k, k ≠ 0 → (t.core n).srW k = c.srW k)
    ∧ (c.shut = false → ∃ t, exec (.divideUnitFree n) s = .next t ∧ (t.core n).divLeft = 0 ∧ (t.core n).pc = c.pc
      ∧ t = { s with cores := t.cores })
    ∧ (c.shut = false → c.det = true → c.branches ≠ [] → ∃ t, exec (.deterministicEntry n) s = .next t
      ∧ (t.core n).branches = [] ∧ (t.core n).pc = c.pc ∧ (∀ m, m ≠ n → t.core m = s.core m)
      ∧ t.fld (R.LANTERN_HOLDCNT n) F.LANTERN_HOLDCNT_HOLDCNT
          = (s.fld (R.LANTERN_HOLDCNT n) F.LANTERN_HOLDCNT_HOLDCNT + c.branches.foldl (fun m b => max m b.left) 0)
            % 2 ^ F.LANTERN_HOLDCNT_HOLDCNT.w
      ∧ t = s.coresOf t))
  ∧ (∀ (n : Fin 16) (e : StoreEnt) (es : List StoreEnt) (s : State) (c : Core), c = s.core n →
      (c.stores = [] → ∃ l k, exec (.storeBufferDrain n) s = .next { s.setCore n { c with fbuf := l } with fresh := k })
      ∧ (c.stores = e :: es →
        ((e.direct = true ∨ s.cachesOn n = false) → ∃ l k, exec (.storeBufferDrain n) s = .next
          { s.setCore n { c with stores := es, fbuf := l } with
            fresh := k
            junc := { s.junc with waiting := s.junc.waiting
              ++ [{ m := n, lv := e.lv, a := e.pa, op := .wr e.w, arr := s.tick, va := e.va.toNat, se := e.se }] } })
        ∧ (e.direct = false → e.through = false → s.cachesOn n = true → ∀ l, s.l2Line n e.pa = some l →
          l.words.length = 8 → l.dirty.length = 8 →
          ∃ t, exec (.storeBufferDrain n) s = .next t ∧ (t.core n).stores = es
            ∧ t.l2Line n e.pa = some { words := l.words.set (e.pa / 4 % 8) e.w, dirty := l.dirty.set (e.pa / 4 % 8) true }
            ∧ t = { s with cores := t.cores, clusters := t.clusters, fresh := t.fresh })))

/-! ### Lantern: gallery requests -/

/-- R203, R206 to R211, R237, R416, R417, R419 and R420. -/
def Obligations.GalleryRequests : Prop :=
  (∀ (n g : Fin 16) (d a b : RegNo) (s : State) (c : Core) (va pa k : Nat), c = s.core n → s.ready n 4 = true →
    s.junc.isolated = false → s.tokensDone n g → (c.getW a).tag ∈ addrTags → va = (c.getW a).pay.toNat →
    ((c.te = false ∧ (c.pl = .m ∨ (c.pl = .s ∧ s.inWindow n va = true)) ∧ cacheable va = true ∧ k = 16 ∧ pa = va)
      ∨ (∃ i e, c.te = true ∧ tlbFind c.tlb va = some i ∧ e = tlbAt c.tlb i ∧ levelGrants c.pl c.sg e.pte.toNat = true
          ∧ bit e.pte.toNat 1 = true ∧ e.se = false ∧ bit e.pte.toNat 10 = true ∧ k = e.shift ∧ pa = e.phys va)) →
    (∀ i, (i = Instr.giss n d a g ∨ (i = .gissr n d a b ∧ (c.getW b).tag ∈ intTags ∧ (c.getW b).pay.toNat = g)) →
      (va % 4 = 0 → (va + 63) / 2 ^ k = va / 2 ^ k → ∃ t, exec i s = .next t
        ∧ (t.gal g).reqs = (s.gal g).reqs ++ [⟨n, c.pl, c.ftz, (c.getW a).pay, pa⟩]
        ∧ t.core n = { c with frozen := some ⟨wKey c.pl d.toNat, c.pc, (c.getW a).pay, g⟩, fbuf := (t.core n).fbuf }
        ∧ (∀ m, m ≠ n → t.core m = s.core m) ∧ (∀ i, i ≠ g.val → t.gal i = s.gal i) ∧ s.regsBut t (countRegs n)
        ∧ t = { s with regs := t.regs, cores := t.cores, gals := t.gals, fresh := t.fresh })
      ∧ ((va % 4 ≠ 0 ∨ (va + 63) / 2 ^ k ≠ va / 2 ^ k) → s.framed n (s.causeLevel n 6) → ∃ t, exec i s = .next t
        ∧ s.trapped t n (s.faultTrap n { code := 6, eval := va })))
    ∧ (¬ ((c.getW b).tag ∈ intTags ∧ (c.getW b).pay.toNat < 16) → s.framed n (s.causeLevel n 1) →
      ∃ t, exec (.gissr n d a b) s = .next t ∧ s.trapped t n (s.faultTrap n { code := 1, eval := c.pc.toNat })))
  ∧ (∀ (g : Fin 16) (q : GReq) (qs : List GReq) (s u : State) (c : Core) (f : Frozen), q.core < 16 → (s.gal g).reqs = q :: qs →
      s.junc.isolated = false → ((s.gal g).links = [] ∧ (s.gal g).linkWait = none ∨ s.freeSlot g = none) → c = s.core q.core → c.frozen = some f →
      u = s.setCore q.core { c with frozen := none } → u.calm q.core = true →
      (∀ k, k < c.depth → c.le k ≠ c.seqNext 4) →
      ((s.gal g).quar = true → ∃ t, exec (.gissJudgement g) s = .next t ∧ c.replied (t.core q.core) f (giReply 2 0)
        ∧ (t.gal g).reqs = qs ∧ (t.gal g).slots = (s.gal g).slots)
      ∧ ((s.gal g).quar = false → q.core ≠ s.galOwner g → ∃ t, exec (.gissJudgement g) s = .next t
        ∧ c.replied (t.core q.core) f (giReply 3 0) ∧ (t.gal g).reqs = qs ∧ (t.gal g).slots = (s.gal g).slots)
      ∧ ((s.gal g).quar = false → q.core = s.galOwner g → s.freeSlot g = none → ∃ t, exec (.gissJudgement g) s = .next t
        ∧ c.replied (t.core q.core) f (giReply 1 0) ∧ (t.gal g).reqs = qs ∧ (t.gal g).slots = (s.gal g).slots
        ∧ t.fld (R.GAL_FULLCNT g) F.GAL_FULLCNT_FULLCNT
          = (s.fld (R.GAL_FULLCNT g) F.GAL_FULLCNT_FULLCNT + 1) % 2 ^ F.GAL_FULLCNT_FULLCNT.w ∧ t.cairn = s.cairn)
      ∧ (∀ (sl : Nat) (d : Desc), (s.gal g).quar = false → q.core = s.galOwner g → s.freeSlot g = some sl →
        s.descAt g (fun i => q.pa + 4 * i) d → d.len ≠ 0 → ∃ t, exec (.gissJudgement g) s = .next t
          ∧ c.replied (t.core q.core) f (giReply 0 sl) ∧ (t.gal g).reqs = qs
          ∧ s.accepted t g sl d q (s.gal g).links)
      ∧ (∀ (sl : Nat) (w : Word), (s.gal g).quar = false → q.core = s.galOwner g → s.freeSlot g = some sl →
        (∀ i, i < 16 → s.galServes g (q.pa + 4 * i) = true) → q.pa % 4 = 0 →
        (∀ i, i < 16 → decodeContainer (s.cont ((q.pa + 4 * i) / 4)) = .clean w) → w.tag ≠ Tags.desc →
        s.framed q.core (s.causeLevel q.core 0x0F) → ∃ t, exec (.gissJudgement g) s = .next t
          ∧ u.trapped { t with gals := u.gals, junc := u.junc, chams := u.chams } q.core
              (u.faultTrap q.core { code := 0x0F, sub := 0x10 + 256 * g, eval := f.descVa.toNat })
          ∧ (t.gal g).slots = (s.gal g).slots))
  ∧ (∀ (g : Fin 16) (q : GReq) (qs : List GReq) (sl : Nat) (d : Desc) (at_ : Nat → Nat) (s : State),
      (s.gal g).quar = false → (∀ x ∈ (s.gal g).slots, x.2.fbWait = none) → (s.gal g).linkWait = none →
      (s.gal g).links = q :: qs → q.va.toNat % 4 = 0 → s.freeSlot g = some sl →
      (∀ i, i < 16 → ∃ k e, tlbFind (s.gal g).tlb ((q.va.toNat + 4 * i) % 2 ^ 48) = some k ∧ e = tlbAt (s.gal g).tlb k
        ∧ levelGrants q.lv false e.pte.toNat = true ∧ bit e.pte.toNat 1 = true ∧ e.se = false ∧ bit e.pte.toNat 10 = true
        ∧ at_ i = e.phys ((q.va.toNat + 4 * i) % 2 ^ 48)) →
      s.descAt g at_ d → d.len ≠ 0 →
      ∃ t, exec (.linkedDescriptorIssue g) s = .next t ∧ s.accepted t g sl d q qs ∧ ∀ n, t.core n = s.core n)
  ∧ (∀ (n g : Fin 16) (d sl : RegNo) (s : State) (c : Core) (w : Word), c = s.core n → s.ready n 4 = true →
      s.junc.isolated = false → s.tokensDone n g → s.cairn.queue.length ≤ 200 →
      (((s.gal g).quar = true ∧ w = giReply 2 0)
        ∨ ((s.gal g).quar = false ∧ s.galOwner g ≠ n ∧ w = giReply 3 0)
        ∨ ((s.gal g).quar = false ∧ s.galOwner g = n ∧ (s.slot g sl.toNat).st ≠ .susp ∧ w = giReply 4 0)
        ∨ ((s.gal g).quar = false ∧ s.galOwner g = n ∧ (s.slot g sl.toNat).st = .susp ∧ w = giReply 0 sl.toNat)) →
      ∃ t, exec (.gresume n d g sl) s = .next t ∧ s.ran t n 4 (resW c d w) {}
        ∧ s.slotsBut t g sl.toNat ∧ (t.slot g sl.toNat).desc = (s.slot g sl.toNat).desc
        ∧ ((t.slot g sl.toNat).st = if w = giReply 0 sl.toNat then SlotSt.ready else (s.slot g sl.toNat).st)
        ∧ t = { s with regs := t.regs, cores := t.cores, gals := t.gals, cairn := t.cairn, fresh := t.fresh })
  ∧ (∀ (n g : Fin 16) (a b e : RegNo) (s : State) (c : Core) (x y z : Word) (r : Tab TlbE × Nat × Nat),
      c = s.core n → s.ready n 4 = true → c.pl ≠ .u → x = c.getW a → y = c.getW b → z = c.getW e →
      s.cairn.queue.length ≤ 200 →
      (x.tag = Tags.pte → y.tag ∈ addrTags → z.tag ∈ wordTags → bits x.pay.toNat 8 2 ≠ 3 →
        (bit x.pay.toNat 12 = true → bits x.pay.toNat 16 8 = 0) → z.pay.toNat < 2 ^ 42 → z.pay.toNat % 4 = 0 →
        r = tlbLoad 512 (s.fld (R.GAL_TLBCFG g) F.GAL_TLBCFG_WIRED) (s.gal g).next (tlbNew x.pay y.pay z.pay) (s.gal g).tlb →
        ∃ t, exec (.gtlbw n g a b e) s = .next t ∧ s.ran t n 4 [] {}
          ∧ (t.gal g = if s.galOwner g = n then { s.gal g with tlb := r.1, next := r.2.1 } else s.gal g)
          ∧ (∀ i, i ≠ g.val → t.gal i = s.gal i)
          ∧ t = { s with regs := t.regs, cores := t.cores, gals := t.gals, cairn := t.cairn, fresh := t.fresh })
      ∧ (∀ p ∈ [(Instr.gtlbi n g a, tlbInval x.pay.toNat (s.gal g).tlb), (.gtlbia n g, tlbInvalAll (s.gal g).tlb)],
          x.tag ∈ addrTags → ∃ t, exec p.1 s = .next t ∧ s.ran t n 4 [] {}
          ∧ (t.gal g = if s.galOwner g = n then { s.gal g with tlb := p.2 } else s.gal g)
          ∧ (∀ i, i ≠ g.val → t.gal i = s.gal i)
          ∧ t = { s with regs := t.regs, cores := t.cores, gals := t.gals, cairn := t.cairn, fresh := t.fresh }))

/-! ### Host, boot and security -/

/-- R599 to R606. -/
def Obligations.HostRequests : Prop :=
  (∀ (f : Fin 16) (a : BitVec 33) (w pa : Nat) (v x : Word) (b7 : BitVec 8) (s : State), a.toNat = 8 * w →
    (s.bar2At f w true pa → s.performs 34 pa = true → ∃ t,
      exec (.bar2Access f a (allOf (bytesOf v.pay.toNat 6 ++ [v.tag.setWidth 8, b7]))) s = .next t
      ∧ t.cont (pa / 4) = encodeWord ⟨hostTag (s.flag (R.FN_SEG f (w / 2 ^ 26)) F.FN_SEG_TAGP) v.tag, v.pay⟩
      ∧ s.sameBut t (pa / 4) ∧ t.regs = s.regs ∧ t.host = { s.host with cpl := some .posted } ∧ t = s.moved t)
    ∧ (s.bar2At f w false pa → s.performs 34 pa = true → decodeContainer (s.cont (pa / 4)) = .clean x →
        ∃ t, exec (.bar2Access f a (.rd 8)) s = .next t ∧ t.host = { s.host with cpl := some (.data (winBytes x)) }
          ∧ t.regs = s.regs ∧ t.mem = s.mem ∧ t = s.moved t)
    ∧ (s.bar2At f w true pa → ∀ bs : List (Option (BitVec 8)), bs.length = 8 → (bs.take 7).any (·.isSome) = true →
        (bs.take 7).any (·.isNone) = true → ∃ t, exec (.bar2Access f a (.wr bs)) s = .next t
        ∧ t.flag (R.FN_STAT f) F.FN_STAT_PARTW = true ∧ t.host.cpl = some .posted
        ∧ (s.flag (R.FN_STAT f) F.FN_STAT_PARTW = false → t.isPending (736 + f) = true)
        ∧ t = { s with regs := t.regs, cores := t.cores, host := { s.host with cpl := t.host.cpl }, cairn := t.cairn }))
  ∧ (∀ (f : Fin 16) (a : BitVec 33) (op : PciOp) (w : Nat) (s : State), a.toNat = 8 * w →
      (op = .rd 8 ∨ ∃ bs, op = .wr bs ∧ bs.length = 8) →
      (s.flag R.HOST_CTL F.HOST_CTL_OPEN = true → (f = 0 ∨ f.val ≤ s.fld R.HOST_CTL F.HOST_CTL_TOTVF) →
        (s.flag (R.FN_SEG f (w / 2 ^ 26)) F.FN_SEG_V = false
          ∨ s.flag (R.FN_SEG f (w / 2 ^ 26)) (match op with | .rd _ => F.FN_SEG_RD | .wr _ => F.FN_SEG_WR) = false) →
        s.cairn.queue.length ≤ 200 → ∃ t, exec (.bar2Access f a op) s = .next t
          ∧ s.barFailure t f a.toNat (match op with | .rd _ => .unsupported | .wr _ => .posted))
      ∧ (s.flag R.HOST_CTL F.HOST_CTL_OPEN = false → (f ≠ 0 ∨ 2 ^ 26 ≤ w) → s.cairn.queue.length ≤ 200 →
        ∃ t, exec (.bar2Access f a op) s = .next t
          ∧ t.host.cpl = some (match op with | .rd _ => .unsupported | .wr _ => .posted)
          ∧ (∀ k, k ≠ R.HOST_ERRCNT → t.reg k = s.reg k)
          ∧ t = { s with regs := t.regs, host := t.host, cairn := t.cairn, fresh := t.fresh })
      ∧ (s.flag R.HOST_CTL F.HOST_CTL_OPEN = false → (f ≠ 0 ∨ (4 * w ≠ R.HOST_LINK ∧ 4 * w ≠ R.HOST_BOOT)) →
        s.cairn.queue.length ≤ 200 → ∃ t, exec (.bar0Access f a op) s = .next t
          ∧ t.host.cpl = some (match op with | .rd _ => .unsupported | .wr _ => .posted)
          ∧ (∀ k, k ≠ R.HOST_ERRCNT → t.reg k = s.reg k)
          ∧ t.fld R.HOST_ERRCNT F.HOST_ERRCNT_ERRCNT
            = (s.fld R.HOST_ERRCNT F.HOST_ERRCNT_ERRCNT + 1) % 2 ^ F.HOST_ERRCNT_ERRCNT.w
          ∧ t = { s with regs := t.regs, host := t.host, cairn := t.cairn, fresh := t.fresh }))
  ∧ (∀ (f : Fin 16) (a : BitVec 33) (w off : Nat) (v : Payload) (tg b7 : BitVec 8) (r : Ans) (s u : State), a.toNat = 8 * w →
      s.flag R.HOST_CTL F.HOST_CTL_OPEN = true →
      ((f = 0 ∧ w < 0x1000000 ∧ off = 4 * w)
        ∨ (f ≠ 0 ∧ f.val ≤ s.fld R.HOST_CTL F.HOST_CTL_TOTVF ∧ w < 0x1000 ∧ off = R.FN_CFG f + 4 * w)) →
      let lv := if f = 0 then lvlOf (s.fld R.HOST_CTL F.HOST_CTL_PFLVL) else Level.u
      (bus 34 lv (0x300_0000_0000 + off) .rd s = (.done r, u) → r.st = .ok →
        exec (.bar0Access f a (.rd 8)) s = .next { u with host := { u.host with cpl := some (.data (winBytes r.w)) } })
      ∧ (bus 34 lv (0x300_0000_0000 + off) (.wr (Word.raw v)) s = (.done r, u) →
        (r.st = .ok → exec (.bar0Access f a (allOf (bytesOf v.toNat 6 ++ [tg, b7]))) s
          = .next { u with host := { u.host with cpl := some .posted } })
        ∧ (r.st ≠ .ok → u.cairn.queue.length ≤ 200 →
          ∃ t, exec (.bar0Access f a (allOf (bytesOf v.toNat 6 ++ [tg, b7]))) s = .next t ∧ u.barFailure t f a.toNat .posted)))
  ∧ (∀ (f : Fin 16) (a : BitVec 33) (k : Nat) (bs : List (BitVec 8)) (s : State), k < 64 → bs.length = 4 → k % 4 ≠ 3 →
      s.flag R.HOST_CTL F.HOST_CTL_OPEN = true → (f = 0 ∨ f.val ≤ s.fld R.HOST_CTL F.HOST_CTL_TOTVF) →
      a.toNat = (if f = 0 then 0x8000000 else 0x8000) + 4 * k →
      ∃ t, exec (.bar0Access f a (allOf bs)) s = .next t
        ∧ (t.hostFn f).msixAt k = BitVec.ofNat 32 (numOf bs) ∧ (∀ j, j ≠ k → (t.hostFn f).msixAt j = (s.hostFn f).msixAt j)
        ∧ exec (.bar0Access f a (.rd 4)) t = .next { t with host := { t.host with cpl := some (.data bs) } })

/-- R607 to R610, R616, R617, R636 and R688. -/
def Obligations.HostRings : Prop :=
  (∀ (f : Fin 16) (v : Payload) (s : State) (p cons prod len : Nat), p = v.toNat % 2 ^ 16 →
    cons = s.fld (R.FN_SQIDX f) F.FN_SQIDX_CONS → prod = s.fld (R.FN_SQIDX f) F.FN_SQIDX_PROD →
    len = ringOf (s.fld (R.FN_CFG f) F.FN_CFG_SQLOG2) →
    (len < (p + 2 ^ 16 - cons) % 2 ^ 16 → s.cairn.queue.length ≤ 200 → ∃ t, exec (.sqdb f v) s = .next t
      ∧ t.flag (R.FN_STAT f) F.FN_STAT_DBERR = true ∧ t.reg (R.FN_SQIDX f) = s.reg (R.FN_SQIDX f)
      ∧ (s.flag (R.FN_STAT f) F.FN_STAT_DBERR = false → t.isPending (736 + f) = true)
      ∧ t.fld R.HOST_ERRCNT F.HOST_ERRCNT_ERRCNT = (s.fld R.HOST_ERRCNT F.HOST_ERRCNT_ERRCNT + 1) % 2 ^ F.HOST_ERRCNT_ERRCNT.w
      ∧ t = { s with regs := t.regs, cores := t.cores, cairn := t.cairn })
    ∧ ((p + 2 ^ 16 - cons) % 2 ^ 16 ≤ len → (p + 2 ^ 16 - prod) % 2 ^ 16 < 2 ^ 15 →
      exec (.sqdb f v) s = .next (s.setFld (R.FN_SQIDX f) F.FN_SQIDX_PROD p))
    ∧ ((p + 2 ^ 16 - cons) % 2 ^ 16 ≤ len → 2 ^ 15 ≤ (p + 2 ^ 16 - prod) % 2 ^ 16 → exec (.sqdb f v) s = .next s))
  ∧ (∀ (f : Fin 16) (v : Payload) (s : State) (p cons prod : Nat), p = v.toNat % 2 ^ 16 →
      cons = s.fld (R.FN_CQIDX f) F.FN_CQIDX_CONS → prod = s.fld (R.FN_CQIDX f) F.FN_CQIDX_PROD →
      ((p + 2 ^ 16 - cons) % 2 ^ 16 ≤ (prod + 2 ^ 16 - cons) % 2 ^ 16 →
        exec (.cqdb f v) s = .next (s.setFld (R.FN_CQIDX f) F.FN_CQIDX_CONS p))
      ∧ ((prod + 2 ^ 16 - cons) % 2 ^ 16 < (p + 2 ^ 16 - cons) % 2 ^ 16 → ∃ t, exec (.cqdb f v) s = .next t
        ∧ t.flag (R.FN_STAT f) F.FN_STAT_DBERR = true ∧ t.reg (R.FN_CQIDX f) = s.reg (R.FN_CQIDX f)
        ∧ t = { s with regs := t.regs, cores := t.cores, cairn := t.cairn }))
  ∧ (∀ (f : Fin 16) (v : Payload) (s : State),
      (s.flag (R.FN_CFG f) F.FN_CFG_EN = false → ∃ t, exec (.fnCfgEnable f v) s = .next t
        ∧ t.flag (R.FN_CFG f) F.FN_CFG_EN = true ∧ t.reg (R.FN_SQIDX f) = 0 ∧ t.reg (R.FN_CQIDX f) = 0
        ∧ t.fld (R.FN_CFG f) F.FN_CFG_SQLOG2 = bits v.toNat F.FN_CFG_SQLOG2.lo F.FN_CFG_SQLOG2.w
        ∧ (∀ k, k ≠ R.FN_CFG f → k ≠ R.FN_SQIDX f → k ≠ R.FN_CQIDX f → t.reg k = s.reg k) ∧ t = { s with regs := t.regs })
      ∧ (s.flag (R.FN_CFG f) F.FN_CFG_EN = true → ∃ t, exec (.fnCfgEnable f v) s = .next t
        ∧ t.flag (R.FN_STAT f) F.FN_STAT_STERR = true ∧ t.reg (R.FN_CFG f) = s.reg (R.FN_CFG f)
        ∧ t.reg (R.FN_SQIDX f) = s.reg (R.FN_SQIDX f) ∧ t = { s with regs := t.regs, cairn := t.cairn }))
  ∧ (∀ (f i : Fin 16) (s : State), (s.fld R.HOST_CTL F.HOST_CTL_TOTVF < f → exec (.flr f) s = .next s)
      ∧ (f.val ≤ s.fld R.HOST_CTL F.HOST_CTL_TOTVF → ∃ t, exec (.flr f) s = .next t
        ∧ ((i = f ∨ (f = 0 ∧ i.val ≤ s.fld R.HOST_CTL F.HOST_CTL_TOTVF)) →
            t.hostFn i = {} ∧ t.flag (R.FN_CFG i) F.FN_CFG_EN = false ∧ t.reg (R.FN_SQIDX i) = 0 ∧ t.reg (R.FN_CQIDX i) = 0
            ∧ t.reg (R.FN_MBOX i) = 0 ∧ t.flag (R.FN_STAT i) F.FN_STAT_FLR = true ∧ t.isPending (736 + i) = true
            ∧ (∀ a, s.sec.att = some a → a.who = .cmd i → t.sec.att = none))
        ∧ (i ≠ f → f ≠ 0 → t.hostFn i = s.hostFn i ∧ t.reg (R.FN_CFG i) = s.reg (R.FN_CFG i)
            ∧ t.reg (R.FN_SQIDX i) = s.reg (R.FN_SQIDX i))
        ∧ (∀ r, s.host.run = some r → t.host.run = if r.f = f ∨ (f = 0 ∧ r.f ≤ s.fld R.HOST_CTL F.HOST_CTL_TOTVF) then none
            else some r)
        ∧ (∀ k, k < 16 → t.reg (R.FN_SEG i k) = s.reg (R.FN_SEG i k))
        ∧ t = { s with regs := t.regs, cores := t.cores, host := t.host, sec := t.sec, cairn := t.cairn })
      ∧ ∃ t, exec .perst s = .next t ∧ t.reg R.HOST_LINK = 0 ∧ t.flag (R.FN_CFG i) F.FN_CFG_EN = false
        ∧ t.reg (R.FN_SQIDX i) = 0 ∧ t.hostFn 0 = {} ∧ (∀ k, k < 16 → t.reg (R.FN_SEG i k) = s.reg (R.FN_SEG i k))
        ∧ t = { s with regs := t.regs, cores := t.cores, host := t.host, sec := t.sec, cairn := t.cairn })
  ∧ (∀ (f : Fin 16) (v : Payload) (k : Nat) (s : State), k = v.toNat % 16 →
      ((((s.hostFn f).msixAt (4 * k + 3)).getLsbD 0 = true) → ∃ t, exec (.msigen f v) s = .next t
        ∧ (t.hostFn f).pba.getLsbD k = true ∧ (∀ j, j < 16 → j ≠ k → (t.hostFn f).pba.getLsbD j = (s.hostFn f).pba.getLsbD j)
        ∧ t.host.msi = s.host.msi ∧ t = { s with host := t.host })
      ∧ (((s.hostFn f).msixAt (4 * k + 3)).getLsbD 0 = false → ∃ t, exec (.msigen f v) s = .next t
        ∧ t.host.msi = some {
            f := f
            v := k
            data := (s.hostFn f).msixAt (4 * k + 2)
            addr := (s.hostFn f).msixAt (4 * k + 1) ++ (s.hostFn f).msixAt (4 * k) }
        ∧ (t.hostFn f).pba.getLsbD k = false ∧ t = { s with host := t.host })
      ∧ (∃ t, exec (.mbdb f) s = .next t ∧ t.isPending (736 + f) = true ∧ t = { s with regs := t.regs, cores := t.cores }))
  ∧ (∀ (up : Bool) (rate : BitVec 3) (width : BitVec 5) (s : State), ∃ t, exec (.pcieLinkChange up rate width) s = .next t
      ∧ t.regN R.HOST_LINK = (if up then 1 + 2 * rate.toNat + 16 * width.toNat else 0)
      ∧ (∀ k, k ≠ R.HOST_LINK → t.reg k = s.reg k) ∧ t = { s with regs := t.regs })
  ∧ (∀ s : State, (s.sec.boot = .waitGo → s.sec.go = false → ∃ t, exec .hostBootGo s = .next t
        ∧ t.flag R.HOST_BOOT F.HOST_BOOT_WAITING = false ∧ t.sec = { s.sec with go := true }
        ∧ t = { s with regs := t.regs, sec := t.sec })
      ∧ (s.sec.boot ≠ .waitGo → ∃ t, exec .hostBootGo s = .next t ∧ t.flag (R.FN_STAT 0) F.FN_STAT_STERR = true
        ∧ t.sec = s.sec ∧ t = { s with regs := t.regs, cairn := t.cairn }))

/-- R611 to R615, R630 and R631. -/
def Obligations.HostCommands : Prop :=
  (∀ (f : Fin 16) (ws : List Word) (x : Cmd) (s : State), s.commandAt f ws → s.cqTakes f → x = ⟨ws⟩ →
    x.cev = false → (∀ e ∈ (s.hostFn f).hist, e.id ≠ x.id) →
    (x.good = false → ∀ i, (x.op = 0 ∧ i = Instr.commandNop f ∨ x.op = 1 ∧ i = .commandCopy f ∨ x.op = 2 ∧ i = .commandFill f
        ∨ x.op = 3 ∧ i = .commandAttest f ∨ 4 ≤ x.op ∧ i = .commandReserved f) → ∃ t, exec i s = .next t
      ∧ s.completed t f x.id 1 0 0 false ∧ s.memBut t ((List.range 4).map fun i => s.cqAt f + 4 * i))
    ∧ (x.good = true → x.op = 0 → ∃ t, exec (.commandNop f) s = .next t ∧ s.completed t f x.id 0 0 0 false
      ∧ s.memBut t ((List.range 4).map fun i => s.cqAt f + 4 * i))
    ∧ (x.good = true → 4 ≤ x.op → ∃ t, exec (.commandReserved f) s = .next t ∧ s.completed t f x.id 1 0 0 false
      ∧ s.memBut t ((List.range 4).map fun i => s.cqAt f + 4 * i))
    ∧ (x.good = true → x.op = 1 → ∀ src : Nat → Word, (∀ i, i < x.len →
          s.performs 34 (x.src + 4 * i) = true ∧ s.performs 34 (x.dst + 4 * i) = true
          ∧ decodeContainer (s.cont ((x.src + 4 * i) / 4)) = .clean (src i)
          ∧ (∀ j, j < 4 → x.dst + 4 * i ≠ s.cqAt f + 4 * j) ∧ ∀ j, j < x.len → x.dst + 4 * i ≠ x.src + 4 * j) →
        ∃ t, exec (.commandCopy f) s = .next t ∧ s.completed t f x.id 0 0 x.len false
          ∧ (∀ i, i < x.len → t.cont ((x.dst + 4 * i) / 4) = encodeWord (src i))
          ∧ s.memBut t (((List.range 4).map fun i => s.cqAt f + 4 * i) ++ (List.range x.len).map fun i => x.dst + 4 * i))
    ∧ (x.good = true → x.op = 2 → (∀ i, i < x.len → s.performs 34 (x.dst + 4 * i) = true
          ∧ ∀ j, j < 4 → x.dst + 4 * i ≠ s.cqAt f + 4 * j) →
        ∃ t, exec (.commandFill f) s = .next t ∧ s.completed t f x.id 0 0 x.len false
          ∧ (∀ i, i < x.len → t.cont ((x.dst + 4 * i) / 4) = encodeWord (ws.getD 6 Word.uni0))
          ∧ s.memBut t (((List.range 4).map fun i => s.cqAt f + 4 * i) ++ (List.range x.len).map fun i => x.dst + 4 * i))
    ∧ (x.good = true → x.op = 3 → reportFits x.dst = true →
        (s.flag R.SEC_ATT F.SEC_ATT_BUSY = true → ∃ t, exec (.commandAttest f) s = .next t
          ∧ t.regs = s.regs ∧ t.mem = s.mem ∧ t.host = s.host ∧ t = s.moved t)
        ∧ (s.flag R.SEC_ATT F.SEC_ATT_BUSY = false → ∃ t, exec (.commandAttest f) s = .next t
          ∧ t.flag R.SEC_ATT F.SEC_ATT_BUSY = true ∧ t.flag (R.FN_STAT f) F.FN_STAT_BUSY = true
          ∧ (∀ k, k ≠ R.SEC_ATT → k ≠ R.FN_STAT f → t.reg k = s.reg k) ∧ t.mem = s.mem ∧ t.host = s.host
          ∧ t.sec = { s.sec with att := some ⟨.cmd f, BitVec.ofNat 42 x.dst, (x.c 6).pay, (x.c 7).pay, x.id, false⟩ }
          ∧ t = { s.moved t with sec := t.sec })))
  ∧ (∀ (f : Fin 16) (r : HostRun) (s : State), s.host.run = some r → r.f = f → r.compl = none → r.done ≤ Cmd.len ⟨r.ws⟩ →
      s.cqTakes f → ∀ x : Cmd, x = ⟨r.ws⟩ → x.cev = false →
      (r.op = 2 → (∀ i, r.done ≤ i → i < x.len → s.performs 34 (x.dst + 4 * i) = true ∧ (x.dst + 4 * i) % 4 = 0
          ∧ ∀ j, j < 4 → x.dst + 4 * i ≠ s.cqAt f + 4 * j) → ∃ t, exec (.commandFill f) s = .next t
        ∧ (∀ i, r.done ≤ i → i < x.len → t.cont ((x.dst + 4 * i) / 4) = encodeWord (x.c 6)) ∧ t.host.run = none
        ∧ t.cont (s.cqAt f / 4 + 3) = encodeWord (Word.int (BitVec.ofNat 48 x.len))
        ∧ s.memBut t (((List.range 4).map fun i => s.cqAt f + 4 * i)
            ++ (List.range (x.len - r.done)).map fun i => x.dst + 4 * (r.done + i)) ∧ t = s.moved t)
      ∧ (r.op ≠ 1 → exec (.commandCopy f) s = .next s) ∧ (r.op ≠ 2 → exec (.commandFill f) s = .next s))
  ∧ (∀ (f : Fin 16) (ws : List Word) (x : Cmd) (e : HistEnt) (s : State), s.commandAt f ws → s.cqTakes f → x = ⟨ws⟩ →
      x.cev = false → x.id ≠ 0 → (s.hostFn f).hist.find? (·.id == x.id) = some e →
      ∀ i, (x.op = 0 ∧ i = Instr.commandNop f ∨ x.op = 1 ∧ i = .commandCopy f ∨ x.op = 2 ∧ i = .commandFill f
        ∨ x.op = 3 ∧ i = .commandAttest f ∨ 4 ≤ x.op ∧ i = .commandReserved f) → ∃ t, exec i s = .next t
      ∧ s.completed t f x.id e.st e.jst e.done true ∧ s.memBut t ((List.range 4).map fun i => s.cqAt f + 4 * i))
  ∧ (∀ (a : Attest) (s : State), s.sec.att = some a → a.who = .reg → reportFits a.dst.toNat = true →
      s.fld R.SEC_BOOT F.SEC_BOOT_CODE ≠ 11 → a.dst.toNat % 4 = 0 →
      (∀ i, i < 46 → s.performs 35 (a.dst.toNat + 4 * i) = true) → ∃ t, exec .attestDone s = .next t
        ∧ t.flag R.SEC_ATT F.SEC_ATT_BUSY = false ∧ t.flag R.SEC_ATT F.SEC_ATT_DONE = true ∧ t.isPending 752 = true
        ∧ t.sec = { s.sec with att := none }
        ∧ t.cont (a.dst.toNat / 4 + 1) = encodeWord (Word.raw a.n0) ∧ t.cont (a.dst.toNat / 4 + 2) = encodeWord (Word.raw a.n1)
        ∧ (∀ j, j < 11 → t.cont (a.dst.toNat / 4 + 3 + j) = encodeWord (Word.raw (s.reg (R.SEC_IDIG j)))
            ∧ t.cont (a.dst.toNat / 4 + 14 + j) = encodeWord (Word.raw (s.reg (R.UC_PDIG j))))
        ∧ t.cont (a.dst.toNat / 4 + 26) = encodeWord (Word.int (BitVec.ofNat 48 s.tick))
        ∧ (∀ j, j < 19 → t.cont (a.dst.toNat / 4 + 27 + j) = encodeWord (Word.raw (BitVec.ofNat 48 (numOf
            (((ed448Sign s.idKey attContext ((attestBody a s).flatMap winBytes)).drop (6 * j)).take 6)))))
        ∧ s.memBut t ((List.range 46).map fun i => a.dst.toNat + 4 * i)
        ∧ t = { s.stores t with sec := t.sec })

/-- R617, R621, R626 to R630, R632 to R634 and R637. -/
def Obligations.BootAndSecurity : Prop :=
  (∀ (tr : BitVec 6) (fl : Bool) (fm : BitVec 16) (sr : BitVec 4) (good : Bool) (s : State), s.sec.boot = .notRun →
    s.mlock = false →
    (∃ t, exec (.bootRom false tr fl fm sr good) s = .next t ∧ t.sec.boot = .halted ∧ t.mlock = true
      ∧ t.fld R.SEC_BOOT F.SEC_BOOT_CODE = 11 ∧ ∀ j, j < 11 → t.reg (R.UC_PDIG j) = s.reg (R.UC_PDIG j))
    ∧ ((∃ k, k < 6 ∧ tr.getLsbD k = false ∧ s.flag (R.HBM_STAT k) F.HBM_STAT_TRAINED = false) →
      ∃ t, exec (.bootRom true tr fl fm sr good) s = .next t ∧ t.sec.boot = .halted ∧ t.mlock = true
        ∧ t.fld R.SEC_BOOT F.SEC_BOOT_CODE = 10)
    ∧ (tr = 0x3F → s.sec.bootsel = 1 → ∃ t, exec (.bootRom true tr fl fm sr good) s = .next t ∧ t.sec.boot = .waitGo
        ∧ t.mlock = false ∧ t.flag R.HOST_BOOT F.HOST_BOOT_WAITING = true ∧ t.fld R.SEC_BOOT F.SEC_BOOT_SRC = 2
        ∧ (∀ k, k < 6 → t.flag (R.HBM_STAT k) F.HBM_STAT_TRAINED = true)
        ∧ (∀ j, j < 10 → t.regN (R.SEC_IDPUB j) = numOf (((ed448Public s.idKey).drop (6 * j)).take 6) % 2 ^ 48)
        ∧ t.mem = s.mem))
  ∧ (∀ (test : Bool) (tr : BitVec 6) (fl : Bool) (fm : BitVec 16) (sr : BitVec 4) (good : Bool) (c : Nat)
      (h : List Word) (s u v : State),
      (s.sec.boot = .halted ∨ s.sec.boot = .released ∨ (s.sec.boot = .waitGo ∧ s.sec.go = false) →
        exec (.bootRom test tr fl fm sr good) s = .next s)
      ∧ (s.sec.boot = .waitGo → s.sec.go = true → verifyStep s = .fail c u → ∃ t,
        exec (.bootRom test tr fl fm sr good) s = .next t ∧ t.sec = { u.sec with boot := .waitGo, go := false }
        ∧ t.flag R.HOST_BOOT F.HOST_BOOT_WAITING = true ∧ t.fld R.SEC_BOOT F.SEC_BOOT_CODE = c % 2 ^ F.SEC_BOOT_CODE.w)
      ∧ (s.sec.boot = .waitGo → s.sec.go = true → verifyStep s = .ok u →
        bootImage ⟨test, tr, fl, fm, sr, good⟩ { u with sec := { u.sec with go := false } } = .ok v →
        exec (.bootRom test tr fl fm sr good) s = .next v ∧ v.sec.boot = .released ∧ v.mlock = true
        ∧ v.flag R.HOST_CTL F.HOST_CTL_OPEN = true ∧ v.flag R.SEC_BOOT F.SEC_BOOT_OK = true ∧ (v.core 0).inRom = false
        ∧ (v.core 0).stat = 2 ∧ (v.core 0).statPend = [])
      ∧ (bits (hdr h 0) 0 48 ≠ 0x5A4E5354 → verifyCode h s = some 1))
  ∧ (∀ (m : Fin 48) (lv : Level) (v : Payload) (s : State),
      (lv ≠ .m → ∀ p ∈ [(Instr.mlockSet m lv, R.SEC_LOCK), (.csgo m lv v, R.SEC_CSGO), (.attGo m lv, R.SEC_ATT)],
        exec p.1 s = .next (logCairn .security 0x06 [⟨26, p.2⟩, ⟨6, m⟩] s))
      ∧ (lv = .m → s.mlock = true → exec (.mlockSet m lv) s = .next s)
      ∧ (lv = .m → s.mlock = false → ∃ t, exec (.mlockSet m lv) s = .next t ∧ t.mlock = true
        ∧ t.flag R.UC_STAT F.UC_STAT_LOCKED = true
        ∧ (∀ j, j < 11 → t.regN (R.UC_PDIG j) = numOf (((shake256 s.patchBytes 64).drop (6 * j)).take 6) % 2 ^ 48)
        ∧ t = { s with regs := t.regs })
      ∧ (lv = .m → (∀ n, n < 16 → v.getLsbD n = true → s.coreWaits n = true) → ∃ t, exec (.csgo m lv v) s = .next t
        ∧ (∀ n, n < 16 → if v.getLsbD n then (t.core n).inRom = false ∧ (t.core n).stat = 2
              ∧ (t.core n).pc = BitVec.ofNat 48 (s.fld R.SEC_CSPC F.SEC_CSPC_PC) ∧ (t.core n).srW 5 = srReset 5
            else t.core n = s.core n) ∧ t = { s with cores := t.cores })
      ∧ (lv = .m → (∃ n, n < 16 ∧ v.getLsbD n = true ∧ s.coreWaits n = false) →
        exec (.csgo m lv v) s = .next (logCairn .security 0x06 [⟨26, R.SEC_CSGO⟩, ⟨6, m⟩] s))
      ∧ (lv = .m → s.flag R.SEC_ATT F.SEC_ATT_BUSY = false → ∃ t, exec (.attGo m lv) s = .next t
        ∧ t.flag R.SEC_ATT F.SEC_ATT_BUSY = true
        ∧ t.sec = { s.sec with att := some ⟨.reg, (s.reg R.SEC_ATTDST).setWidth 42, s.reg (R.SEC_NONCE 0), s.reg (R.SEC_NONCE 1), 0, false⟩ } ∧ t = { s with regs := t.regs, sec := t.sec }))
  ∧ (∀ (ins : BitVec 16) (s : State) (av : Bool), av = (!s.fuses.dbgDis && (!s.mlock || s.flag R.SEC_DBG F.SEC_DBG_EN)) →
      (av = true → ∃ t, exec (.debugSessionOpen ins) s = .next t ∧ t.flag R.SEC_DBG F.SEC_DBG_ACTIVE = true
        ∧ t.dbg.locked = false ∧ (s.flag R.SEC_DBG F.SEC_DBG_ACTIVE = false → t.isPending 753 = true)
        ∧ t = { s with regs := t.regs, cores := t.cores, dbg := t.dbg })
      ∧ (av = false → exec (.debugSessionOpen ins) s
          = .next (logCairn .security 0x05 [⟨16, ins.toNat⟩] { s with dbg := { s.dbg with locked := true } }))
      ∧ (∃ t, exec .debugSessionClose s = .next t ∧ t.flag R.SEC_DBG F.SEC_DBG_ACTIVE = false
        ∧ (∀ k, k ≠ R.SEC_DBG → t.reg k = s.reg k) ∧ t = { s with regs := t.regs })
      ∧ (∃ t, exec .idcode s = .next t ∧ t.dbg.ins = .idcode ∧ bits t.dbg.tdo 12 16 = 0x4806 ∧ t.dbg.tdo % 2 = 1
        ∧ bits t.dbg.tdo 28 4 = s.fld R.ID1 F.ID1_STEPL % 16 ∧ t = { s with dbg := t.dbg })
      ∧ exec .bypass s = .next { s with dbg := { s.dbg with ins := .bypass, tdo := 0 } }
      ∧ (∃ t, exec .samplePreload s = .next t ∧ t.dbg.ins = .sample ∧ t = { s with dbg := t.dbg, fresh := t.fresh })
      ∧ exec .smbusReadBoot s = .next { s with dbg := { s.dbg with smbus := bytesOf (s.regN R.SEC_BOOT) 6 } }
      ∧ exec .smbusReadTemp s = .next { s with dbg := { s.dbg with smbus := ((List.range 6).map fun st =>
          BitVec.ofNat 8 (s.fld (R.HBM_STAT st) F.HBM_STAT_TEMP)) } }
      ∧ exec .smbusReadIdpub s = .next { s with dbg := { s.dbg with smbus :=
          ((List.range 10).flatMap fun j => bytesOf (s.regN (R.SEC_IDPUB j)) 6).take 57 } })

end
end

