-- ==== Sys2Proof/Laws/Tab.lean ====
section
/-! SUPPORT. The laws of the sparse tables: a read after a write, and the canonical form kept. -/

namespace Sys2Proof.Machine

variable {α : Type}

theorem tget_tdel_same (d : Nat → α) (t : Tab α) (k : Nat) : tget d (tdel t k) k = d k := by
  induction t with
  | nil => rfl
  | cons a t ih =>
    obtain ⟨i, v⟩ := a
    by_cases h : i = k <;> simp [tdel, tget, h, ih]

theorem tget_tdel_ne (d : Nat → α) (t : Tab α) {k j : Nat} (h : j ≠ k) :
    tget d (tdel t k) j = tget d t j := by
  induction t with
  | nil => rfl
  | cons a t ih =>
    obtain ⟨i, v⟩ := a
    by_cases hi : i = k
    · subst hi
      simp [tdel, tget, ih, Ne.symm h]
    · rcases eq_or_ne i j with rfl | hj
      · simp [tdel, tget, hi]
      · simp [tdel, tget, hi, hj, ih]

theorem tget_tins_ne (d : Nat → α) (t : Tab α) {k j : Nat} (v : α) (h : j ≠ k) :
    tget d (tins t k v) j = tget d t j := by
  induction t with
  | nil => simp [tins, tget, Ne.symm h]
  | cons a t ih =>
    obtain ⟨i, u⟩ := a
    by_cases hk : k < i
    · simp [tins, tget, hk, Ne.symm h]
    · rcases eq_or_ne i j with rfl | hj
      · simp [tins, tget, hk]
      · simp [tins, tget, hk, hj, ih]

theorem tget_tins_tdel (d : Nat → α) (t : Tab α) (k : Nat) (v : α) :
    tget d (tins (tdel t k) k v) k = v := by
  induction t with
  | nil => simp [tdel, tins, tget]
  | cons a t ih =>
    obtain ⟨i, u⟩ := a
    by_cases hi : i = k
    · simp [tdel, hi, ih]
    · by_cases hk : k < i <;> simp [tdel, tins, tget, hi, hk, ih]

theorem tdel_tdel (t : Tab α) (k : Nat) : tdel (tdel t k) k = tdel t k := by
  induction t with
  | nil => rfl
  | cons x t ih =>
    obtain ⟨i, v⟩ := x
    by_cases h : i = k <;> simp [tdel, h, ih]

theorem tdel_tins (t : Tab α) (k : Nat) (v : α) : tdel (tins t k v) k = tdel t k := by
  induction t with
  | nil => simp [tins, tdel]
  | cons x t ih =>
    obtain ⟨i, u⟩ := x
    by_cases hk : k < i
    · simp [tins, tdel, hk]
    · by_cases hi : i = k <;> simp [tins, tdel, hk, hi, ih]

variable [DecidableEq α]

/-- The later of two writes of one key holds. -/
@[simp] theorem tset_tset_same (d : Nat → α) (t : Tab α) (k : Nat) (u v : α) :
    tset d (tset d t k u) k v = tset d t k v := by
  have h : tdel (tset d t k u) k = tdel t k := by
    unfold tset
    split <;> simp [tdel_tins, tdel_tdel]
  unfold tset at h ⊢
  rw [h]

/-- A read after a write to the same key gives the value written. -/
@[simp] theorem tget_tset_same (d : Nat → α) (t : Tab α) (k : Nat) (v : α) :
    tget d (tset d t k v) k = v := by
  by_cases h : v = d k
  · simp [tset, h, tget_tdel_same]
  · simp [tset, h, tget_tins_tdel]

/-- A write leaves every other key alone. -/
theorem tget_tset_ne (d : Nat → α) (t : Tab α) {k j : Nat} (v : α) (h : j ≠ k) :
    tget d (tset d t k v) j = tget d t j := by
  by_cases hv : v = d k
  · simp [tset, hv, tget_tdel_ne d t h]
  · simp [tset, hv, tget_tins_ne d _ v h, tget_tdel_ne d t h]

/-- The read after a write, both cases. -/
theorem tget_tset (d : Nat → α) (t : Tab α) (k j : Nat) (v : α) :
    tget d (tset d t k v) j = if j = k then v else tget d t j := by
  by_cases h : j = k
  · subst h; simp
  · simp [h, tget_tset_ne d t v h]

theorem twfFrom_mono (d : Nat → α) (t : Tab α) {a b : Nat} (h : a ≤ b)
    (w : twfFrom d b t = true) : twfFrom d a t = true := by
  cases t with
  | nil => rfl
  | cons x t =>
    simp only [twfFrom, Bool.and_eq_true, decide_eq_true_eq] at w ⊢
    exact ⟨⟨le_trans h w.1.1, w.1.2⟩, w.2⟩

theorem twfFrom_tdel (d : Nat → α) (t : Tab α) (k : Nat) :
    ∀ lo, twfFrom d lo t = true → twfFrom d lo (tdel t k) = true := by
  induction t with
  | nil => intro lo h; exact h
  | cons x t ih =>
    intro lo w
    obtain ⟨i, v⟩ := x
    simp only [twfFrom, Bool.and_eq_true, decide_eq_true_eq] at w
    by_cases hi : i = k
    · simp only [tdel, hi, if_true]
      exact twfFrom_mono d _ (by omega) (ih _ w.2)
    · simp only [tdel, hi, if_false, twfFrom, Bool.and_eq_true, decide_eq_true_eq]
      exact ⟨w.1, ih _ w.2⟩

theorem twfFrom_tins (d : Nat → α) (t : Tab α) (k : Nat) (v : α) (hv : v ≠ d k)
    (hk : tdel t k = t) :
    ∀ lo, lo ≤ k → twfFrom d lo t = true → twfFrom d lo (tins t k v) = true := by
  induction t with
  | nil => intro lo h _; simp [tins, twfFrom, h, hv]
  | cons x t ih =>
    intro lo hlo w
    obtain ⟨i, u⟩ := x
    have hne : i ≠ k := by
      intro e
      have hl : ∀ t : Tab α, (tdel t k).length ≤ t.length := by
        intro t
        induction t with
        | nil => simp [tdel]
        | cons y t ih2 =>
          obtain ⟨a, b⟩ := y
          by_cases ha : a = k <;> simp [tdel, ha] <;> omega
      have h2 := congrArg List.length hk
      simp only [tdel, e, if_true, List.length_cons] at h2
      have h3 := hl t
      omega
    have ht : tdel t k = t := by
      have h2 := hk
      simp only [tdel, hne, if_false, List.cons.injEq, true_and] at h2
      exact h2
    have w' := w
    simp only [twfFrom, Bool.and_eq_true, decide_eq_true_eq] at w'
    by_cases hlt : k < i
    · simp only [tins, hlt, if_true, twfFrom, Bool.and_eq_true, decide_eq_true_eq]
      exact ⟨⟨hlo, hv⟩, ⟨by omega, w'.1.2⟩, w'.2⟩
    · simp only [tins, hlt, if_false, twfFrom, Bool.and_eq_true, decide_eq_true_eq]
      exact ⟨w'.1, ih ht _ (by omega) w'.2⟩

/-- A write keeps the canonical form. -/
theorem twf_tset (d : Nat → α) (t : Tab α) (k : Nat) (v : α) (w : twf d t = true) :
    twf d (tset d t k v) = true := by
  unfold twf tset
  split
  · exact twfFrom_tdel d t k 0 w
  · rename_i h
    exact twfFrom_tins d _ k v h (tdel_tdel t k) 0 (Nat.zero_le _) (twfFrom_tdel d t k 0 w)

end Sys2Proof.Machine
end

