-- ==== Sys2Proof/Laws/State.lean ====
section
/-! SUPPORT. What each named update of the state gives each of its fields, so that no proof unfolds a record update. -/

namespace Sys2Proof.Machine

variable (s : State)

section setReg
variable (o : Nat) (v : BitVec 48)

@[simp] theorem State.setReg_pending : (s.setReg o v).pending = s.pending := (rfl)
@[simp] theorem State.setReg_fresh : (s.setReg o v).fresh = s.fresh := (rfl)
@[simp] theorem State.setReg_tick : (s.setReg o v).tick = s.tick := (rfl)
@[simp] theorem State.setReg_mem : (s.setReg o v).mem = s.mem := (rfl)
@[simp] theorem State.setReg_niche : (s.setReg o v).niche = s.niche := (rfl)
@[simp] theorem State.setReg_flash : (s.setReg o v).flash = s.flash := (rfl)
@[simp] theorem State.setReg_axes : (s.setReg o v).axes = s.axes := (rfl)
@[simp] theorem State.setReg_trav : (s.setReg o v).trav = s.trav := (rfl)
@[simp] theorem State.setReg_pins : (s.setReg o v).pins = s.pins := (rfl)
@[simp] theorem State.setReg_hbms : (s.setReg o v).hbms = s.hbms := (rfl)
@[simp] theorem State.setReg_thrFired : (s.setReg o v).thrFired = s.thrFired := (rfl)
@[simp] theorem State.setReg_chams : (s.setReg o v).chams = s.chams := (rfl)
@[simp] theorem State.setReg_marches : (s.setReg o v).marches = s.marches := (rfl)
@[simp] theorem State.setReg_junc : (s.setReg o v).junc = s.junc := (rfl)
@[simp] theorem State.setReg_sites : (s.setReg o v).sites = s.sites := (rfl)
@[simp] theorem State.setReg_gals : (s.setReg o v).gals = s.gals := (rfl)
@[simp] theorem State.setReg_moves : (s.setReg o v).moves = s.moves := (rfl)
@[simp] theorem State.setReg_cores : (s.setReg o v).cores = s.cores := (rfl)
@[simp] theorem State.setReg_clusters : (s.setReg o v).clusters = s.clusters := (rfl)
@[simp] theorem State.setReg_lanes : (s.setReg o v).lanes = s.lanes := (rfl)
@[simp] theorem State.setReg_link : (s.setReg o v).link = s.link := (rfl)
@[simp] theorem State.setReg_eths : (s.setReg o v).eths = s.eths := (rfl)
@[simp] theorem State.setReg_host : (s.setReg o v).host = s.host := (rfl)
@[simp] theorem State.setReg_fuses : (s.setReg o v).fuses = s.fuses := (rfl)
@[simp] theorem State.setReg_sec : (s.setReg o v).sec = s.sec := (rfl)
@[simp] theorem State.setReg_dbg : (s.setReg o v).dbg = s.dbg := (rfl)
@[simp] theorem State.setReg_cairn : (s.setReg o v).cairn = s.cairn := (rfl)
@[simp] theorem State.setReg_pf : (s.setReg o v).pf = s.pf := (rfl)
@[simp] theorem State.setReg_casc : (s.setReg o v).casc = s.casc := (rfl)
@[simp] theorem State.setReg_sys : (s.setReg o v).sys = s.sys := (rfl)
@[simp] theorem State.setReg_axis (k : Nat) : (s.setReg o v).axis k = s.axis k := (rfl)
@[simp] theorem State.setReg_hbm (k : Nat) : (s.setReg o v).hbm k = s.hbm k := (rfl)
@[simp] theorem State.setReg_march (k : Nat) : (s.setReg o v).march k = s.march k := (rfl)
@[simp] theorem State.setReg_site (k : Nat) : (s.setReg o v).site k = s.site k := (rfl)
@[simp] theorem State.setReg_gal (k : Nat) : (s.setReg o v).gal k = s.gal k := (rfl)
@[simp] theorem State.setReg_core (k : Nat) : (s.setReg o v).core k = s.core k := (rfl)
@[simp] theorem State.setReg_cluster (k : Nat) : (s.setReg o v).cluster k = s.cluster k := (rfl)
@[simp] theorem State.setReg_lane (k : Nat) : (s.setReg o v).lane k = s.lane k := (rfl)
@[simp] theorem State.setReg_eth (k : Nat) : (s.setReg o v).eth k = s.eth k := (rfl)

end setReg

section setRegN
variable (o v : Nat)

@[simp] theorem State.setRegN_pending : (s.setRegN o v).pending = s.pending := (rfl)
@[simp] theorem State.setRegN_fresh : (s.setRegN o v).fresh = s.fresh := (rfl)
@[simp] theorem State.setRegN_tick : (s.setRegN o v).tick = s.tick := (rfl)
@[simp] theorem State.setRegN_mem : (s.setRegN o v).mem = s.mem := (rfl)
@[simp] theorem State.setRegN_niche : (s.setRegN o v).niche = s.niche := (rfl)
@[simp] theorem State.setRegN_flash : (s.setRegN o v).flash = s.flash := (rfl)
@[simp] theorem State.setRegN_axes : (s.setRegN o v).axes = s.axes := (rfl)
@[simp] theorem State.setRegN_trav : (s.setRegN o v).trav = s.trav := (rfl)
@[simp] theorem State.setRegN_pins : (s.setRegN o v).pins = s.pins := (rfl)
@[simp] theorem State.setRegN_hbms : (s.setRegN o v).hbms = s.hbms := (rfl)
@[simp] theorem State.setRegN_thrFired : (s.setRegN o v).thrFired = s.thrFired := (rfl)
@[simp] theorem State.setRegN_chams : (s.setRegN o v).chams = s.chams := (rfl)
@[simp] theorem State.setRegN_marches : (s.setRegN o v).marches = s.marches := (rfl)
@[simp] theorem State.setRegN_junc : (s.setRegN o v).junc = s.junc := (rfl)
@[simp] theorem State.setRegN_sites : (s.setRegN o v).sites = s.sites := (rfl)
@[simp] theorem State.setRegN_gals : (s.setRegN o v).gals = s.gals := (rfl)
@[simp] theorem State.setRegN_moves : (s.setRegN o v).moves = s.moves := (rfl)
@[simp] theorem State.setRegN_cores : (s.setRegN o v).cores = s.cores := (rfl)
@[simp] theorem State.setRegN_clusters : (s.setRegN o v).clusters = s.clusters := (rfl)
@[simp] theorem State.setRegN_lanes : (s.setRegN o v).lanes = s.lanes := (rfl)
@[simp] theorem State.setRegN_link : (s.setRegN o v).link = s.link := (rfl)
@[simp] theorem State.setRegN_eths : (s.setRegN o v).eths = s.eths := (rfl)
@[simp] theorem State.setRegN_host : (s.setRegN o v).host = s.host := (rfl)
@[simp] theorem State.setRegN_fuses : (s.setRegN o v).fuses = s.fuses := (rfl)
@[simp] theorem State.setRegN_sec : (s.setRegN o v).sec = s.sec := (rfl)
@[simp] theorem State.setRegN_dbg : (s.setRegN o v).dbg = s.dbg := (rfl)
@[simp] theorem State.setRegN_cairn : (s.setRegN o v).cairn = s.cairn := (rfl)
@[simp] theorem State.setRegN_pf : (s.setRegN o v).pf = s.pf := (rfl)
@[simp] theorem State.setRegN_casc : (s.setRegN o v).casc = s.casc := (rfl)
@[simp] theorem State.setRegN_sys : (s.setRegN o v).sys = s.sys := (rfl)
@[simp] theorem State.setRegN_axis (k : Nat) : (s.setRegN o v).axis k = s.axis k := (rfl)
@[simp] theorem State.setRegN_hbm (k : Nat) : (s.setRegN o v).hbm k = s.hbm k := (rfl)
@[simp] theorem State.setRegN_march (k : Nat) : (s.setRegN o v).march k = s.march k := (rfl)
@[simp] theorem State.setRegN_site (k : Nat) : (s.setRegN o v).site k = s.site k := (rfl)
@[simp] theorem State.setRegN_gal (k : Nat) : (s.setRegN o v).gal k = s.gal k := (rfl)
@[simp] theorem State.setRegN_core (k : Nat) : (s.setRegN o v).core k = s.core k := (rfl)
@[simp] theorem State.setRegN_cluster (k : Nat) : (s.setRegN o v).cluster k = s.cluster k := (rfl)
@[simp] theorem State.setRegN_lane (k : Nat) : (s.setRegN o v).lane k = s.lane k := (rfl)
@[simp] theorem State.setRegN_eth (k : Nat) : (s.setRegN o v).eth k = s.eth k := (rfl)

end setRegN

section setFld
variable (o : Nat) (f : Fld) (v : Nat)

@[simp] theorem State.setFld_pending : (s.setFld o f v).pending = s.pending := (rfl)
@[simp] theorem State.setFld_fresh : (s.setFld o f v).fresh = s.fresh := (rfl)
@[simp] theorem State.setFld_tick : (s.setFld o f v).tick = s.tick := (rfl)
@[simp] theorem State.setFld_mem : (s.setFld o f v).mem = s.mem := (rfl)
@[simp] theorem State.setFld_niche : (s.setFld o f v).niche = s.niche := (rfl)
@[simp] theorem State.setFld_flash : (s.setFld o f v).flash = s.flash := (rfl)
@[simp] theorem State.setFld_axes : (s.setFld o f v).axes = s.axes := (rfl)
@[simp] theorem State.setFld_trav : (s.setFld o f v).trav = s.trav := (rfl)
@[simp] theorem State.setFld_pins : (s.setFld o f v).pins = s.pins := (rfl)
@[simp] theorem State.setFld_hbms : (s.setFld o f v).hbms = s.hbms := (rfl)
@[simp] theorem State.setFld_thrFired : (s.setFld o f v).thrFired = s.thrFired := (rfl)
@[simp] theorem State.setFld_chams : (s.setFld o f v).chams = s.chams := (rfl)
@[simp] theorem State.setFld_marches : (s.setFld o f v).marches = s.marches := (rfl)
@[simp] theorem State.setFld_junc : (s.setFld o f v).junc = s.junc := (rfl)
@[simp] theorem State.setFld_sites : (s.setFld o f v).sites = s.sites := (rfl)
@[simp] theorem State.setFld_gals : (s.setFld o f v).gals = s.gals := (rfl)
@[simp] theorem State.setFld_moves : (s.setFld o f v).moves = s.moves := (rfl)
@[simp] theorem State.setFld_cores : (s.setFld o f v).cores = s.cores := (rfl)
@[simp] theorem State.setFld_clusters : (s.setFld o f v).clusters = s.clusters := (rfl)
@[simp] theorem State.setFld_lanes : (s.setFld o f v).lanes = s.lanes := (rfl)
@[simp] theorem State.setFld_link : (s.setFld o f v).link = s.link := (rfl)
@[simp] theorem State.setFld_eths : (s.setFld o f v).eths = s.eths := (rfl)
@[simp] theorem State.setFld_host : (s.setFld o f v).host = s.host := (rfl)
@[simp] theorem State.setFld_fuses : (s.setFld o f v).fuses = s.fuses := (rfl)
@[simp] theorem State.setFld_sec : (s.setFld o f v).sec = s.sec := (rfl)
@[simp] theorem State.setFld_dbg : (s.setFld o f v).dbg = s.dbg := (rfl)
@[simp] theorem State.setFld_cairn : (s.setFld o f v).cairn = s.cairn := (rfl)
@[simp] theorem State.setFld_pf : (s.setFld o f v).pf = s.pf := (rfl)
@[simp] theorem State.setFld_casc : (s.setFld o f v).casc = s.casc := (rfl)
@[simp] theorem State.setFld_sys : (s.setFld o f v).sys = s.sys := (rfl)
@[simp] theorem State.setFld_axis (k : Nat) : (s.setFld o f v).axis k = s.axis k := (rfl)
@[simp] theorem State.setFld_hbm (k : Nat) : (s.setFld o f v).hbm k = s.hbm k := (rfl)
@[simp] theorem State.setFld_march (k : Nat) : (s.setFld o f v).march k = s.march k := (rfl)
@[simp] theorem State.setFld_site (k : Nat) : (s.setFld o f v).site k = s.site k := (rfl)
@[simp] theorem State.setFld_gal (k : Nat) : (s.setFld o f v).gal k = s.gal k := (rfl)
@[simp] theorem State.setFld_core (k : Nat) : (s.setFld o f v).core k = s.core k := (rfl)
@[simp] theorem State.setFld_cluster (k : Nat) : (s.setFld o f v).cluster k = s.cluster k := (rfl)
@[simp] theorem State.setFld_lane (k : Nat) : (s.setFld o f v).lane k = s.lane k := (rfl)
@[simp] theorem State.setFld_eth (k : Nat) : (s.setFld o f v).eth k = s.eth k := (rfl)

end setFld

section bump
variable (o : Nat) (f : Fld) (n : Nat)

@[simp] theorem State.bump_pending : (s.bump o f n).pending = s.pending := (rfl)
@[simp] theorem State.bump_fresh : (s.bump o f n).fresh = s.fresh := (rfl)
@[simp] theorem State.bump_tick : (s.bump o f n).tick = s.tick := (rfl)
@[simp] theorem State.bump_mem : (s.bump o f n).mem = s.mem := (rfl)
@[simp] theorem State.bump_niche : (s.bump o f n).niche = s.niche := (rfl)
@[simp] theorem State.bump_flash : (s.bump o f n).flash = s.flash := (rfl)
@[simp] theorem State.bump_axes : (s.bump o f n).axes = s.axes := (rfl)
@[simp] theorem State.bump_trav : (s.bump o f n).trav = s.trav := (rfl)
@[simp] theorem State.bump_pins : (s.bump o f n).pins = s.pins := (rfl)
@[simp] theorem State.bump_hbms : (s.bump o f n).hbms = s.hbms := (rfl)
@[simp] theorem State.bump_thrFired : (s.bump o f n).thrFired = s.thrFired := (rfl)
@[simp] theorem State.bump_chams : (s.bump o f n).chams = s.chams := (rfl)
@[simp] theorem State.bump_marches : (s.bump o f n).marches = s.marches := (rfl)
@[simp] theorem State.bump_junc : (s.bump o f n).junc = s.junc := (rfl)
@[simp] theorem State.bump_sites : (s.bump o f n).sites = s.sites := (rfl)
@[simp] theorem State.bump_gals : (s.bump o f n).gals = s.gals := (rfl)
@[simp] theorem State.bump_moves : (s.bump o f n).moves = s.moves := (rfl)
@[simp] theorem State.bump_cores : (s.bump o f n).cores = s.cores := (rfl)
@[simp] theorem State.bump_clusters : (s.bump o f n).clusters = s.clusters := (rfl)
@[simp] theorem State.bump_lanes : (s.bump o f n).lanes = s.lanes := (rfl)
@[simp] theorem State.bump_link : (s.bump o f n).link = s.link := (rfl)
@[simp] theorem State.bump_eths : (s.bump o f n).eths = s.eths := (rfl)
@[simp] theorem State.bump_host : (s.bump o f n).host = s.host := (rfl)
@[simp] theorem State.bump_fuses : (s.bump o f n).fuses = s.fuses := (rfl)
@[simp] theorem State.bump_sec : (s.bump o f n).sec = s.sec := (rfl)
@[simp] theorem State.bump_dbg : (s.bump o f n).dbg = s.dbg := (rfl)
@[simp] theorem State.bump_cairn : (s.bump o f n).cairn = s.cairn := (rfl)
@[simp] theorem State.bump_pf : (s.bump o f n).pf = s.pf := (rfl)
@[simp] theorem State.bump_casc : (s.bump o f n).casc = s.casc := (rfl)
@[simp] theorem State.bump_sys : (s.bump o f n).sys = s.sys := (rfl)
@[simp] theorem State.bump_axis (k : Nat) : (s.bump o f n).axis k = s.axis k := (rfl)
@[simp] theorem State.bump_hbm (k : Nat) : (s.bump o f n).hbm k = s.hbm k := (rfl)
@[simp] theorem State.bump_march (k : Nat) : (s.bump o f n).march k = s.march k := (rfl)
@[simp] theorem State.bump_site (k : Nat) : (s.bump o f n).site k = s.site k := (rfl)
@[simp] theorem State.bump_gal (k : Nat) : (s.bump o f n).gal k = s.gal k := (rfl)
@[simp] theorem State.bump_core (k : Nat) : (s.bump o f n).core k = s.core k := (rfl)
@[simp] theorem State.bump_cluster (k : Nat) : (s.bump o f n).cluster k = s.cluster k := (rfl)
@[simp] theorem State.bump_lane (k : Nat) : (s.bump o f n).lane k = s.lane k := (rfl)
@[simp] theorem State.bump_eth (k : Nat) : (s.bump o f n).eth k = s.eth k := (rfl)

end bump

section setAxis
variable (n : Nat) (x : Axis)

@[simp] theorem State.setAxis_pending : (s.setAxis n x).pending = s.pending := (rfl)
@[simp] theorem State.setAxis_fresh : (s.setAxis n x).fresh = s.fresh := (rfl)
@[simp] theorem State.setAxis_tick : (s.setAxis n x).tick = s.tick := (rfl)
@[simp] theorem State.setAxis_regs : (s.setAxis n x).regs = s.regs := (rfl)
@[simp] theorem State.setAxis_mem : (s.setAxis n x).mem = s.mem := (rfl)
@[simp] theorem State.setAxis_niche : (s.setAxis n x).niche = s.niche := (rfl)
@[simp] theorem State.setAxis_flash : (s.setAxis n x).flash = s.flash := (rfl)
@[simp] theorem State.setAxis_trav : (s.setAxis n x).trav = s.trav := (rfl)
@[simp] theorem State.setAxis_pins : (s.setAxis n x).pins = s.pins := (rfl)
@[simp] theorem State.setAxis_hbms : (s.setAxis n x).hbms = s.hbms := (rfl)
@[simp] theorem State.setAxis_thrFired : (s.setAxis n x).thrFired = s.thrFired := (rfl)
@[simp] theorem State.setAxis_chams : (s.setAxis n x).chams = s.chams := (rfl)
@[simp] theorem State.setAxis_marches : (s.setAxis n x).marches = s.marches := (rfl)
@[simp] theorem State.setAxis_junc : (s.setAxis n x).junc = s.junc := (rfl)
@[simp] theorem State.setAxis_sites : (s.setAxis n x).sites = s.sites := (rfl)
@[simp] theorem State.setAxis_gals : (s.setAxis n x).gals = s.gals := (rfl)
@[simp] theorem State.setAxis_moves : (s.setAxis n x).moves = s.moves := (rfl)
@[simp] theorem State.setAxis_cores : (s.setAxis n x).cores = s.cores := (rfl)
@[simp] theorem State.setAxis_clusters : (s.setAxis n x).clusters = s.clusters := (rfl)
@[simp] theorem State.setAxis_lanes : (s.setAxis n x).lanes = s.lanes := (rfl)
@[simp] theorem State.setAxis_link : (s.setAxis n x).link = s.link := (rfl)
@[simp] theorem State.setAxis_eths : (s.setAxis n x).eths = s.eths := (rfl)
@[simp] theorem State.setAxis_host : (s.setAxis n x).host = s.host := (rfl)
@[simp] theorem State.setAxis_fuses : (s.setAxis n x).fuses = s.fuses := (rfl)
@[simp] theorem State.setAxis_sec : (s.setAxis n x).sec = s.sec := (rfl)
@[simp] theorem State.setAxis_dbg : (s.setAxis n x).dbg = s.dbg := (rfl)
@[simp] theorem State.setAxis_cairn : (s.setAxis n x).cairn = s.cairn := (rfl)
@[simp] theorem State.setAxis_pf : (s.setAxis n x).pf = s.pf := (rfl)
@[simp] theorem State.setAxis_casc : (s.setAxis n x).casc = s.casc := (rfl)
@[simp] theorem State.setAxis_sys : (s.setAxis n x).sys = s.sys := (rfl)
@[simp] theorem State.setAxis_axis (k : Nat) : (s.setAxis n x).axis k = if k = n then x else s.axis k :=
  tget_tset ..
@[simp] theorem State.setAxis_hbm (k : Nat) : (s.setAxis n x).hbm k = s.hbm k := (rfl)
@[simp] theorem State.setAxis_march (k : Nat) : (s.setAxis n x).march k = s.march k := (rfl)
@[simp] theorem State.setAxis_site (k : Nat) : (s.setAxis n x).site k = s.site k := (rfl)
@[simp] theorem State.setAxis_gal (k : Nat) : (s.setAxis n x).gal k = s.gal k := (rfl)
@[simp] theorem State.setAxis_core (k : Nat) : (s.setAxis n x).core k = s.core k := (rfl)
@[simp] theorem State.setAxis_cluster (k : Nat) : (s.setAxis n x).cluster k = s.cluster k := (rfl)
@[simp] theorem State.setAxis_lane (k : Nat) : (s.setAxis n x).lane k = s.lane k := (rfl)
@[simp] theorem State.setAxis_eth (k : Nat) : (s.setAxis n x).eth k = s.eth k := (rfl)
@[simp] theorem State.setAxis_reg (o : Nat) : (s.setAxis n x).reg o = s.reg o := (rfl)
@[simp] theorem State.setAxis_regN (o : Nat) : (s.setAxis n x).regN o = s.regN o := (rfl)
@[simp] theorem State.setAxis_fld (o : Nat) (f : Fld) : (s.setAxis n x).fld o f = s.fld o f := (rfl)
@[simp] theorem State.setAxis_flag (o : Nat) (f : Fld) : (s.setAxis n x).flag o f = s.flag o f := (rfl)

@[simp] theorem State.setAxis_setAxis (y) : (s.setAxis n x).setAxis n y = s.setAxis n y := by
  simp [State.setAxis]

theorem State.setAxis_rest : ∃ r, s.setAxis n x = { s with axes := r } := ⟨_, rfl⟩

end setAxis

section setHbm
variable (n : Nat) (x : Hbm)

@[simp] theorem State.setHbm_pending : (s.setHbm n x).pending = s.pending := (rfl)
@[simp] theorem State.setHbm_fresh : (s.setHbm n x).fresh = s.fresh := (rfl)
@[simp] theorem State.setHbm_tick : (s.setHbm n x).tick = s.tick := (rfl)
@[simp] theorem State.setHbm_regs : (s.setHbm n x).regs = s.regs := (rfl)
@[simp] theorem State.setHbm_mem : (s.setHbm n x).mem = s.mem := (rfl)
@[simp] theorem State.setHbm_niche : (s.setHbm n x).niche = s.niche := (rfl)
@[simp] theorem State.setHbm_flash : (s.setHbm n x).flash = s.flash := (rfl)
@[simp] theorem State.setHbm_axes : (s.setHbm n x).axes = s.axes := (rfl)
@[simp] theorem State.setHbm_trav : (s.setHbm n x).trav = s.trav := (rfl)
@[simp] theorem State.setHbm_pins : (s.setHbm n x).pins = s.pins := (rfl)
@[simp] theorem State.setHbm_thrFired : (s.setHbm n x).thrFired = s.thrFired := (rfl)
@[simp] theorem State.setHbm_chams : (s.setHbm n x).chams = s.chams := (rfl)
@[simp] theorem State.setHbm_marches : (s.setHbm n x).marches = s.marches := (rfl)
@[simp] theorem State.setHbm_junc : (s.setHbm n x).junc = s.junc := (rfl)
@[simp] theorem State.setHbm_sites : (s.setHbm n x).sites = s.sites := (rfl)
@[simp] theorem State.setHbm_gals : (s.setHbm n x).gals = s.gals := (rfl)
@[simp] theorem State.setHbm_moves : (s.setHbm n x).moves = s.moves := (rfl)
@[simp] theorem State.setHbm_cores : (s.setHbm n x).cores = s.cores := (rfl)
@[simp] theorem State.setHbm_clusters : (s.setHbm n x).clusters = s.clusters := (rfl)
@[simp] theorem State.setHbm_lanes : (s.setHbm n x).lanes = s.lanes := (rfl)
@[simp] theorem State.setHbm_link : (s.setHbm n x).link = s.link := (rfl)
@[simp] theorem State.setHbm_eths : (s.setHbm n x).eths = s.eths := (rfl)
@[simp] theorem State.setHbm_host : (s.setHbm n x).host = s.host := (rfl)
@[simp] theorem State.setHbm_fuses : (s.setHbm n x).fuses = s.fuses := (rfl)
@[simp] theorem State.setHbm_sec : (s.setHbm n x).sec = s.sec := (rfl)
@[simp] theorem State.setHbm_dbg : (s.setHbm n x).dbg = s.dbg := (rfl)
@[simp] theorem State.setHbm_cairn : (s.setHbm n x).cairn = s.cairn := (rfl)
@[simp] theorem State.setHbm_pf : (s.setHbm n x).pf = s.pf := (rfl)
@[simp] theorem State.setHbm_casc : (s.setHbm n x).casc = s.casc := (rfl)
@[simp] theorem State.setHbm_sys : (s.setHbm n x).sys = s.sys := (rfl)
@[simp] theorem State.setHbm_axis (k : Nat) : (s.setHbm n x).axis k = s.axis k := (rfl)
@[simp] theorem State.setHbm_hbm (k : Nat) : (s.setHbm n x).hbm k = if k = n then x else s.hbm k :=
  tget_tset ..
@[simp] theorem State.setHbm_march (k : Nat) : (s.setHbm n x).march k = s.march k := (rfl)
@[simp] theorem State.setHbm_site (k : Nat) : (s.setHbm n x).site k = s.site k := (rfl)
@[simp] theorem State.setHbm_gal (k : Nat) : (s.setHbm n x).gal k = s.gal k := (rfl)
@[simp] theorem State.setHbm_core (k : Nat) : (s.setHbm n x).core k = s.core k := (rfl)
@[simp] theorem State.setHbm_cluster (k : Nat) : (s.setHbm n x).cluster k = s.cluster k := (rfl)
@[simp] theorem State.setHbm_lane (k : Nat) : (s.setHbm n x).lane k = s.lane k := (rfl)
@[simp] theorem State.setHbm_eth (k : Nat) : (s.setHbm n x).eth k = s.eth k := (rfl)
@[simp] theorem State.setHbm_reg (o : Nat) : (s.setHbm n x).reg o = s.reg o := (rfl)
@[simp] theorem State.setHbm_regN (o : Nat) : (s.setHbm n x).regN o = s.regN o := (rfl)
@[simp] theorem State.setHbm_fld (o : Nat) (f : Fld) : (s.setHbm n x).fld o f = s.fld o f := (rfl)
@[simp] theorem State.setHbm_flag (o : Nat) (f : Fld) : (s.setHbm n x).flag o f = s.flag o f := (rfl)

@[simp] theorem State.setHbm_setHbm (y) : (s.setHbm n x).setHbm n y = s.setHbm n y := by
  simp [State.setHbm]

theorem State.setHbm_rest : ∃ r, s.setHbm n x = { s with hbms := r } := ⟨_, rfl⟩

end setHbm

section setMarch
variable (n : Nat) (x : March)

@[simp] theorem State.setMarch_pending : (s.setMarch n x).pending = s.pending := (rfl)
@[simp] theorem State.setMarch_fresh : (s.setMarch n x).fresh = s.fresh := (rfl)
@[simp] theorem State.setMarch_tick : (s.setMarch n x).tick = s.tick := (rfl)
@[simp] theorem State.setMarch_regs : (s.setMarch n x).regs = s.regs := (rfl)
@[simp] theorem State.setMarch_mem : (s.setMarch n x).mem = s.mem := (rfl)
@[simp] theorem State.setMarch_niche : (s.setMarch n x).niche = s.niche := (rfl)
@[simp] theorem State.setMarch_flash : (s.setMarch n x).flash = s.flash := (rfl)
@[simp] theorem State.setMarch_axes : (s.setMarch n x).axes = s.axes := (rfl)
@[simp] theorem State.setMarch_trav : (s.setMarch n x).trav = s.trav := (rfl)
@[simp] theorem State.setMarch_pins : (s.setMarch n x).pins = s.pins := (rfl)
@[simp] theorem State.setMarch_hbms : (s.setMarch n x).hbms = s.hbms := (rfl)
@[simp] theorem State.setMarch_thrFired : (s.setMarch n x).thrFired = s.thrFired := (rfl)
@[simp] theorem State.setMarch_chams : (s.setMarch n x).chams = s.chams := (rfl)
@[simp] theorem State.setMarch_junc : (s.setMarch n x).junc = s.junc := (rfl)
@[simp] theorem State.setMarch_sites : (s.setMarch n x).sites = s.sites := (rfl)
@[simp] theorem State.setMarch_gals : (s.setMarch n x).gals = s.gals := (rfl)
@[simp] theorem State.setMarch_moves : (s.setMarch n x).moves = s.moves := (rfl)
@[simp] theorem State.setMarch_cores : (s.setMarch n x).cores = s.cores := (rfl)
@[simp] theorem State.setMarch_clusters : (s.setMarch n x).clusters = s.clusters := (rfl)
@[simp] theorem State.setMarch_lanes : (s.setMarch n x).lanes = s.lanes := (rfl)
@[simp] theorem State.setMarch_link : (s.setMarch n x).link = s.link := (rfl)
@[simp] theorem State.setMarch_eths : (s.setMarch n x).eths = s.eths := (rfl)
@[simp] theorem State.setMarch_host : (s.setMarch n x).host = s.host := (rfl)
@[simp] theorem State.setMarch_fuses : (s.setMarch n x).fuses = s.fuses := (rfl)
@[simp] theorem State.setMarch_sec : (s.setMarch n x).sec = s.sec := (rfl)
@[simp] theorem State.setMarch_dbg : (s.setMarch n x).dbg = s.dbg := (rfl)
@[simp] theorem State.setMarch_cairn : (s.setMarch n x).cairn = s.cairn := (rfl)
@[simp] theorem State.setMarch_pf : (s.setMarch n x).pf = s.pf := (rfl)
@[simp] theorem State.setMarch_casc : (s.setMarch n x).casc = s.casc := (rfl)
@[simp] theorem State.setMarch_sys : (s.setMarch n x).sys = s.sys := (rfl)
@[simp] theorem State.setMarch_axis (k : Nat) : (s.setMarch n x).axis k = s.axis k := (rfl)
@[simp] theorem State.setMarch_hbm (k : Nat) : (s.setMarch n x).hbm k = s.hbm k := (rfl)
@[simp] theorem State.setMarch_march (k : Nat) : (s.setMarch n x).march k = if k = n then x else s.march k :=
  tget_tset ..
@[simp] theorem State.setMarch_site (k : Nat) : (s.setMarch n x).site k = s.site k := (rfl)
@[simp] theorem State.setMarch_gal (k : Nat) : (s.setMarch n x).gal k = s.gal k := (rfl)
@[simp] theorem State.setMarch_core (k : Nat) : (s.setMarch n x).core k = s.core k := (rfl)
@[simp] theorem State.setMarch_cluster (k : Nat) : (s.setMarch n x).cluster k = s.cluster k := (rfl)
@[simp] theorem State.setMarch_lane (k : Nat) : (s.setMarch n x).lane k = s.lane k := (rfl)
@[simp] theorem State.setMarch_eth (k : Nat) : (s.setMarch n x).eth k = s.eth k := (rfl)
@[simp] theorem State.setMarch_reg (o : Nat) : (s.setMarch n x).reg o = s.reg o := (rfl)
@[simp] theorem State.setMarch_regN (o : Nat) : (s.setMarch n x).regN o = s.regN o := (rfl)
@[simp] theorem State.setMarch_fld (o : Nat) (f : Fld) : (s.setMarch n x).fld o f = s.fld o f := (rfl)
@[simp] theorem State.setMarch_flag (o : Nat) (f : Fld) : (s.setMarch n x).flag o f = s.flag o f := (rfl)

@[simp] theorem State.setMarch_setMarch (y) : (s.setMarch n x).setMarch n y = s.setMarch n y := by
  simp [State.setMarch]

theorem State.setMarch_rest : ∃ r, s.setMarch n x = { s with marches := r } := ⟨_, rfl⟩

end setMarch

section setSite
variable (n : Nat) (x : Site)

@[simp] theorem State.setSite_pending : (s.setSite n x).pending = s.pending := (rfl)
@[simp] theorem State.setSite_fresh : (s.setSite n x).fresh = s.fresh := (rfl)
@[simp] theorem State.setSite_tick : (s.setSite n x).tick = s.tick := (rfl)
@[simp] theorem State.setSite_regs : (s.setSite n x).regs = s.regs := (rfl)
@[simp] theorem State.setSite_mem : (s.setSite n x).mem = s.mem := (rfl)
@[simp] theorem State.setSite_niche : (s.setSite n x).niche = s.niche := (rfl)
@[simp] theorem State.setSite_flash : (s.setSite n x).flash = s.flash := (rfl)
@[simp] theorem State.setSite_axes : (s.setSite n x).axes = s.axes := (rfl)
@[simp] theorem State.setSite_trav : (s.setSite n x).trav = s.trav := (rfl)
@[simp] theorem State.setSite_pins : (s.setSite n x).pins = s.pins := (rfl)
@[simp] theorem State.setSite_hbms : (s.setSite n x).hbms = s.hbms := (rfl)
@[simp] theorem State.setSite_thrFired : (s.setSite n x).thrFired = s.thrFired := (rfl)
@[simp] theorem State.setSite_chams : (s.setSite n x).chams = s.chams := (rfl)
@[simp] theorem State.setSite_marches : (s.setSite n x).marches = s.marches := (rfl)
@[simp] theorem State.setSite_junc : (s.setSite n x).junc = s.junc := (rfl)
@[simp] theorem State.setSite_gals : (s.setSite n x).gals = s.gals := (rfl)
@[simp] theorem State.setSite_moves : (s.setSite n x).moves = s.moves := (rfl)
@[simp] theorem State.setSite_cores : (s.setSite n x).cores = s.cores := (rfl)
@[simp] theorem State.setSite_clusters : (s.setSite n x).clusters = s.clusters := (rfl)
@[simp] theorem State.setSite_lanes : (s.setSite n x).lanes = s.lanes := (rfl)
@[simp] theorem State.setSite_link : (s.setSite n x).link = s.link := (rfl)
@[simp] theorem State.setSite_eths : (s.setSite n x).eths = s.eths := (rfl)
@[simp] theorem State.setSite_host : (s.setSite n x).host = s.host := (rfl)
@[simp] theorem State.setSite_fuses : (s.setSite n x).fuses = s.fuses := (rfl)
@[simp] theorem State.setSite_sec : (s.setSite n x).sec = s.sec := (rfl)
@[simp] theorem State.setSite_dbg : (s.setSite n x).dbg = s.dbg := (rfl)
@[simp] theorem State.setSite_cairn : (s.setSite n x).cairn = s.cairn := (rfl)
@[simp] theorem State.setSite_pf : (s.setSite n x).pf = s.pf := (rfl)
@[simp] theorem State.setSite_casc : (s.setSite n x).casc = s.casc := (rfl)
@[simp] theorem State.setSite_sys : (s.setSite n x).sys = s.sys := (rfl)
@[simp] theorem State.setSite_axis (k : Nat) : (s.setSite n x).axis k = s.axis k := (rfl)
@[simp] theorem State.setSite_hbm (k : Nat) : (s.setSite n x).hbm k = s.hbm k := (rfl)
@[simp] theorem State.setSite_march (k : Nat) : (s.setSite n x).march k = s.march k := (rfl)
@[simp] theorem State.setSite_site (k : Nat) : (s.setSite n x).site k = if k = n then x else s.site k :=
  tget_tset ..
@[simp] theorem State.setSite_gal (k : Nat) : (s.setSite n x).gal k = s.gal k := (rfl)
@[simp] theorem State.setSite_core (k : Nat) : (s.setSite n x).core k = s.core k := (rfl)
@[simp] theorem State.setSite_cluster (k : Nat) : (s.setSite n x).cluster k = s.cluster k := (rfl)
@[simp] theorem State.setSite_lane (k : Nat) : (s.setSite n x).lane k = s.lane k := (rfl)
@[simp] theorem State.setSite_eth (k : Nat) : (s.setSite n x).eth k = s.eth k := (rfl)
@[simp] theorem State.setSite_reg (o : Nat) : (s.setSite n x).reg o = s.reg o := (rfl)
@[simp] theorem State.setSite_regN (o : Nat) : (s.setSite n x).regN o = s.regN o := (rfl)
@[simp] theorem State.setSite_fld (o : Nat) (f : Fld) : (s.setSite n x).fld o f = s.fld o f := (rfl)
@[simp] theorem State.setSite_flag (o : Nat) (f : Fld) : (s.setSite n x).flag o f = s.flag o f := (rfl)

@[simp] theorem State.setSite_setSite (y) : (s.setSite n x).setSite n y = s.setSite n y := by
  simp [State.setSite]

theorem State.setSite_rest : ∃ r, s.setSite n x = { s with sites := r } := ⟨_, rfl⟩

end setSite

section setGal
variable (n : Nat) (x : Gallery)

@[simp] theorem State.setGal_pending : (s.setGal n x).pending = s.pending := (rfl)
@[simp] theorem State.setGal_fresh : (s.setGal n x).fresh = s.fresh := (rfl)
@[simp] theorem State.setGal_tick : (s.setGal n x).tick = s.tick := (rfl)
@[simp] theorem State.setGal_regs : (s.setGal n x).regs = s.regs := (rfl)
@[simp] theorem State.setGal_mem : (s.setGal n x).mem = s.mem := (rfl)
@[simp] theorem State.setGal_niche : (s.setGal n x).niche = s.niche := (rfl)
@[simp] theorem State.setGal_flash : (s.setGal n x).flash = s.flash := (rfl)
@[simp] theorem State.setGal_axes : (s.setGal n x).axes = s.axes := (rfl)
@[simp] theorem State.setGal_trav : (s.setGal n x).trav = s.trav := (rfl)
@[simp] theorem State.setGal_pins : (s.setGal n x).pins = s.pins := (rfl)
@[simp] theorem State.setGal_hbms : (s.setGal n x).hbms = s.hbms := (rfl)
@[simp] theorem State.setGal_thrFired : (s.setGal n x).thrFired = s.thrFired := (rfl)
@[simp] theorem State.setGal_chams : (s.setGal n x).chams = s.chams := (rfl)
@[simp] theorem State.setGal_marches : (s.setGal n x).marches = s.marches := (rfl)
@[simp] theorem State.setGal_junc : (s.setGal n x).junc = s.junc := (rfl)
@[simp] theorem State.setGal_sites : (s.setGal n x).sites = s.sites := (rfl)
@[simp] theorem State.setGal_moves : (s.setGal n x).moves = s.moves := (rfl)
@[simp] theorem State.setGal_cores : (s.setGal n x).cores = s.cores := (rfl)
@[simp] theorem State.setGal_clusters : (s.setGal n x).clusters = s.clusters := (rfl)
@[simp] theorem State.setGal_lanes : (s.setGal n x).lanes = s.lanes := (rfl)
@[simp] theorem State.setGal_link : (s.setGal n x).link = s.link := (rfl)
@[simp] theorem State.setGal_eths : (s.setGal n x).eths = s.eths := (rfl)
@[simp] theorem State.setGal_host : (s.setGal n x).host = s.host := (rfl)
@[simp] theorem State.setGal_fuses : (s.setGal n x).fuses = s.fuses := (rfl)
@[simp] theorem State.setGal_sec : (s.setGal n x).sec = s.sec := (rfl)
@[simp] theorem State.setGal_dbg : (s.setGal n x).dbg = s.dbg := (rfl)
@[simp] theorem State.setGal_cairn : (s.setGal n x).cairn = s.cairn := (rfl)
@[simp] theorem State.setGal_pf : (s.setGal n x).pf = s.pf := (rfl)
@[simp] theorem State.setGal_casc : (s.setGal n x).casc = s.casc := (rfl)
@[simp] theorem State.setGal_sys : (s.setGal n x).sys = s.sys := (rfl)
@[simp] theorem State.setGal_axis (k : Nat) : (s.setGal n x).axis k = s.axis k := (rfl)
@[simp] theorem State.setGal_hbm (k : Nat) : (s.setGal n x).hbm k = s.hbm k := (rfl)
@[simp] theorem State.setGal_march (k : Nat) : (s.setGal n x).march k = s.march k := (rfl)
@[simp] theorem State.setGal_site (k : Nat) : (s.setGal n x).site k = s.site k := (rfl)
@[simp] theorem State.setGal_gal (k : Nat) : (s.setGal n x).gal k = if k = n then x else s.gal k :=
  tget_tset ..
@[simp] theorem State.setGal_core (k : Nat) : (s.setGal n x).core k = s.core k := (rfl)
@[simp] theorem State.setGal_cluster (k : Nat) : (s.setGal n x).cluster k = s.cluster k := (rfl)
@[simp] theorem State.setGal_lane (k : Nat) : (s.setGal n x).lane k = s.lane k := (rfl)
@[simp] theorem State.setGal_eth (k : Nat) : (s.setGal n x).eth k = s.eth k := (rfl)
@[simp] theorem State.setGal_reg (o : Nat) : (s.setGal n x).reg o = s.reg o := (rfl)
@[simp] theorem State.setGal_regN (o : Nat) : (s.setGal n x).regN o = s.regN o := (rfl)
@[simp] theorem State.setGal_fld (o : Nat) (f : Fld) : (s.setGal n x).fld o f = s.fld o f := (rfl)
@[simp] theorem State.setGal_flag (o : Nat) (f : Fld) : (s.setGal n x).flag o f = s.flag o f := (rfl)

@[simp] theorem State.setGal_setGal (y) : (s.setGal n x).setGal n y = s.setGal n y := by
  simp [State.setGal]

theorem State.setGal_rest : ∃ r, s.setGal n x = { s with gals := r } := ⟨_, rfl⟩

end setGal

section setCore
variable (n : Nat) (x : Core)

@[simp] theorem State.setCore_pending : (s.setCore n x).pending = s.pending := (rfl)
@[simp] theorem State.setCore_fresh : (s.setCore n x).fresh = s.fresh := (rfl)
@[simp] theorem State.setCore_tick : (s.setCore n x).tick = s.tick := (rfl)
@[simp] theorem State.setCore_regs : (s.setCore n x).regs = s.regs := (rfl)
@[simp] theorem State.setCore_mem : (s.setCore n x).mem = s.mem := (rfl)
@[simp] theorem State.setCore_niche : (s.setCore n x).niche = s.niche := (rfl)
@[simp] theorem State.setCore_flash : (s.setCore n x).flash = s.flash := (rfl)
@[simp] theorem State.setCore_axes : (s.setCore n x).axes = s.axes := (rfl)
@[simp] theorem State.setCore_trav : (s.setCore n x).trav = s.trav := (rfl)
@[simp] theorem State.setCore_pins : (s.setCore n x).pins = s.pins := (rfl)
@[simp] theorem State.setCore_hbms : (s.setCore n x).hbms = s.hbms := (rfl)
@[simp] theorem State.setCore_thrFired : (s.setCore n x).thrFired = s.thrFired := (rfl)
@[simp] theorem State.setCore_chams : (s.setCore n x).chams = s.chams := (rfl)
@[simp] theorem State.setCore_marches : (s.setCore n x).marches = s.marches := (rfl)
@[simp] theorem State.setCore_junc : (s.setCore n x).junc = s.junc := (rfl)
@[simp] theorem State.setCore_sites : (s.setCore n x).sites = s.sites := (rfl)
@[simp] theorem State.setCore_gals : (s.setCore n x).gals = s.gals := (rfl)
@[simp] theorem State.setCore_moves : (s.setCore n x).moves = s.moves := (rfl)
@[simp] theorem State.setCore_clusters : (s.setCore n x).clusters = s.clusters := (rfl)
@[simp] theorem State.setCore_lanes : (s.setCore n x).lanes = s.lanes := (rfl)
@[simp] theorem State.setCore_link : (s.setCore n x).link = s.link := (rfl)
@[simp] theorem State.setCore_eths : (s.setCore n x).eths = s.eths := (rfl)
@[simp] theorem State.setCore_host : (s.setCore n x).host = s.host := (rfl)
@[simp] theorem State.setCore_fuses : (s.setCore n x).fuses = s.fuses := (rfl)
@[simp] theorem State.setCore_sec : (s.setCore n x).sec = s.sec := (rfl)
@[simp] theorem State.setCore_dbg : (s.setCore n x).dbg = s.dbg := (rfl)
@[simp] theorem State.setCore_cairn : (s.setCore n x).cairn = s.cairn := (rfl)
@[simp] theorem State.setCore_pf : (s.setCore n x).pf = s.pf := (rfl)
@[simp] theorem State.setCore_casc : (s.setCore n x).casc = s.casc := (rfl)
@[simp] theorem State.setCore_sys : (s.setCore n x).sys = s.sys := (rfl)
@[simp] theorem State.setCore_axis (k : Nat) : (s.setCore n x).axis k = s.axis k := (rfl)
@[simp] theorem State.setCore_hbm (k : Nat) : (s.setCore n x).hbm k = s.hbm k := (rfl)
@[simp] theorem State.setCore_march (k : Nat) : (s.setCore n x).march k = s.march k := (rfl)
@[simp] theorem State.setCore_site (k : Nat) : (s.setCore n x).site k = s.site k := (rfl)
@[simp] theorem State.setCore_gal (k : Nat) : (s.setCore n x).gal k = s.gal k := (rfl)
@[simp] theorem State.setCore_core (k : Nat) : (s.setCore n x).core k = if k = n then x else s.core k :=
  tget_tset ..
@[simp] theorem State.setCore_cluster (k : Nat) : (s.setCore n x).cluster k = s.cluster k := (rfl)
@[simp] theorem State.setCore_lane (k : Nat) : (s.setCore n x).lane k = s.lane k := (rfl)
@[simp] theorem State.setCore_eth (k : Nat) : (s.setCore n x).eth k = s.eth k := (rfl)
@[simp] theorem State.setCore_reg (o : Nat) : (s.setCore n x).reg o = s.reg o := (rfl)
@[simp] theorem State.setCore_regN (o : Nat) : (s.setCore n x).regN o = s.regN o := (rfl)
@[simp] theorem State.setCore_fld (o : Nat) (f : Fld) : (s.setCore n x).fld o f = s.fld o f := (rfl)
@[simp] theorem State.setCore_flag (o : Nat) (f : Fld) : (s.setCore n x).flag o f = s.flag o f := (rfl)

@[simp] theorem State.setCore_setCore (y) : (s.setCore n x).setCore n y = s.setCore n y := by
  simp [State.setCore]

theorem State.setCore_rest : ∃ r, s.setCore n x = { s with cores := r } := ⟨_, rfl⟩

end setCore

section setCluster
variable (n : Nat) (x : Cluster)

@[simp] theorem State.setCluster_pending : (s.setCluster n x).pending = s.pending := (rfl)
@[simp] theorem State.setCluster_fresh : (s.setCluster n x).fresh = s.fresh := (rfl)
@[simp] theorem State.setCluster_tick : (s.setCluster n x).tick = s.tick := (rfl)
@[simp] theorem State.setCluster_regs : (s.setCluster n x).regs = s.regs := (rfl)
@[simp] theorem State.setCluster_mem : (s.setCluster n x).mem = s.mem := (rfl)
@[simp] theorem State.setCluster_niche : (s.setCluster n x).niche = s.niche := (rfl)
@[simp] theorem State.setCluster_flash : (s.setCluster n x).flash = s.flash := (rfl)
@[simp] theorem State.setCluster_axes : (s.setCluster n x).axes = s.axes := (rfl)
@[simp] theorem State.setCluster_trav : (s.setCluster n x).trav = s.trav := (rfl)
@[simp] theorem State.setCluster_pins : (s.setCluster n x).pins = s.pins := (rfl)
@[simp] theorem State.setCluster_hbms : (s.setCluster n x).hbms = s.hbms := (rfl)
@[simp] theorem State.setCluster_thrFired : (s.setCluster n x).thrFired = s.thrFired := (rfl)
@[simp] theorem State.setCluster_chams : (s.setCluster n x).chams = s.chams := (rfl)
@[simp] theorem State.setCluster_marches : (s.setCluster n x).marches = s.marches := (rfl)
@[simp] theorem State.setCluster_junc : (s.setCluster n x).junc = s.junc := (rfl)
@[simp] theorem State.setCluster_sites : (s.setCluster n x).sites = s.sites := (rfl)
@[simp] theorem State.setCluster_gals : (s.setCluster n x).gals = s.gals := (rfl)
@[simp] theorem State.setCluster_moves : (s.setCluster n x).moves = s.moves := (rfl)
@[simp] theorem State.setCluster_cores : (s.setCluster n x).cores = s.cores := (rfl)
@[simp] theorem State.setCluster_lanes : (s.setCluster n x).lanes = s.lanes := (rfl)
@[simp] theorem State.setCluster_link : (s.setCluster n x).link = s.link := (rfl)
@[simp] theorem State.setCluster_eths : (s.setCluster n x).eths = s.eths := (rfl)
@[simp] theorem State.setCluster_host : (s.setCluster n x).host = s.host := (rfl)
@[simp] theorem State.setCluster_fuses : (s.setCluster n x).fuses = s.fuses := (rfl)
@[simp] theorem State.setCluster_sec : (s.setCluster n x).sec = s.sec := (rfl)
@[simp] theorem State.setCluster_dbg : (s.setCluster n x).dbg = s.dbg := (rfl)
@[simp] theorem State.setCluster_cairn : (s.setCluster n x).cairn = s.cairn := (rfl)
@[simp] theorem State.setCluster_pf : (s.setCluster n x).pf = s.pf := (rfl)
@[simp] theorem State.setCluster_casc : (s.setCluster n x).casc = s.casc := (rfl)
@[simp] theorem State.setCluster_sys : (s.setCluster n x).sys = s.sys := (rfl)
@[simp] theorem State.setCluster_axis (k : Nat) : (s.setCluster n x).axis k = s.axis k := (rfl)
@[simp] theorem State.setCluster_hbm (k : Nat) : (s.setCluster n x).hbm k = s.hbm k := (rfl)
@[simp] theorem State.setCluster_march (k : Nat) : (s.setCluster n x).march k = s.march k := (rfl)
@[simp] theorem State.setCluster_site (k : Nat) : (s.setCluster n x).site k = s.site k := (rfl)
@[simp] theorem State.setCluster_gal (k : Nat) : (s.setCluster n x).gal k = s.gal k := (rfl)
@[simp] theorem State.setCluster_core (k : Nat) : (s.setCluster n x).core k = s.core k := (rfl)
@[simp] theorem State.setCluster_cluster (k : Nat) : (s.setCluster n x).cluster k = if k = n then x else s.cluster k :=
  tget_tset ..
@[simp] theorem State.setCluster_lane (k : Nat) : (s.setCluster n x).lane k = s.lane k := (rfl)
@[simp] theorem State.setCluster_eth (k : Nat) : (s.setCluster n x).eth k = s.eth k := (rfl)
@[simp] theorem State.setCluster_reg (o : Nat) : (s.setCluster n x).reg o = s.reg o := (rfl)
@[simp] theorem State.setCluster_regN (o : Nat) : (s.setCluster n x).regN o = s.regN o := (rfl)
@[simp] theorem State.setCluster_fld (o : Nat) (f : Fld) : (s.setCluster n x).fld o f = s.fld o f := (rfl)
@[simp] theorem State.setCluster_flag (o : Nat) (f : Fld) : (s.setCluster n x).flag o f = s.flag o f := (rfl)

@[simp] theorem State.setCluster_setCluster (y) : (s.setCluster n x).setCluster n y = s.setCluster n y := by
  simp [State.setCluster]

theorem State.setCluster_rest : ∃ r, s.setCluster n x = { s with clusters := r } := ⟨_, rfl⟩

end setCluster

section setLane
variable (n : Nat) (x : Lane)

@[simp] theorem State.setLane_pending : (s.setLane n x).pending = s.pending := (rfl)
@[simp] theorem State.setLane_fresh : (s.setLane n x).fresh = s.fresh := (rfl)
@[simp] theorem State.setLane_tick : (s.setLane n x).tick = s.tick := (rfl)
@[simp] theorem State.setLane_regs : (s.setLane n x).regs = s.regs := (rfl)
@[simp] theorem State.setLane_mem : (s.setLane n x).mem = s.mem := (rfl)
@[simp] theorem State.setLane_niche : (s.setLane n x).niche = s.niche := (rfl)
@[simp] theorem State.setLane_flash : (s.setLane n x).flash = s.flash := (rfl)
@[simp] theorem State.setLane_axes : (s.setLane n x).axes = s.axes := (rfl)
@[simp] theorem State.setLane_trav : (s.setLane n x).trav = s.trav := (rfl)
@[simp] theorem State.setLane_pins : (s.setLane n x).pins = s.pins := (rfl)
@[simp] theorem State.setLane_hbms : (s.setLane n x).hbms = s.hbms := (rfl)
@[simp] theorem State.setLane_thrFired : (s.setLane n x).thrFired = s.thrFired := (rfl)
@[simp] theorem State.setLane_chams : (s.setLane n x).chams = s.chams := (rfl)
@[simp] theorem State.setLane_marches : (s.setLane n x).marches = s.marches := (rfl)
@[simp] theorem State.setLane_junc : (s.setLane n x).junc = s.junc := (rfl)
@[simp] theorem State.setLane_sites : (s.setLane n x).sites = s.sites := (rfl)
@[simp] theorem State.setLane_gals : (s.setLane n x).gals = s.gals := (rfl)
@[simp] theorem State.setLane_moves : (s.setLane n x).moves = s.moves := (rfl)
@[simp] theorem State.setLane_cores : (s.setLane n x).cores = s.cores := (rfl)
@[simp] theorem State.setLane_clusters : (s.setLane n x).clusters = s.clusters := (rfl)
@[simp] theorem State.setLane_link : (s.setLane n x).link = s.link := (rfl)
@[simp] theorem State.setLane_eths : (s.setLane n x).eths = s.eths := (rfl)
@[simp] theorem State.setLane_host : (s.setLane n x).host = s.host := (rfl)
@[simp] theorem State.setLane_fuses : (s.setLane n x).fuses = s.fuses := (rfl)
@[simp] theorem State.setLane_sec : (s.setLane n x).sec = s.sec := (rfl)
@[simp] theorem State.setLane_dbg : (s.setLane n x).dbg = s.dbg := (rfl)
@[simp] theorem State.setLane_cairn : (s.setLane n x).cairn = s.cairn := (rfl)
@[simp] theorem State.setLane_pf : (s.setLane n x).pf = s.pf := (rfl)
@[simp] theorem State.setLane_casc : (s.setLane n x).casc = s.casc := (rfl)
@[simp] theorem State.setLane_sys : (s.setLane n x).sys = s.sys := (rfl)
@[simp] theorem State.setLane_axis (k : Nat) : (s.setLane n x).axis k = s.axis k := (rfl)
@[simp] theorem State.setLane_hbm (k : Nat) : (s.setLane n x).hbm k = s.hbm k := (rfl)
@[simp] theorem State.setLane_march (k : Nat) : (s.setLane n x).march k = s.march k := (rfl)
@[simp] theorem State.setLane_site (k : Nat) : (s.setLane n x).site k = s.site k := (rfl)
@[simp] theorem State.setLane_gal (k : Nat) : (s.setLane n x).gal k = s.gal k := (rfl)
@[simp] theorem State.setLane_core (k : Nat) : (s.setLane n x).core k = s.core k := (rfl)
@[simp] theorem State.setLane_cluster (k : Nat) : (s.setLane n x).cluster k = s.cluster k := (rfl)
@[simp] theorem State.setLane_lane (k : Nat) : (s.setLane n x).lane k = if k = n then x else s.lane k :=
  tget_tset ..
@[simp] theorem State.setLane_eth (k : Nat) : (s.setLane n x).eth k = s.eth k := (rfl)
@[simp] theorem State.setLane_reg (o : Nat) : (s.setLane n x).reg o = s.reg o := (rfl)
@[simp] theorem State.setLane_regN (o : Nat) : (s.setLane n x).regN o = s.regN o := (rfl)
@[simp] theorem State.setLane_fld (o : Nat) (f : Fld) : (s.setLane n x).fld o f = s.fld o f := (rfl)
@[simp] theorem State.setLane_flag (o : Nat) (f : Fld) : (s.setLane n x).flag o f = s.flag o f := (rfl)

@[simp] theorem State.setLane_setLane (y) : (s.setLane n x).setLane n y = s.setLane n y := by
  simp [State.setLane]

theorem State.setLane_rest : ∃ r, s.setLane n x = { s with lanes := r } := ⟨_, rfl⟩

end setLane

section setEth
variable (n : Nat) (x : Eth)

@[simp] theorem State.setEth_pending : (s.setEth n x).pending = s.pending := (rfl)
@[simp] theorem State.setEth_fresh : (s.setEth n x).fresh = s.fresh := (rfl)
@[simp] theorem State.setEth_tick : (s.setEth n x).tick = s.tick := (rfl)
@[simp] theorem State.setEth_regs : (s.setEth n x).regs = s.regs := (rfl)
@[simp] theorem State.setEth_mem : (s.setEth n x).mem = s.mem := (rfl)
@[simp] theorem State.setEth_niche : (s.setEth n x).niche = s.niche := (rfl)
@[simp] theorem State.setEth_flash : (s.setEth n x).flash = s.flash := (rfl)
@[simp] theorem State.setEth_axes : (s.setEth n x).axes = s.axes := (rfl)
@[simp] theorem State.setEth_trav : (s.setEth n x).trav = s.trav := (rfl)
@[simp] theorem State.setEth_pins : (s.setEth n x).pins = s.pins := (rfl)
@[simp] theorem State.setEth_hbms : (s.setEth n x).hbms = s.hbms := (rfl)
@[simp] theorem State.setEth_thrFired : (s.setEth n x).thrFired = s.thrFired := (rfl)
@[simp] theorem State.setEth_chams : (s.setEth n x).chams = s.chams := (rfl)
@[simp] theorem State.setEth_marches : (s.setEth n x).marches = s.marches := (rfl)
@[simp] theorem State.setEth_junc : (s.setEth n x).junc = s.junc := (rfl)
@[simp] theorem State.setEth_sites : (s.setEth n x).sites = s.sites := (rfl)
@[simp] theorem State.setEth_gals : (s.setEth n x).gals = s.gals := (rfl)
@[simp] theorem State.setEth_moves : (s.setEth n x).moves = s.moves := (rfl)
@[simp] theorem State.setEth_cores : (s.setEth n x).cores = s.cores := (rfl)
@[simp] theorem State.setEth_clusters : (s.setEth n x).clusters = s.clusters := (rfl)
@[simp] theorem State.setEth_lanes : (s.setEth n x).lanes = s.lanes := (rfl)
@[simp] theorem State.setEth_link : (s.setEth n x).link = s.link := (rfl)
@[simp] theorem State.setEth_host : (s.setEth n x).host = s.host := (rfl)
@[simp] theorem State.setEth_fuses : (s.setEth n x).fuses = s.fuses := (rfl)
@[simp] theorem State.setEth_sec : (s.setEth n x).sec = s.sec := (rfl)
@[simp] theorem State.setEth_dbg : (s.setEth n x).dbg = s.dbg := (rfl)
@[simp] theorem State.setEth_cairn : (s.setEth n x).cairn = s.cairn := (rfl)
@[simp] theorem State.setEth_pf : (s.setEth n x).pf = s.pf := (rfl)
@[simp] theorem State.setEth_casc : (s.setEth n x).casc = s.casc := (rfl)
@[simp] theorem State.setEth_sys : (s.setEth n x).sys = s.sys := (rfl)
@[simp] theorem State.setEth_axis (k : Nat) : (s.setEth n x).axis k = s.axis k := (rfl)
@[simp] theorem State.setEth_hbm (k : Nat) : (s.setEth n x).hbm k = s.hbm k := (rfl)
@[simp] theorem State.setEth_march (k : Nat) : (s.setEth n x).march k = s.march k := (rfl)
@[simp] theorem State.setEth_site (k : Nat) : (s.setEth n x).site k = s.site k := (rfl)
@[simp] theorem State.setEth_gal (k : Nat) : (s.setEth n x).gal k = s.gal k := (rfl)
@[simp] theorem State.setEth_core (k : Nat) : (s.setEth n x).core k = s.core k := (rfl)
@[simp] theorem State.setEth_cluster (k : Nat) : (s.setEth n x).cluster k = s.cluster k := (rfl)
@[simp] theorem State.setEth_lane (k : Nat) : (s.setEth n x).lane k = s.lane k := (rfl)
@[simp] theorem State.setEth_eth (k : Nat) : (s.setEth n x).eth k = if k = n then x else s.eth k :=
  tget_tset ..
@[simp] theorem State.setEth_reg (o : Nat) : (s.setEth n x).reg o = s.reg o := (rfl)
@[simp] theorem State.setEth_regN (o : Nat) : (s.setEth n x).regN o = s.regN o := (rfl)
@[simp] theorem State.setEth_fld (o : Nat) (f : Fld) : (s.setEth n x).fld o f = s.fld o f := (rfl)
@[simp] theorem State.setEth_flag (o : Nat) (f : Fld) : (s.setEth n x).flag o f = s.flag o f := (rfl)

@[simp] theorem State.setEth_setEth (y) : (s.setEth n x).setEth n y = s.setEth n y := by
  simp [State.setEth]

theorem State.setEth_rest : ∃ r, s.setEth n x = { s with eths := r } := ⟨_, rfl⟩

end setEth

end Sys2Proof.Machine
end

