-- ==== Sys2Proof/Laws/Fields.lean ====
section
/-! SUPPORT. A field read after a field was written, and what raising an event and sending an entry to the log leave
alone. -/

namespace Sys2Proof.Machine

/-- The field written reads as the value written. -/
theorem bits_setBits_same (x lo w v : Nat) : bits (setBits x lo w v) lo w = v % 2 ^ w := by
  unfold bits setBits
  have h1 : x % 2 ^ lo < 2 ^ lo := Nat.mod_lt _ (Nat.two_pow_pos _)
  rw [pow_add, show x % 2 ^ lo + v % 2 ^ w * 2 ^ lo + x / (2 ^ lo * 2 ^ w) * (2 ^ lo * 2 ^ w)
      = x % 2 ^ lo + (v % 2 ^ w + x / (2 ^ lo * 2 ^ w) * 2 ^ w) * 2 ^ lo by ring,
    Nat.add_mul_div_right _ _ (Nat.two_pow_pos _), Nat.div_eq_of_lt h1, Nat.zero_add, Nat.add_mul_mod_self_right,
    Nat.mod_mod]

/-- A field below the one written is unchanged. -/
theorem bits_setBits_low (x lo w v l u : Nat) (h : l + u ≤ lo) :
    bits (setBits x lo w v) l u = bits x l u := by
  obtain ⟨k, rfl⟩ := Nat.exists_eq_add_of_le h
  have e : setBits x (l + u + k) w v % 2 ^ (l + u) = x % 2 ^ (l + u) := by
    unfold setBits
    rw [show x % 2 ^ (l + u + k) + v % 2 ^ w * 2 ^ (l + u + k)
        + x / 2 ^ (l + u + k + w) * 2 ^ (l + u + k + w)
        = x % 2 ^ (l + u + k) + (v % 2 ^ w * 2 ^ k + x / 2 ^ (l + u + k + w) * (2 ^ k * 2 ^ w)) * 2 ^ (l + u) by
      simp only [pow_add]; ring]
    rw [Nat.add_mul_mod_self_right, Nat.mod_mod_of_dvd _ (Nat.pow_dvd_pow 2 (by omega))]
  have g : ∀ y, y / 2 ^ l % 2 ^ u = y % 2 ^ (l + u) / 2 ^ l := fun y => by
    rw [pow_add, Nat.mod_mul_right_div_self]
  unfold bits
  rw [g, g x, e]

/-- A field above the one written is unchanged. -/
theorem bits_setBits_high (x lo w v l u : Nat) (h : lo + w ≤ l) :
    bits (setBits x lo w v) l u = bits x l u := by
  obtain ⟨k, rfl⟩ := Nat.exists_eq_add_of_le h
  have hlt : x % 2 ^ lo + v % 2 ^ w * 2 ^ lo < 2 ^ (lo + w) := by
    have h1 : x % 2 ^ lo < 2 ^ lo := Nat.mod_lt _ (Nat.two_pow_pos _)
    have h2 : v % 2 ^ w + 1 ≤ 2 ^ w := Nat.mod_lt _ (Nat.two_pow_pos _)
    have h3 : (v % 2 ^ w + 1) * 2 ^ lo ≤ 2 ^ w * 2 ^ lo := Nat.mul_le_mul_right _ h2
    rw [pow_add, Nat.mul_comm (2 ^ lo)]
    have h4 : (v % 2 ^ w + 1) * 2 ^ lo = v % 2 ^ w * 2 ^ lo + 2 ^ lo := by ring
    omega
  have e : setBits x lo w v / 2 ^ (lo + w) = x / 2 ^ (lo + w) := by
    unfold setBits
    rw [Nat.add_mul_div_right _ _ (Nat.two_pow_pos _), Nat.div_eq_of_lt hlt, Nat.zero_add]
  unfold bits
  rw [pow_add 2 (lo + w) k, ← Nat.div_div_eq_div_mul, ← Nat.div_div_eq_div_mul, e]

theorem setBits_lt (x lo w v n : Nat) (hx : x < 2 ^ n) (h : lo + w ≤ n) : setBits x lo w v < 2 ^ n := by
  obtain ⟨k, rfl⟩ := Nat.exists_eq_add_of_le h
  unfold setBits
  have h1 : x % 2 ^ lo < 2 ^ lo := Nat.mod_lt _ (Nat.two_pow_pos _)
  have h2 : v % 2 ^ w + 1 ≤ 2 ^ w := Nat.mod_lt _ (Nat.two_pow_pos _)
  have h3 : (v % 2 ^ w + 1) * 2 ^ lo ≤ 2 ^ w * 2 ^ lo := Nat.mul_le_mul_right _ h2
  have h4 : x / 2 ^ (lo + w) + 1 ≤ 2 ^ k :=
    Nat.div_lt_of_lt_mul (by rwa [← pow_add])
  have h5 : (x / 2 ^ (lo + w) + 1) * 2 ^ (lo + w) ≤ 2 ^ k * 2 ^ (lo + w) := Nat.mul_le_mul_right _ h4
  have e1 : 2 ^ w * 2 ^ lo = 2 ^ (lo + w) := by rw [pow_add]; ring
  have e2 : 2 ^ k * 2 ^ (lo + w) = 2 ^ (lo + w + k) := by rw [pow_add 2 (lo + w)]; ring
  have e3 : (v % 2 ^ w + 1) * 2 ^ lo = v % 2 ^ w * 2 ^ lo + 2 ^ lo := by ring
  have e4 : (x / 2 ^ (lo + w) + 1) * 2 ^ (lo + w) = x / 2 ^ (lo + w) * 2 ^ (lo + w) + 2 ^ (lo + w) := by ring
  omega

variable (s : State)

/-- A register is read from the register table alone. -/
theorem State.reg_congr {s t : State} (h : s.regs = t.regs) (k : Nat) : s.reg k = t.reg k := by
  unfold State.reg
  rw [h]

theorem State.regN_congr {s t : State} (h : s.regs = t.regs) (k : Nat) : s.regN k = t.regN k :=
  congrArg BitVec.toNat (State.reg_congr h k)

theorem State.fld_congr {s t : State} (h : s.regs = t.regs) (k : Nat) (f : Fld) : s.fld k f = t.fld k f := by
  unfold State.fld
  rw [State.regN_congr h]

theorem State.flag_congr {s t : State} (h : s.regs = t.regs) (k : Nat) (f : Fld) : s.flag k f = t.flag k f := by
  unfold State.flag
  rw [State.fld_congr h]

theorem State.setReg_reg (o : Nat) (v : BitVec 48) (k : Nat) :
    (s.setReg o v).reg k = if k = o then v else s.reg k := tget_tset ..

@[simp] theorem State.setReg_reg_same (o : Nat) (v : BitVec 48) : (s.setReg o v).reg o = v := tget_tset_same ..

theorem State.setReg_reg_ne {o k : Nat} (h : k ≠ o) (v : BitVec 48) : (s.setReg o v).reg k = s.reg k :=
  tget_tset_ne _ _ _ h

/-- A register write changes the register table only. -/
theorem State.setReg_rest (o : Nat) (v : BitVec 48) : ∃ r, s.setReg o v = { s with regs := r } := ⟨_, rfl⟩

theorem State.setRegN_rest (o v : Nat) : ∃ r, s.setRegN o v = { s with regs := r } := s.setReg_rest ..

theorem State.setFld_rest (o : Nat) (f : Fld) (v : Nat) : ∃ r, s.setFld o f v = { s with regs := r } :=
  s.setReg_rest ..

theorem State.bump_rest (o : Nat) (f : Fld) (n : Nat) : ∃ r, s.bump o f n = { s with regs := r } := s.setReg_rest ..

theorem State.setRegN_regN_ne {o k : Nat} (h : k ≠ o) (v : Nat) : (s.setRegN o v).regN k = s.regN k :=
  congrArg BitVec.toNat (s.setReg_reg_ne h _)

theorem State.setRegN_regN_same (o v : Nat) (h : v < 2 ^ 48) : (s.setRegN o v).regN o = v := by
  unfold State.setRegN State.regN
  rw [State.setReg_reg_same, BitVec.toNat_ofNat]
  exact Nat.mod_eq_of_lt h

theorem State.regN_lt (o : Nat) : s.regN o < 2 ^ 48 := (s.reg o).isLt

theorem State.setFld_reg_ne {o k : Nat} (f : Fld) (h : k ≠ o) (v : Nat) : (s.setFld o f v).reg k = s.reg k :=
  s.setReg_reg_ne h _

theorem State.setFld_regN_ne {o k : Nat} (f : Fld) (h : k ≠ o) (v : Nat) : (s.setFld o f v).regN k = s.regN k :=
  s.setRegN_regN_ne h _

theorem State.setFld_fld_ne {o k : Nat} (f g : Fld) (h : k ≠ o) (v : Nat) :
    (s.setFld o f v).fld k g = s.fld k g := by
  simp only [State.fld, s.setFld_regN_ne f h]

theorem State.setFld_regN_same (o : Nat) (f : Fld) (v : Nat) (h : f.lo + f.w ≤ 48) :
    (s.setFld o f v).regN o = setBits (s.regN o) f.lo f.w v :=
  s.setRegN_regN_same o _ (setBits_lt _ _ _ _ _ (s.regN_lt o) h)

/-- The field written reads as the value written. -/
theorem State.setFld_fld_same (o : Nat) (f : Fld) (v : Nat) (h : f.lo + f.w ≤ 48) :
    (s.setFld o f v).fld o f = v % 2 ^ f.w := by
  simp only [State.fld, s.setFld_regN_same o f v h, bits_setBits_same]

/-- The other fields of the register are unchanged. -/
theorem State.setFld_fld_other (o : Nat) (f g : Fld) (v : Nat) (h : f.lo + f.w ≤ 48)
    (d : g.lo + g.w ≤ f.lo ∨ f.lo + f.w ≤ g.lo) : (s.setFld o f v).fld o g = s.fld o g := by
  simp only [State.fld, s.setFld_regN_same o f v h]
  rcases d with d | d
  · exact bits_setBits_low _ _ _ _ _ _ d
  · exact bits_setBits_high _ _ _ _ _ _ d

/-! ### Raising an event -/

/-- Waking a core changes no more than its wait. -/
theorem wakeFor_eq (n : Nat) : wakeFor n s = s ∨
    wakeFor n s = s.setCore (s.fld (R.EVC_ROUTE n) F.EVC_ROUTE_CORE)
      { s.core (s.fld (R.EVC_ROUTE n) F.EVC_ROUTE_CORE) with waiting := false } := by
  unfold wakeFor
  dsimp only
  split
  · exact .inr rfl
  · exact .inl rfl

/-- The state after an event that reaches the hub: its pending bit, and at most one core's wait. -/
theorem raiseAtHub_cases (n : Nat) : ∃ t, t = s.setRegN (R.EVC_PEND (n / 32))
      (setBits (s.regN (R.EVC_PEND (n / 32))) (n % 32) 1 1) ∧
    (raiseAtHub n s = t ∨ ∃ c, raiseAtHub n s = t.setCore c { t.core c with waiting := false }) := by
  refine ⟨_, rfl, ?_⟩
  unfold raiseAtHub
  rcases wakeFor_eq (s.setRegN (R.EVC_PEND (n / 32)) (setBits (s.regN (R.EVC_PEND (n / 32))) (n % 32) 1 1)) n
    with h | h
  · exact .inl h
  · exact .inr ⟨_, h⟩

/-- An event is lost where its die's sideband is down, and reaches the hub elsewhere. -/
theorem raise_lost_or_hub (n : Nat) : raise n s = s ∨ raise n s = raiseAtHub n s := by
  unfold raise raiseOn
  split
  · exact .inl rfl
  · exact .inr rfl

/-- With the sideband of its die up, an event reaches the hub. -/
theorem raise_hub (n : Nat) (h : s.sideDown (eventDie n) = false) : raise n s = raiseAtHub n s := by
  unfold raise raiseOn
  rw [h]
  exact if_neg Bool.false_ne_true

/-- Raising an event changes registers and the wait of a core only. -/
theorem raise_rest (n : Nat) : ∃ r c, raise n s = { s with regs := r, cores := c } := by
  rcases raise_lost_or_hub s n with h | h
  · exact ⟨s.regs, s.cores, h⟩
  · obtain ⟨t, ht, g | ⟨c, g⟩⟩ := raiseAtHub_cases s n
    · exact ⟨_, s.cores, h.trans (g.trans ht)⟩
    · subst ht
      exact ⟨_, _, h.trans g⟩

/-- The registers after an event that reaches the hub. -/
theorem raiseAtHub_regs (n : Nat) : (raiseAtHub n s).regs = (s.setRegN (R.EVC_PEND (n / 32))
    (setBits (s.regN (R.EVC_PEND (n / 32))) (n % 32) 1 1)).regs := by
  obtain ⟨t, ht, e | ⟨c, e⟩⟩ := raiseAtHub_cases s n
  · rw [e, ht]
  · rw [e, State.setCore_regs, ht]

/-- Raising an event writes no register but its pending one. -/
theorem raise_reg_ne (n : Nat) {k : Nat} (h : k ≠ R.EVC_PEND (n / 32)) : (raise n s).reg k = s.reg k := by
  rcases raise_lost_or_hub s n with e | e
  · rw [e]
  · rw [e]
    exact (State.reg_congr (raiseAtHub_regs s n) k).trans (s.setReg_reg_ne h _)

/-- The pending register after an event that reaches the hub. -/
theorem raiseAtHub_regN_pend (n : Nat) : (raiseAtHub n s).regN (R.EVC_PEND (n / 32)) =
    setBits (s.regN (R.EVC_PEND (n / 32))) (n % 32) 1 1 :=
  (congrArg BitVec.toNat (State.reg_congr (raiseAtHub_regs s n) _)).trans
    (s.setRegN_regN_same _ _ (setBits_lt _ _ _ _ _ (s.regN_lt _) (by omega)))

/-- An event that reaches the hub is pending. -/
theorem raiseAtHub_isPending (n : Nat) : (raiseAtHub n s).isPending n = true := by
  have h := bits_setBits_same (s.regN (R.EVC_PEND (n / 32))) (n % 32) 1 1
  unfold State.isPending bit
  rw [raiseAtHub_regN_pend]
  unfold bits at h
  simpa using h

/-- The event raised is pending where the sideband of its die is up. -/
theorem raise_isPending (n : Nat) (h : s.sideDown (eventDie n) = false) : (raise n s).isPending n = true := by
  rw [raise_hub s n h]
  exact raiseAtHub_isPending s n

/-! ### The log -/

/-- An entry for the log is lost on a sideband, dropped, queued, or discarded and counted. -/
theorem logCairn_cases (src : Src) (code : Nat) (fs : List DF) :
    logCairn src code fs s = s ∨
    logCairn src code fs s =
      { s with cairn := { s.cairn with queue := s.cairn.queue ++ cairnEntries s src code fs } } ∨
    logCairn src code fs s =
      { (s.bump R.CAIRN_DROPCNT F.CAIRN_DROPCNT_DROPCNT) with cairn := { s.cairn with dropped := true } } := by
  unfold logCairn logOn
  by_cases d : s.sideDown (entryDie src code fs) = true
  · exact .inl (if_pos d)
  rw [if_neg d]
  unfold logAtHub
  by_cases h : s.cairn.frozen = true
  · exact .inl (if_pos h)
  · rw [if_neg h]
    by_cases g : s.cairn.queue.length + (cairnEntries s src code fs).length ≤ 256
    · exact .inr (.inl (if_pos g))
    · exact .inr (.inr (if_neg g))

theorem State.rest_cairn {s t : State} (k : Cairn) (h : ∃ r, t = { s with regs := r }) :
    ∃ r c, { t with cairn := k } = { s with regs := r, cairn := c } := by
  obtain ⟨r, rfl⟩ := h
  exact ⟨r, k, rfl⟩

/-- An entry for the log changes the log's input and its discard counter only. -/
theorem logCairn_rest (src : Src) (code : Nat) (fs : List DF) :
    ∃ r c, logCairn src code fs s = { s with regs := r, cairn := c } := by
  rcases logCairn_cases s src code fs with h | h | h
  · exact ⟨s.regs, s.cairn, h⟩
  · exact ⟨s.regs, _, h⟩
  · obtain ⟨r, c, e⟩ := State.rest_cairn { s.cairn with dropped := true } (s.setReg_rest R.CAIRN_DROPCNT
      (BitVec.ofNat 48 (setBits (s.regN R.CAIRN_DROPCNT) F.CAIRN_DROPCNT_DROPCNT.lo F.CAIRN_DROPCNT_DROPCNT.w
        (s.fld R.CAIRN_DROPCNT F.CAIRN_DROPCNT_DROPCNT + 1))))
    exact ⟨r, c, h.trans e⟩

/-- An entry for the log writes no register but the discard counter. -/
theorem logCairn_reg_ne (src : Src) (code : Nat) (fs : List DF) {k : Nat} (h : k ≠ R.CAIRN_DROPCNT) :
    (logCairn src code fs s).reg k = s.reg k := by
  rcases logCairn_cases s src code fs with e | e | e
  · exact State.reg_congr (congrArg State.regs e) k
  · exact State.reg_congr (congrArg State.regs e) k
  · have r : (logCairn src code fs s).regs = (s.bump R.CAIRN_DROPCNT F.CAIRN_DROPCNT_DROPCNT).regs := by rw [e]
    exact (State.reg_congr r k).trans (s.setReg_reg_ne h _)

end Sys2Proof.Machine
end

