-- ==== Sys2Proof/Laws/Frames.lean ====
section
/-! SUPPORT. What each shared operation beyond the plain updates gives each field of the state: storing a word, taking a
free value, answering a master, raising an event and writing to the log. -/

namespace Sys2Proof.Machine

variable (s : State)

section
variable (m : List Host.Cell)

@[simp] theorem State.setMem_pending : (s.setMem m).pending = s.pending := (rfl)
@[simp] theorem State.setMem_fresh : (s.setMem m).fresh = s.fresh := (rfl)
@[simp] theorem State.setMem_tick : (s.setMem m).tick = s.tick := (rfl)
@[simp] theorem State.setMem_regs : (s.setMem m).regs = s.regs := (rfl)
@[simp] theorem State.setMem_niche : (s.setMem m).niche = s.niche := (rfl)
@[simp] theorem State.setMem_flash : (s.setMem m).flash = s.flash := (rfl)
@[simp] theorem State.setMem_axes : (s.setMem m).axes = s.axes := (rfl)
@[simp] theorem State.setMem_trav : (s.setMem m).trav = s.trav := (rfl)
@[simp] theorem State.setMem_pins : (s.setMem m).pins = s.pins := (rfl)
@[simp] theorem State.setMem_hbms : (s.setMem m).hbms = s.hbms := (rfl)
@[simp] theorem State.setMem_thrFired : (s.setMem m).thrFired = s.thrFired := (rfl)
@[simp] theorem State.setMem_chams : (s.setMem m).chams = s.chams := (rfl)
@[simp] theorem State.setMem_marches : (s.setMem m).marches = s.marches := (rfl)
@[simp] theorem State.setMem_junc : (s.setMem m).junc = s.junc := (rfl)
@[simp] theorem State.setMem_sites : (s.setMem m).sites = s.sites := (rfl)
@[simp] theorem State.setMem_gals : (s.setMem m).gals = s.gals := (rfl)
@[simp] theorem State.setMem_moves : (s.setMem m).moves = s.moves := (rfl)
@[simp] theorem State.setMem_cores : (s.setMem m).cores = s.cores := (rfl)
@[simp] theorem State.setMem_clusters : (s.setMem m).clusters = s.clusters := (rfl)
@[simp] theorem State.setMem_lanes : (s.setMem m).lanes = s.lanes := (rfl)
@[simp] theorem State.setMem_link : (s.setMem m).link = s.link := (rfl)
@[simp] theorem State.setMem_eths : (s.setMem m).eths = s.eths := (rfl)
@[simp] theorem State.setMem_host : (s.setMem m).host = s.host := (rfl)
@[simp] theorem State.setMem_fuses : (s.setMem m).fuses = s.fuses := (rfl)
@[simp] theorem State.setMem_sec : (s.setMem m).sec = s.sec := (rfl)
@[simp] theorem State.setMem_dbg : (s.setMem m).dbg = s.dbg := (rfl)
@[simp] theorem State.setMem_cairn : (s.setMem m).cairn = s.cairn := (rfl)
@[simp] theorem State.setMem_pf : (s.setMem m).pf = s.pf := (rfl)
@[simp] theorem State.setMem_casc : (s.setMem m).casc = s.casc := (rfl)
@[simp] theorem State.setMem_sys : (s.setMem m).sys = s.sys := (rfl)

end

section
variable (m : List Host.Cell)

@[simp] theorem State.setNiche_pending : (s.setNiche m).pending = s.pending := (rfl)
@[simp] theorem State.setNiche_fresh : (s.setNiche m).fresh = s.fresh := (rfl)
@[simp] theorem State.setNiche_tick : (s.setNiche m).tick = s.tick := (rfl)
@[simp] theorem State.setNiche_regs : (s.setNiche m).regs = s.regs := (rfl)
@[simp] theorem State.setNiche_mem : (s.setNiche m).mem = s.mem := (rfl)
@[simp] theorem State.setNiche_flash : (s.setNiche m).flash = s.flash := (rfl)
@[simp] theorem State.setNiche_axes : (s.setNiche m).axes = s.axes := (rfl)
@[simp] theorem State.setNiche_trav : (s.setNiche m).trav = s.trav := (rfl)
@[simp] theorem State.setNiche_pins : (s.setNiche m).pins = s.pins := (rfl)
@[simp] theorem State.setNiche_hbms : (s.setNiche m).hbms = s.hbms := (rfl)
@[simp] theorem State.setNiche_thrFired : (s.setNiche m).thrFired = s.thrFired := (rfl)
@[simp] theorem State.setNiche_chams : (s.setNiche m).chams = s.chams := (rfl)
@[simp] theorem State.setNiche_marches : (s.setNiche m).marches = s.marches := (rfl)
@[simp] theorem State.setNiche_junc : (s.setNiche m).junc = s.junc := (rfl)
@[simp] theorem State.setNiche_sites : (s.setNiche m).sites = s.sites := (rfl)
@[simp] theorem State.setNiche_gals : (s.setNiche m).gals = s.gals := (rfl)
@[simp] theorem State.setNiche_moves : (s.setNiche m).moves = s.moves := (rfl)
@[simp] theorem State.setNiche_cores : (s.setNiche m).cores = s.cores := (rfl)
@[simp] theorem State.setNiche_clusters : (s.setNiche m).clusters = s.clusters := (rfl)
@[simp] theorem State.setNiche_lanes : (s.setNiche m).lanes = s.lanes := (rfl)
@[simp] theorem State.setNiche_link : (s.setNiche m).link = s.link := (rfl)
@[simp] theorem State.setNiche_eths : (s.setNiche m).eths = s.eths := (rfl)
@[simp] theorem State.setNiche_host : (s.setNiche m).host = s.host := (rfl)
@[simp] theorem State.setNiche_fuses : (s.setNiche m).fuses = s.fuses := (rfl)
@[simp] theorem State.setNiche_sec : (s.setNiche m).sec = s.sec := (rfl)
@[simp] theorem State.setNiche_dbg : (s.setNiche m).dbg = s.dbg := (rfl)
@[simp] theorem State.setNiche_cairn : (s.setNiche m).cairn = s.cairn := (rfl)
@[simp] theorem State.setNiche_pf : (s.setNiche m).pf = s.pf := (rfl)
@[simp] theorem State.setNiche_casc : (s.setNiche m).casc = s.casc := (rfl)
@[simp] theorem State.setNiche_sys : (s.setNiche m).sys = s.sys := (rfl)

end

section
variable (w : Nat) (c : Container)

@[simp] theorem State.setCont_pending : (s.setCont w c).pending = s.pending := State.setMem_pending s _
@[simp] theorem State.setCont_fresh : (s.setCont w c).fresh = s.fresh := State.setMem_fresh s _
@[simp] theorem State.setCont_tick : (s.setCont w c).tick = s.tick := State.setMem_tick s _
@[simp] theorem State.setCont_regs : (s.setCont w c).regs = s.regs := State.setMem_regs s _
@[simp] theorem State.setCont_niche : (s.setCont w c).niche = s.niche := State.setMem_niche s _
@[simp] theorem State.setCont_flash : (s.setCont w c).flash = s.flash := State.setMem_flash s _
@[simp] theorem State.setCont_axes : (s.setCont w c).axes = s.axes := State.setMem_axes s _
@[simp] theorem State.setCont_trav : (s.setCont w c).trav = s.trav := State.setMem_trav s _
@[simp] theorem State.setCont_pins : (s.setCont w c).pins = s.pins := State.setMem_pins s _
@[simp] theorem State.setCont_hbms : (s.setCont w c).hbms = s.hbms := State.setMem_hbms s _
@[simp] theorem State.setCont_thrFired : (s.setCont w c).thrFired = s.thrFired := State.setMem_thrFired s _
@[simp] theorem State.setCont_chams : (s.setCont w c).chams = s.chams := State.setMem_chams s _
@[simp] theorem State.setCont_marches : (s.setCont w c).marches = s.marches := State.setMem_marches s _
@[simp] theorem State.setCont_junc : (s.setCont w c).junc = s.junc := State.setMem_junc s _
@[simp] theorem State.setCont_sites : (s.setCont w c).sites = s.sites := State.setMem_sites s _
@[simp] theorem State.setCont_gals : (s.setCont w c).gals = s.gals := State.setMem_gals s _
@[simp] theorem State.setCont_moves : (s.setCont w c).moves = s.moves := State.setMem_moves s _
@[simp] theorem State.setCont_cores : (s.setCont w c).cores = s.cores := State.setMem_cores s _
@[simp] theorem State.setCont_clusters : (s.setCont w c).clusters = s.clusters := State.setMem_clusters s _
@[simp] theorem State.setCont_lanes : (s.setCont w c).lanes = s.lanes := State.setMem_lanes s _
@[simp] theorem State.setCont_link : (s.setCont w c).link = s.link := State.setMem_link s _
@[simp] theorem State.setCont_eths : (s.setCont w c).eths = s.eths := State.setMem_eths s _
@[simp] theorem State.setCont_host : (s.setCont w c).host = s.host := State.setMem_host s _
@[simp] theorem State.setCont_fuses : (s.setCont w c).fuses = s.fuses := State.setMem_fuses s _
@[simp] theorem State.setCont_sec : (s.setCont w c).sec = s.sec := State.setMem_sec s _
@[simp] theorem State.setCont_dbg : (s.setCont w c).dbg = s.dbg := State.setMem_dbg s _
@[simp] theorem State.setCont_cairn : (s.setCont w c).cairn = s.cairn := State.setMem_cairn s _
@[simp] theorem State.setCont_pf : (s.setCont w c).pf = s.pf := State.setMem_pf s _
@[simp] theorem State.setCont_casc : (s.setCont w c).casc = s.casc := State.setMem_casc s _
@[simp] theorem State.setCont_sys : (s.setCont w c).sys = s.sys := State.setMem_sys s _

end

section
variable (w : Nat) (x : Word)

@[simp] theorem State.putWord_pending : (s.putWord w x).pending = s.pending := State.setCont_pending s w _
@[simp] theorem State.putWord_fresh : (s.putWord w x).fresh = s.fresh := State.setCont_fresh s w _
@[simp] theorem State.putWord_tick : (s.putWord w x).tick = s.tick := State.setCont_tick s w _
@[simp] theorem State.putWord_regs : (s.putWord w x).regs = s.regs := State.setCont_regs s w _
@[simp] theorem State.putWord_niche : (s.putWord w x).niche = s.niche := State.setCont_niche s w _
@[simp] theorem State.putWord_flash : (s.putWord w x).flash = s.flash := State.setCont_flash s w _
@[simp] theorem State.putWord_axes : (s.putWord w x).axes = s.axes := State.setCont_axes s w _
@[simp] theorem State.putWord_trav : (s.putWord w x).trav = s.trav := State.setCont_trav s w _
@[simp] theorem State.putWord_pins : (s.putWord w x).pins = s.pins := State.setCont_pins s w _
@[simp] theorem State.putWord_hbms : (s.putWord w x).hbms = s.hbms := State.setCont_hbms s w _
@[simp] theorem State.putWord_thrFired : (s.putWord w x).thrFired = s.thrFired := State.setCont_thrFired s w _
@[simp] theorem State.putWord_chams : (s.putWord w x).chams = s.chams := State.setCont_chams s w _
@[simp] theorem State.putWord_marches : (s.putWord w x).marches = s.marches := State.setCont_marches s w _
@[simp] theorem State.putWord_junc : (s.putWord w x).junc = s.junc := State.setCont_junc s w _
@[simp] theorem State.putWord_sites : (s.putWord w x).sites = s.sites := State.setCont_sites s w _
@[simp] theorem State.putWord_gals : (s.putWord w x).gals = s.gals := State.setCont_gals s w _
@[simp] theorem State.putWord_moves : (s.putWord w x).moves = s.moves := State.setCont_moves s w _
@[simp] theorem State.putWord_cores : (s.putWord w x).cores = s.cores := State.setCont_cores s w _
@[simp] theorem State.putWord_clusters : (s.putWord w x).clusters = s.clusters := State.setCont_clusters s w _
@[simp] theorem State.putWord_lanes : (s.putWord w x).lanes = s.lanes := State.setCont_lanes s w _
@[simp] theorem State.putWord_link : (s.putWord w x).link = s.link := State.setCont_link s w _
@[simp] theorem State.putWord_eths : (s.putWord w x).eths = s.eths := State.setCont_eths s w _
@[simp] theorem State.putWord_host : (s.putWord w x).host = s.host := State.setCont_host s w _
@[simp] theorem State.putWord_fuses : (s.putWord w x).fuses = s.fuses := State.setCont_fuses s w _
@[simp] theorem State.putWord_sec : (s.putWord w x).sec = s.sec := State.setCont_sec s w _
@[simp] theorem State.putWord_dbg : (s.putWord w x).dbg = s.dbg := State.setCont_dbg s w _
@[simp] theorem State.putWord_cairn : (s.putWord w x).cairn = s.cairn := State.setCont_cairn s w _
@[simp] theorem State.putWord_pf : (s.putWord w x).pf = s.pf := State.setCont_pf s w _
@[simp] theorem State.putWord_casc : (s.putWord w x).casc = s.casc := State.setCont_casc s w _
@[simp] theorem State.putWord_sys : (s.putWord w x).sys = s.sys := State.setCont_sys s w _

end

section
variable (n a : Nat) (x : Word)

@[simp] theorem nichePut_pending : (nichePut n a x s).pending = s.pending := State.setNiche_pending s _
@[simp] theorem nichePut_fresh : (nichePut n a x s).fresh = s.fresh := State.setNiche_fresh s _
@[simp] theorem nichePut_tick : (nichePut n a x s).tick = s.tick := State.setNiche_tick s _
@[simp] theorem nichePut_regs : (nichePut n a x s).regs = s.regs := State.setNiche_regs s _
@[simp] theorem nichePut_mem : (nichePut n a x s).mem = s.mem := State.setNiche_mem s _
@[simp] theorem nichePut_flash : (nichePut n a x s).flash = s.flash := State.setNiche_flash s _
@[simp] theorem nichePut_axes : (nichePut n a x s).axes = s.axes := State.setNiche_axes s _
@[simp] theorem nichePut_trav : (nichePut n a x s).trav = s.trav := State.setNiche_trav s _
@[simp] theorem nichePut_pins : (nichePut n a x s).pins = s.pins := State.setNiche_pins s _
@[simp] theorem nichePut_hbms : (nichePut n a x s).hbms = s.hbms := State.setNiche_hbms s _
@[simp] theorem nichePut_thrFired : (nichePut n a x s).thrFired = s.thrFired := State.setNiche_thrFired s _
@[simp] theorem nichePut_chams : (nichePut n a x s).chams = s.chams := State.setNiche_chams s _
@[simp] theorem nichePut_marches : (nichePut n a x s).marches = s.marches := State.setNiche_marches s _
@[simp] theorem nichePut_junc : (nichePut n a x s).junc = s.junc := State.setNiche_junc s _
@[simp] theorem nichePut_sites : (nichePut n a x s).sites = s.sites := State.setNiche_sites s _
@[simp] theorem nichePut_gals : (nichePut n a x s).gals = s.gals := State.setNiche_gals s _
@[simp] theorem nichePut_moves : (nichePut n a x s).moves = s.moves := State.setNiche_moves s _
@[simp] theorem nichePut_cores : (nichePut n a x s).cores = s.cores := State.setNiche_cores s _
@[simp] theorem nichePut_clusters : (nichePut n a x s).clusters = s.clusters := State.setNiche_clusters s _
@[simp] theorem nichePut_lanes : (nichePut n a x s).lanes = s.lanes := State.setNiche_lanes s _
@[simp] theorem nichePut_link : (nichePut n a x s).link = s.link := State.setNiche_link s _
@[simp] theorem nichePut_eths : (nichePut n a x s).eths = s.eths := State.setNiche_eths s _
@[simp] theorem nichePut_host : (nichePut n a x s).host = s.host := State.setNiche_host s _
@[simp] theorem nichePut_fuses : (nichePut n a x s).fuses = s.fuses := State.setNiche_fuses s _
@[simp] theorem nichePut_sec : (nichePut n a x s).sec = s.sec := State.setNiche_sec s _
@[simp] theorem nichePut_dbg : (nichePut n a x s).dbg = s.dbg := State.setNiche_dbg s _
@[simp] theorem nichePut_cairn : (nichePut n a x s).cairn = s.cairn := State.setNiche_cairn s _
@[simp] theorem nichePut_pf : (nichePut n a x s).pf = s.pf := State.setNiche_pf s _
@[simp] theorem nichePut_casc : (nichePut n a x s).casc = s.casc := State.setNiche_casc s _
@[simp] theorem nichePut_sys : (nichePut n a x s).sys = s.sys := State.setNiche_sys s _

end

@[simp] theorem State.freeNat_pending : (s.freeNat.2).pending = s.pending := (rfl)
@[simp] theorem State.freeNat_tick : (s.freeNat.2).tick = s.tick := (rfl)
@[simp] theorem State.freeNat_regs : (s.freeNat.2).regs = s.regs := (rfl)
@[simp] theorem State.freeNat_mem : (s.freeNat.2).mem = s.mem := (rfl)
@[simp] theorem State.freeNat_niche : (s.freeNat.2).niche = s.niche := (rfl)
@[simp] theorem State.freeNat_flash : (s.freeNat.2).flash = s.flash := (rfl)
@[simp] theorem State.freeNat_axes : (s.freeNat.2).axes = s.axes := (rfl)
@[simp] theorem State.freeNat_trav : (s.freeNat.2).trav = s.trav := (rfl)
@[simp] theorem State.freeNat_pins : (s.freeNat.2).pins = s.pins := (rfl)
@[simp] theorem State.freeNat_hbms : (s.freeNat.2).hbms = s.hbms := (rfl)
@[simp] theorem State.freeNat_thrFired : (s.freeNat.2).thrFired = s.thrFired := (rfl)
@[simp] theorem State.freeNat_chams : (s.freeNat.2).chams = s.chams := (rfl)
@[simp] theorem State.freeNat_marches : (s.freeNat.2).marches = s.marches := (rfl)
@[simp] theorem State.freeNat_junc : (s.freeNat.2).junc = s.junc := (rfl)
@[simp] theorem State.freeNat_sites : (s.freeNat.2).sites = s.sites := (rfl)
@[simp] theorem State.freeNat_gals : (s.freeNat.2).gals = s.gals := (rfl)
@[simp] theorem State.freeNat_moves : (s.freeNat.2).moves = s.moves := (rfl)
@[simp] theorem State.freeNat_cores : (s.freeNat.2).cores = s.cores := (rfl)
@[simp] theorem State.freeNat_clusters : (s.freeNat.2).clusters = s.clusters := (rfl)
@[simp] theorem State.freeNat_lanes : (s.freeNat.2).lanes = s.lanes := (rfl)
@[simp] theorem State.freeNat_link : (s.freeNat.2).link = s.link := (rfl)
@[simp] theorem State.freeNat_eths : (s.freeNat.2).eths = s.eths := (rfl)
@[simp] theorem State.freeNat_host : (s.freeNat.2).host = s.host := (rfl)
@[simp] theorem State.freeNat_fuses : (s.freeNat.2).fuses = s.fuses := (rfl)
@[simp] theorem State.freeNat_sec : (s.freeNat.2).sec = s.sec := (rfl)
@[simp] theorem State.freeNat_dbg : (s.freeNat.2).dbg = s.dbg := (rfl)
@[simp] theorem State.freeNat_cairn : (s.freeNat.2).cairn = s.cairn := (rfl)
@[simp] theorem State.freeNat_pf : (s.freeNat.2).pf = s.pf := (rfl)
@[simp] theorem State.freeNat_casc : (s.freeNat.2).casc = s.casc := (rfl)
@[simp] theorem State.freeNat_sys : (s.freeNat.2).sys = s.sys := (rfl)

section
variable (m a : Nat) (wr : Bool) (va : Nat) (r : Ans)

@[simp] theorem respond_pending : (respond m a wr va r s).pending = s.pending := (rfl)
@[simp] theorem respond_fresh : (respond m a wr va r s).fresh = s.fresh := (rfl)
@[simp] theorem respond_tick : (respond m a wr va r s).tick = s.tick := (rfl)
@[simp] theorem respond_regs : (respond m a wr va r s).regs = s.regs := (rfl)
@[simp] theorem respond_mem : (respond m a wr va r s).mem = s.mem := (rfl)
@[simp] theorem respond_niche : (respond m a wr va r s).niche = s.niche := (rfl)
@[simp] theorem respond_flash : (respond m a wr va r s).flash = s.flash := (rfl)
@[simp] theorem respond_axes : (respond m a wr va r s).axes = s.axes := (rfl)
@[simp] theorem respond_trav : (respond m a wr va r s).trav = s.trav := (rfl)
@[simp] theorem respond_pins : (respond m a wr va r s).pins = s.pins := (rfl)
@[simp] theorem respond_hbms : (respond m a wr va r s).hbms = s.hbms := (rfl)
@[simp] theorem respond_thrFired : (respond m a wr va r s).thrFired = s.thrFired := (rfl)
@[simp] theorem respond_chams : (respond m a wr va r s).chams = s.chams := (rfl)
@[simp] theorem respond_marches : (respond m a wr va r s).marches = s.marches := (rfl)
@[simp] theorem respond_sites : (respond m a wr va r s).sites = s.sites := (rfl)
@[simp] theorem respond_gals : (respond m a wr va r s).gals = s.gals := (rfl)
@[simp] theorem respond_moves : (respond m a wr va r s).moves = s.moves := (rfl)
@[simp] theorem respond_cores : (respond m a wr va r s).cores = s.cores := (rfl)
@[simp] theorem respond_clusters : (respond m a wr va r s).clusters = s.clusters := (rfl)
@[simp] theorem respond_lanes : (respond m a wr va r s).lanes = s.lanes := (rfl)
@[simp] theorem respond_link : (respond m a wr va r s).link = s.link := (rfl)
@[simp] theorem respond_eths : (respond m a wr va r s).eths = s.eths := (rfl)
@[simp] theorem respond_host : (respond m a wr va r s).host = s.host := (rfl)
@[simp] theorem respond_fuses : (respond m a wr va r s).fuses = s.fuses := (rfl)
@[simp] theorem respond_sec : (respond m a wr va r s).sec = s.sec := (rfl)
@[simp] theorem respond_dbg : (respond m a wr va r s).dbg = s.dbg := (rfl)
@[simp] theorem respond_cairn : (respond m a wr va r s).cairn = s.cairn := (rfl)
@[simp] theorem respond_pf : (respond m a wr va r s).pf = s.pf := (rfl)
@[simp] theorem respond_casc : (respond m a wr va r s).casc = s.casc := (rfl)
@[simp] theorem respond_sys : (respond m a wr va r s).sys = s.sys := (rfl)

end

section
variable (f : Nat) (x : HostFn)

@[simp] theorem State.setHostFn_pending : (s.setHostFn f x).pending = s.pending := (rfl)
@[simp] theorem State.setHostFn_fresh : (s.setHostFn f x).fresh = s.fresh := (rfl)
@[simp] theorem State.setHostFn_tick : (s.setHostFn f x).tick = s.tick := (rfl)
@[simp] theorem State.setHostFn_regs : (s.setHostFn f x).regs = s.regs := (rfl)
@[simp] theorem State.setHostFn_mem : (s.setHostFn f x).mem = s.mem := (rfl)
@[simp] theorem State.setHostFn_niche : (s.setHostFn f x).niche = s.niche := (rfl)
@[simp] theorem State.setHostFn_flash : (s.setHostFn f x).flash = s.flash := (rfl)
@[simp] theorem State.setHostFn_axes : (s.setHostFn f x).axes = s.axes := (rfl)
@[simp] theorem State.setHostFn_trav : (s.setHostFn f x).trav = s.trav := (rfl)
@[simp] theorem State.setHostFn_pins : (s.setHostFn f x).pins = s.pins := (rfl)
@[simp] theorem State.setHostFn_hbms : (s.setHostFn f x).hbms = s.hbms := (rfl)
@[simp] theorem State.setHostFn_thrFired : (s.setHostFn f x).thrFired = s.thrFired := (rfl)
@[simp] theorem State.setHostFn_chams : (s.setHostFn f x).chams = s.chams := (rfl)
@[simp] theorem State.setHostFn_marches : (s.setHostFn f x).marches = s.marches := (rfl)
@[simp] theorem State.setHostFn_junc : (s.setHostFn f x).junc = s.junc := (rfl)
@[simp] theorem State.setHostFn_sites : (s.setHostFn f x).sites = s.sites := (rfl)
@[simp] theorem State.setHostFn_gals : (s.setHostFn f x).gals = s.gals := (rfl)
@[simp] theorem State.setHostFn_moves : (s.setHostFn f x).moves = s.moves := (rfl)
@[simp] theorem State.setHostFn_cores : (s.setHostFn f x).cores = s.cores := (rfl)
@[simp] theorem State.setHostFn_clusters : (s.setHostFn f x).clusters = s.clusters := (rfl)
@[simp] theorem State.setHostFn_lanes : (s.setHostFn f x).lanes = s.lanes := (rfl)
@[simp] theorem State.setHostFn_link : (s.setHostFn f x).link = s.link := (rfl)
@[simp] theorem State.setHostFn_eths : (s.setHostFn f x).eths = s.eths := (rfl)
@[simp] theorem State.setHostFn_fuses : (s.setHostFn f x).fuses = s.fuses := (rfl)
@[simp] theorem State.setHostFn_sec : (s.setHostFn f x).sec = s.sec := (rfl)
@[simp] theorem State.setHostFn_dbg : (s.setHostFn f x).dbg = s.dbg := (rfl)
@[simp] theorem State.setHostFn_cairn : (s.setHostFn f x).cairn = s.cairn := (rfl)
@[simp] theorem State.setHostFn_pf : (s.setHostFn f x).pf = s.pf := (rfl)
@[simp] theorem State.setHostFn_casc : (s.setHostFn f x).casc = s.casc := (rfl)
@[simp] theorem State.setHostFn_sys : (s.setHostFn f x).sys = s.sys := (rfl)

end

section
variable (m : Nat) (x : Option Msg)

@[simp] theorem State.setMsg_pending : (s.setMsg m x).pending = s.pending := (rfl)
@[simp] theorem State.setMsg_fresh : (s.setMsg m x).fresh = s.fresh := (rfl)
@[simp] theorem State.setMsg_tick : (s.setMsg m x).tick = s.tick := (rfl)
@[simp] theorem State.setMsg_regs : (s.setMsg m x).regs = s.regs := (rfl)
@[simp] theorem State.setMsg_mem : (s.setMsg m x).mem = s.mem := (rfl)
@[simp] theorem State.setMsg_niche : (s.setMsg m x).niche = s.niche := (rfl)
@[simp] theorem State.setMsg_flash : (s.setMsg m x).flash = s.flash := (rfl)
@[simp] theorem State.setMsg_axes : (s.setMsg m x).axes = s.axes := (rfl)
@[simp] theorem State.setMsg_trav : (s.setMsg m x).trav = s.trav := (rfl)
@[simp] theorem State.setMsg_pins : (s.setMsg m x).pins = s.pins := (rfl)
@[simp] theorem State.setMsg_hbms : (s.setMsg m x).hbms = s.hbms := (rfl)
@[simp] theorem State.setMsg_thrFired : (s.setMsg m x).thrFired = s.thrFired := (rfl)
@[simp] theorem State.setMsg_chams : (s.setMsg m x).chams = s.chams := (rfl)
@[simp] theorem State.setMsg_marches : (s.setMsg m x).marches = s.marches := (rfl)
@[simp] theorem State.setMsg_junc : (s.setMsg m x).junc = s.junc := (rfl)
@[simp] theorem State.setMsg_sites : (s.setMsg m x).sites = s.sites := (rfl)
@[simp] theorem State.setMsg_gals : (s.setMsg m x).gals = s.gals := (rfl)
@[simp] theorem State.setMsg_moves : (s.setMsg m x).moves = s.moves := (rfl)
@[simp] theorem State.setMsg_cores : (s.setMsg m x).cores = s.cores := (rfl)
@[simp] theorem State.setMsg_clusters : (s.setMsg m x).clusters = s.clusters := (rfl)
@[simp] theorem State.setMsg_lanes : (s.setMsg m x).lanes = s.lanes := (rfl)
@[simp] theorem State.setMsg_eths : (s.setMsg m x).eths = s.eths := (rfl)
@[simp] theorem State.setMsg_host : (s.setMsg m x).host = s.host := (rfl)
@[simp] theorem State.setMsg_fuses : (s.setMsg m x).fuses = s.fuses := (rfl)
@[simp] theorem State.setMsg_sec : (s.setMsg m x).sec = s.sec := (rfl)
@[simp] theorem State.setMsg_dbg : (s.setMsg m x).dbg = s.dbg := (rfl)
@[simp] theorem State.setMsg_cairn : (s.setMsg m x).cairn = s.cairn := (rfl)
@[simp] theorem State.setMsg_pf : (s.setMsg m x).pf = s.pf := (rfl)
@[simp] theorem State.setMsg_casc : (s.setMsg m x).casc = s.casc := (rfl)
@[simp] theorem State.setMsg_sys : (s.setMsg m x).sys = s.sys := (rfl)

end

section
variable (n : Nat)

@[simp] theorem raise_pending : (raise n s).pending = s.pending := by obtain ⟨r, c, e⟩ := raise_rest s n; rw [e]
@[simp] theorem raise_fresh : (raise n s).fresh = s.fresh := by obtain ⟨r, c, e⟩ := raise_rest s n; rw [e]
@[simp] theorem raise_tick : (raise n s).tick = s.tick := by obtain ⟨r, c, e⟩ := raise_rest s n; rw [e]
@[simp] theorem raise_mem : (raise n s).mem = s.mem := by obtain ⟨r, c, e⟩ := raise_rest s n; rw [e]
@[simp] theorem raise_niche : (raise n s).niche = s.niche := by obtain ⟨r, c, e⟩ := raise_rest s n; rw [e]
@[simp] theorem raise_flash : (raise n s).flash = s.flash := by obtain ⟨r, c, e⟩ := raise_rest s n; rw [e]
@[simp] theorem raise_trav : (raise n s).trav = s.trav := by obtain ⟨r, c, e⟩ := raise_rest s n; rw [e]
@[simp] theorem raise_pins : (raise n s).pins = s.pins := by obtain ⟨r, c, e⟩ := raise_rest s n; rw [e]
@[simp] theorem raise_hbms : (raise n s).hbms = s.hbms := by obtain ⟨r, c, e⟩ := raise_rest s n; rw [e]
@[simp] theorem raise_thrFired : (raise n s).thrFired = s.thrFired := by obtain ⟨r, c, e⟩ := raise_rest s n; rw [e]
@[simp] theorem raise_chams : (raise n s).chams = s.chams := by obtain ⟨r, c, e⟩ := raise_rest s n; rw [e]
@[simp] theorem raise_marches : (raise n s).marches = s.marches := by obtain ⟨r, c, e⟩ := raise_rest s n; rw [e]
@[simp] theorem raise_junc : (raise n s).junc = s.junc := by obtain ⟨r, c, e⟩ := raise_rest s n; rw [e]
@[simp] theorem raise_sites : (raise n s).sites = s.sites := by obtain ⟨r, c, e⟩ := raise_rest s n; rw [e]
@[simp] theorem raise_gals : (raise n s).gals = s.gals := by obtain ⟨r, c, e⟩ := raise_rest s n; rw [e]
@[simp] theorem raise_moves : (raise n s).moves = s.moves := by obtain ⟨r, c, e⟩ := raise_rest s n; rw [e]
@[simp] theorem raise_clusters : (raise n s).clusters = s.clusters := by obtain ⟨r, c, e⟩ := raise_rest s n; rw [e]
@[simp] theorem raise_lanes : (raise n s).lanes = s.lanes := by obtain ⟨r, c, e⟩ := raise_rest s n; rw [e]
@[simp] theorem raise_link : (raise n s).link = s.link := by obtain ⟨r, c, e⟩ := raise_rest s n; rw [e]
@[simp] theorem raise_eths : (raise n s).eths = s.eths := by obtain ⟨r, c, e⟩ := raise_rest s n; rw [e]
@[simp] theorem raise_host : (raise n s).host = s.host := by obtain ⟨r, c, e⟩ := raise_rest s n; rw [e]
@[simp] theorem raise_fuses : (raise n s).fuses = s.fuses := by obtain ⟨r, c, e⟩ := raise_rest s n; rw [e]
@[simp] theorem raise_sec : (raise n s).sec = s.sec := by obtain ⟨r, c, e⟩ := raise_rest s n; rw [e]
@[simp] theorem raise_dbg : (raise n s).dbg = s.dbg := by obtain ⟨r, c, e⟩ := raise_rest s n; rw [e]
@[simp] theorem raise_cairn : (raise n s).cairn = s.cairn := by obtain ⟨r, c, e⟩ := raise_rest s n; rw [e]
@[simp] theorem raise_pf : (raise n s).pf = s.pf := by obtain ⟨r, c, e⟩ := raise_rest s n; rw [e]
@[simp] theorem raise_casc : (raise n s).casc = s.casc := by obtain ⟨r, c, e⟩ := raise_rest s n; rw [e]
@[simp] theorem raise_sys : (raise n s).sys = s.sys := by obtain ⟨r, c, e⟩ := raise_rest s n; rw [e]

end

section
variable (src : Src) (code : Nat) (fs : List DF)

@[simp] theorem logCairn_pending : (logCairn src code fs s).pending = s.pending := by
  obtain ⟨r, c, e⟩ := logCairn_rest s src code fs; rw [e]
@[simp] theorem logCairn_fresh : (logCairn src code fs s).fresh = s.fresh := by
  obtain ⟨r, c, e⟩ := logCairn_rest s src code fs; rw [e]
@[simp] theorem logCairn_tick : (logCairn src code fs s).tick = s.tick := by
  obtain ⟨r, c, e⟩ := logCairn_rest s src code fs; rw [e]
@[simp] theorem logCairn_mem : (logCairn src code fs s).mem = s.mem := by
  obtain ⟨r, c, e⟩ := logCairn_rest s src code fs; rw [e]
@[simp] theorem logCairn_niche : (logCairn src code fs s).niche = s.niche := by
  obtain ⟨r, c, e⟩ := logCairn_rest s src code fs; rw [e]
@[simp] theorem logCairn_flash : (logCairn src code fs s).flash = s.flash := by
  obtain ⟨r, c, e⟩ := logCairn_rest s src code fs; rw [e]
@[simp] theorem logCairn_trav : (logCairn src code fs s).trav = s.trav := by
  obtain ⟨r, c, e⟩ := logCairn_rest s src code fs; rw [e]
@[simp] theorem logCairn_pins : (logCairn src code fs s).pins = s.pins := by
  obtain ⟨r, c, e⟩ := logCairn_rest s src code fs; rw [e]
@[simp] theorem logCairn_hbms : (logCairn src code fs s).hbms = s.hbms := by
  obtain ⟨r, c, e⟩ := logCairn_rest s src code fs; rw [e]
@[simp] theorem logCairn_thrFired : (logCairn src code fs s).thrFired = s.thrFired := by
  obtain ⟨r, c, e⟩ := logCairn_rest s src code fs; rw [e]
@[simp] theorem logCairn_chams : (logCairn src code fs s).chams = s.chams := by
  obtain ⟨r, c, e⟩ := logCairn_rest s src code fs; rw [e]
@[simp] theorem logCairn_marches : (logCairn src code fs s).marches = s.marches := by
  obtain ⟨r, c, e⟩ := logCairn_rest s src code fs; rw [e]
@[simp] theorem logCairn_junc : (logCairn src code fs s).junc = s.junc := by
  obtain ⟨r, c, e⟩ := logCairn_rest s src code fs; rw [e]
@[simp] theorem logCairn_sites : (logCairn src code fs s).sites = s.sites := by
  obtain ⟨r, c, e⟩ := logCairn_rest s src code fs; rw [e]
@[simp] theorem logCairn_gals : (logCairn src code fs s).gals = s.gals := by
  obtain ⟨r, c, e⟩ := logCairn_rest s src code fs; rw [e]
@[simp] theorem logCairn_moves : (logCairn src code fs s).moves = s.moves := by
  obtain ⟨r, c, e⟩ := logCairn_rest s src code fs; rw [e]
@[simp] theorem logCairn_cores : (logCairn src code fs s).cores = s.cores := by
  obtain ⟨r, c, e⟩ := logCairn_rest s src code fs; rw [e]
@[simp] theorem logCairn_clusters : (logCairn src code fs s).clusters = s.clusters := by
  obtain ⟨r, c, e⟩ := logCairn_rest s src code fs; rw [e]
@[simp] theorem logCairn_lanes : (logCairn src code fs s).lanes = s.lanes := by
  obtain ⟨r, c, e⟩ := logCairn_rest s src code fs; rw [e]
@[simp] theorem logCairn_link : (logCairn src code fs s).link = s.link := by
  obtain ⟨r, c, e⟩ := logCairn_rest s src code fs; rw [e]
@[simp] theorem logCairn_eths : (logCairn src code fs s).eths = s.eths := by
  obtain ⟨r, c, e⟩ := logCairn_rest s src code fs; rw [e]
@[simp] theorem logCairn_host : (logCairn src code fs s).host = s.host := by
  obtain ⟨r, c, e⟩ := logCairn_rest s src code fs; rw [e]
@[simp] theorem logCairn_fuses : (logCairn src code fs s).fuses = s.fuses := by
  obtain ⟨r, c, e⟩ := logCairn_rest s src code fs; rw [e]
@[simp] theorem logCairn_sec : (logCairn src code fs s).sec = s.sec := by
  obtain ⟨r, c, e⟩ := logCairn_rest s src code fs; rw [e]
@[simp] theorem logCairn_dbg : (logCairn src code fs s).dbg = s.dbg := by
  obtain ⟨r, c, e⟩ := logCairn_rest s src code fs; rw [e]
@[simp] theorem logCairn_pf : (logCairn src code fs s).pf = s.pf := by
  obtain ⟨r, c, e⟩ := logCairn_rest s src code fs; rw [e]
@[simp] theorem logCairn_casc : (logCairn src code fs s).casc = s.casc := by
  obtain ⟨r, c, e⟩ := logCairn_rest s src code fs; rw [e]
@[simp] theorem logCairn_sys : (logCairn src code fs s).sys = s.sys := by
  obtain ⟨r, c, e⟩ := logCairn_rest s src code fs; rw [e]

end

end Sys2Proof.Machine
end

