-- ==== Sys2Proof/Laws/Memory.lean ====
section
/-! SUPPORT. The laws of memory: every operation on it keeps the canonical form, a container reads as it was written
and a write leaves every other container alone. -/

namespace Sys2Proof.Machine

/-! ### Canonical form -/

theorem memWf_memPut (n : Nat) : ∀ (m : List Host.Cell) (i x : Nat), memWf m = true → memWf (memPut m i x n) = true := by
  induction n with
  | zero => intro m i x h; exact h
  | succ n ih => intro m i x h; exact ih _ _ _ (twf_tset _ _ _ _ h)

theorem memWf_contPut (m : List Host.Cell) (w : Nat) (c : Container) (h : memWf m = true) : memWf (contPut m w c) = true :=
  memWf_memPut 8 _ _ _ h

/-- What lies between the entries that a filter keeps does not matter. -/
theorem twfFrom_filter {α : Type} [DecidableEq α] (d : Nat → α) (p : Nat × α → Bool) (t : Tab α) :
    ∀ lo, twfFrom d lo t = true → twfFrom d lo (t.filter p) = true := by
  induction t with
  | nil => intro lo h; exact h
  | cons x t ih =>
    intro lo w
    simp only [twfFrom, Bool.and_eq_true, decide_eq_true_eq] at w
    by_cases hp : p x = true
    · rw [List.filter_cons_of_pos hp]
      simp only [twfFrom, Bool.and_eq_true, decide_eq_true_eq]
      exact ⟨w.1, ih _ w.2⟩
    · rw [List.filter_cons_of_neg hp]
      exact twfFrom_mono d _ (by omega) (ih _ w.2)

theorem memWf_clearWords (m : List Host.Cell) (w0 len : Nat) (h : memWf m = true) : memWf (clearWords m w0 len) = true :=
  twfFrom_filter _ _ _ _ h

theorem memWf_nvsCells (m : List Host.Cell) (h : memWf m = true) : memWf (nvsCells m) = true :=
  twfFrom_filter _ _ _ _ h

/-- The memories after reset list nothing. -/
theorem reset_memWf : memWf State.reset.mem = true ∧ memWf State.reset.niche = true ∧ memWf State.reset.flash = true := by
  decide

theorem State.canonical_iff (s : State) :
    s.canonical = true ↔ memWf s.mem = true ∧ memWf s.niche = true ∧ memWf s.flash = true := by
  simp [State.canonical, and_assoc]

theorem State.setMem_canonical (s : State) (m : List Host.Cell) (h : s.canonical = true) (w : memWf m = true) :
    (s.setMem m).canonical = true := by
  rw [State.canonical_iff] at h ⊢
  exact ⟨w, h.2⟩

theorem State.setNiche_canonical (s : State) (m : List Host.Cell) (h : s.canonical = true) (w : memWf m = true) :
    (s.setNiche m).canonical = true := by
  rw [State.canonical_iff] at h ⊢
  exact ⟨h.1, w, h.2.2⟩

theorem State.setCont_canonical (s : State) (w : Nat) (c : Container) (h : s.canonical = true) :
    (s.setCont w c).canonical = true :=
  s.setMem_canonical _ h (memWf_contPut _ _ _ ((State.canonical_iff s).1 h).1)

theorem State.putWord_canonical (s : State) (w : Nat) (x : Word) (h : s.canonical = true) :
    (s.putWord w x).canonical = true := s.setCont_canonical w _ h

theorem nichePut_canonical (n a : Nat) (x : Word) (s : State) (h : s.canonical = true) :
    (nichePut n a x s).canonical = true :=
  s.setNiche_canonical _ h (memWf_contPut _ _ _ ((State.canonical_iff s).1 h).2.1)

/-- States with the same memories are canonical together. -/
theorem State.canonical_congr {s t : State} (h : t.mem = s.mem) (g : t.niche = s.niche) (k : t.flash = s.flash) :
    t.canonical = s.canonical := by
  simp only [State.canonical, h, g, k]

/-! ### Reading what was written -/

theorem memByte_memPut_out (n : Nat) : ∀ (m : List Host.Cell) (i x j : Nat), (j < i ∨ i + n ≤ j) →
    memByte (memPut m i x n) j = memByte m j := by
  induction n with
  | zero => intro m i x j _; rfl
  | succ n ih =>
    intro m i x j h
    rw [memPut, ih _ _ _ _ (by omega)]
    exact tget_tset_ne _ _ _ (by omega)

theorem memByte_memPut_in (n : Nat) : ∀ (m : List Host.Cell) (i x k : Nat), k < n →
    memByte (memPut m i x n) (i + k) = BitVec.ofNat 8 (x / 256 ^ k) := by
  induction n with
  | zero => intro m i x k h; omega
  | succ n ih =>
    intro m i x k h
    cases k with
    | zero =>
      rw [memPut, memByte_memPut_out n _ _ _ _ (by omega)]
      simp [memByte]
    | succ k =>
      have e : i + (k + 1) = i + 1 + k := by omega
      rw [memPut, e, ih _ _ _ _ (by omega), Nat.div_div_eq_div_mul, pow_succ']

theorem memBytes_congr (n : Nat) : ∀ (m m' : List Host.Cell) (i : Nat),
    (∀ k, k < n → memByte m (i + k) = memByte m' (i + k)) → memBytes m i n = memBytes m' i n := by
  induction n with
  | zero => intro m m' i _; rfl
  | succ n ih =>
    intro m m' i h
    have h0 := h 0 (by omega)
    have h1 := ih m m' (i + 1) (fun k hk => by
      have := h (k + 1) (by omega)
      rwa [show i + (k + 1) = i + 1 + k by omega] at this)
    simp only [memBytes, h1]
    rw [Nat.add_zero] at h0
    rw [h0]

theorem memBytes_of_bytes (n : Nat) : ∀ (m : List Host.Cell) (i x : Nat),
    (∀ k, k < n → memByte m (i + k) = BitVec.ofNat 8 (x / 256 ^ k)) → memBytes m i n = x % 256 ^ n := by
  induction n with
  | zero => intro m i x _; simp [memBytes, Nat.mod_one]
  | succ n ih =>
    intro m i x h
    have h0 := h 0 (by omega)
    have h1 := ih m (i + 1) (x / 256) (fun k hk => by
      have := h (k + 1) (by omega)
      rw [show i + (k + 1) = i + 1 + k by omega] at this
      rw [this, Nat.div_div_eq_div_mul, pow_succ'])
    simp only [Nat.add_zero, pow_zero, Nat.div_one] at h0
    have h2 : (BitVec.ofNat 8 x).toNat = x % 256 := BitVec.toNat_ofNat ..
    rw [memBytes, h0, h1, h2, pow_succ', Nat.mod_mul]

theorem contAt_contPut_same (m : List Host.Cell) (w : Nat) (c : Container) : contAt (contPut m w c) w = c := by
  unfold contAt contPut
  rw [memBytes_of_bytes 8 _ _ c.toNat (fun k hk => memByte_memPut_in 8 _ _ _ k hk)]
  apply BitVec.eq_of_toNat_eq
  have := c.isLt
  rw [BitVec.toNat_ofNat]
  omega

theorem contAt_contPut_ne (m : List Host.Cell) (w v : Nat) (c : Container) (h : v ≠ w) :
    contAt (contPut m w c) v = contAt m v := by
  unfold contAt contPut
  rw [memBytes_congr 8 _ m (8 * v) fun k hk => memByte_memPut_out 8 _ _ _ _ (by omega)]

/-- A container written outside the boot ROM reads back, and a write leaves every other word alone. -/
theorem State.setCont_cont (s : State) (w v : Nat) (c : Container) (h : inRomRange w = false) :
    (s.setCont w c).cont v = if v = w then c else s.cont v := by
  unfold State.cont
  rw [show (s.setCont w c).mem = contPut s.mem w c from rfl]
  by_cases hv : v = w
  · subst hv
    simp [h, contAt_contPut_same]
  · simp [hv, contAt_contPut_ne _ _ _ _ hv]

/-- The bytes of memory outside a word that is written. -/
theorem State.setCont_bytes (s : State) (w i : Nat) (c : Container) (h : i < 8 * w ∨ 8 * w + 8 ≤ i) :
    memByte (s.setCont w c).mem i = memByte s.mem i := memByte_memPut_out 8 _ _ _ _ h

end Sys2Proof.Machine
end

