-- ==== Sys2Proof/Laws/Bus.lean ====
section
/-! SUPPORT. What the shared access operation does where a store holds the word: a write stores it, a clean read
delivers it, and the access neither waits nor changes anything but the port that grants it and, at a chamber, the free
values that the gallery port takes. -/

namespace Sys2Proof.Machine

/-! ### What a granted port and a chamber's other port change -/

/-- A grant changes the target ports only. -/
theorem State.granted_rest (s : State) (t m : Nat) :
    ∃ p, s.granted t m = { s with junc := { s.junc with ports := p } } := ⟨_, rfl⟩

theorem State.freeNat_rest (s : State) : ∃ f, s.freeNat.2 = { s with fresh := f } := ⟨_, rfl⟩

theorem State.galPort_rest (s : State) (n : Nat) : ∃ f, (s.galPort n).2 = { s with fresh := f } := by
  unfold State.galPort
  split
  · exact ⟨_, rfl⟩
  · exact ⟨s.fresh, rfl⟩

theorem chamberGclk_rest (n sa : Nat) (wr : Bool) (s : State) :
    ∃ f c, (chamberGclk n sa wr s).2 = { s with fresh := f, chams := c } := by
  obtain ⟨f, h⟩ := s.galPort_rest n
  unfold chamberGclk
  dsimp only
  split
  · rw [h]; exact ⟨_, _, rfl⟩
  · rw [h]; exact ⟨_, s.chams, rfl⟩

/-- The chamber's other port changes free values taken and the rotation bit only. -/
theorem chamberPort_rest (n a : Nat) (wr : Bool) (s : State) :
    ∃ f c, chamberPort n a wr s = { s with fresh := f, chams := c } := by
  obtain ⟨f, c, h⟩ := chamberGclk_rest n (subArray (a % 0x800000 / 4)) wr s
  unfold chamberPort
  dsimp only
  split
  · exact ⟨f, c, h⟩
  · rw [h]
    exact chamberGclk_rest n _ wr _

theorem State.presented_rest (s : State) (a : Nat) (wr : Bool) :
    ∃ f c, s.presented a wr = { s with fresh := f, chams := c } := by
  unfold State.presented
  split
  · exact chamberPort_rest ..
  · exact ⟨s.fresh, s.chams, rfl⟩

@[simp] theorem State.presented_mem (s : State) (a : Nat) (wr : Bool) : (s.presented a wr).mem = s.mem := by
  obtain ⟨f, c, h⟩ := s.presented_rest a wr
  rw [h]

/-- A word of memory is read from the memory alone. -/
theorem State.cont_congr {s t : State} (h : t.mem = s.mem) (v : Nat) : t.cont v = s.cont v := by
  unfold State.cont
  rw [h]

@[simp] theorem State.granted_mem (s : State) (t m : Nat) : (s.granted t m).mem = s.mem := by
  obtain ⟨p, h⟩ := s.granted_rest t m
  rw [h]

@[simp] theorem State.granted_cont (s : State) (t m v : Nat) : (s.granted t m).cont v = s.cont v :=
  State.cont_congr (s.granted_mem t m) v

@[simp] theorem State.presented_cont (s : State) (a : Nat) (wr : Bool) (v : Nat) :
    (s.presented a wr).cont v = s.cont v := State.cont_congr (s.presented_mem a wr) v

/-- A stored word changes memory, the ports and what the presentation changes. -/
theorem State.storedBy_rest (s : State) (m a : Nat) (w : Word) :
    ∃ x f c p, s.storedBy m a w =
      { s with mem := x, fresh := f, chams := c, junc := { s.junc with ports := p } } := by
  obtain ⟨f, c, h⟩ := s.presented_rest a true
  obtain ⟨p, g⟩ := ((s.presented a true).putWord (a / 4) w).granted_rest (targetOf a).id m
  refine ⟨contPut s.mem (a / 4) (encodeWord w), f, c, p, g.trans ?_⟩
  rw [h]
  rfl

theorem State.readBy_rest (s : State) (m a : Nat) :
    ∃ f c p, s.readBy m a = { s with fresh := f, chams := c, junc := { s.junc with ports := p } } := by
  obtain ⟨f, c, h⟩ := s.presented_rest a false
  obtain ⟨p, g⟩ := (s.presented a false).granted_rest (targetOf a).id m
  refine ⟨f, c, p, g.trans ?_⟩
  rw [h]

/-! ### Accesses that are performed at once -/

/-- An operation at the storage never finds its link down. -/
theorem storageOp_status (m a : Nat) (op : JOp) (s : State) : (storageOp m a op s).1.st ≠ .linkdown := by
  have h : ∀ x, (rmwOn a op x).2.st ≠ .linkdown := fun x => by
    unfold rmwOn
    cases op <;> simp <;> split <;> simp
  unfold storageOp
  split
  · exact fun e => Status.noConfusion e
  · exact fun e => Status.noConfusion e
  · split
    · exact fun e => Status.noConfusion e
    · unfold rmw
      dsimp only
      split
      · exact fun e => Status.noConfusion e
      · rename_i x _ _
        have := h x
        split <;> simp_all

/-- Nothing goes before an access where nothing waits. -/
theorem State.performs_free (s : State) (m a : Nat) (op : JOp) (h : s.performs m a = true) :
    s.outranked m a op = false := by
  unfold State.performs State.turn at h
  simp only [Bool.and_eq_true, Bool.not_eq_true', List.isEmpty_iff] at h
  unfold State.outranked
  simp [h.2.1.2, h.2.2]

/-- Such an access is the storage operation itself. -/
theorem busAccess_performs (ra : Nat → Level → Nat → JOp → State → Ans × State) (m : Nat) (lv : Level) (a : Nat)
    (op : JOp) (s : State) (se ep : Bool) (h : s.performs m a = true) (al : a % 4 = 0) :
    busAccess ra m lv a op s se ep = (.done (storageOp m a op (s.presented a op.writes)).1,
      (storageOp m a op (s.presented a op.writes)).2.granted (targetOf a).id m) := by
  have hf := s.performs_free m a op h
  unfold State.performs at h
  simp only [Bool.and_eq_true, Bool.not_eq_true'] at h
  obtain ⟨⟨⟨⟨⟨ht, hp⟩, hi⟩, hl⟩, hd⟩, _⟩ := h
  rw [Option.isNone_iff_eq_none] at hl
  have hperf : busPerform ra m lv a op s se ep = (.done (storageOp m a op (s.presented a op.writes)).1,
      (storageOp m a op (s.presented a op.writes)).2) := by
    unfold busPerform
    simp only [hi, hp, hd, al]
    cases e : targetOf a with
    | hbm st =>
      simp only [e, Bool.and_eq_true, Bool.not_eq_true'] at ht
      simp [storageAccess, hl, e, ht.1, ht.2, State.presented]
    | cham n =>
      simp only [e, decide_eq_true_eq] at ht
      have : ¬ (op.writes = true ∧ 0x7F0000 ≤ a % 0x800000 ∧ m ≠ 16 + n) := fun x => by omega
      simp [storageAccess, hl, e, this, State.presented]
    | lbuf k => simp [storageAccess, hl, e, State.presented]
    | _ => simp [e] at ht
  have hport : s.portOf m a = targetOf a := by
    unfold State.portOf
    simp [hi, hp]
  unfold busAccess
  rw [hperf]
  simp only [hf, Bool.false_and, hport]
  rw [if_neg (storageOp_status m a op _)]
  simp

/-- A write is answered OK and stores the word with its tag. -/
theorem busAccess_write (ra : Nat → Level → Nat → JOp → State → Ans × State) (m : Nat) (lv : Level) (a : Nat) (w : Word)
    (s : State) (se ep : Bool) (h : s.performs m a = true) (al : a % 4 = 0) :
    busAccess ra m lv a (.wr w) s se ep = (.done { st := .ok }, s.storedBy m a w) :=
  busAccess_performs ra m lv a (.wr w) s se ep h al

/-- A read of a clean word is answered OK with it. -/
theorem busAccess_read (ra : Nat → Level → Nat → JOp → State → Ans × State) (m : Nat) (lv : Level) (a : Nat) (w : Word)
    (s : State) (se ep : Bool) (h : s.performs m a = true) (al : a % 4 = 0)
    (c : decodeContainer (s.cont (a / 4)) = .clean w) :
    busAccess ra m lv a .rd s se ep = (.done { st := .ok, w := w }, s.readBy m a) := by
  rw [busAccess_performs ra m lv a .rd s se ep h al]
  simp only [storageOp, readWordAt, State.presented_cont, c]
  rfl

/-- The same for register space's own access operation. -/
theorem bus_write (m : Nat) (lv : Level) (a : Nat) (w : Word) (s : State) (h : s.performs m a = true) (al : a % 4 = 0) :
    bus m lv a (.wr w) s = (.done { st := .ok }, s.storedBy m a w) := busAccess_write regAccess m lv a w s _ _ h al

theorem bus_read (m : Nat) (lv : Level) (a : Nat) (w : Word) (s : State) (h : s.performs m a = true) (al : a % 4 = 0)
    (c : decodeContainer (s.cont (a / 4)) = .clean w) :
    bus m lv a .rd s = (.done { st := .ok, w := w }, s.readBy m a) := busAccess_read regAccess m lv a w s _ _ h al c

/-- A word so accessed lies outside the boot ROM. -/
theorem performs_notRom (s : State) (m a : Nat) (h : s.performs m a = true) : inRomRange (a / 4) = false := by
  unfold State.performs at h
  simp only [Bool.and_eq_true] at h
  have ht := h.1.1.1.1.1
  unfold targetOf at ht
  unfold inRomRange romWord
  simp only [Bool.and_eq_false_iff, decide_eq_false_iff_not]
  by_contra c
  push Not at c
  have : ¬ a < 0x012_0000_0000 ∧ ¬ a < 0x200_0000_0000 ∧ ¬ a < 0x200_0000_0000 + 16 * 0x800000 ∧ ¬ a < 0x300_0000_0000
      ∧ ¬ a < 0x300_0400_0000 ∧ ¬ a < 0x301_0000_0000 ∧ ¬ a < 0x301_0040_0000 ∧ ¬ a < 0x302_0000_0000
      ∧ a < 0x302_0010_0000 := by omega
  obtain ⟨h1, h2, h3, h4, h5, h6, h7, h8, h9⟩ := this
  simp only [h1, h2, h3, h4, h5, h6, h7, h8, h9, if_true, if_false] at ht
  exact Bool.noConfusion ht

/-- A word stored by such an access reads back. -/
theorem performs_putWord_cont (s : State) (m a v : Nat) (w : Word) (h : s.performs m a = true) :
    (s.putWord (a / 4) w).cont v = if v = a / 4 then encodeWord w else s.cont v :=
  s.setCont_cont _ _ _ (performs_notRom s m a h)

/-- The same with the presentation and the grant. -/
theorem performs_storedBy_cont (s : State) (m a v : Nat) (w : Word) (h : s.performs m a = true) :
    (s.storedBy m a w).cont v = if v = a / 4 then encodeWord w else s.cont v := by
  unfold State.storedBy State.putWord
  rw [State.granted_cont, State.setCont_cont _ _ _ _ (performs_notRom s m a h), State.presented_cont]

/-- What decides whether accesses are performed at once. -/
theorem State.performs_congr {s t : State} (hr : t.regs = s.regs) (hh : t.hbms = s.hbms) (hm : t.marches = s.marches)
    (hf : t.fuses = s.fuses) (hi : t.junc.isolated = s.junc.isolated) (hl : t.junc.linksDown = s.junc.linksDown)
    (hd : t.junc.draining = s.junc.draining) (hw : t.junc.waiting = s.junc.waiting) (m a : Nat) :
    t.performs m a = s.performs m a := by
  unfold State.performs State.turn State.hbmWaits State.masterDie State.lockedBy State.pathDown State.barred State.debugOpen
    State.mlock State.hbm State.march State.flag State.fld State.regN State.reg
  simp only [hr, hh, hm, hf, hi, hl, hd, hw]

/-- The memory, free values taken, the chambers' own ports and the target ports do not decide it. -/
theorem State.performs_rest (s : State) (x : List Host.Cell) (f : Nat) (c : Tab Chamber) (p : Tab Port) (m a : Nat) :
    ({ s with mem := x, fresh := f, chams := c, junc := { s.junc with ports := p } } : State).performs m a
      = s.performs m a := State.performs_congr (rfl) (rfl) (rfl) (rfl) (rfl) (rfl) (rfl) (rfl) m a

/-- Storing or reading a word does not change where accesses are performed. -/
theorem State.putWord_performs (s : State) (x : Nat) (w : Word) (m a : Nat) :
    (s.putWord x w).performs m a = s.performs m a :=
  s.performs_rest (contPut s.mem x (encodeWord w)) s.fresh s.chams s.junc.ports m a

theorem State.storedBy_performs (s : State) (n b : Nat) (w : Word) (m a : Nat) :
    (s.storedBy n b w).performs m a = s.performs m a := by
  obtain ⟨x, f, c, p, h⟩ := s.storedBy_rest n b w
  rw [h]
  exact s.performs_rest x f c p m a

theorem State.readBy_performs (s : State) (n b m a : Nat) : (s.readBy n b).performs m a = s.performs m a := by
  obtain ⟨f, c, p, h⟩ := s.readBy_rest n b
  rw [h]
  exact s.performs_rest s.mem f c p m a

end Sys2Proof.Machine
end

