-- ==== Sys2Proof/Laws/Exec.lean ====
section
/-! SUPPORT. Each arm of exec, so that no proof unfolds the whole match. -/

namespace Sys2Proof.Machine

@[simp] theorem exec_tickAxisUpdate (s) : exec (.tickAxisUpdate) s = execTickAxisUpdate s := rfl
@[simp] theorem exec_quadCountEdge (s) (e a b ph) : exec (.quadCountEdge e a b ph) s = execQuadCountEdge e a b ph s := rfl
@[simp] theorem exec_ssiPoll (s) (n alt) : exec (.ssiPoll n alt) s = execSsiPoll n alt s := rfl
@[simp] theorem exec_ssiFrameComplete (s) (n alt raw low) : exec (.ssiFrameComplete n alt raw low) s = execSsiFrameComplete n alt raw low s := rfl
@[simp] theorem exec_mainsCrossing (s) (n alt rise) : exec (.mainsCrossing n alt rise) s = execMainsCrossing n alt rise s := rfl
@[simp] theorem exec_sourceFault (s) (n) : exec (.sourceFault n) s = execSourceFault n s := rfl
@[simp] theorem exec_coastTimeout (s) (n) : exec (.coastTimeout n) s = execCoastTimeout n s := rfl
@[simp] theorem exec_zEdge (s) (e z) : exec (.zEdge e z) s = execZEdge e z s := rfl
@[simp] theorem exec_axisEnable (s) (n v) : exec (.axisEnable n v) s = execAxisEnable n v s := rfl
@[simp] theorem exec_axisDisable (s) (n v) : exec (.axisDisable n v) s = execAxisDisable n v s := rfl
@[simp] theorem exec_setpos (s) (n v) : exec (.setpos n v) s = execSetpos n v s := rfl
@[simp] theorem exec_gazArm (s) (ix v) : exec (.gazArm ix v) s = execGazArm ix v s := rfl
@[simp] theorem exec_gazDisarm (s) (ix v) : exec (.gazDisarm ix v) s = execGazDisarm ix v s := rfl
@[simp] theorem exec_gazEntryWrite (s) (ix k v) : exec (.gazEntryWrite ix k v) s = execGazEntryWrite ix k v s := rfl
@[simp] theorem exec_gazFire (s) : exec (.gazFire) s = execGazFire s := rfl
@[simp] theorem exec_comparatorPulseEnd (s) (c) : exec (.comparatorPulseEnd c) s = execComparatorPulseEnd c s := rfl
@[simp] theorem exec_deadlineMiss (s) : exec (.deadlineMiss) s = execDeadlineMiss s := rfl
@[simp] theorem exec_giss (s) (n d a g) : exec (.giss n d a g) s = execGiss n d a g s := rfl
@[simp] theorem exec_gissr (s) (n d a b) : exec (.gissr n d a b) s = execGissr n d a b s := rfl
@[simp] theorem exec_gissJudgement (s) (g) : exec (.gissJudgement g) s = execGissJudgement g s := rfl
@[simp] theorem exec_linkedDescriptorIssue (s) (g) : exec (.linkedDescriptorIssue g) s = execLinkedDescriptorIssue g s := rfl
@[simp] theorem exec_gresume (s) (n d g sl) : exec (.gresume n d g sl) s = execGresume n d g sl s := rfl
@[simp] theorem exec_gtlbw (s) (n g a b c) : exec (.gtlbw n g a b c) s = execGtlbw n g a b c s := rfl
@[simp] theorem exec_gtlbi (s) (n g a) : exec (.gtlbi n g a) s = execGtlbi n g a s := rfl
@[simp] theorem exec_gtlbia (s) (n g) : exec (.gtlbia n g) s = execGtlbia n g s := rfl
@[simp] theorem exec_startBearingMet (s) (g sl) : exec (.startBearingMet g sl) s = execStartBearingMet g sl s := rfl
@[simp] theorem exec_tokenSetPropagate (s) : exec (.tokenSetPropagate) s = execTokenSetPropagate s := rfl
@[simp] theorem exec_tokpost (s) (g v) : exec (.tokpost g v) s = execTokpost g v s := rfl
@[simp] theorem exec_tokclr (s) (g v) : exec (.tokclr g v) s = execTokclr g v s := rfl
@[simp] theorem exec_slotSelect (s) (g) : exec (.slotSelect g) s = execSlotSelect g s := rfl
@[simp] theorem exec_preempt (s) (g) : exec (.preempt g) s = execPreempt g s := rfl
@[simp] theorem exec_relayWordReceive (s) (g x) : exec (.relayWordReceive g x) s = execRelayWordReceive g x s := rfl
@[simp] theorem exec_elementCommit (s) (g) : exec (.elementCommit g) s = execElementCommit g s := rfl
@[simp] theorem exec_elementFault (s) (g mt) : exec (.elementFault g mt) s = execElementFault g mt s := rfl
@[simp] theorem exec_instructionComplete (s) (g) : exec (.instructionComplete g) s = execInstructionComplete g s := rfl
@[simp] theorem exec_retireRecordWrite (s) (g sl) : exec (.retireRecordWrite g sl) s = execRetireRecordWrite g sl s := rfl
@[simp] theorem exec_crtailWrite (s) (g v) : exec (.crtailWrite g v) s = execCrtailWrite g v s := rfl
@[simp] theorem exec_crRingConfigWrite (s) (g ctl v) : exec (.crRingConfigWrite g ctl v) s = execCrRingConfigWrite g ctl v s := rfl
@[simp] theorem exec_abort (s) (g sl) : exec (.abort g sl) s = execAbort g sl s := rfl
@[simp] theorem exec_galOwnerWrite (s) (g o) : exec (.galOwnerWrite g o) s = execGalOwnerWrite g o s := rfl
@[simp] theorem exec_quarantineEnter (s) (g why ma mpc) : exec (.quarantineEnter g why ma mpc) s = execQuarantineEnter g why ma mpc s := rfl
@[simp] theorem exec_quarantineLeave (s) (g) : exec (.quarantineLeave g) s = execQuarantineLeave g s := rfl
@[simp] theorem exec_quarantineResetDone (s) (g) : exec (.quarantineResetDone g) s = execQuarantineResetDone g s := rfl
@[simp] theorem exec_ucLanternPatchWrite (s) (m lv n isMatch x v) : exec (.ucLanternPatchWrite m lv n isMatch x v) s = execUcLanternPatchWrite m lv n isMatch x v s := rfl
@[simp] theorem exec_ucGalleryPatchWrite (s) (m lv isMatch x v) : exec (.ucGalleryPatchWrite m lv isMatch x v) s = execUcGalleryPatchWrite m lv isMatch x v s := rfl
@[simp] theorem exec_hbmTrained (s) (st) : exec (.hbmTrained st) s = execHbmTrained st s := rfl
@[simp] theorem exec_wordRead (s) (m a) : exec (.wordRead m a) s = execWordRead m a s := rfl
@[simp] theorem exec_wordWrite (s) (m a w) : exec (.wordWrite m a w) s = execWordWrite m a w s := rfl
@[simp] theorem exec_sampleStore (s) (m a v) : exec (.sampleStore m a v) s = execSampleStore m a v s := rfl
@[simp] theorem exec_fieldWrite (s) (m a w mask et) : exec (.fieldWrite m a w mask et) s = execFieldWrite m a w mask et s := rfl
@[simp] theorem exec_hbmScrubVisit (s) (st) : exec (.hbmScrubVisit st) s = execHbmScrubVisit st s := rfl
@[simp] theorem exec_chamberScrubVisit (s) (n) : exec (.chamberScrubVisit n) s = execChamberScrubVisit n s := rfl
@[simp] theorem exec_softRepair (s) (st lv v) : exec (.softRepair st lv v) s = execSoftRepair st lv v s := rfl
@[simp] theorem exec_hardRepair (s) (st lv v) : exec (.hardRepair st lv v) s = execHardRepair st lv v s := rfl
@[simp] theorem exec_repairDone (s) (st good) : exec (.repairDone st good) s = execRepairDone st good s := rfl
@[simp] theorem exec_quiesceWrite (s) (st lv v) : exec (.quiesceWrite st lv v) s = execQuiesceWrite st lv v s := rfl
@[simp] theorem exec_hbmTemperatureHigh (s) (st temp) : exec (.hbmTemperatureHigh st temp) s = execHbmTemperatureHigh st temp s := rfl
@[simp] theorem exec_marchGo (s) (k lv v) : exec (.marchGo k lv v) s = execMarchGo k lv v s := rfl
@[simp] theorem exec_marchAbort (s) (k lv v) : exec (.marchAbort k lv v) s = execMarchAbort k lv v s := rfl
@[simp] theorem exec_marchEnd (s) (k mode tgt bg) : exec (.marchEnd k mode tgt bg) s = execMarchEnd k mode tgt bg s := rfl
@[simp] theorem exec_junctionGrant (s) (t) : exec (.junctionGrant t) s = execJunctionGrant t s := rfl
@[simp] theorem exec_junctionResponse (s) (m) : exec (.junctionResponse m) s = execJunctionResponse m s := rfl
@[simp] theorem exec_defaultTargetAccess (s) (m a wr) : exec (.defaultTargetAccess m a wr) s = execDefaultTargetAccess m a wr s := rfl
@[simp] theorem exec_junctionEnable (s) (v) : exec (.junctionEnable v) s = execJunctionEnable v s := rfl
@[simp] theorem exec_junctionFullRate (s) : exec (.junctionFullRate) s = execJunctionFullRate s := rfl
@[simp] theorem exec_sliceWrite (s) (m lv v) : exec (.sliceWrite m lv v) s = execSliceWrite m lv v s := rfl
@[simp] theorem exec_priParkWrite (s) (park m g lv v) : exec (.priParkWrite park m g lv v) s = execPriParkWrite park m g lv v s := rfl
@[simp] theorem exec_rd (s) (x hdr) : exec (.rd x hdr) s = execRd x hdr s := rfl
@[simp] theorem exec_wr (s) (x hdr data) : exec (.wr x hdr data) s = execWr x hdr data s := rfl
@[simp] theorem exec_wrp (s) (x hdr data) : exec (.wrp x hdr data) s = execWrp x hdr data s := rfl
@[simp] theorem exec_sampst (s) (x hdr d) : exec (.sampst x hdr d) s = execSampst x hdr d s := rfl
@[simp] theorem exec_fldwr (s) (x hdr d) : exec (.fldwr x hdr d) s = execFldwr x hdr d s := rfl
@[simp] theorem exec_atomFadd (s) (x hdr d) : exec (.atomFadd x hdr d) s = execAtomFadd x hdr d s := rfl
@[simp] theorem exec_atomSwap (s) (x hdr d) : exec (.atomSwap x hdr d) s = execAtomSwap x hdr d s := rfl
@[simp] theorem exec_atomCas (s) (x hdr d e) : exec (.atomCas x hdr d e) s = execAtomCas x hdr d e s := rfl
@[simp] theorem exec_pteupd (s) (x hdr d e) : exec (.pteupd x hdr d e) s = execPteupd x hdr d e s := rfl
@[simp] theorem exec_stream (s) (x hdr data) : exec (.stream x hdr data) s = execStream x hdr data s := rfl
@[simp] theorem exec_rsp (s) (x hdr data) : exec (.rsp x hdr data) s = execRsp x hdr data s := rfl
@[simp] theorem exec_rspn (s) (x hdr) : exec (.rspn x hdr) s = execRspn x hdr s := rfl
@[simp] theorem exec_credit (s) (x c) : exec (.credit x c) s = execCredit x c s := rfl
@[simp] theorem exec_init (s) (x c) : exec (.init x c) s = execInit x c s := rfl
@[simp] theorem exec_flitReplay (s) (u) : exec (.flitReplay u) s = execFlitReplay u s := rfl
@[simp] theorem exec_linkRetrain (s) (u good rep) : exec (.linkRetrain u good rep) s = execLinkRetrain u good rep s := rfl
@[simp] theorem exec_internalLinkDown (s) (l) : exec (.internalLinkDown l) s = execInternalLinkDown l s := rfl
@[simp] theorem exec_siteLinkDown (s) (x unack) : exec (.siteLinkDown x unack) s = execSiteLinkDown x unack s := rfl
@[simp] theorem exec_siteRequestTimeout (s) (x) : exec (.siteRequestTimeout x) s = execSiteRequestTimeout x s := rfl
@[simp] theorem exec_siteResetRelease (s) (x lv v) : exec (.siteResetRelease x lv v) s = execSiteResetRelease x lv v s := rfl
@[simp] theorem exec_siteTrained (s) (x nmod link active) : exec (.siteTrained x nmod link active) s = execSiteTrained x nmod link active s := rfl
@[simp] theorem exec_siteBringupTimeout (s) (x) : exec (.siteBringupTimeout x) s = execSiteBringupTimeout x s := rfl
@[simp] theorem exec_siteResetAssert (s) (x lv v) : exec (.siteResetAssert x lv v) s = execSiteResetAssert x lv v s := rfl
@[simp] theorem exec_vnomWrite (s) (x lv v win) : exec (.vnomWrite x lv v win) s = execVnomWrite x lv v win s := rfl
@[simp] theorem exec_siteRailFault (s) (x aux) : exec (.siteRailFault x aux) s = execSiteRailFault x aux s := rfl
@[simp] theorem exec_nop (s) (n) : exec (.nop n) s = execNop n s := rfl
@[simp] theorem exec_mov (s) (n d a) : exec (.mov n d a) s = execMov n d a s := rfl
@[simp] theorem exec_add (s) (n d a b) : exec (.add n d a b) s = execAdd n d a b s := rfl
@[simp] theorem exec_sub (s) (n d a b) : exec (.sub n d a b) s = execSub n d a b s := rfl
@[simp] theorem exec_and (s) (n d a b) : exec (.and n d a b) s = execAnd n d a b s := rfl
@[simp] theorem exec_or (s) (n d a b) : exec (.or n d a b) s = execOr n d a b s := rfl
@[simp] theorem exec_xor (s) (n d a b) : exec (.xor n d a b) s = execXor n d a b s := rfl
@[simp] theorem exec_shl (s) (n d a b) : exec (.shl n d a b) s = execShl n d a b s := rfl
@[simp] theorem exec_shr (s) (n d a b) : exec (.shr n d a b) s = execShr n d a b s := rfl
@[simp] theorem exec_sra (s) (n d a b) : exec (.sra n d a b) s = execSra n d a b s := rfl
@[simp] theorem exec_mul (s) (n d a b) : exec (.mul n d a b) s = execMul n d a b s := rfl
@[simp] theorem exec_cmpeq (s) (n d a b) : exec (.cmpeq n d a b) s = execCmpeq n d a b s := rfl
@[simp] theorem exec_cmplt (s) (n d a b) : exec (.cmplt n d a b) s = execCmplt n d a b s := rfl
@[simp] theorem exec_cmpltu (s) (n d a b) : exec (.cmpltu n d a b) s = execCmpltu n d a b s := rfl
@[simp] theorem exec_tagget (s) (n d a) : exec (.tagget n d a) s = execTagget n d a s := rfl
@[simp] theorem exec_addi (s) (n f) : exec (.addi n f) s = execAddi n f s := rfl
@[simp] theorem exec_lis (s) (n d imm) : exec (.lis n d imm) s = execLis n d imm s := rfl
@[simp] theorem exec_lw (s) (n f) : exec (.lw n f) s = execLw n f s := rfl
@[simp] theorem exec_sw (s) (n f) : exec (.sw n f) s = execSw n f s := rfl
@[simp] theorem exec_dclean (s) (n a) : exec (.dclean n a) s = execDclean n a s := rfl
@[simp] theorem exec_dinv (s) (n a) : exec (.dinv n a) s = execDinv n a s := rfl
@[simp] theorem exec_dclinv (s) (n a) : exec (.dclinv n a) s = execDclinv n a s := rfl
@[simp] theorem exec_b (s) (n disp) : exec (.b n disp) s = execB n disp s := rfl
@[simp] theorem exec_jal (s) (n f slot48) : exec (.jal n f slot48) s = execJal n f slot48 s := rfl
@[simp] theorem exec_bz (s) (n a disp) : exec (.bz n a disp) s = execBz n a disp s := rfl
@[simp] theorem exec_bzA (s) (n a disp) : exec (.bzA n a disp) s = execBzA n a disp s := rfl
@[simp] theorem exec_bnz (s) (n a disp) : exec (.bnz n a disp) s = execBnz n a disp s := rfl
@[simp] theorem exec_bnzA (s) (n a disp) : exec (.bnzA n a disp) s = execBnzA n a disp s := rfl
@[simp] theorem exec_bltz (s) (n a disp) : exec (.bltz n a disp) s = execBltz n a disp s := rfl
@[simp] theorem exec_bltzA (s) (n a disp) : exec (.bltzA n a disp) s = execBltzA n a disp s := rfl
@[simp] theorem exec_bgez (s) (n a disp) : exec (.bgez n a disp) s = execBgez n a disp s := rfl
@[simp] theorem exec_bgezA (s) (n a disp) : exec (.bgezA n a disp) s = execBgezA n a disp s := rfl
@[simp] theorem exec_jr (s) (n a) : exec (.jr n a) s = execJr n a s := rfl
@[simp] theorem exec_jalr (s) (n a slot48) : exec (.jalr n a slot48) s = execJalr n a slot48 s := rfl
@[simp] theorem exec_ret (s) (n) : exec (.ret n) s = execRet n s := rfl
@[simp] theorem exec_scall (s) (n k) : exec (.scall n k) s = execScall n k s := rfl
@[simp] theorem exec_sret (s) (n) : exec (.sret n) s = execSret n s := rfl
@[simp] theorem exec_eret (s) (n) : exec (.eret n) s = execEret n s := rfl
@[simp] theorem exec_ibar (s) (n) : exec (.ibar n) s = execIbar n s := rfl
@[simp] theorem exec_mbar (s) (n) : exec (.mbar n) s = execMbar n s := rfl
@[simp] theorem exec_pflush (s) (n) : exec (.pflush n) s = execPflush n s := rfl
@[simp] theorem exec_pbar (s) (n k) : exec (.pbar n k) s = execPbar n k s := rfl
@[simp] theorem exec_wait (s) (n) : exec (.wait n) s = execWait n s := rfl
@[simp] theorem exec_lpop (s) (n) : exec (.lpop n) s = execLpop n s := rfl
@[simp] theorem exec_mfsr (s) (n d sr) : exec (.mfsr n d sr) s = execMfsr n d sr s := rfl
@[simp] theorem exec_mtsr (s) (n a sr) : exec (.mtsr n a sr) s = execMtsr n a sr s := rfl
@[simp] theorem exec_dadd (s) (n d a b) : exec (.dadd n d a b) s = execDadd n d a b s := rfl
@[simp] theorem exec_dsub (s) (n d a b) : exec (.dsub n d a b) s = execDsub n d a b s := rfl
@[simp] theorem exec_bcmp (s) (n d a b) : exec (.bcmp n d a b) s = execBcmp n d a b s := rfl
@[simp] theorem exec_badd (s) (n d a b) : exec (.badd n d a b) s = execBadd n d a b s := rfl
@[simp] theorem exec_fadd (s) (n d a b) : exec (.fadd n d a b) s = execFadd n d a b s := rfl
@[simp] theorem exec_fsub (s) (n d a b) : exec (.fsub n d a b) s = execFsub n d a b s := rfl
@[simp] theorem exec_fmul (s) (n d a b) : exec (.fmul n d a b) s = execFmul n d a b s := rfl
@[simp] theorem exec_fdiv (s) (n d a b) : exec (.fdiv n d a b) s = execFdiv n d a b s := rfl
@[simp] theorem exec_fsqrt (s) (n d a) : exec (.fsqrt n d a) s = execFsqrt n d a s := rfl
@[simp] theorem exec_fmin (s) (n d a b) : exec (.fmin n d a b) s = execFmin n d a b s := rfl
@[simp] theorem exec_fmax (s) (n d a b) : exec (.fmax n d a b) s = execFmax n d a b s := rfl
@[simp] theorem exec_fabs (s) (n d a) : exec (.fabs n d a) s = execFabs n d a s := rfl
@[simp] theorem exec_fneg (s) (n d a) : exec (.fneg n d a) s = execFneg n d a s := rfl
@[simp] theorem exec_fcmpeq (s) (n d a b) : exec (.fcmpeq n d a b) s = execFcmpeq n d a b s := rfl
@[simp] theorem exec_fcmplt (s) (n d a b) : exec (.fcmplt n d a b) s = execFcmplt n d a b s := rfl
@[simp] theorem exec_fcmple (s) (n d a b) : exec (.fcmple n d a b) s = execFcmple n d a b s := rfl
@[simp] theorem exec_fcvtwi (s) (n d a) : exec (.fcvtwi n d a) s = execFcvtwi n d a s := rfl
@[simp] theorem exec_fcvtiw (s) (n d a) : exec (.fcvtiw n d a) s = execFcvtiw n d a s := rfl
@[simp] theorem exec_fmvwf (s) (n d a) : exec (.fmvwf n d a) s = execFmvwf n d a s := rfl
@[simp] theorem exec_fmvfw (s) (n d a) : exec (.fmvfw n d a) s = execFmvfw n d a s := rfl
@[simp] theorem exec_li (s) (n d imm) : exec (.li n d imm) s = execLi n d imm s := rfl
@[simp] theorem exec_lea (s) (n d imm) : exec (.lea n d imm) s = execLea n d imm s := rfl
@[simp] theorem exec_lih (s) (n d a imm) : exec (.lih n d a imm) s = execLih n d a imm s := rfl
@[simp] theorem exec_andi (s) (n d a imm) : exec (.andi n d a imm) s = execAndi n d a imm s := rfl
@[simp] theorem exec_ori (s) (n d a imm) : exec (.ori n d a imm) s = execOri n d a imm s := rfl
@[simp] theorem exec_xori (s) (n d a imm) : exec (.xori n d a imm) s = execXori n d a imm s := rfl
@[simp] theorem exec_shli (s) (n d a k) : exec (.shli n d a k) s = execShli n d a k s := rfl
@[simp] theorem exec_shri (s) (n d a k) : exec (.shri n d a k) s = execShri n d a k s := rfl
@[simp] theorem exec_srai (s) (n d a k) : exec (.srai n d a k) s = execSrai n d a k s := rfl
@[simp] theorem exec_mulh (s) (n d a b) : exec (.mulh n d a b) s = execMulh n d a b s := rfl
@[simp] theorem exec_mulhu (s) (n d a b) : exec (.mulhu n d a b) s = execMulhu n d a b s := rfl
@[simp] theorem exec_div (s) (n d a b) : exec (.div n d a b) s = execDiv n d a b s := rfl
@[simp] theorem exec_divu (s) (n d a b) : exec (.divu n d a b) s = execDivu n d a b s := rfl
@[simp] theorem exec_rem (s) (n d a b) : exec (.rem n d a b) s = execRem n d a b s := rfl
@[simp] theorem exec_remu (s) (n d a b) : exec (.remu n d a b) s = execRemu n d a b s := rfl
@[simp] theorem exec_tagset (s) (n d a t) : exec (.tagset n d a t) s = execTagset n d a t s := rfl
@[simp] theorem exec_sel (s) (n d a b c) : exec (.sel n d a b c) s = execSel n d a b c s := rfl
@[simp] theorem exec_lsu (s) (n d a imm) : exec (.lsu n d a imm) s = execLsu n d a imm s := rfl
@[simp] theorem exec_lss (s) (n d a imm) : exec (.lss n d a imm) s = execLss n d a imm s := rfl
@[simp] theorem exec_ss (s) (n d a imm) : exec (.ss n d a imm) s = execSs n d a imm s := rfl
@[simp] theorem exec_lwx (s) (n d a b) : exec (.lwx n d a b) s = execLwx n d a b s := rfl
@[simp] theorem exec_swx (s) (n d a b) : exec (.swx n d a b) s = execSwx n d a b s := rfl
@[simp] theorem exec_vld (s) (n d a imm) : exec (.vld n d a imm) s = execVld n d a imm s := rfl
@[simp] theorem exec_vst (s) (n d a imm) : exec (.vst n d a imm) s = execVst n d a imm s := rfl
@[simp] theorem exec_amoadd (s) (n d a b) : exec (.amoadd n d a b) s = execAmoadd n d a b s := rfl
@[simp] theorem exec_amoswp (s) (n d a b) : exec (.amoswp n d a b) s = execAmoswp n d a b s := rfl
@[simp] theorem exec_amocas (s) (n d a b c) : exec (.amocas n d a b c) s = execAmocas n d a b c s := rfl
@[simp] theorem exec_lwb (s) (n d bk ad) : exec (.lwb n d bk ad) s = execLwb n d bk ad s := rfl
@[simp] theorem exec_swb (s) (n d bk ad) : exec (.swb n d bk ad) s = execSwb n d bk ad s := rfl
@[simp] theorem exec_lsub (s) (n d bk ad) : exec (.lsub n d bk ad) s = execLsub n d bk ad s := rfl
@[simp] theorem exec_ssb (s) (n d bk ad) : exec (.ssb n d bk ad) s = execSsb n d bk ad s := rfl
@[simp] theorem exec_mtb (s) (n bk a) : exec (.mtb n bk a) s = execMtb n bk a s := rfl
@[simp] theorem exec_mfb (s) (n d bk) : exec (.mfb n d bk) s = execMfb n d bk s := rfl
@[simp] theorem exec_beq (s) (n a b disp) : exec (.beq n a b disp) s = execBeq n a b disp s := rfl
@[simp] theorem exec_beqA (s) (n a b disp) : exec (.beqA n a b disp) s = execBeqA n a b disp s := rfl
@[simp] theorem exec_bne (s) (n a b disp) : exec (.bne n a b disp) s = execBne n a b disp s := rfl
@[simp] theorem exec_bneA (s) (n a b disp) : exec (.bneA n a b disp) s = execBneA n a b disp s := rfl
@[simp] theorem exec_blt (s) (n a b disp) : exec (.blt n a b disp) s = execBlt n a b disp s := rfl
@[simp] theorem exec_bltA (s) (n a b disp) : exec (.bltA n a b disp) s = execBltA n a b disp s := rfl
@[simp] theorem exec_bge (s) (n a b disp) : exec (.bge n a b disp) s = execBge n a b disp s := rfl
@[simp] theorem exec_bgeA (s) (n a b disp) : exec (.bgeA n a b disp) s = execBgeA n a b disp s := rfl
@[simp] theorem exec_bltu (s) (n a b disp) : exec (.bltu n a b disp) s = execBltu n a b disp s := rfl
@[simp] theorem exec_bltuA (s) (n a b disp) : exec (.bltuA n a b disp) s = execBltuA n a b disp s := rfl
@[simp] theorem exec_bgeu (s) (n a b disp) : exec (.bgeu n a b disp) s = execBgeu n a b disp s := rfl
@[simp] theorem exec_bgeuA (s) (n a b disp) : exec (.bgeuA n a b disp) s = execBgeuA n a b disp s := rfl
@[simp] theorem exec_j (s) (n disp) : exec (.j n disp) s = execJ n disp s := rfl
@[simp] theorem exec_call (s) (n mask disp) : exec (.call n mask disp) s = execCall n mask disp s := rfl
@[simp] theorem exec_callr (s) (n a mask) : exec (.callr n a mask) s = execCallr n a mask s := rfl
@[simp] theorem exec_loop (s) (n a disp) : exec (.loop n a disp) s = execLoop n a disp s := rfl
@[simp] theorem exec_loopi (s) (n k disp) : exec (.loopi n k disp) s = execLoopi n k disp s := rfl
@[simp] theorem exec_tlbw (s) (n d a b c) : exec (.tlbw n d a b c) s = execTlbw n d a b c s := rfl
@[simp] theorem exec_tlbi (s) (n a) : exec (.tlbi n a) s = execTlbi n a s := rfl
@[simp] theorem exec_tlbia (s) (n) : exec (.tlbia n) s = execTlbia n s := rfl
@[simp] theorem exec_fma (s) (n d a b c) : exec (.fma n d a b c) s = execFma n d a b c s := rfl
@[simp] theorem exec_vop (s) (n d a b op et sat side) : exec (.vop n d a b op et sat side) s = execVop n d a b op et sat side s := rfl
@[simp] theorem exec_vbcast (s) (n d a) : exec (.vbcast n d a) s = execVbcast n d a s := rfl
@[simp] theorem exec_vext (s) (n d a k) : exec (.vext n d a k) s = execVext n d a k s := rfl
@[simp] theorem exec_vins (s) (n d a k) : exec (.vins n d a k) s = execVins n d a k s := rfl
@[simp] theorem exec_vmov (s) (n d a) : exec (.vmov n d a) s = execVmov n d a s := rfl
@[simp] theorem exec_vfma (s) (n d a b) : exec (.vfma n d a b) s = execVfma n d a b s := rfl
@[simp] theorem exec_resultWriteback (s) (n) : exec (.resultWriteback n) s = execResultWriteback n s := rfl
@[simp] theorem exec_branchResolve (s) (n) : exec (.branchResolve n) s = execBranchResolve n s := rfl
@[simp] theorem exec_statChangeEffective (s) (n) : exec (.statChangeEffective n) s = execStatChangeEffective n s := rfl
@[simp] theorem exec_divideUnitFree (s) (n) : exec (.divideUnitFree n) s = execDivideUnitFree n s := rfl
@[simp] theorem exec_storeBufferDrain (s) (n) : exec (.storeBufferDrain n) s = execStoreBufferDrain n s := rfl
@[simp] theorem exec_deterministicEntry (s) (n) : exec (.deterministicEntry n) s = execDeterministicEntry n s := rfl
@[simp] theorem exec_eventRaise (s) (src) : exec (.eventRaise src) s = execEventRaise src s := rfl
@[simp] theorem exec_swset (s) (m v) : exec (.swset m v) s = execSwset m v s := rfl
@[simp] theorem exec_routeWrite (s) (src lv v) : exec (.routeWrite src lv v) s = execRouteWrite src lv v s := rfl
@[simp] theorem exec_trapEntry (s) (n at_) : exec (.trapEntry n at_) s = execTrapEntry n at_ s := rfl
@[simp] theorem exec_adUpdate (s) (n va k) : exec (.adUpdate n va k) s = execAdUpdate n va k s := rfl
@[simp] theorem exec_adUpdateOutcome (s) (n) : exec (.adUpdateOutcome n) s = execAdUpdateOutcome n s := rfl
@[simp] theorem exec_laneEnable (s) (l m v) : exec (.laneEnable l m v) s = execLaneEnable l m v s := rfl
@[simp] theorem exec_laneDisable (s) (l m v) : exec (.laneDisable l m v) s = execLaneDisable l m v s := rfl
@[simp] theorem exec_laneLock (s) (l) : exec (.laneLock l) s = execLaneLock l s := rfl
@[simp] theorem exec_laneFault (s) (l) : exec (.laneFault l) s = execLaneFault l s := rfl
@[simp] theorem exec_laneRecover (s) (l) : exec (.laneRecover l) s = execLaneRecover l s := rfl
@[simp] theorem exec_laneClaim (s) (l m) : exec (.laneClaim l m) s = execLaneClaim l m s := rfl
@[simp] theorem exec_laneRelease (s) (l m) : exec (.laneRelease l m) s = execLaneRelease l m s := rfl
@[simp] theorem exec_frameTransmit (s) (l) : exec (.frameTransmit l) s = execFrameTransmit l s := rfl
@[simp] theorem exec_dataRx (s) (l bs) : exec (.dataRx l bs) s = execDataRx l bs s := rfl
@[simp] theorem exec_posRx (s) (l bs) : exec (.posRx l bs) s = execPosRx l bs s := rfl
@[simp] theorem exec_ack (s) (l bs) : exec (.ack l bs) s = execAck l bs s := rfl
@[simp] theorem exec_nak (s) (l bs) : exec (.nak l bs) s = execNak l bs s := rfl
@[simp] theorem exec_ackDelayExpiry (s) (l e) : exec (.ackDelayExpiry l e) s = execAckDelayExpiry l e s := rfl
@[simp] theorem exec_rtoExpiry (s) (l e) : exec (.rtoExpiry l e) s = execRtoExpiry l e s := rfl
@[simp] theorem exec_disc (s) (l m) : exec (.disc l m) s = execDisc l m s := rfl
@[simp] theorem exec_discoveryCollectEnd (s) (l) : exec (.discoveryCollectEnd l) s = execDiscoveryCollectEnd l s := rfl
@[simp] theorem exec_report (s) (l bs) : exec (.report l bs) s = execReport l bs s := rfl
@[simp] theorem exec_reversalComplete (s) (l) : exec (.reversalComplete l) s = execReversalComplete l s := rfl
@[simp] theorem exec_unrev (s) (l m) : exec (.unrev l m) s = execUnrev l m s := rfl
@[simp] theorem exec_msgq (s) (l m v) : exec (.msgq l m v) s = execMsgq l m v s := rfl
@[simp] theorem exec_posPeriod (s) (l) : exec (.posPeriod l) s = execPosPeriod l s := rfl
@[simp] theorem exec_timePeriod (s) (l) : exec (.timePeriod l) s = execTimePeriod l s := rfl
@[simp] theorem exec_txqwWrite (s) (l m v) : exec (.txqwWrite l m v) s = execTxqwWrite l m v s := rfl
@[simp] theorem exec_queueTailWrite (s) (k q v) : exec (.queueTailWrite k q v) s = execQueueTailWrite k q v s := rfl
@[simp] theorem exec_ethRx (s) (p ph bs) : exec (.ethRx p ph bs) s = execEthRx p ph bs s := rfl
@[simp] theorem exec_txprod (s) (p m v) : exec (.txprod p m v) s = execTxprod p m v s := rfl
@[simp] theorem exec_ethTx (s) (p ph) : exec (.ethTx p ph) s = execEthTx p ph s := rfl
@[simp] theorem exec_ethLinkChange (s) (p) : exec (.ethLinkChange p) s = execEthLinkChange p s := rfl
@[simp] theorem exec_ptpadj (s) (p m v) : exec (.ptpadj p m v) s = execPtpadj p m v s := rfl
@[simp] theorem exec_ptpsecRead (s) (p) : exec (.ptpsecRead p) s = execPtpsecRead p s := rfl
@[simp] theorem exec_resourceClaim (s) (r m v) : exec (.resourceClaim r m v) s = execResourceClaim r m v s := rfl
@[simp] theorem exec_resourceRelease (s) (r m) : exec (.resourceRelease r m) s = execResourceRelease r m s := rfl
@[simp] theorem exec_adcGo (s) (c m ph) : exec (.adcGo c m ph) s = execAdcGo c m ph s := rfl
@[simp] theorem exec_adcSample (s) (c ph code) : exec (.adcSample c ph code) s = execAdcSample c ph code s := rfl
@[simp] theorem exec_adcConversionDone (s) (c) : exec (.adcConversionDone c) s = execAdcConversionDone c s := rfl
@[simp] theorem exec_encoderLossOfSignal (s) (e los) : exec (.encoderLossOfSignal e los) s = execEncoderLossOfSignal e los s := rfl
@[simp] theorem exec_swlvlWrite (s) (o m v) : exec (.swlvlWrite o m v) s = execSwlvlWrite o m v s := rfl
@[simp] theorem exec_gpioEdge (s) (g lvl) : exec (.gpioEdge g lvl) s = execGpioEdge g lvl s := rfl
@[simp] theorem exec_bar0Access (s) (f a op) : exec (.bar0Access f a op) s = execBar0Access f a op s := rfl
@[simp] theorem exec_bar2Access (s) (f a op) : exec (.bar2Access f a op) s = execBar2Access f a op s := rfl
@[simp] theorem exec_flr (s) (f) : exec (.flr f) s = execFlr f s := rfl
@[simp] theorem exec_perst (s) : exec (.perst) s = execPerst s := rfl
@[simp] theorem exec_fnCfgEnable (s) (f v) : exec (.fnCfgEnable f v) s = execFnCfgEnable f v s := rfl
@[simp] theorem exec_sqdb (s) (f v) : exec (.sqdb f v) s = execSqdb f v s := rfl
@[simp] theorem exec_cqdb (s) (f v) : exec (.cqdb f v) s = execCqdb f v s := rfl
@[simp] theorem exec_commandNop (s) (f) : exec (.commandNop f) s = execCommandNop f s := rfl
@[simp] theorem exec_commandCopy (s) (f) : exec (.commandCopy f) s = execCommandCopy f s := rfl
@[simp] theorem exec_commandFill (s) (f) : exec (.commandFill f) s = execCommandFill f s := rfl
@[simp] theorem exec_commandAttest (s) (f) : exec (.commandAttest f) s = execCommandAttest f s := rfl
@[simp] theorem exec_commandReserved (s) (f) : exec (.commandReserved f) s = execCommandReserved f s := rfl
@[simp] theorem exec_mbdb (s) (f) : exec (.mbdb f) s = execMbdb f s := rfl
@[simp] theorem exec_msigen (s) (f v) : exec (.msigen f v) s = execMsigen f v s := rfl
@[simp] theorem exec_bootRom (s) (test trained flash fm sram good) : exec (.bootRom test trained flash fm sram good) s = execBootRom test trained flash fm sram good s := rfl
@[simp] theorem exec_hostBootGo (s) : exec (.hostBootGo) s = execHostBootGo s := rfl
@[simp] theorem exec_mlockSet (s) (m lv) : exec (.mlockSet m lv) s = execMlockSet m lv s := rfl
@[simp] theorem exec_csgo (s) (m lv v) : exec (.csgo m lv v) s = execCsgo m lv v s := rfl
@[simp] theorem exec_attGo (s) (m lv) : exec (.attGo m lv) s = execAttGo m lv s := rfl
@[simp] theorem exec_attestDone (s) : exec (.attestDone) s = execAttestDone s := rfl
@[simp] theorem exec_debugSessionOpen (s) (ins) : exec (.debugSessionOpen ins) s = execDebugSessionOpen ins s := rfl
@[simp] theorem exec_idcode (s) : exec (.idcode) s = execIdcode s := rfl
@[simp] theorem exec_bypass (s) : exec (.bypass) s = execBypass s := rfl
@[simp] theorem exec_samplePreload (s) : exec (.samplePreload) s = execSamplePreload s := rfl
@[simp] theorem exec_smbusReadBoot (s) : exec (.smbusReadBoot) s = execSmbusReadBoot s := rfl
@[simp] theorem exec_smbusReadTemp (s) : exec (.smbusReadTemp) s = execSmbusReadTemp s := rfl
@[simp] theorem exec_smbusReadIdpub (s) : exec (.smbusReadIdpub) s = execSmbusReadIdpub s := rfl
@[simp] theorem exec_cairnEntryAccept (s) : exec (.cairnEntryAccept) s = execCairnEntryAccept s := rfl
@[simp] theorem exec_rdat3Read (s) (m) : exec (.rdat3Read m) s = execRdat3Read m s := rfl
@[simp] theorem exec_swent (s) (v) : exec (.swent v) s = execSwent v s := rfl
@[simp] theorem exec_pfailAssert (s) : exec .pfailAssert s = execPfailAssert s := rfl
@[simp] theorem exec_pfailHalt (s) : exec (.pfailHalt) s = execPfailHalt s := rfl
@[simp] theorem exec_saveDomainIsolate (s) : exec (.saveDomainIsolate) s = execSaveDomainIsolate s := rfl
@[simp] theorem exec_saveWindowEnd (s) : exec (.saveWindowEnd) s = execSaveWindowEnd s := rfl
@[simp] theorem exec_coreCaptureTimeout (s) (n) : exec (.coreCaptureTimeout n) s = execCoreCaptureTimeout n s := rfl
@[simp] theorem exec_imageSaveComplete (s) (bad) : exec (.imageSaveComplete bad) s = execImageSaveComplete bad s := rfl
@[simp] theorem exec_vholdLow (s) : exec (.vholdLow) s = execVholdLow s := rfl
@[simp] theorem exec_restore (s) (m lv) : exec (.restore m lv) s = execRestore m lv s := rfl
@[simp] theorem exec_restoreDone (s) : exec (.restoreDone) s = execRestoreDone s := rfl
@[simp] theorem exec_inval (s) (m lv) : exec (.inval m lv) s = execInval m lv s := rfl
@[simp] theorem exec_heartbeatTimeout (s) : exec (.heartbeatTimeout) s = execHeartbeatTimeout s := rfl
@[simp] theorem exec_cascConfigWrite (s) (lv off v) : exec (.cascConfigWrite lv off v) s = execCascConfigWrite lv off v s := rfl
@[simp] theorem exec_resetAssert (s) : exec (.resetAssert) s = execResetAssert s := rfl
@[simp] theorem exec_resetRelease (s) (straps por) : exec (.resetRelease straps por) s = execResetRelease straps por s := rfl
@[simp] theorem exec_clockMonitorFault (s) : exec (.clockMonitorFault) s = execClockMonitorFault s := rfl
@[simp] theorem exec_thermalTrip (s) : exec (.thermalTrip) s = execThermalTrip s := rfl
@[simp] theorem exec_registerWrite (s) (m lv off w) : exec (.registerWrite m lv off w) s = execRegisterWrite m lv off w s := rfl
@[simp] theorem exec_siteRailRestored (s) (x aux) : exec (.siteRailRestored x aux) s = execSiteRailRestored x aux s := rfl
@[simp] theorem exec_atomReserved (s) (x hdr data) : exec (.atomReserved x hdr data) s = execAtomReserved x hdr data s := rfl
@[simp] theorem exec_pcieLinkChange (s) (up rate width) : exec (.pcieLinkChange up rate width) s = execPcieLinkChange up rate width s := rfl
@[simp] theorem exec_debugSessionClose (s) : exec (.debugSessionClose) s = execDebugSessionClose s := rfl

end Sys2Proof.Machine
end

