-- ==== Sys2Proof/Laws/Traverse.lean ====
section
/-! SUPPORT. What the shared operations of the Traverse unit can do. -/

namespace Sys2Proof.Machine

variable (s : State)

theorem raise_axes (n : Nat) : (raise n s).axes = s.axes := by
  obtain ⟨r, c, h⟩ := raise_rest s n
  rw [h]

theorem logCairn_axes (src : Src) (code : Nat) (fs : List DF) : (logCairn src code fs s).axes = s.axes := by
  obtain ⟨r, c, h⟩ := logCairn_rest s src code fs
  rw [h]

theorem State.axis_congr {s t : State} (h : s.axes = t.axes) (n : Nat) : s.axis n = t.axis n := by
  unfold State.axis
  rw [h]

@[simp] theorem raise_axis (n k : Nat) : (raise n s).axis k = s.axis k := State.axis_congr (raise_axes s n) k

@[simp] theorem logCairn_axis (src : Src) (code : Nat) (fs : List DF) (k : Nat) :
    (logCairn src code fs s).axis k = s.axis k := State.axis_congr (logCairn_axes s src code fs) k

/-- A change of state of an axis. -/
theorem axisTo_axis (n : Nat) (new : AxState) (k : Nat) :
    (axisTo n new s).axis k = if k = n then { s.axis n with st := new } else s.axis k := by
  unfold axisTo
  dsimp only
  split
  · rename_i h
    by_cases hk : k = n
    · subst hk
      rw [if_pos rfl, ← h]
    · rw [if_neg hk]
  · simp

/-- A change of state writes no register but the pending bits and the log's discard counter. -/
theorem axisTo_reg_ne (n : Nat) (new : AxState) {k : Nat} (h : k ≠ R.EVC_PEND (n / 32)) (g : k ≠ R.CAIRN_DROPCNT) :
    (axisTo n new s).reg k = s.reg k := by
  unfold axisTo
  dsimp only
  split
  · rfl
  · rw [logCairn_reg_ne _ _ _ _ g, raise_reg_ne _ _ h, State.setAxis_reg]

/-- A change of state touches registers, axes, a waiting core and the log only. -/
theorem axisTo_rest (n : Nat) (new : AxState) :
    ∃ r a c l, axisTo n new s = { s with regs := r, axes := a, cores := c, cairn := l } := by
  unfold axisTo
  dsimp only
  split
  · exact ⟨_, _, _, _, rfl⟩
  · obtain ⟨r, c, h⟩ := raise_rest (s.setAxis n { s.axis n with st := new }) n
    rw [h]
    obtain ⟨r', c', h'⟩ := logCairn_rest
      { (s.setAxis n { s.axis n with st := new }) with regs := r, cores := c } .traverse 0x01
      [⟨4, n⟩, ⟨3, (s.axis n).st.code⟩, ⟨3, new.code⟩]
    rw [h']
    exact ⟨_, _, _, _, rfl⟩

end Sys2Proof.Machine
end

