-- ==== Sys2Proof/Tests/Slice0.lean ====
section
/-! SUPPORT. The model's own tests: ill-formed commands, encodings written out from the spec's tables, the spec's worked
examples, and for every obligation states and operands that meet its hypotheses. -/

namespace Sys2Proof.Tests

open Sys2Proof Sys2Proof.Machine

set_option Elab.async false

/-- The next state, where there is one. -/
def got : Res → Option State
  | .next t => some t
  | _ => none

/-- The reset state with some registers written. -/
def st (l : List (Nat × Nat)) : State := l.foldl (fun s x => s.setRegN x.1 x.2) State.reset

/-- Something of the next state. -/
def see {α : Type} (c : Instr) (s : State) (f : State → α) : Option α := (got (exec c s)).map f

/-! ### Ill-formed commands -/

theorem test_wf_dataType : (Instr.wr 0 1 []).check = some .dataType := by decide
theorem test_wf_dataCount : (Instr.wr 0 2 []).check = some .dataCount := by decide
theorem test_wf_frameLength : (Instr.posRx 3 [1, 2, 3]).check = some .frameLength := by decide
theorem test_wf_saveOffset : (Instr.imageSaveComplete [0x44E40]).check = some .saveOffset := by decide
theorem test_wf_pciLength : (Instr.bar0Access 0 0 (.rd 0)).check = some .pciLength := by decide
theorem test_wf_pciRange : (Instr.bar0Access 0 0x1FFFFFFF8 (.rd 16)).check = some .pciRange := by decide
theorem test_wf_linkMode : (Instr.pcieLinkChange true 5 3).check = some .linkMode := by decide
theorem test_wf_good : (Instr.bar2Access 0 0x140 (.rd 8)).check = none ∧ (Instr.hostBootGo).check = none
    ∧ (Instr.pcieLinkChange true 5 16).check = none := by decide
theorem test_no_word : decodeTableWord 24 0x394C04 = none := rfl

/-! ### Lantern encodings, R389 to R392, written out field by field -/

/-- ADD w6, w5, w7: OP 0x02 in [8:1], rd 6 in [13:9], ra 5 in [18:14], rb 7 in [23:19]. -/
theorem test_code_add : decodeAt 3 false false (2 * 2 ^ 1 + 6 * 2 ^ 9 + 5 * 2 ^ 14 + 7 * 2 ^ 19) = some (.add 3 6 5 7, 2) := by decide
/-- LIS w5, 3 and ADD w6, w5, w7 in one word. -/
theorem test_code_pair : decodeAt 3 false false 0x394C0400CA22 = some (.lis 3 5 3, 2)
    ∧ decodeAt 3 false true 0x394C0400CA22 = some (.add 3 6 5 7, 2) := by decide
/-- CALL with MASK 5 and d23 0x20. -/
theorem test_code_call : decodeAt 0 false false 0x40000A8D = some (.call 0 5 0x20, 4) := by decide
/-- GISS w3, w9, gallery 2. -/
theorem test_code_giss : decodeAt 0 false false 0x1246A1 = some (.giss 0 3 9 2, 4) := by decide
/-- BEQ w4, w2 with d29 = −1: OP 0x38, ra 4 in [13:9], rb 2 in [18:14], d29 in [47:19]. -/
theorem test_code_beq : decodeAt 0 true false (1 + 0x38 * 2 + 4 * 2 ^ 9 + 2 * 2 ^ 14 + 0x1FFFFFFF * 2 ^ 19)
    = some (.beq 0 4 2 0x1FFFFFFF, 4) := by decide
/-- MTSR w2 to special register 5, and LWB w1 from bank 3 at 0x40. -/
theorem test_code_system : decodeAt 0 false false (0x3B * 2 + 2 * 2 ^ 9 + 5 * 2 ^ 14) = some (.mtsr 0 2 5, 2)
    ∧ decodeAt 0 false false (1 + 0x2C * 2 + 1 * 2 ^ 9 + 3 * 2 ^ 14 + 0x40 * 2 ^ 17) = some (.lwb 0 1 3 0x40, 4) := by decide
/-- An unlisted OP, a non-zero zero field and the upper half of a 48-bit word are no instruction. -/
theorem test_code_illegal : decodeAt 0 false false (0x0F * 2) = none ∧ decodeAt 0 false false (2 + 2 ^ 19) = none
    ∧ decodeAt 0 false true 0x1246A1 = none := by decide

/-! ### Registers, cascade, power and reset -/

theorem wit_StepRunsFront : State.reset.pending = [] ∧ ({ State.reset with pending := [.hostBootGo] } : State).pending = .hostBootGo :: [] := by
  decide
theorem wit_LanternRoundTrip : encodeLantern (.add 0 6 5 7) = some (false, 0x394C04)
    ∧ encodeLantern (.call 0 5 0x20) = some (true, 0x40000A8D) ∧ decodeAt 3 false true 0x394C0400CA22 = some (.add 3 6 5 7, 2) := by
  decide
theorem wit_RegisterWrites : hasPath 2 (targetOf (0x300_0000_0000 + R.HOST_CTL)) = true ∧ plainReg R.HOST_CTL
    ∧ (regAt R.HOST_CTL).isSome = true ∧ regAt 0x200FF0 = none
    ∧ (Word.raw 2).tag.poisoned = false ∧ (Word.uni0).tag.poisoned = true
    ∧ see (.registerWrite 2 .u (BitVec.ofNat 26 R.DLM_STATUS) (Word.raw 0x800001)) (st [(R.DLM_STATUS, 0x800003)]) (fun t => (t.regN R.DLM_STATUS, t.junc.rsps.length))
      = some (3, 1)
    ∧ see (.registerWrite 2 .u (BitVec.ofNat 26 R.DLM_STATUS) Word.uni0) (st [(R.DLM_STATUS, 3)]) (fun t => (t.regN R.DLM_STATUS, t.junc.rsps.map (·.st)))
      = some (3, [.tref])
    ∧ see (.rdat3Read 2) State.reset (fun t => t.junc.rsps.map (·.st)) = some [.ok]
    ∧ see (.registerWrite 2 .u 0x200FF0 (Word.raw 1)) State.reset (fun t => t.junc.rsps.map (·.st)) = some [.ok] := by
  unfold plainReg; decide +kernel
/-- A device of role r with ID 3 on DLANE 5, whose lane 5 is a CASC lane and UP. -/
def sCa (r : Nat) : State := st [(R.CASC_CFG, 3 + 8 * r + 32 * 5 + 2 ^ 22 * 20), (R.CASC_STAT, 2 * 5), (R.CASC_EPOCH, 7), (R.CASC_HBAGE, 20),
  (R.LANE_CFG 5, 1 + 2 * 6), (R.LANE_STAT 5, 2), (R.CASC_TAKEAX, 3), (R.CASC_ALT 0, 1), (R.CASC_ALT 1, 5)]
/-- A POS frame with one axis group. -/
def fPos (id ep : Nat) : YFrame := { ty := 3, body := wordBytes [BitVec.ofNat 48 (id * 2 ^ 7 + 2 ^ 10 + ep * 2 ^ 11), 9, 8] }
theorem wit_CascadeRules_frame : (sCa 2).laneSt 5 = 2 ∧ (sCa 2).laneMode 5 = 6 ∧ yParse (yBytes (fPos 1 8)) = some (fPos 1 8)
    ∧ posGroups (payloadWords (fPos 1 8).body) = [(2 ^ 7 + 2 ^ 10 + 8 * 2 ^ 11, 9)] ∧ (sCa 2).beatLane 5 = true ∧ (sCa 1).beatLane 5 = false := by
  decide +kernel
theorem wit_CascadeRules_beat : see (.posRx 5 (yBytes (fPos 1 8))) { sCa 2 with casc := { (sCa 2).casc with lost := true } }
        (fun t => (t.fld R.CASC_HBAGE F.CASC_HBAGE_HBAGE, t.flag R.CASC_STAT F.CASC_STAT_HBOK, t.regN R.CASC_EPOCH, t.casc.lost, t.isPending 779))
      = some (0, true, 8, false, true) := by decide +kernel
theorem wit_CascadeRules_other : see (.posRx 5 (yBytes (fPos 3 8))) (sCa 2) (fun t => (t.flag R.CASC_STAT F.CASC_STAT_DUPID, t.regN R.CASC_HBAGE, t.isPending 780))
      = some (true, 20, true)
    ∧ see (.posRx 5 (yBytes (fPos 1 7))) (sCa 1) (fun t => (t.cascRole, t.isPending 777)) = some (0, true) := by decide +kernel
/-- Axis 2 listens to lane 5. -/
def sFeed : State := ((sCa 0).setRegN (R.AXIS_CFG 2) (1 + 2 * 5 + 16 * 5)).setAxis 2 { st := .track }
theorem wit_CascadeRules_feed : (sFeed.tracked 2 false, sFeed.cascLane 5) = (some (5, 5), 5)
    ∧ see (.posRx 5 (yBytes (fPos 1 7))) sFeed (fun t => (t.axis 2).src.meas.map (·.base)) = some (some (9 * 2 ^ 20)) := by decide +kernel
theorem wit_CascadeRules_lost : see .heartbeatTimeout (sCa 2) (fun t => (t.casc.lost, t.cascRole, t.isPending 778)) = some (true, 2, true)
    ∧ see .heartbeatTimeout { sCa 3 with casc := { (sCa 3).casc with wasOk := true } }
        (fun t => (t.cascRole, t.regN R.CASC_EPOCH, t.casc.taking, t.isPending 776)) = some (1, 8, true, true)
    ∧ see .heartbeatTimeout (sCa 1) (·.casc.lost) = some false := by decide +kernel
theorem wit_CascadeRules_switch : see .tickAxisUpdate { sCa 1 with casc := { (sCa 1).casc with taking := true } }
        (fun t => (t.casc.switched, t.casc.taking)) = some ([0], false)
    ∧ see .tickAxisUpdate (sCa 2) (fun t => t.regN R.CASC_HBAGE) = some 21 := by decide +kernel
theorem wit_CascadeRules_write : see (.cascConfigWrite .m 8 1) (sCa 2) (fun t => (t.regN R.CASC_TAKEAX, t.flag R.CASC_STAT F.CASC_STAT_STERR)) = some (3, true)
    ∧ see (.cascConfigWrite .m 0 (BitVec.ofNat 48 (32 * 9))) (sCa 0) (fun t => (t.regN R.CASC_CFG, t.fld R.CASC_STAT F.CASC_STAT_CURLANE)) = some (32 * 9, 9)
    ∧ see (.cascConfigWrite .m 0 (BitVec.ofNat 48 (3 + 32 * 5 + 2 ^ 22 * 20))) (sCa 2) (·.cascRole) = some 0
    ∧ see (.cascConfigWrite .m 0 1) (sCa 2) (fun t => (t.cascRole, t.flag R.CASC_STAT F.CASC_STAT_STERR)) = some (2, true)
    ∧ see (.cascConfigWrite .s 4 1) (sCa 0) (fun t => t.regN R.CASC_EPOCH) = some 7
    ∧ see (.cascConfigWrite .s 0 1) (sCa 0) (fun t => t.regN R.CASC_CFG) = some ((sCa 0).regN R.CASC_CFG)
    ∧ see (.cascConfigWrite .s 8 1) (sCa 0) (fun t => t.regN R.CASC_TAKEAX) = some 3 := by decide +kernel
def sPf : State := { st [(R.PF_CFG, 200000), (R.PO_CLAIM 3, 2 ^ 11 * 0 + 64), (R.PO_CFG 3, 0)] with tick := 1000 }
def sWin : State := { sPf with pf := { stage := .window, t0 := 900, ts := 1000 } }
def sSav : State := { sPf with pf := { stage := .saving, t0 := 0, ts := 0 } }
theorem wit_SaveRules : see (.pfailAssert) sPf (fun t => (t.pf.ts, t.pins.frozen, t.flag R.PF_STAT F.PF_STAT_PFAIL)) = some (161000, true, true)
    ∧ sPf.sys.inReset = false ∧ sWin.saving = true
    ∧ see .pfailHalt sWin (fun t => (t.pf.halted, t.trav.stopped, (t.core 4).pfail)) = some (true, true, true)
    ∧ see .saveDomainIsolate sWin (·.junc.isolated) = some true
    ∧ see .saveWindowEnd sWin (fun t => (t.pf.stage, t.cairn.frozen, (t.core 3).stopped, t.pf.captured.length)) = some (.saving, true, true, 16) := by
  decide +kernel
theorem wit_SaveRules_late : see (.coreCaptureTimeout 3) sSav (fun t => (t.pf.captured, (t.core 3).stopped)) = some ([3], true)
    ∧ see (.coreCaptureTimeout 3) (sSav.setCore 3 { sSav.core 3 with frozen := some ⟨1, 0, 0, 0⟩ }) (fun t => (t.pf.missed, (t.core 3).stopped)) = some ([3], false)
    ∧ sSav.flag R.PF_CFG F.PF_CFG_SAVEN = false ∧ see (.imageSaveComplete []) sSav (fun t => (t.pf.stage, t.sys.inReset, t.mem.length)) = some (.ended, true, 0)
    ∧ (sSav.setFld R.PF_CFG F.PF_CFG_SAVEN 1).flag R.PF_CFG F.PF_CFG_SAVEN = true ∧ sSav.newestImage = none := by decide +kernel
/-- A valid image in slot 1. -/
def sImg : State := (((sPf.putWord (imageBase 1) (Word.int 0x5A4E5046)).putWord (imageBase 1 + 1) (Word.int 9)).putWord (imageBase 1 + 5) (Word.int 1)).setRegN R.PF_STAT (2 + 4)
theorem wit_ResetAndRestore : see .resetAssert sPf (·.sys.inReset) = some true ∧ see .resetAssert sWin (·.sys.inReset) = some false
    ∧ see .clockMonitorFault sWin (fun t => (t.sys.inReset, t.pf.stage)) = some (true, .ended)
    ∧ see .thermalTrip sPf (fun t => (t.sys.inReset, t.sys.thermTrip)) = some (true, true)
    ∧ see (.resetRelease ⟨1, 2⟩ true) { sImg with sys := { inReset := true } }
        (fun t => (t.regN R.PF_IMGSEQ, t.fld R.PF_STAT F.PF_STAT_SLOT, t.isPending 769, t.imageValid 1)) = some (9, 1, true, true)
    ∧ see (.resetRelease ⟨1, 2⟩ true) sImg (fun t => t.regN R.PF_IMGSEQ) = some 0 ∧ memWf sImg.mem = true := by decide +kernel
theorem wit_ResetAndRestore_restore : see (.restore 0 .s) sImg (fun t => (t.pf.restoring, t.cairn.queue.length)) = some (false, 1)
    ∧ see (.restore 0 .m) sImg (·.pf.restoring) = some true ∧ sImg.liveEnts = []
    ∧ see (.restore 0 .m) sPf (fun t => (t.pf.restoring, t.flag R.PF_STAT F.PF_STAT_STERR)) = some (false, true)
    ∧ see (.inval 0 .m) sImg (fun t => (t.imageValid 0, t.imageValid 1)) = some (false, false)
    ∧ see (.inval 0 .m) { sImg with pf := { restoring := true } } (fun t => (t.imageValid 1, t.flag R.PF_STAT F.PF_STAT_STERR)) = some (true, true)
    ∧ see .vholdLow sImg (fun t => (t.flag R.PF_STAT F.PF_STAT_VHLOW, t.isPending 770)) = some (true, true)
    ∧ see .vholdLow sWin (fun t => t.isPending 770) = some false
    ∧ see .restoreDone sImg (fun t => t.flag R.PF_STAT F.PF_STAT_RESTORED) = some false := by decide +kernel
/-- Every word of an empty image slot reads clean, as UNI. -/
theorem wit_ResetAndRestore_image : decodeContainer (sPf.cont (imageBase 0 + 0x44E3F)) = .clean Word.uni0
    ∧ (List.range 0x200).all (fun i => decodeContainer (sPf.cont (imageBase 0 + i)) = .clean Word.uni0) = true := by decide +kernel

/-! ### Traverse -/

/-- A TRACK axis 3 on encoder input 2. -/
def sAx : State := (st [(R.AXIS_CFG 3, 3 + 16 * 2), (R.ENC_CLAIM 2, 64 + 2048), (R.ENC_STAT 2, 0)]).setAxis 3
  { st := .track, pos := 5, vel := 7 }

theorem wit_AxisStateChanges_enable1 : (sAx.axis 4).st = .off ∧ (sAx.axis 4).now = .off ∧ bits 3 F.AXIS_CFG_SRC.lo F.AXIS_CFG_SRC.w ≤ 1
    ∧ see (.axisEnable 4 3) sAx (fun t => ((t.axis 4).st, (t.axis 4).front, t.isPending 4, t.regN (R.AXIS_CFG 4)))
      = some (.track, 0, true, 3) := by decide
theorem wit_AxisStateChanges_enable5 : 2 ≤ bits 0xB F.AXIS_CFG_SRC.lo F.AXIS_CFG_SRC.w
    ∧ see (.axisEnable 4 0xB) sAx (fun t => ((t.axis 4).st, t.isPending 4)) = some (.acquire, true) := by decide
theorem wit_AxisStateChanges_disable : (sAx.axis 3).st ≠ .off
    ∧ setBits (setBits (sAx.regN (R.AXIS_CFG 3)) 0 20 (setBits 0x22 0 1 0)) 0 1 0
      = setBits (sAx.regN (R.AXIS_CFG 3)) 0 1 0
    ∧ see (.axisDisable 3 0x22) sAx (fun t => ((t.axis 3).st, (t.axis 3).runAs)) = some (.off, some .track) := by decide
def sLos : State := sAx.setRegN (R.ENC_STAT 2) (2 ^ F.ENC_STAT_LOS.lo)
theorem wit_AxisStateChanges_fault : (sLos.axis 3).st = .track ∧ sLos.faultNow 3 = true ∧ (sLos.axis 3).coastmax ≠ 0
    ∧ see (.sourceFault 3) sLos (fun t => ((t.axis 3).st, t.fld (R.AXIS_STAT 3) F.AXIS_STAT_LOSS)) = some (.coast, 1) := by
  decide
def sCoast : State := sAx.setAxis 3 { st := .coast, pos := 5, vel := 7, coastFor := 9, lat := { time := 10 * 2 ^ 24 } }
theorem wit_AxisStateChanges_timeout : (sCoast.axis 3).st = .coast ∧ (sCoast.axis 3).runAs = none
    ∧ (sCoast.axis 3).coastmax ≤ (sCoast.axis 3).coastFor + 1
    ∧ (sCoast.filterNow 3 (sCoast.srcOf 3).1 (sCoast.srcOf 3).2 .coast).2.ok = false
    ∧ see (.coastTimeout 3) sCoast (fun t => ((t.axis 3).st, (t.axis 3).runAs)) = some (.lost, some .coast) := by
  decide

theorem wit_AxisSources_quad : sAx.encUse 2 1 = true
    ∧ sAx.tracked 3 false = some (1, 2)
    ∧ see (.quadCountEdge 2 ⟨true, 200⟩ ⟨false, 200⟩ 6) sAx (fun t => ((t.axis 3).src.n, (t.axis 3).src.edge, t.regN (R.ENC_STAT 2)))
      = some (1, some { fwd := true, ph := 6, b := 1 }, 1) := by decide +kernel
theorem wit_AxisSources_quad_back :
    see (.quadCountEdge 2 ⟨false, 200⟩ ⟨true, 200⟩ 15) sAx (fun t => ((t.axis 3).src.n, (t.axis 3).src.edge))
      = some (0xFFFFFFFFF, some { fwd := false, ph := 15, b := 0 }) := by decide +kernel
def sSsi : State := ((st [(R.AXIS_CFG 3, 5 + 16 * 2), (R.ENC_CLAIM 2, 64 + 2 * 2048), (R.ADC_CLAIM 1, 64 + 2 * 2048),
  (R.AXIS_SRCP 3, 12 * 2 ^ F.AXIS_SRCP_QIFILT.lo), (R.AXIS_CFG 4, 7 + 16)]).setAxis 3 { st := .track }).setAxis 4
    { st := .track }
theorem wit_AxisSources_poll : sSsi.tracked 3 false = some (2, 2) ∧ ((sSsi.axis 3).srcSt false).pollAt ≤ sSsi.tick
    ∧ ((sSsi.axis 3).srcSt false).frame = none
    ∧ see (.ssiPoll 3 false) sSsi (fun t => ((t.axis 3).src.frame, (t.axis 3).src.pollAt)) = some (some 0, 1) := by decide
def sFrame : State := { sSsi.setAxis 3 { st := .track, src := { frame := some 0, code := some 0xFFE, u := 9 } } with tick := 1 }
theorem wit_AxisSources_frame : sFrame.encUse 2 2 = true ∧ sFrame.ssiLast 3 0 ≤ 31
    ∧ see (.ssiFrameComplete 3 false 3 false) sFrame (fun t => ((t.axis 3).src.u, (t.axis 3).src.code, (t.axis 3).src.frame))
      = some (14, some 3, none) := by decide
theorem wit_AxisSources_glitch :
    see (.quadCountEdge 2 ⟨true, 200⟩ ⟨true, 200⟩ 15) sAx (fun t => ((t.axis 3).src.n, (t.axis 3).glcnt,
      t.flag (R.AXIS_STAT 3) F.AXIS_STAT_GLITCH)) = some (0, 1, true) := by decide +kernel
def sFilt : State := sAx.setRegN (R.AXIS_SRCP 3) (5 * 2 ^ F.AXIS_SRCP_QIFILT.lo)
theorem wit_AxisSources_filtered :
    see (.quadCountEdge 2 ⟨true, 4⟩ ⟨false, 9⟩ 15) sFilt (fun t => ((t.axis 3).src.n, (t.axis 3).src.fa)) = some (0, false)
    ∧ see (.quadCountEdge 2 ⟨true, 5⟩ ⟨false, 9⟩ 15) sFilt (fun t => ((t.axis 3).src.n, (t.axis 3).src.fa)) = some (1, true) := by
  decide +kernel
def sMains : State := let s := sSsi.setAxis 4 { st := .track, src := { sample := some (3200, -50), armed := true } }
  { s with tick := 300, pins := { s.pins with convs := [(1, [{ at' := 4000, code := 150, trig := false }])] } }
theorem wit_AxisSources_sample : sMains.tracked 4 false = some (3, 1) ∧ sMains.useOf (R.ADC_CLAIM 1) = 2
    ∧ see (.adcConversionDone 1) sMains (fun t => ((t.axis 4).src.cross, (t.axis 4).src.armed, (t.axis 4).src.sample))
      = some (some ⟨3200, -50, 4000, 150⟩, false, some (4000, 150)) := by decide +kernel
def sCross : State := { sSsi.setAxis 4 { st := .track, src := { cross := some ⟨3200, -50, 4000, 150⟩ } } with tick := 300 }
/-- The line through the two samples is zero at GCLK 3,400: 1,416 GCLK before the end of tick 300. -/
theorem wit_AxisSources_mains : sCross.tracked 4 false = some (3, 1) ∧ sCross.useOf (R.ADC_CLAIM 1) = 2
    ∧ see (.mainsCrossing 4 false true) sCross (fun t => ((t.axis 4).src.n, (t.axis 4).src.meas))
      = some (1, some { base := 2 ^ 32, age := 1416 * 200, den := 200 }) := by decide
def sZin : State := st [(R.ENC_CLAIM 2, 64 + 3 * 2048), (R.ENC_CFG 2, 2 ^ F.ENC_CFG_EVZ.lo)]
theorem wit_AxisSources_zin : bit (sZin.regN (R.ENC_STAT 2)) 2 ≠ true ∧ sZin.useOf (R.ENC_CLAIM 2) = 3
    ∧ sZin.flag (R.ENC_CFG 2) F.ENC_CFG_EVZ = true
    ∧ see (.zEdge 2 ⟨true, 9⟩) sZin (fun t => (t.isPending 658, t.regN (R.ENC_STAT 2))) = some (true, 4) := by decide
theorem wit_AxisSources_zquad : sAx.useOf (R.ENC_CLAIM 2) = 1
    ∧ sAx.srcOf 3 = (1, 2)
    ∧ true ≠ sAx.flag (R.AXIS_SRCP 3) F.AXIS_SRCP_QZPOL
    ∧ see (.zEdge 2 ⟨true, 9⟩) sAx (fun t => ((t.axis 3).zhit, (t.axis 4).zhit)) = some (true, false) := by decide

theorem wit_SetposWrite : (sAx.axis 3).now = .track
    ∧ see (.setpos 3 77) sAx (fun t => ((t.axis 3).rebases, t.cairn.queue.length)) = some ([77], 2) := by decide
theorem wit_SetposWrite_off : (sAx.axis 4).now ≠ .track ∧ (sAx.axis 4).now ≠ .coast
    ∧ see (.setpos 4 77) sAx (fun t => t.fld (R.AXIS_STAT 4) F.AXIS_STAT_ERRCFG) = some 1 := by decide

def sGaz : State := st [(R.ENT_W1 9, 3 + 16), (R.ENT_W2 9, 0), (R.ENT_W1 65535, 16 + 3 * 2 ^ 10), (R.ENT_W1 8, 16),
  (R.ENT_W2 8, 2 ^ 46 + 5)]
theorem wit_GazetteerWrites_arm : sGaz.entSt 9 = 0 ∧ sGaz.ent1 9 F.ENT_W1_DIR ≠ 0
    ∧ see (.gazArm 9 0x12) sGaz (fun t => (t.entSt 9, t.entP 9)) = some (1, 0x12) := by decide
theorem wit_GazetteerWrites_refuse : sGaz.ent1 65535 F.ENT_W1_DPOL = 3
    ∧ see (.gazArm 65535 0) sGaz (fun t => (t.entSt 65535, t.flag R.GAZ_STATUS F.GAZ_STATUS_REJ)) = some (0, true)
    ∧ see (.gazArm 8 0) sGaz (fun t => (t.entP 8, t.flag R.GAZ_STATUS F.GAZ_STATUS_REJ)) = some (5, true) := by decide
theorem wit_GazetteerWrites_disarm : bits (3 * 2 ^ 46 + 7) 46 2 ≠ 1
    ∧ see (.gazDisarm 8 (3 * 2 ^ 46 + 7)) sGaz (fun t => (t.entSt 8, t.entP 8)) = some (0, 7) := by decide
theorem wit_GazetteerWrites_word : see (.gazEntryWrite 9 0 77) sGaz (fun t => t.regN (R.ENT_W0 9)) = some 77
    ∧ see (.gazEntryWrite 8 3 77) sGaz (fun t => (t.regN (R.ENT_W3 8), t.flag R.GAZ_STATUS F.GAZ_STATUS_REJ))
      = some (0, true) := by decide

def sSyn : State := (st [(R.AXIS_CFG 1, 1)]).setAxis 1 { st := .track, pos := 100, vel := -50, lat := { synv := 0x30, synr := 0x10 } }
theorem wit_SynthTick : (sSyn.axis 1).st = .track ∧ (sSyn.srcOf 1).1 = 0 ∧ (sSyn.axis 1).runAs = none
    ∧ see .tickAxisUpdate sSyn (fun t => ((t.axis 1).vel, (t.axis 1).acc, (t.axis 1).pos, (t.axis 1).front, t.tick))
      = some (-34, 0x100000, 66, 32, 1) := by decide +kernel

def sLost : State := sAx.setAxis 3 { st := .lost, pos := 9, vel := 4, acc := 2 }
theorem wit_SynthTick_lost : (sLost.axis 3).st = .lost ∧ (sLost.axis 3).runAs = none
    ∧ see .tickAxisUpdate sLost (fun t => ((t.axis 3).vel, (t.axis 3).acc, (t.axis 3).pos, (t.axis 3).front))
      = some (0, 0, 9, 9) := by decide +kernel
def sFire : State := { (sAx.setRegN (R.ENT_W1 9) (3 + 16 + 64)).setRegN (R.ENT_W2 9) (2 ^ 46 + 5) with
  tick := 4, trav := { fires := [{ i := 9, fb := false, evalAt := 3, late0 := 0, onTime := true, k := 9, still := false,
                                   num := 1, den := 1, axis := 3 }] } }
theorem wit_EventFire : (sFire.axis (sFire.ent1 9 F.ENT_W1_AXIS)).now.live = true ∧ sFire.ent1 9 F.ENT_W1_ACTION = 1
    ∧ see .gazFire sFire (fun t => (t.isPending 21, t.regN R.GAZ_LASTFIRE, t.regN R.GAZ_FIRECNT, t.entSt 9, t.trav.fires.length))
      = some (true, 9, 1, 2, 0) := by decide
def sMiss (p : Nat) : State := { sGaz with trav := { misses := [{ item := .gaz 8, policy := p, axis := 3 }] } }
theorem wit_EntryMiss : (sMiss 1).entSt 8 = 1
    ∧ see .deadlineMiss (sMiss 1) (fun t => (t.entSt 8, t.isPending 83, t.regN R.DLM_MISSCNT)) = some (0, true, 1)
    ∧ see .deadlineMiss (sMiss 2) (fun t => (t.entSt 8, (t.mark 8).missed)) = some (1, true)
    ∧ see .deadlineMiss (sMiss 3) (fun t => (t.entSt 8, t.trav.fires.map (·.i))) = some (0, [9]) := by decide

/-! ### Pins -/

/-- Core 5 owns ADC channel 3, encoder input 2 (QUAD), pulse outputs 1 (CMP) and 2 (SW) and GPIO 7 (IN). -/
def sPin : State := { st [(R.ADC_CLAIM 3, 5 + 64 + 2048), (R.ENC_CLAIM 2, 64 + 2048), (R.PO_CLAIM 1, 5 + 64 + 2048),
  (R.PO_CLAIM 2, 5 + 64 + 4096), (R.PO_CFG 2, 2), (R.GPIO_CLAIM 7, 5 + 64 + 2048), (R.GPIO_CFG 7, 6),
  (R.ADC_CFG 3, 1), (R.ENC_CFG 2, 2 ^ F.ENC_CFG_EVLOS.lo), (R.PO_STAT 1, 1)] with
  trav := { pulses := [(5, some 15)] }, pins := { trigs := [{ c := 3, at' := 15, gaz := false, by' := 5 }] } }

theorem wit_PinClaims_grant : isClaimant 36 = true ∧ sPin.flag (pinClaimReg (.po 9)) F.ADC_CLAIM_OWNED = false
    ∧ pinUseListed (.po 9) (bits (2 * 2048) F.ADC_CLAIM_USE.lo F.ADC_CLAIM_USE.w) = true
    ∧ see (.resourceClaim (.po 9) 36 (2 * 2048)) sPin (fun t => (t.ownsPin (R.PO_CLAIM 9) 36, t.useOf (R.PO_CLAIM 9)))
      = some (true, 2) := by decide
theorem wit_PinClaims_refuse : sPin.ownsPin (pinClaimReg (.adc 3)) 6 = false
    ∧ sPin.flag (pinClaimReg (.adc 3)) F.ADC_CLAIM_OWNED = true
    ∧ see (.resourceClaim (.adc 3) 6 2048) sPin (fun t => (t.fld (R.ADC_CLAIM 3) F.ADC_CLAIM_RES, t.ownsPin (R.ADC_CLAIM 3) 5))
      = some (2, true)
    ∧ see (.resourceClaim (.adc 4) 37 2048) sPin (fun t => (t.fld (R.ADC_CLAIM 4) F.ADC_CLAIM_RES, t.useOf (R.ADC_CLAIM 4)))
      = some (2, 0)
    ∧ see (.resourceClaim (.adc 4) 6 (3 * 2048)) sPin (fun t => t.fld (R.ADC_CLAIM 4) F.ADC_CLAIM_RES) = some 2 := by
  decide
theorem wit_PinClaims_own : sPin.ownsPin (pinClaimReg (.adc 3)) 5 = true
    ∧ see (.resourceClaim (.adc 3) 5 4096) sPin (fun t => decide (t = sPin)) = some true := by decide
theorem wit_PinClaims_release : see (.resourceRelease (.po 1) 5) sPin (fun t => (t.useOf (R.PO_CLAIM 1), t.pulseEnd 5))
      = some (0, none)
    ∧ see (.resourceRelease (.po 1) 6) sPin (fun t => (t.useOf (R.PO_CLAIM 1), t.flag (R.PO_STAT 1) F.PO_STAT_CLERR))
      = some (1, true) := by decide

theorem wit_MeasureAndDrive_adc : sPin.ownsPin (R.ADC_CLAIM 3) 5 = true
    ∧ see (.adcGo 3 5 15) sPin (fun t => t.pins.trigs.map (·.at')) = some [15, 17]
    ∧ see (.adcSample 3 0 0x7FF) sPin (fun t => (t.convs 3, t.pins.trigs)) = some ([⟨15, 0x7FF, false⟩], []) := by
  decide
def sConv : State := { sPin with tick := 48, pins := { convs := [(3, [⟨15, 0x7FF, true⟩])] } }
theorem wit_MeasureAndDrive_done : sConv.flag (R.ADC_CFG 3) F.ADC_CFG_CEV = true
    ∧ see (.adcConversionDone 3) sConv (fun t => (t.regN (R.ADC_DATA 3), t.isPending 579))
      = some (0x7FF + 4096 + 8192 * 15, true) := by decide
theorem wit_MeasureAndDrive_pins : sPin.useOf (R.ENC_CLAIM 2) ≠ 2 ∧ sPin.fld (R.ENC_STAT 2) F.ENC_STAT_LOS = 0
    ∧ see (.encoderLossOfSignal 2 4) sPin (fun t => (t.fld (R.ENC_STAT 2) F.ENC_STAT_LOS, t.isPending 658)) = some (4, true)
    ∧ sPin.pulseEnd 5 = some 15 ∧ sPin.useOf (R.PO_CLAIM 1) = 1
    ∧ see (.comparatorPulseEnd 5) sPin (fun t => (t.fld (R.PO_STAT 1) F.PO_STAT_LVL, t.pulseEnd 5)) = some (0, none)
    ∧ see (.swlvlWrite 2 5 1) sPin (fun t => (t.fld (R.PO_STAT 2) F.PO_STAT_LVL, t.isPending 674)) = some (1, true)
    ∧ bit (sPin.fld (R.GPIO_CFG 7) F.GPIO_CFG_EDGE) 0 = true
    ∧ see (.gpioEdge 7 true) sPin (fun t => (t.flag (R.GPIO_STAT 7) F.GPIO_STAT_EDG, t.isPending 615)) = some (true, true) := by
  decide

/-! ### Events, log, memory and Junction -/

/-- Source 9 is pending and routed to core 2, which waits; source 40 is routed and enabled. -/
def sEv : State := (st [(R.EVC_PEND 0, 2 ^ 9), (R.EVC_ROUTE 40, 2 + 2 ^ 11)]).setCore 2 { waiting := true }
theorem wit_EventRules : see (.eventRaise 40) sEv (fun t => (t.isPending 40, t.isPending 9, (t.core 2).waiting))
      = some (true, true, false)
    ∧ reservedSource 40 = false ∧ reservedSource 170 = true ∧ sEv.sideDown (eventDie 40) = false
    ∧ ({ sEv with junc := { linksDown := [2] } } : State).sideDown (eventDie 91) = false
    ∧ ({ sEv with junc := { linksDown := [2] } } : State).sideDown (eventDie 92) = true
    ∧ see (.swset 3 992) sEv (fun t => t.isPending 992) = some true
    ∧ see (.swset 3 991) sEv (fun t => (t.isPending 991, t.cairn.queue.map (·.code))) = some (false, [1])
    ∧ see (.routeWrite 9 .u (2 + 2 ^ 11)) sEv (fun t => (t.regN (R.EVC_ROUTE 9), (t.core 2).waiting))
      = some (2 + 2 ^ 11, false) := by decide

def sLog : State := { st [(R.CAIRN_CFG, 1 + 0x11 * 2 ^ 16 + 7 * 2 ^ 21 + 2 ^ 29), (R.CAIRN_SEQ, 0xFFFFFFFF),
  (R.CAIRN_ACK, 0xFFFFFFFF), (R.CAIRN_RIDX, 65535)] with
  cairn := { queue := [⟨5, 6, 0x11, 7, false, 8⟩], ring := [(65535, ⟨1, 2, 3, 4⟩)], dropped := true } }
theorem wit_CairnRules : sLog.cairn.frozen = false ∧ sLog.cairnLag < 65536
    ∧ see (.swent 0x1234) sLog (fun t => t.cairn.queue.map (fun e => (e.src, e.code, e.detail)))
      = some [(0x11, 7, 8), (0x11, 0x34, 0x12)]
    ∧ see .cairnEntryAccept sLog (fun t => (t.cairnAt 65535, t.regN R.CAIRN_SEQ, t.regN R.CAIRN_STAT))
      = some (⟨5, 6, 0xFFFFFFFF5107, 8⟩, 0, 5)
    ∧ see .cairnEntryAccept { sLog with cairn := { sLog.cairn with inTick := 16 } } (fun t => t.cairn.queue.length) = some 1
    ∧ hasPath 38 .cairn = true ∧ sLog.turn 38 = true ∧ sLog.cairnInTick = 0
    ∧ see (.rdat3Read 38) sLog (fun t => (t.regN R.CAIRN_RIDX, t.junc.rsps.map (·.w.pay))) = some (0, [4]) := by decide

/-- The first sample address of chamber 3. -/
def aCh : PAddr := 0x200_0180_0000
def sMem : State := State.reset.putWord (aCh.toNat / 4) ⟨Tags.quad, 0x111222333444⟩
/-- One symbol of the word and two bytes of the next one flipped. -/
def sBad : State := { sMem with mem := memPut (memPut sMem.mem (2 * aCh.toNat) 0xF4 1) (2 * aCh.toNat + 8) 0x123456 3 }
theorem wit_WordAccesses_ok : sMem.performs 0 aCh.toNat = true ∧ aCh.toNat % 4 = 0
    ∧ see (.wordRead 0 aCh) sMem (fun t => t.junc.rsps.map (·.w)) = some [⟨Tags.quad, 0x111222333444⟩]
    ∧ see (.sampleStore 0 (aCh + 2) 0xABC) sMem (fun t => decodeContainer (t.cont (aCh.toNat / 4)))
      = some (.clean ⟨Tags.quad, 0x111ABC333444⟩)
    ∧ see (.wordWrite 0 (aCh + 4) ⟨Tags.int, 9⟩) sMem (fun t => (t.cont (aCh.toNat / 4 + 1), t.cont (aCh.toNat / 4)))
      = some (encodeWord ⟨Tags.int, 9⟩, encodeWord ⟨Tags.quad, 0x111222333444⟩)
    ∧ see (.fieldWrite 0 aCh ⟨Tags.quad, 0xAAABBBCCCDDD⟩ 5 0) sMem (fun t => decodeContainer (t.cont (aCh.toNat / 4)))
      = some (.clean ⟨Tags.quad, 0x111BBB333DDD⟩) := by decide +kernel
theorem wit_WordAccesses_bad : sBad.performs 0 aCh.toNat = true
    ∧ see (.wordRead 0 aCh) sBad (fun t => (t.junc.rsps.map (·.w), t.regN (R.CHAM_CECNT 3)))
      = some ([⟨Tags.quad, 0x111222333444⟩], 1)
    ∧ see (.wordRead 0 (aCh + 4)) sBad (fun t => (t.junc.rsps.map (·.w), t.isPending 132)) = some ([Word.uni0], true)
    ∧ see (.sampleStore 0 (aCh + 8) 1) sBad (fun t => t.junc.rsps.map (·.st)) = some [.tref] := by decide +kernel

def sScr : State := sBad.setRegN (R.CHAM_CFG 3) (2 ^ F.CHAM_CFG_SCREN.lo)
theorem wit_ScrubRules : sScr.flag (R.CHAM_CFG 3) F.CHAM_CFG_SCREN = true
    ∧ see (.chamberScrubVisit 3) sScr (fun t => (decodeContainer (t.cont (aCh.toNat / 4)), t.regN (R.CHAM_UECNT 3), (t.chamber 3).scrub))
      = some (.clean ⟨Tags.quad, 0x111222333444⟩, 1, ⟨1, 1⟩) := by decide +kernel
def sHbm : State := st [(R.HBM_CFG 5, 1), (R.HBM_STAT 5, 1), (R.PC_SPARE 5 2, 3)]
theorem wit_ScrubRules_hbm : sHbm.flag (R.HBM_STAT 5) F.HBM_STAT_TRAINED = true
    ∧ sHbm.flag (R.HBM_CFG 5) F.HBM_CFG_SCREN = true
    ∧ (sHbm.setHbm 5 { scrubs := [(2, ⟨0xBFFFFF, 0⟩), (3, ⟨7, 1⟩)] }).scrubDue 5 2 = true
    ∧ see (.hbmScrubVisit 5) (sHbm.setHbm 5 { scrubs := [(2, ⟨0xBFFFFF, 0⟩), (3, ⟨7, 1⟩)] })
      (fun t => (tget (fun _ => {}) (t.hbm 5).scrubs 2, tget (fun _ => {}) (t.hbm 5).scrubs 3)) = some (⟨0, 1⟩, ⟨7, 1⟩) := by
  decide +kernel

theorem wit_RepairRules : bits (2 + 2 ^ 5 + 24575 * 2 ^ 10 + 2 ^ 26) F.HBM_PPR_GO.lo 1 = 1
    ∧ see (.softRepair 5 .m (2 + 2 ^ 5 + 24575 * 2 ^ 10 + 2 ^ 26)) sHbm (fun t => ((t.hbm 5).running, t.regN (R.HBM_STAT 5)))
      = some (some ⟨false, 2, 1, 24575⟩, 0x401)
    ∧ see (.hardRepair 5 .m (2 + 2 ^ 25 + 2 ^ 26)) (sHbm.setRegN (R.HBM_QUIESCE 5) 1) (fun t => (t.hbm 5).running)
      = some (some ⟨true, 2, 0, 0⟩)
    ∧ see (.repairDone 5 false) (sHbm.setHbm 5 { running := some ⟨true, 2, 0, 0⟩ }) (fun t => t.fld (R.HBM_PPR 5) F.HBM_PPR_RES)
      = some 5
    ∧ see (.repairDone 5 true) (sHbm.setHbm 5 { running := some ⟨true, 2, 0, 0⟩ }) (fun t => t.regN (R.PC_SPARE 5 2))
      = some 2
    ∧ see (.softRepair 5 .m (2 + 24576 * 2 ^ 10 + 2 ^ 26)) sHbm (fun t => (t.fld (R.HBM_PPR 5) F.HBM_PPR_RES, (t.hbm 5).running))
      = some (4, none)
    ∧ see (.quiesceWrite 5 .s 1) sHbm (fun t => t.regN (R.HBM_QUIESCE 5)) = some 0
    ∧ see (.quiesceWrite 5 .m 1) sHbm (fun t => t.regN (R.HBM_QUIESCE 5)) = some 1
    ∧ see (.hbmTemperatureHigh 5 96) sHbm (fun t => (t.isPending 160, t.flag (R.HBM_STAT 5) F.HBM_STAT_TEMPHI))
      = some (true, true) := by decide +kernel

def sMar : State := sMem.setRegN (R.MARCH_LEN 0) 8
/-- A chamber march of chamber 3 in mode DESTR. -/
def vMar : Payload := 3 * 2 ^ 6
theorem wit_MarchRules_go : marchRefusal sMar 0 (marchAsked sMar 0 (setBits (setBits vMar.toNat 1 1 0) 0 1 1)) = none
    ∧ see (.marchGo 0 .m vMar) sMar (fun t => (t.regN (R.MARCH_TOTAL 0), t.regN (R.CHAM_STAT 3), t.regN (R.MARCH_STAT 0)))
      = some (48, 1, 1)
    ∧ marchRefusal sMem 0 (marchAsked sMem 0 (setBits (setBits vMar.toNat 1 1 0) 0 1 1)) = some 2
    ∧ see (.marchGo 0 .m vMar) sMem (fun t => t.fld (R.MARCH_STAT 0) F.MARCH_STAT_REJ) = some 2 := by decide +kernel
/-- A DESTR march of eight words of chamber 3. -/
def rMar : MarchRun := { mode := 0, tgt := 0, csel := 3, bg := 0, stopf := false, w0 := aCh.toNat / 4, len := 8 }
def sRun : State := sMem.setMarch 0 { run := some rMar }
theorem wit_MarchRules_end : (sRun.march 0).run = some rMar ∧ rMar.failed sRun rMar.total = []
    ∧ see (.marchEnd 0 0 0 0) sRun (fun t => (contAt t.mem (aCh.toNat / 4), t.regN (R.MARCH_STAT 0), t.isPending 161))
      = some (0, 2, true) := by decide +kernel
/-- Word 2 read as 0xF where M1 and M4 expect 0 and its complement. -/
def rBad : MarchRun := { rMar with bad := [⟨2, 4, 0xF⟩, ⟨2, 1, 0xF⟩] }
theorem wit_MarchRules_bad : rBad.firstOf (rBad.failed sRun rBad.total) = some ⟨2, 1, 0xF⟩
    ∧ (rBad.failed sRun rBad.total).length = 2
    ∧ rBad.diff 0 ⟨2, 4, 0xF⟩ = 0xFFFFFFFFFFFFFFF0
    ∧ ({ rBad with stopf := true } : MarchRun).ends sRun = 16
    ∧ background 1 (aCh.toNat / 4 + 1) = 0xAAAAAAAAAAAAAAAA ∧ background 2 (aCh.toNat / 4) = 0
    ∧ rMar.leaves 12 5 7 = 0 ∧ rMar.leaves 12 2 7 = 0xFFFFFFFFFFFFFFFF := by decide +kernel

def sJun : State := { sMem with junc := { waiting := [{ m := 2, lv := .m, a := aCh.toNat, op := .wr ⟨Tags.int, 9⟩, arr := 0, fresh := false }] } }
def sRsp : State := { st [(R.JUNC_CTL, 0)] with junc := { rsps := [⟨2, 8, .jerr, Word.uni0, true, 5⟩] } }
theorem wit_JunctionRules_grant : sMem.performs 2 aCh.toNat = true ∧ targetOf aCh.toNat = .cham 3
    ∧ see (.junctionGrant 9) sJun (fun t => (decodeContainer (t.cont (aCh.toNat / 4)), t.junc.waiting.length, (t.port 9).last))
      = some (.clean ⟨Tags.int, 9⟩, 0, some 2) := by decide +kernel
theorem wit_JunctionRules_rest : see (.junctionResponse 2) sRsp (fun t => (t.core 2).astore) = some (some (5, 1))
    ∧ targetOf 0x012_0000_0000 = .default ∧ hasPath 38 (targetOf aCh.toNat) = false ∧ sRsp.turn 2 = true
    ∧ see (.defaultTargetAccess 38 aCh false) sRsp (fun t => t.regN R.JUNC_ERRINFO) = some (38 + 128 + 256 * 9)
    ∧ see (.defaultTargetAccess 2 0x012_0000_0000 true) sRsp (fun t => (t.regN R.JUNC_ERRADDR, t.regN R.JUNC_ERRINFO, t.isPending 165))
      = some (0x012_0000_0000, 66, true)
    ∧ see (.junctionEnable 1) sRsp (fun t => (t.junc.draining, t.regN R.JUNC_CTL)) = some (true, 1)
    ∧ see .junctionFullRate { sRsp with junc := { draining := true } } (fun t => t.junc.draining) = some false
    ∧ see (.sliceWrite 47 .m 7) sRsp (fun t => t.regN (R.JUNC_SLICE 47)) = some 7
    ∧ see (.sliceWrite 47 .m 7) (sRsp.setRegN R.JUNC_CTL 1) (fun t => t.regN (R.JUNC_SLICE 47)) = some 0
    ∧ see (.priParkWrite false 47 2 .m 7) sRsp (fun t => t.regN (R.JUNC_PRI 47 2)) = some 7
    ∧ see (.priParkWrite false 47 3 .m 0x17) sRsp (fun t => t.regN (R.JUNC_PRI3 47)) = some 0x17
    ∧ see (.priParkWrite true 37 2 .m 7) sRsp (fun t => t.regN (R.JUNC_PARK 37)) = some 7 := by decide +kernel

/-! ### Passage -/

/-- Site 1 up, its IOTLB entry 5 as in the example of R374, stack 4 trained, an INT word at the example's address. -/
def sSite : State :=
  ((st [(R.SITE_CTL 1, 2), (R.SITE_STAT 1, 1), (R.SITE_CAP 1, 1 + 4 * 16), (R.IOTLB_IOVA 1 5, 0x080004000000),
    (R.IOTLB_PHYS 1 5, 0x0C0000010000 + 0x73A5C0000 - 0x10000), (R.HBM_STAT 4, 1)]).putWord (0x0073A5CAE54 / 4) ⟨Tags.int, 77⟩).setSite 1
    { released := true, stage := 4, gotInit := true, theirs := deviceGrant, ours := leastGrant, grant := deviceGrant }
/-- The RD header of the example of R374, one word. -/
def hRd : BitVec 192 := 0x0400AE54001A0201
def hWr : BitVec 192 := 0x0400AE54001A0202
def hAtom (aop : Nat) : BitVec 192 := BitVec.ofNat 192 (0x0400AE54001A0204 + aop * 2 ^ 78)
def cont (w : Word) : Container := encodeWord w

theorem wit_SiteRequests_hyp : sSite.siteTakes 1 hRd 0 1 = true ∧ sSite.sitePage 1 hRd true false = some (0x0073A5CAE54, false)
    ∧ sSite.performs (siteMaster 1 hRd) 0x0073A5CAE54 = true
    ∧ decodeContainer (sSite.cont (0x0073A5CAE54 / 4)) = .clean ⟨Tags.int, 77⟩ := by decide +kernel
theorem wit_SiteRequests_rw : see (.rd 1 hRd) sSite (fun t => (t.site 1).sent) = some [⟨0x1A0206, [encodeWord ⟨Tags.int, 77⟩]⟩]
    ∧ see (.wr 1 hWr [cont ⟨Tags.addr, 5⟩]) sSite (fun t => ((t.site 1).sent, decodeContainer (t.cont (0x0073A5CAE54 / 4))))
      = some ([⟨0x1A0207, []⟩], .clean ⟨Tags.raw, 5⟩)
    ∧ see (.wrp 1 (hWr + 1) [cont ⟨Tags.int, 5⟩]) sSite (fun t => ((t.site 1).sent, decodeContainer (t.cont (0x0073A5CAE54 / 4))))
      = some ([], .clean ⟨Tags.int, 5⟩) := by decide +kernel
theorem wit_SiteRequests_atom : sSite.siteTakes 1 (hAtom 2) 1 1 = true
    ∧ sSite.sitePage 1 (hAtom 2) true true = some (0x0073A5CAE54, false)
    ∧ see (.atomFadd 1 (hAtom 2) (cont ⟨Tags.int, 3⟩)) sSite (fun t => ((t.site 1).sent, decodeContainer (t.cont (0x0073A5CAE54 / 4))))
      = some ([rspFor (hAtom 2) [⟨Tags.int, 77⟩]], .clean ⟨Tags.int, 80⟩)
    ∧ see (.atomSwap 1 (hAtom 3) (cont ⟨Tags.bear, 3⟩)) sSite (fun t => decodeContainer (t.cont (0x0073A5CAE54 / 4)))
      = some (.clean ⟨Tags.bear, 3⟩)
    ∧ see (.atomCas 1 (hAtom 4) (cont ⟨Tags.int, 77⟩) (cont ⟨Tags.int, 9⟩)) sSite (fun t => decodeContainer (t.cont (0x0073A5CAE54 / 4)))
      = some (.clean ⟨Tags.int, 9⟩)
    ∧ see (.atomCas 1 (hAtom 4) (cont ⟨Tags.int, 78⟩) (cont ⟨Tags.int, 9⟩)) sSite (fun t => decodeContainer (t.cont (0x0073A5CAE54 / 4)))
      = some (.clean ⟨Tags.int, 77⟩) := by decide +kernel
def sQuad : State := sSite.putWord (0x0073A5CAE54 / 4) ⟨Tags.quad, 0x111222333444⟩
theorem wit_SiteRequests_field :
    see (.sampst 1 (hAtom 0 + 2 ^ 33) (cont ⟨Tags.int, 0xABC⟩)) sQuad (fun t => decodeContainer (t.cont (0x0073A5CAE54 / 4)))
      = some (.clean ⟨Tags.quad, 0x111ABC333444⟩)
    ∧ EType.decode (bits (hAtom 1 + 9 * 2 ^ 82).toNat 86 3) = some .s12u
    ∧ see (.fldwr 1 (hAtom 1 + 9 * 2 ^ 82) (cont ⟨Tags.quad, 0xAAABBBCCCDDD⟩)) sQuad
      (fun t => decodeContainer (t.cont (0x0073A5CAE54 / 4))) = some (.clean ⟨Tags.quad, 0xAAA222333DDD⟩) := by decide +kernel
/-- Three transactions with 0, 2 and 28 containers, which fill two flits. -/
def tFl : List PTx := [⟨1, []⟩, ⟨4 + 4 * 2 ^ 78, [1, 2]⟩, ⟨2 + 27 * 2 ^ 26, (List.range 28).map (BitVec.ofNat 64 ·)⟩]
theorem wit_SiteAnswers_flits : (tFl.map fun t => (headerWords t.hdr.toNat, t.data.length)) = [(0, 0), (2, 2), (28, 28)]
    ∧ (flitsOf 0 (tFl.flatMap PTx.slots).length (tFl.flatMap PTx.slots)).length = 2
    ∧ readFlits (flitsOf 0 (tFl.flatMap PTx.slots).length (tFl.flatMap PTx.slots)) = tFl := by decide +kernel
theorem wit_SiteRefusals_en : see (.rd 1 hRd) (sSite.setRegN (R.SITE_CTL 1) 0) (fun t => ((t.site 1).sent, t.regN (R.SITE_STAT 1)))
      = some ([rspnFor hRd 2], 1)
    ∧ see (.rd 1 hRd) (sSite.setRegN (R.IOTLB_PHYS 1 5) (2 ^ 43)) (fun t => ((t.site 1).sent, t.isPending 169))
      = some ([rspnFor hRd 6], true) := by decide +kernel
theorem wit_SiteRefusals : see (.pteupd 1 (hAtom 5) (cont ⟨Tags.pte, 1⟩) (cont ⟨Tags.int, 9⟩)) sSite (fun t => (t.site 1).sent)
      = some [rspnFor (hAtom 5) 2]
    ∧ see (.atomReserved 1 (hAtom 6) []) sSite (fun t => (t.site 1).sent) = some [rspnFor (hAtom 6) 2]
    ∧ ioLookup sSite 1 (bits 0x0500AE54001A0201 32 42) = none
    ∧ see (.rd 1 0x0500AE54001A0201) sSite (fun t => ((t.site 1).sent, t.regN (R.SITE_MISSADDR 1), t.isPending 169))
      = some ([⟨0x1A0257, []⟩], 0x0500AE54, true)
    ∧ sSite.fld (R.SITE_CAP 1) F.SITE_CAP_NMASTER ≤ bits 0x0400AE54001A0401 8 8 := by decide +kernel

def sReq : State := sSite.setSite 1 { sSite.site 1 with reqs := [⟨7, 2, 0x3C000000000, false, 0, 1⟩] }
theorem wit_SiteAnswers : see (.rsp 1 (6 + 2 * 2 ^ 8 + 7 * 2 ^ 16) [cont ⟨Tags.int, 5⟩]) sReq (fun t => ((t.site 1).reqs, (t.site 1).dones))
      = some ([], [⟨2, 0x3C000000000, false, .ok, [⟨Tags.int, 5⟩]⟩])
    ∧ see (.rspn 1 (7 + 3 * 2 ^ 4 + 2 * 2 ^ 8 + 7 * 2 ^ 16)) sReq (fun t => (t.site 1).dones.map (·.st)) = some [.locked]
    ∧ see (.credit 1 (1 + 5 * 2 ^ 4)) sSite (fun t => (t.site 1).ours.reqH) = some 9
    ∧ leastGrant.le (slotCredits (0x100580458045811 * 16 + 2 + 2 ^ 60)) = false := by decide +kernel
def cInit : BitVec 192 := BitVec.ofNat 192
  (2 + 4 * 2 ^ 4 + 22 * 2 ^ 12 + 4 * 2 ^ 22 + 22 * 2 ^ 30 + 4 * 2 ^ 40 + 22 * 2 ^ 48 + 2 ^ 60 + 4 * 2 ^ 64)
theorem wit_SiteAnswers_init : leastGrant.le (slotCredits cInit) = true
    ∧ see (.init 1 cInit) (sSite.setSite 1 { released := true, stage := 4 })
      (fun t => ((t.site 1).ours, t.regN (R.SITE_CAP 1), t.isPending 167)) = some (leastGrant, 0x41, true) := by decide +kernel

theorem wit_LinkLoss : see (.flitReplay 12) sSite (fun t => t.regN (R.SITE_CRCERR 1)) = some 1
    ∧ see (.linkRetrain 10 true true) sSite (fun t => (t.regN (R.PLINK_RETRAIN 10), t.regN (R.PLINK_STAT 10))) = some (1, 3)
    ∧ see (.linkRetrain 11 true true) sSite (fun t => t.regN (R.SITE_RETRAIN 0)) = some 1
    ∧ sSite.junc.linksDown.contains 10 = false
    ∧ see (.internalLinkDown 10) sSite (fun t => (t.junc.linksDown, (t.core 15).mcheck)) = some ([10], [⟨4, 10⟩])
    ∧ see (.siteLinkDown 1 3) sReq (fun t => (t.fld (R.SITE_STAT 1) F.SITE_STAT_DOWN, t.regN (R.SITE_UNACK 1), (t.site 1).dones.map (·.st)))
      = some (1, 3, [.linkdown])
    ∧ see (.siteRequestTimeout 1) ({ sReq with tick := 5 }.setRegN (R.SITE_CTL 1) (2 + 4 * 5))
      (fun t => ((t.site 1).dones.map (·.st), (t.site 1).retired.length)) = some ([.timeout], 1) := by decide +kernel

def sOff : State := { st [(R.SITE_VMON 0, 650 + 2 ^ 10 + 2 ^ 11)] with tick := 1000000 }
theorem wit_SiteBringup : sOff.railsGood 0 = true
    ∧ see (.siteResetRelease 0 .m 1) sOff (fun t => (t.site 0).since) = some (some 1000000)
    ∧ see (.siteTrained 0 2 ⟨1, 4⟩ true) (sOff.setSite 0 { released := true, stage := 2, since := some 0 })
      (fun t => ((t.site 0).stage, t.regN (R.SITE_STAT 0))) = some (4, 2 * 8 + 32 + 4 * 128)
    ∧ see (.siteBringupTimeout 0) (sOff.setSite 0 { stage := 4, step := 5, since := some 0 })
      (fun t => (t.regN (R.SITE_STAT 0), t.cairn.queue.map (·.detail))) = some (2, [2 * 5])
    ∧ see (.siteResetAssert 0 .m 3) (sOff.setSite 0 { released := true, gotInit := true }) (fun t => ((t.site 0).released, t.regN (R.SITE_CTL 0)))
      = some (false, 0)
    ∧ see (.vnomWrite 0 .m 950 true) sOff (fun t => t.regN (R.SITE_VMON 0)) = some (950 + 2 ^ 10 + 2 ^ 11)
    ∧ see (.vnomWrite 0 .m 951 true) sOff (fun t => t.regN (R.SITE_VMON 0)) = some (951 + 2 ^ 11)
    ∧ see (.vnomWrite 0 .m 951 true) (sOff.setRegN (R.SITE_CTL 0) 1) (fun t => t.regN (R.SITE_VMON 0)) = some (650 + 2 ^ 10 + 2 ^ 11)
    ∧ see (.siteRailFault 0 true) sOff (fun t => t.regN (R.SITE_VMON 0)) = some (650 + 2 ^ 10)
    ∧ see (.siteRailRestored 0 false) (sOff.setRegN (R.SITE_VMON 0) 650) (fun t => t.regN (R.SITE_VMON 0)) = some (650 + 2 ^ 10) := by
  decide +kernel

/-! ### Lanes -/

/-- A frame with every header field in use. -/
def fAll : YFrame := { ty := 2, ep := 9, up := true, last := true, seq := 0xABCD, tag := 7, axis := 11, late := true, bearing := 0x123456789ABC, sub := 3, hop := 5, body := [1, 2, 3] }
theorem test_frame_round_trip : yParse (yBytes fAll) = some fAll ∧ (yBlocks (yBytes fAll)).length = 4 := by decide +kernel

/-- Lane 5, owned by core 2, an auxiliary lane at rate 1,250. -/
def sL : State := st [(R.LANE_CLAIM 5, 2 + 64)]
theorem wit_LaneOwnership : see (.laneClaim 5 2) State.reset (fun t => t.regN (R.LANE_CLAIM 5)) = some (2 + 64 + 512)
    ∧ see (.laneClaim 5 3) sL (fun t => t.regN (R.LANE_CLAIM 5)) = some (2 + 64 + 1024)
    ∧ see (.laneRelease 5 2) sL (fun t => t.regN (R.LANE_CLAIM 5)) = some 2
    ∧ isClaimant 2 = true ∧ isClaimant 33 = false
    ∧ see (.laneRelease 5 3) sL (fun t => (t.regN (R.LANE_CLAIM 5), t.flag (R.LANE_STAT 5) F.LANE_STAT_STERR)) = some (66, true)
    ∧ sL.ownsLane 3 5 = false
    ∧ see (.txqwWrite 5 3 0) sL (fun t => t.fld (R.LANE_STAT 5) F.LANE_STAT_CLERR) = some 1
    ∧ bits (2 * 1 + 16 * 100) 1 3 = 1
    ∧ laneRefused (sL.setRegN (R.LANE_CFG 5) (2 * 1 + 16 * 100)) 5 = false
    ∧ see (.laneEnable 5 2 (BitVec.ofNat 48 (2 * 1 + 16 * 100))) sL (fun t => (t.regN (R.LANE_CFG 5), t.laneSt 5, t.isPending 197))
      = some (1 + 2 * 1 + 16 * 100, 1, true)
    ∧ see (.laneEnable 5 2 (BitVec.ofNat 48 (2 * 7 + 16 * 1249))) sL (fun t => (t.regN (R.LANE_CFG 5), t.laneSt 5, t.fld (R.LANE_STAT 5) F.LANE_STAT_ERRCFG))
      = some (2 * 7 + 16 * 1249, 0, 1)
    ∧ see (.txqwWrite 5 2 (BitVec.ofNat 48 (64 * 4096))) sL (fun t => t.fld (R.LANE_TXCFG 5) F.LANE_TXCFG_TXQW) = some 4096
    ∧ see (.txqwWrite 5 2 (BitVec.ofNat 48 (64 * 0x80000))) sL (fun t => (t.fld (R.LANE_TXCFG 5) F.LANE_TXCFG_TXQW, t.fld (R.LANE_STAT 5) F.LANE_STAT_STERR))
      = some (2048, 1) := by decide +kernel
/-- Lane 5 UP in mode 1 with endpoint 2 UP. -/
def sUp : State := st [(R.LANE_CLAIM 5, 2 + 64), (R.LANE_CFG 5, 3 + 1600), (R.LANE_STAT 5, 2), (R.EP_STAT 5 2, 2),
  (R.LANE_TIMING 5, 50 + 3 * 2 ^ 16 + 10 * 2 ^ 20)]
theorem wit_LaneOwnership_off : see (.laneDisable 5 2 1602) sUp (fun t => (t.laneSt 5, t.epSt 5 2, t.regN (R.LANE_CFG 5)))
    = some (0, 0, 1602) := by decide +kernel
theorem wit_LaneStates : see (.laneLock 5) (sUp.setRegN (R.LANE_STAT 5) 1) (fun t => (t.laneSt 5, t.regN (R.LANE_EVT 5))) = some (2, 1)
    ∧ sUp.returnOf 5 = none ∧ see (.laneFault 5) sUp (fun t => (t.laneSt 5, t.isPending 197)) = some (3, true)
    ∧ see (.laneFault 5) (sUp.setRegN (R.LANE_CFG 5) (3 + 1600 + 2 ^ 19 + 9 * 2 ^ 20)) (fun t => ((t.lane 5).rev, (t.lane 9).ctl))
      = some (some 0, [])
    ∧ see (.laneFault 5) ((sUp.setRegN (R.LANE_CFG 5) (3 + 1600 + 2 ^ 19 + 9 * 2 ^ 20)).setRegN (R.LANE_STAT 9) 4) (fun t => ((t.lane 5).rev, (t.lane 9).ctl))
      = some (some 0, [{ ty := 7, bc := true }])
    ∧ see (.laneRecover 5) { sUp.setRegN (R.LANE_STAT 5) 3 with tick := 100000 } (fun t => t.laneSt 5) = some 2
    ∧ see (.laneLock 9) (st [(R.LANE_CFG 9, 11), (R.LANE_STAT 8, 1), (R.LANE_STAT 9, 1), (R.LANE_STAT 10, 1), (R.LANE_STAT 11, 3)])
        (fun t => (t.laneSt 8, t.laneSt 9, t.laneSt 10, t.laneSt 11)) = some (2, 2, 2, 3)
    ∧ see (.unrev 5 2) (sUp.setRegN (R.EP_STAT 5 2) 6) (fun t => t.epRev 5 2) = some false := by decide +kernel

def q1 : QFrame := { src := .gallery, f := { ty := 1, ep := 2, last := true, body := [1, 2, 3, 4, 5, 6] } }
def sFifo : State := sUp.setEp 5 2 { fifo := [q1] }
def sSent : State := { sUp.setEp 5 2 { unack := [{ q1 with again := true }], ackN := 3 } with tick := 100 }.setRegN (R.EP_SEQ 5 2) 1
theorem wit_LaneSends : sUp.laneSends 5 = true ∧ oldestAgain sFifo (sFifo.carried 5) = none
    ∧ nextFifo sFifo 5 (sFifo.carried 5) = some (5, 2)
    ∧ see (.frameTransmit 5) sFifo (fun t => ((t.ep 5 2).fifo, (t.ep 5 2).unack.length, t.regN (R.EP_SEQ 5 2), t.regN (R.LANE_CNTRS 5 1)))
      = some ([], 1, 1, 1)
    ∧ (oldestAgain sSent (sSent.carried 5)).isSome = true
    ∧ see (.frameTransmit 5) sSent (fun t => ((t.ep 5 2).unack.map (·.again), byteAt (t.lane 5).wire 1, t.regN (R.LANE_CNTRS 5 3)))
      = some ([false], 0x80 + 0x40 + 2, 1)
    ∧ see (.ackDelayExpiry 5 2) sSent (fun t => ((t.ep 5 2).ackN, (t.lane 5).ctl.map (·.ty))) = some (0, [5])
    ∧ see (.rtoExpiry 5 2) sSent (fun t => (t.ep 5 2).expiries) = some 1
    ∧ see (.rtoExpiry 5 2) (sSent.setEp 5 2 { sSent.ep 5 2 with expiries := 2 }) (fun t => (t.epSt 5 2, (t.ep 5 2).unack)) = some (3, [])
    ∧ see (.posPeriod 5) (sUp.setRegN (R.LANE_POSCFG 5) (2 ^ 16 + 9)) (fun t => (t.lane 5).timed.map (·.body.length)) = some [36]
    ∧ see (.timePeriod 5) (sUp.setRegN (R.LANE_TIMING 5) (2 ^ 28)) (fun t => (t.lane 5).timed.map (·.sub)) = some [1] := by
  decide +kernel

/-- Endpoint 2 delivers to queue 3 of lane die 0, in lane buffer 0. -/
def sRx : State := [(R.EP_CFG 5 2, 3 + 32), (R.Q_CFG 0 3, 1), (R.Q_BASE 0 3, 0x30400000000), (R.Q_SIZE 0 3, 4 + 4 * 2 ^ 16),
  (R.Q_SBASE 0 3, 0x30400001000), (R.Q_HEAD 0 3, 3), (R.Q_TAIL 0 3, 2)].foldl (fun s x => s.setRegN x.1 x.2) sUp
def f1 (seq : Nat) : YFrame := { ty := 1, ep := 2, up := true, last := true, seq := seq, tag := 7, body := [1, 2, 3, 4, 5, 6, 7] }
theorem wit_LaneReceives_hyp : yParse (yBytes (f1 0)) = some (f1 0) ∧ sRx.rxEp 5 (f1 0) = some 2 ∧ sRx.rxQueue 5 2 = some 3
    ∧ sRx.ringFull 0 3 = false ∧ (sRx.setRegN (R.Q_TAIL 0 3) 0).ringFull 0 3 = true
    ∧ sRx.slotAt 0 3 = 0x30400000030 / 4 ∧ sRx.statusAt 0 3 = 0x3040000100C / 4
    ∧ sRx.performs 32 0x30400000030 = true ∧ sRx.performs 32 0x3040000100C = true := by decide +kernel
theorem wit_LaneReceives_data : see (.dataRx 5 (yBytes (f1 0))) (sRx.setRegN (R.Q_TAIL 0 3) 3)
    (fun t => (decodeContainer (t.cont (0x30400000030 / 4)), decodeContainer (t.cont (0x3040000100C / 4)), t.regN (R.Q_HEAD 0 3), t.epSeq 5 2 F.EP_SEQ_RXEXP))
    = some (.clean ⟨7, 0x060504030201⟩, .clean (Word.int (BitVec.ofNat 48 (5 + 2 * 2 ^ 8 + 2 ^ 33))), 2 ^ 16, 1) := by decide +kernel
theorem wit_LaneReceives_fire : sRx.linkOps 0 = [] ∧ see (.dataRx 5 (yBytes { f1 0 with ty := 2 })) sUp (fun t => (t.regN (R.LANE_CNTRS 5 6), t.epSeq 5 2 F.EP_SEQ_RXEXP)) = some (0, 1)
    ∧ see (.dataRx 5 (yBytes (f1 3))) sUp (fun t => (t.lane 5).ctl.map (·.ty)) = some [6] := by decide +kernel
theorem wit_LaneReceives : see (.dataRx 5 (yBytes (f1 0))) sUp (fun t => (t.regN (R.LANE_CNTRS 5 6), t.epSeq 5 2 F.EP_SEQ_RXEXP)) = some (1, 1)
    ∧ see (.dataRx 5 (yBytes (f1 65535))) sUp (fun t => (t.regN (R.LANE_CNTRS 5 4), (t.lane 5).ctl.map (·.ty))) = some (1, [5])
    ∧ see (.ack 5 (yBytes { f1 1 with ty := 5, body := [] })) sSent (fun t => ((t.ep 5 2).unack.length, t.regN (R.EP_SEQ 5 2))) = some (0, 65537)
    ∧ see (.nak 5 (yBytes { f1 0 with ty := 6, body := [] })) (sSent.setEp 5 2 { unack := [q1] }) (fun t => (t.ep 5 2).unack.map (·.again)) = some [true]
    ∧ yParse [0] = none := by decide +kernel
def sMsg : State := (sSent.setEp 5 2 { unack := [{ q1 with src := .msg 7 }] }).setMsg 7
  (some { lane := 5, ep := 2, dpol := 0, daxis := 0, dbear := 0, fbmsg := 0, cev := false, left := 1, watched := false })
theorem wit_LaneReceives_msg : see (.ack 5 (yBytes { f1 1 with ty := 5, body := [] })) sMsg (fun t => (t.msg 7, t.regN (R.MSG_STAT 7))) = some (none, 0) := by
  decide +kernel

def fRep : YFrame := { ty := 7, up := true, sub := 1, body := [1, 0, 0, 0, 0, 0, 9, 0, 0, 0, 0, 0, 5, 0, 3, 0] }
def rep1 : Report := { uid := 1, cap := 9, flags := 5, ep := 0, hop := 3 }
def sDisc : State := { (sUp.setRegN (R.EP_STAT 5 2) 0).setLane 5 { disc := .collect (some 0), reports := [rep1] } with tick := 2000 }
theorem wit_DiscoveryRules : see (.disc 5 2) sUp (fun t => ((t.lane 5).disc, (t.lane 5).ctl.map (·.sub), t.regN (R.LANE_DISCST 5))) = some (.collect none, [3, 0], 1)
    ∧ see (.frameTransmit 5) { sUp.setLane 5 { disc := .collect none, ctl := [{ ty := 7, bc := true, sub := 0 }] } with tick := 7 } (fun t => (t.lane 5).disc)
      = some (.collect (some 7))
    ∧ see (.report 5 (yBytes fRep)) sDisc (fun t => (t.lane 5).reports) = some [rep1, rep1]
    ∧ see (.discoveryCollectEnd 5) sDisc (fun t => (t.epSt 5 0, (t.ep 5 0).assign, (t.lane 5).ctl.map (·.body))) = some (1, some rep1, [[1, 0, 0, 0, 0, 0, 0, 0]])
    ∧ see (.ack 5 (yBytes { f1 0 with ty := 5, body := [] })) (sUp.setEp 5 2 { assign := some rep1 }) (fun t => ((t.ep 5 2).setseq, (t.ep 5 2).found)) = some (some 0, some rep1)
    ∧ see (.ack 5 (yBytes { f1 0 with ty := 5, body := [] })) ((sUp.setEp 5 2 { setseq := some 0, found := some rep1 }).setRegN (R.EP_STAT 5 2) 1)
      (fun t => (t.regN (R.EP_STAT 5 2), t.regN (R.EP_UID 5 2))) = some (2 + 5 * 8, 1)
    ∧ see (.reversalComplete 5) { (sUp.setRegN (R.LANE_CFG 5) (3 + 1600 + 2 ^ 19 + 9 * 2 ^ 20)).setLane 5
        { rev := some 0, revQuery := some 0, revReports := [{ rep1 with ep := 2, flags := 2 }] } with tick := 2000 } (fun t => (t.epRev 5 2, t.regN (R.LANE_EVT 5))) = some (true, 4) := by
  decide +kernel

/-- Message 1 of lane 5 in lane buffer 0: one RAW word to endpoint 2. -/
def sMq : State := ((((((sUp.setRegN (R.LANE_TXCFG 5) (2 ^ 31 + 2 ^ 32 + 64 * 100 + 2 ^ 27)).setRegN R.LINK_MSGBASE 0x30400000000).putWord
    (0x30400000010 / 4) (Word.int (BitVec.ofNat 48 (1 + 2 * 2 ^ 20)))).putWord (0x30400000014 / 4) ⟨Tags.addr, 0x30400000100⟩).putWord
    (0x30400000018 / 4) (Word.raw 0)).putWord (0x3040000001C / 4) (Word.raw 0)).putWord (0x30400000100 / 4) (Word.raw 5)
theorem wit_MessageRules : see (.msgq 5 2 1) sMq (fun t => (t.regN (R.MSG_STAT 1), (t.msg 1).map (·.left), (t.ep 5 2).fifo.map (·.f.body))) = some (21, some 1, [[5, 0, 0, 0, 0, 0]])
    ∧ see (.queueTailWrite 1 7 9) (st [(R.Q_SIZE 1 7, 4 * 2 ^ 16)]) (fun t => t.regN (R.Q_TAIL 1 7)) = some 1
    ∧ see (.stream 1 (5 + 5 * 2 ^ 96) [encodeWord ⟨Tags.int, 6⟩]) (((sMq.setRegN (R.SITE_CTL 1) 2).setRegN (R.SITE_STAT 1) 1).setSite 1
        { released := true, stage := 4, gotInit := true, theirs := deviceGrant, ours := leastGrant, grant := deviceGrant })
        (fun t => (t.ep 5 2).fifo.map (fun q => (q.f.tag, q.f.body))) = some [(Tags.int, [6, 0, 0, 0, 0, 0])] := by decide +kernel

/-- Port 1 with lane 4 UP in mode 3, promiscuous, rule 2 on EtherType 0x1234 to queue 3. -/
def sEth : State := st [(R.LANE_CLAIM 4, 2 + 64), (R.LANE_CFG 4, 1 + 6), (R.LANE_STAT 4, 2), (R.ETH_CFG 1, 4 * 2000 + 2 ^ 22), (R.RULE_MATCH 1 2, 1 + 4 * 0x1234),
  (R.RULE_ACT 1 2, 3), (R.Q_CFG 0 3, 1), (R.Q_BASE 0 3, 0x30400000000), (R.Q_SIZE 0 3, 16 + 4 * 2 ^ 16), (R.Q_SBASE 0 3, 0x30400001000),
  (R.ETH_TXLEN 1, 8), (R.ETH_TXPROD 1, 1), (R.ETH_TXBASE 1, 0x30400002000)]
def eBody : List (BitVec 8) := List.replicate 12 1 ++ [0x12, 0x34] ++ List.replicate 46 7
def eFrame : List (BitVec 8) := eBody ++ bytesOf (crc32 eBody) 4
theorem wit_EthernetRules_hyp : sEth.portUp 1 = true ∧ eFrame.length = 64 ∧ eFrame.take (eFrame.length - 4) = eBody
    ∧ numOf (eFrame.drop (eFrame.length - 4)) = crc32 (eFrame.take (eFrame.length - 4))
    ∧ addrPass sEth 1 eBody = true ∧ isSync sEth 1 eBody = false ∧ ethRule sEth 1 eBody = some (2, 14)
    ∧ (unpack 0 (eBody.drop 14)).length = 8 ∧ addrPass (sEth.setRegN (R.ETH_CFG 1) 8000) 1 eBody = false := by decide +kernel
theorem wit_EthernetRules : see (.ethRx 1 0 (eFrame.set 20 8)) sEth (fun t => t.regN (R.ETH_CNTRS 1 1)) = some 1
    ∧ see (.txprod 1 2 9) sEth (fun t => t.regN (R.ETH_TXPROD 1)) = some 1
    ∧ see (.ptpadj 1 2 0xFFFFFFFFFFFF) (sEth.setRegN (R.ETH_PTPSEC 1) 5) (fun t => (t.regN (R.ETH_PTPSEC 1), t.regN (R.ETH_PTPNS 1))) = some (4, 999999999)
    ∧ sEth.ownsLane 3 4 = false
    ∧ see (.ptpsecRead 1) (sEth.setRegN (R.ETH_PTPNS 1) 9) (fun t => (t.eth 1).latch) = some (some 9)
    ∧ see (.ethLinkChange 1) sEth (fun t => (t.regN (R.ETH_STAT 1), t.isPending 513)) = some (3, true) := by decide +kernel
theorem wit_EthernetRules_tx : see (.ethTx 1 0) (((sEth.putWord (0x30400002000 / 4) ⟨Tags.addr, 0x30400003000⟩).putWord (0x30400002004 / 4)
      (Word.int 5)).putWord (0x30400003000 / 4) (Word.raw 0x060504030201)) (fun t => ((t.eth 1).wire, t.regN (R.ETH_TXCONS 1)))
    = some ([1, 2, 3, 4, 5] ++ List.replicate 55 0 ++ bytesOf (crc32 ([1, 2, 3, 4, 5] ++ List.replicate 55 0)) 4, 1) := by decide +kernel

/-! ### Galleries -/

/-- A descriptor that copies I48 words of the chamber from 0x100 to 0x200 with step operation op and constant 5. -/
def dsc (op len own : Nat) : Desc :=
  [BitVec.ofNat 48 (op + 3 * 64), 0x100, 9, 0, 0, 0, 0, 0x200, 9, BitVec.ofNat 48 (len + 4 * 2 ^ 24), 5, 0, 0, BitVec.ofNat 48 own, 0, 0]
theorem test_descriptor_good : (dsc 1 4 7).check 3 = none ∧ (dsc 1 4 7).wordChain = true ∧ (dsc 0x0D 4 7).check 3 = some 1
    ∧ (dsc 0x28 4 7).check 3 = some 2 := by decide

/-- Gallery 3 with the descriptor in slot 9 in some state. -/
def sG (x : Slot) : State := State.reset.setSlot 3 9 x
theorem wit_TokenRules : see (.tokpost 3 7) (sG { st := .wait, desc := (dsc 1 4 9).set 13 (7 * 2 ^ 16), aw0 := true })
      (fun t => ((t.slot 3 9).st, t.token 3 7)) = some (.ready, true)
    ∧ see (.tokclr 3 7) State.reset (fun t => (t.token 3 7, t.token 4 7)) = some (false, true)
    ∧ see .tokenSetPropagate { (State.reset.setGal 4 { sb := [(7, false)] }) with moves := [⟨7, 3⟩] } (fun t => (t.token 4 7, t.moves)) = some (true, [])
    ∧ see (.startBearingMet 3 9) (sG { st := .wait, sbw := true, sbmet := true, desc := dsc 1 4 9 }) (fun t => (t.slot 3 9).st) = some .ready
    ∧ see (.startBearingMet 3 9) ((sG { st := .wait, sbw := true, sbmet := true, aw0 := true, desc := (dsc 1 4 9).set 13 (7 * 2 ^ 16) }).setGal 3
        { slots := [(9, { st := .wait, sbw := true, sbmet := true, aw0 := true, desc := (dsc 1 4 9).set 13 (7 * 2 ^ 16) })], sb := [(7, false)] })
        (fun t => (t.slot 3 9).st) = some .wait := by decide +kernel
theorem wit_SlotSelection : see (.slotSelect 3) ((sG { st := .ready, prio := 2, since := 5 }).setSlot 3 4 { st := .ready, prio := 2, since := 6 })
      (fun t => (t.slot 3 9).st) = some .run
    ∧ see (.preempt 3) (((sG { st := .run, prio := 2, done := 3, desc := dsc 1 4 0 }).setSlot 3 4 { st := .ready, prio := 3 }).setRegN (R.GAL_CFG 3) 32)
      (fun t => ((t.slot 3 9).st, (t.slot 3 9).saved, decodeContainer (t.cont (chamAddr 3 (saveOff 9) / 4))))
      = some (.ready, true, .clean (Word.raw (BitVec.ofNat 48 (3 + 2 ^ 36 + 9 * 2 ^ 38))))
    ∧ see (.relayWordReceive 3 1) (State.reset.setRelayIn 3 1 { pairs := [{ src := 1, k := 0 }, { src := 2, k := 0, flight := [Word.uni0] }] })
      (fun t => (t.relayIn 3 1).pairs.map (·.buf.length)) = some [0, 1] := by decide +kernel
theorem test_fixed_result : fixResult .s12u .trunc true 5000 1 = (4095, { sat := true }) ∧ fixResult .s12u .trunc false 5000 1 = (904, {})
    ∧ fixResult .h16s .rhe false 32768 1 = (-32768, {}) := by decide
/-- Element 1 of slot 9 of gallery 3 runs: the word 7 plus 5. -/
def sRunSlot : State := (sG { st := .run, done := 1, desc := dsc 1 4 6 }).putWord (chamAddr 3 0x104 / 4) (Word.int 7)
theorem wit_ElementRules : see (.elementCommit 3) sRunSlot (fun t => ((t.slot 3 9).done, decodeContainer (t.cont (chamAddr 3 0x204 / 4))))
    = some (2, .clean (Word.int 12)) := by decide +kernel
theorem wit_ElementRules_fault : see (.elementFault 3 none) (sG { st := .run, done := 1, desc := dsc 1 4 6 })
    (fun t => ((t.slot 3 9).st, (t.slot 3 9).fault.cause, t.isPending 103)) = some (.susp, 3, true) := by decide +kernel
theorem wit_EndingRules : see (.instructionComplete 3) (sG { st := .run, done := 4, desc := dsc 1 4 6 })
      (fun t => ((t.slot 3 9).st, t.moves, t.regN (R.GAL_ENDCNT 3))) = some (.free, [⟨6, 3⟩], 1)
    ∧ see (.abort 3 9) (sG { st := .susp, done := 2, desc := dsc 1 4 6 }) (fun t => (t.slot 3 9).st) = some .free
    ∧ see (.abort 3 9) (sG {}) (fun t => t.regN (R.GAL_ERR 3)) = some 1
    ∧ see (.crtailWrite 3 9) (st [(R.GAL_CRCTL 3, 4)]) (fun t => t.regN (R.GAL_CRTAIL 3)) = some 1
    ∧ see (.crRingConfigWrite 3 true 4) State.reset (fun t => (t.crlen 3, t.regN (R.GAL_CRHEAD 3))) = some (4, 65536)
    ∧ see (.crRingConfigWrite 3 false 0x3FFFFFFFFFC) State.reset (fun t => t.fld (R.GAL_CRBASE 3) F.GAL_CRBASE_CRBASE) = some 0x3FFFFFFFFFC
    ∧ see (.crRingConfigWrite 3 true 4) (sG { st := .susp }) (fun t => (t.crlen 3, t.regN (R.GAL_ERR 3))) = some (0, 1) := by decide +kernel
def sRing : State := ((sG { st := .retire, recs := [⟨6, .late, false, 4, 0, 5, 6, true⟩] }).setGal 3
  { slots := [(9, { st := .retire, recs := [⟨6, .late, false, 4, 0, 5, 6, true⟩] })], retiring := [9] }).setRegN (R.GAL_CRCTL 3) 4
  |>.setRegN (R.GAL_CRBASE 3) 0x30400000000
theorem wit_EndingRules_ring : sRing.crSpace 3 ≠ 0 ∧ sRing.ringAt 3 = 0x30400000000 ∧ (∀ i, i < 4 → sRing.galServes 3 (0x30400000000 + 4 * i) = true)
    ∧ see (.retireRecordWrite 3 9) sRing (fun t => ((t.slot 3 9).st, t.isPending 87, decodeContainer (t.cont (0x30400000000 / 4))))
      = some (.free, true, .clean (Word.int (BitVec.ofNat 48 (6 + 9 * 2 ^ 16 + 2 ^ 21 + 3 * 2 ^ 24 + 2 ^ 47)))) := by decide +kernel
theorem wit_QuarantineRules : see (.galOwnerWrite 3 5) State.reset (fun t => t.galOwner 3) = some 5
    ∧ see (.galOwnerWrite 3 5) (sG { st := .susp }) (fun t => (t.galOwner 3, t.regN (R.GAL_ERR 3))) = some (State.reset.galOwner 3, 1)
    ∧ see (.quarantineEnter 3 0 false 0) State.reset (fun t => ((t.gal 3).quar, (t.gal 3).ierr, t.isPending 119)) = some (true, false, true)
    ∧ see (.quarantineEnter 3 1 false 0) (sG { st := .run, desc := dsc 1 4 6 }) (fun t => ((t.slot 3 9).st, (t.gal 3).ierr)) = some (.free, true)
    ∧ see (.quarantineLeave 3) (State.reset.setGal 3 { quar := true }) (fun t => (t.gal 3).resetting) = some true
    ∧ see (.quarantineResetDone 3) ((sG { st := .retire }).setGal 3 { quar := true, resetting := true }) (fun t => (t.gal 3).quar) = some false := by decide +kernel
theorem wit_MicrocodeWrites : mayWriteUcode 3 .m = true ∧ mayWriteUcode 3 .s = false ∧ State.reset.mlock = false ∧ State.reset.allSlotsFree = true
    ∧ see (.ucLanternPatchWrite 3 .m 2 false 511 0x1ABCDEF) State.reset (fun t => t.regN (R.UC_LPATCH 2 511)) = some 0xABCDEF
    ∧ see (.ucLanternPatchWrite 35 .m 2 true 3 0xABCDEF) State.reset (fun t => t.regN (R.UC_LMATCH 2 3)) = some 0xABCDEF
    ∧ see (.ucGalleryPatchWrite 3 .m false 1023 5) State.reset (fun t => t.regN (R.UC_GPATCH 1023)) = some 5
    ∧ see (.ucGalleryPatchWrite 3 .m true 15 5) (sG { st := .run }) (fun t => (t.regN (R.UC_GMATCH 15), t.regN R.UC_STAT)) = some (0, 2)
    ∧ see (.ucGalleryPatchWrite 3 .s false 3 5) State.reset (fun t => t.junc.rsps.map (·.st)) = some [.tref]
    ∧ see (.ucLanternPatchWrite 3 .m 2 false 1 5) (st [(R.SEC_LOCK, 2 ^ F.SEC_LOCK_MLOCK.lo)]) (fun t => t.regN R.UC_STAT) = some 4 := by decide +kernel

/-! ### Lanterns -/

/-- Core 3 at M in its niche memory with words of several tags in its registers and behind its code. -/
def sN : State :=
  let c := landWrites [.w 5 (Word.int 100), .w 6 (Word.int (BitVec.ofInt 48 (-7))), .w 7 (Word.addr 0x30300000100),
    .w 8 ⟨Tags.raw, 3⟩, .w 9 (Word.bear 0x800000000064), .w 10 (Word.bear 0x64), .w 11 ⟨Tags.dec, 0x123C⟩,
    .w 12 ⟨Tags.dec, 0x999C⟩, .w 33 (Word.addr 0x30300010000), .w 31 (Word.addr 0x30300020000), .sr 20 (Word.addr 0x30300004000), .v 8 (fpWord 0x3F800000),
    .v 12 (fpWord 0x3F000000), .v 16 ⟨Tags.quad, 0xFFF000F00123⟩, .v 17 ⟨Tags.raw, 5⟩, .v 18 ⟨Tags.raw, 6⟩, .v 19 ⟨Tags.raw, 7⟩] (State.reset.core 3)
  (State.reset.setCore 3 { c with pc := 0x30300030000 }) |> nichePut 3 0x30300000100 (Word.int 41) |> nichePut 3 0x30300000104 ⟨Tags.quad, 0x800801802803⟩
    |> nichePut 3 0x30300000108 (Word.bear 9) |> nichePut 3 0x3030000010C (fpWord 9)
/-- The same in deterministic mode. -/
def inDet (s : State) : State := s.setCore 3 ((s.core 3).setSr 0 (setBits (s.core 3).stat 4 1 1))
/-- What core 3 holds in a general register once its results have landed, with its PC. -/
def wLand (c : Instr) (k : Nat) (s : State) : Option (Nat × Word) :=
  see c s fun t => ((t.core 3).pc.toNat % 65536, (t.core 3).landAll.wAt k)
def vLand (c : Instr) (k : Nat) (s : State) : Option (Nat × Word) :=
  see c s fun t => ((t.core 3).pc.toNat % 65536, tget (fun _ => Word.uni0) (t.core 3).landAll.v k)
/-- The word at a niche address of core 3. -/
def nAt (t : State) (a : Nat) : Decoded := decodeContainer (t.nicheCont 3 a)

theorem wit_ShortRegisterOps : sN.ready 3 2 = true
    ∧ wLand (.nop 3) 5 sN = some (2, Word.int 100)
    ∧ wLand (.lis 3 5 (-3)) 5 sN = some (2, Word.int (-3))
    ∧ wLand (.mov 3 1 7) 1 sN = some (2, Word.addr 0x30300000100)
    ∧ wLand (.tagget 3 1 9) 1 sN = some (2, Word.int 7)
    ∧ wLand (.mul 3 1 5 6) 1 sN = some (2, Word.int (-700))
    ∧ wLand (.sra 3 1 6 8) 1 sN = some (2, Word.int (-1))
    ∧ wLand (.cmplt 3 1 6 5) 1 sN = some (2, Word.int 1)
    ∧ wLand (.cmpltu 3 1 6 5) 1 sN = some (2, Word.int 0)
    ∧ wLand (.add 3 1 7 5) 1 sN = some (2, Word.addr 0x30300000164)
    ∧ wLand (.sub 3 1 7 7) 1 sN = some (2, Word.int 0)
    ∧ wLand (.addi 3 (.short 7 4)) 7 sN = some (2, Word.addr 0x30300000104)
    ∧ wLand (.badd 3 1 9 8) 1 sN = some (2, Word.bear 0x800000000067)
    ∧ wLand (.bcmp 3 1 9 10) 1 sN = some (2, Word.int (-1))
    ∧ wLand (.dadd 3 1 11 12) 1 sN = some (2, ⟨Tags.dec, 0x1122C⟩)
    ∧ wLand (.dsub 3 0 11 12) 0 sN = some (2, Word.int 0) := by decide +kernel
theorem wit_LongRegisterOps : sN.ready 3 4 = true
    ∧ wLand (.li 3 1 0x200000000) 1 sN = some (4, Word.int (-0x200000000))
    ∧ wLand (.lea 3 1 4) 1 sN = some (4, Word.addr 0x30300030004)
    ∧ wLand (.lih 3 1 7 0xABCDEF) 1 sN = some (4, Word.addr 0xABCDEF000100)
    ∧ wLand (.tagset 3 1 5 0xF) 1 sN = some (4, ⟨0xF, 100⟩)
    ∧ wLand (.addi 3 (.long 1 5 (-1))) 1 sN = some (4, Word.int 99)
    ∧ wLand (.andi 3 1 6 0xFFFFFF) 1 sN = some (4, Word.int 0xFFFFF9)
    ∧ wLand (.srai 3 1 6 60) 1 sN = some (4, Word.int (-1))
    ∧ wLand (.mulh 3 1 6 5) 1 sN = some (4, Word.int (-1))
    ∧ wLand (.div 3 1 6 8) 1 sN = some (4, Word.int (-2))
    ∧ wLand (.rem 3 1 6 0) 1 sN = some (4, Word.int (-7))
    ∧ wLand (.divu 3 1 5 0) 1 sN = some (4, Word.int 0)
    ∧ wLand (.sel 3 1 5 7 0) 1 sN = some (4, Word.addr 0x30300000100)
    ∧ see (.mtb 3 2 7) sN (fun t => (t.core 3).landAll.getB 2) = some 0x3030000 := by decide +kernel
theorem wit_FloatVectorOps : vLand (.fadd 3 1 2 3) 4 sN = some (2, fpWord 0x3FC00000)
    ∧ wLand (.fcmplt 3 1 3 2) 1 sN = some (2, Word.int 1)
    ∧ wLand (.fcvtwi 3 1 2) 1 sN = some (2, Word.int 1)
    ∧ vLand (.fcvtiw 3 1 5) 4 sN = some (2, fpWord 0x42C80000)
    ∧ vLand (.fma 3 1 2 3 3) 4 sN = some (4, fpWord 0x3F800000)
    ∧ vLand (.vbcast 3 1 5) 7 sN = some (4, Word.int 100)
    ∧ wLand (.vext 3 1 4 0) 1 sN = some (4, ⟨Tags.quad, 0xFFF000F00123⟩)
    ∧ vopType 1 0 = some .s12u
    ∧ vLand (.vop 3 1 4 4 1 0 true false) 4 sN = some (4, ⟨Tags.quad, 0xFFF000FFF246⟩)
    ∧ see (.vop 3 1 4 4 1 0 true false) sN (fun t => (t.core 3).landAll.srN 19 / 8192 % 2) = some 1 := by decide +kernel
theorem wit_NicheAccesses : sN.nicheAt 3 0x30300000100 = true
    ∧ wLand (.lw 3 (.short 1 7 0)) 1 sN = some (2, Word.int 41)
    ∧ wLand (.lwx 3 1 7 8) 1 sN = some (4, fpWord 9)
    ∧ wLand (.lsu 3 1 7 5) 1 sN = some (4, Word.int 0x802)
    ∧ wLand (.lss 3 1 7 5) 1 sN = some (4, Word.int (-2046))
    ∧ see (.ss 3 5 7 7) (inDet sN) (nAt · 0x30300000104) = some (.clean ⟨Tags.quad, 0x064801802803⟩)
    ∧ see (.sw 3 (.long 9 7 0x10)) (inDet sN) (nAt · 0x30300000110) = some (.clean (Word.bear 0x800000000064))
    ∧ see (.amoadd 3 1 7 6) (inDet sN) (nAt · 0x30300000100) = some (.clean (Word.int 34))
    ∧ wLand (.amocas 3 1 7 5 6) 1 (inDet sN) = some (4, Word.int 41)
    ∧ see (.amoswp 3 1 7 9) (inDet sN) (nAt · 0x30300000100) = some (.clean (Word.bear 0x800000000064))
    ∧ vLand (.vld 3 1 7 0) 6 sN = some (4, Word.bear 9)
    ∧ see (.vst 3 4 7 4) (inDet sN) (nAt · 0x30300000110) = some (.clean ⟨Tags.raw, 7⟩)
    ∧ wLand (.dclean 3 7) 1 sN = some (2, Word.uni0) := by decide +kernel

theorem wit_BranchRules : sN.ready 3 2 = true ∧ sN.ready 3 4 = true
    ∧ see (.bz 3 0 5) sN (fun t => ((t.core 3).pc, (t.core 3).delay, (t.core 3).gh))
      = some (0x30300030002, some ⟨0x30300030000, 0x3030003000A, true, false, true, none⟩, 0)
    ∧ see (.bltzA 3 5 (-5)) sN (fun t => ((t.core 3).delay, (t.core 3).pbar))
      = some (some ⟨0x30300030000, 0x3030002FFF6, false, true, false, none⟩, 0)
    ∧ see (.bgeuA 3 6 5 0x1000) sN (fun t => (t.core 3).delay)
      = some (some ⟨0x30300030000, 0x30300032000, true, false, true, none⟩)
    ∧ see (.blt 3 6 5 1) (sN.setCore 3 { sN.core 3 with pbar := 2, gh := 5 }) (fun t => ((t.core 3).pbar, (t.core 3).gh))
      = some (1, 5)
    ∧ see (.bne 3 6 5 1) (sN.setCore 3 { sN.core 3 with ctr := [(0, 2)], gh := 0 }) (fun t => ((t.core 3).delay.map (·.penalty), (t.core 3).gh))
      = some (some false, 1)
    ∧ see (.b 3 0x7FFF) sN (fun t => (t.core 3).delay) = some (some ⟨0x30300030000, 0x3030002FFFE, true, false, false, none⟩)
    ∧ see (.jal 3 (.long 8) true) sN (fun t => ((t.core 3).delay, (t.core 3).landAll.wAt 30, (t.core 3).ras))
      = some (some ⟨0x30300030000, 0x30300030010, true, false, false, some Word.uni0⟩, Word.addr 0x30300030008, [0x30300030008])
    ∧ see (.jr 3 7) sN (fun t => (t.core 3).delay) = some (some ⟨0x30300030000, 0x30300000100, true, false, true, none⟩)
    ∧ see (.jalr 3 7 false) sN (fun t => ((t.core 3).landAll.wAt 30, (t.core 3).ras)) = some (Word.addr 0x30300030004, [0x30300030004])
    ∧ see (.jr 3 30) (sN.setCore 3 { (sN.core 3).putW 30 (Word.addr 0x40) with ras := [0x40, 0x80] })
        (fun t => ((t.core 3).delay.map (·.penalty), (t.core 3).ras)) = some (some false, [0x80])
    ∧ see (.jalr 3 30 false) (inDet (sN.setCore 3 ((sN.core 3).putW 30 (Word.addr 0x40)))) (fun t => ((t.core 3).pc, (t.core 3).srN 3))
      = some (0x30200000008, 1) := by decide +kernel

def dl (tk an : Bool) : DelaySlot := ⟨0x30300030000, 0x30300031000, tk, an, false, none⟩
def sSl (tk an : Bool) : State := sN.setCore 3 { sN.core 3 with pc := 0x30300030002, delay := some (dl tk an) }
def sLp (lc : Nat) : State := sN.setCore 3 { landWrites [.sr 24 (Word.addr 0x3030002FF00), .sr 28 (Word.addr 0x30300030002),
  .sr 32 (Word.int (BitVec.ofNat 48 lc)), .sr 21 (Word.int 1)] (sN.core 3) with pc := 0x30300030000 }
theorem wit_SlotAndLoopRules : (sSl true false).inSlot 3 2 (dl true false) = true
    ∧ see (.lis 3 1 5) (sSl true false) (fun t => ((t.core 3).pc, (t.core 3).landAll.wAt 1)) = some (0x30300031000, Word.int 5)
    ∧ see (.lis 3 1 5) (sSl false true) (fun t => ((t.core 3).pc, (t.core 3).landAll.wAt 1)) = some (0x30300030004, Word.uni0)
    ∧ see (.b 3 5) (inDet (sSl true false)) (fun t => ((t.core 3).pc, (t.core 3).srN 1, (t.core 3).srN 4, (t.core 3).srN 3))
      = some (0x30200000008, 0x30300030000, 0x30300030000, 1)
    ∧ see (.loopi 3 9 0x20) sN (fun t => ((t.core 3).pc, (t.core 3).ls 0, (t.core 3).le 0, (t.core 3).lc 0, (t.core 3).depth))
      = some (0x30300030004, 0x30300030004, 0x30300030040, 9, 1)
    ∧ see (.loop 3 6 0x20) (inDet sN) (fun t => ((t.core 3).pc, (t.core 3).depth)) = some (0x30300030040, 0)
    ∧ (sLp 2).clear 3 2 = true ∧ see (.nop 3) (sLp 2) (fun t => ((t.core 3).pc, (t.core 3).lc 0, (t.core 3).depth)) = some (0x3030002FF00, 1, 1)
    ∧ see (.nop 3) (sLp 1) (fun t => ((t.core 3).pc, (t.core 3).lc 0, (t.core 3).depth)) = some (0x30300030002, 0, 0)
    ∧ see (.b 3 5) (inDet (sLp 2)) (fun t => (t.core 3).srN 3) = some 1
    ∧ see (.loopi 3 9 0x20) (inDet (sN.setCore 3 ((sN.core 3).setSr 21 6))) (fun t => (t.core 3).srN 3) = some 1 := by decide +kernel
theorem wit_LoopPop : (sLp 9).ready 3 2 = false
    ∧ see (.lpop 3) ((sLp 9).setCore 3 { (sLp 9).core 3 with pc := 0x30300030100 }) (fun t => ((t.core 3).lc 0, (t.core 3).depth, (t.core 3).pc))
      = some (0, 0, 0x30300030102)
    ∧ see (.lpop 3) sN (fun t => ((t.core 3).depth, (t.core 3).pc)) = some (0, 0x30300030002) := by decide +kernel

/-- The example after R403, its frame in niche memory: w31 is 0x30300001000 at U, so the core runs at M here. -/
def sCall : State := sN.setCore 3 { (((sN.core 3).putW 33 (Word.addr 0x30300001000)).putW 14 (Word.int 14)).putW 16 (Word.int 16) with
  pc := 0x100000
  l1i := [(0x8000, some ⟨[], []⟩), (0x8002, some ⟨[], []⟩)] }
theorem wit_CallRules : sCall.ready 3 4 = true
    ∧ see (.call 3 5 0x20) sCall (fun t => ((t.core 3).pc, (t.core 3).wAt 33, (t.core 3).wAt 30, (t.core 3).srN 20, (t.core 3).ras))
      = some (0x100040, Word.addr 0x30300000FF0, Word.addr 0x100004, 0x30300003FFC, [0x100004])
    ∧ see (.call 3 5 0x20) sCall (fun t => [nAt t 0x30300000FF0, nAt t 0x30300000FF4, nAt t 0x30300000FFC, nAt t 0x30300003FFC])
      = some [.clean (Word.addr 0x100004), .clean (Word.int 5), .clean (Word.int 16), .clean ⟨Tags.sealT, 0x100005⟩] := by decide +kernel
theorem wit_CallRules_ret : ((got (exec (.call 3 5 0x20) sCall)).bind fun t => see (.ret 3) (t.setCore 3 (((t.core 3).putW 14 Word.uni0))) fun u =>
        ((u.core 3).pc, (u.core 3).wAt 14, (u.core 3).wAt 33, (u.core 3).srN 20, (u.core 3).ras))
      = some (0x100004, Word.int 14, Word.addr 0x30300001000, 0x30300004000, [])
    ∧ retCheck ⟨Tags.sealT, 0x100005⟩ (Word.addr 0x100008) .m = some { code := 0x0D, sub := 2, eval := 0x100008 } := by decide +kernel

def sSys : State := sN.setCore 3 ((landWrites [.sr 9 (Word.addr 0x40), .sr 0 (Word.int 0x28C), .sr 21 (Word.int 1)] (sN.core 3)))
/-- The frame that ERET pops at S. -/
def sFr : State :=
  ([Word.addr 0x500, Word.int 0x10C, Word.int 1, Word.int 2, Word.int 3, Word.int 4, Word.int 5, Word.int 6, Word.int 7, Word.int 8,
    Word.int 0x11, Word.int 9].foldl (fun x w => (x.1 + 4, nichePut 3 x.1 w x.2)) (0x30300000800,
      sN.setCore 3 (landWrites [.sr 0 (Word.int 1), .w 32 (Word.addr 0x30300000800), .sr 7 (Word.int 0x3004), .sr 6 (Word.addr 0x700)] (sN.core 3)))).2
theorem wit_SystemReturns : sSys.ready 3 2 = true ∧ (sSys.core 3).pl = .u
    ∧ see (.scall 3 1) sSys (fun t => ((t.core 3).pc, (t.core 3).srW 6, (t.core 3).srW 7, (t.core 3).srN 0, (t.core 3).depth))
      = some (0x40, Word.addr 0x30300030002, Word.int 0x128C, 0x285, 0)
    ∧ see (.sret 3) (inDet sSys) (fun t => ((t.core 3).srN 3, (t.core 3).pl)) = some (2, .m)
    ∧ see (.sret 3) sFr (fun t => ((t.core 3).pc, (t.core 3).srN 0, (t.core 3).srN 21)) = some (0x700, 4, 3) := by decide +kernel
theorem wit_SystemReturns_eret : sFr.ready 3 2 = true ∧ sFr.chained 3 = none
    ∧ see (.eret 3) sFr (fun t => ((t.core 3).pc, (t.core 3).wAt 8, (t.core 3).wAt 32, (t.core 3).srN 0, (t.core 3).lc 0))
      = some (0x500, Word.int 8, Word.addr 0x30300000830, 0x10C, 9)
    ∧ see (.eret 3) (sFr.setCore 3 (landWrites [.sr 16 (Word.int 0x2123), .sr 18 (Word.int 7)] (sFr.core 3))) (fun t => ((t.core 3).resume, (t.core 3).srN 16))
      = some (some (0x123, Word.int 0, Word.int 7), 0x123)
    ∧ eretBad ((List.replicate 11 (Word.addr 0)).set 1 (Word.int 0) |>.set 10 (Word.int 0x21)) .s = some 3 := by decide +kernel
/-- The handler of the example after R474: source 21 at priority 50 is pending when it returns. -/
def sCh : State := raise 21 ((sN.setCore 3 (landWrites [.sr 0 (Word.int 0xA11), .sr 2 (Word.int 0x4A4148), .sr 3 (Word.int 0x54)] (sN.core 3))).setRegN
  (R.EVC_ROUTE 21) (3 + 50 * 16 + 2048))
theorem wit_SystemReturns_chain : sCh.ready 3 2 = true
    ∧ sCh.chained 3 = some ⟨21, 50, .s⟩
    ∧ see (.eret 3) sCh (fun t => ((t.core 3).pc, (t.core 3).srN 3, (t.core 3).srN 2, bits (t.core 3).stat 6 6, t.isPending 21))
      = some (0x302000002A8, 85, 0x4A4158, 50, false) := by decide +kernel
theorem wit_SpecialRegisterRules : wLand (.mfsr 3 1 0) 1 sN = some (2, Word.int 2)
    ∧ wLand (.mfsr 3 1 5) 1 sN = some (2, Word.addr 0x30200000000)
    ∧ wLand (.mfsr 3 1 23) 1 sN = some (2, Word.int 3)
    ∧ see (.mfsr 3 1 40) (inDet sN) (fun t => (t.core 3).srN 3) = some 1
    ∧ see (.mfsr 3 1 4) (inDet sSys) (fun t => (t.core 3).srN 3) = some 2
    ∧ see (.mtsr 3 7 5) sN (fun t => (t.core 3).srW 5) = some (Word.addr 0x30300000000)
    ∧ see (.mtsr 3 5 19) sN (fun t => (t.core 3).srN 19) = some 4
    ∧ see (.mtsr 3 9 17) sN (fun t => (t.core 3).srW 17) = some (Word.bear 0x800000000064)
    ∧ see (.mtsr 3 5 22) sN (fun t => (t.core 3).pc) = some 0x30300030002
    ∧ see (.mtsr 3 0 0) (sN.setCore 3 ((sN.core 3).setSr 0 0xFE2)) (fun t => ((t.core 3).srN 0, (t.core 3).statPend)) = some (2, [(3, 0)])
    ∧ see (.mtsr 3 8 0) (inDet sN) (fun t => (t.core 3).srN 3) = some 1
    ∧ see (.pbar 3 9) sN (fun t => (t.core 3).pbar) = some 9
    ∧ see (.pflush 3) (sN.setCore 3 { sN.core 3 with gh := 5, ctr := [(3, 2)], ras := [4] }) (fun t => ((t.core 3).gh, (t.core 3).ctr, (t.core 3).ras))
      = some (0, [], [])
    ∧ see (.wait 3) sN (fun t => (t.core 3).waiting) = some true
    ∧ see (.wait 3) sCh (fun t => (t.core 3).waiting) = some false
    ∧ see (.ibar 3) (sN.setCore 3 { sN.core 3 with l1i := [(5, none)] }) (fun t => (t.core 3).l1i.length) = some 0
    ∧ see (.mbar 3) sN (fun t => (t.core 3).pc) = some 0x30300030002 := by decide +kernel

/-- A core with translation on and one entry for page 8 whose PTE word lies in the chamber, A and D clear. -/
def sTlb : State :=
  let s := sN.setCore 3 { landWrites [.sr 0 (Word.int 6)] (sN.core 3) with tlb := [(9, { vpn := 8, pte := 0x50007, ptea := 0x20000000100 })] }
  s.putWord (0x20000000100 / 4) ⟨Tags.pte, 0x50007⟩
def sTw : State := sN.setCore 3 (landWrites [.w 1 ⟨Tags.pte, 0x50007⟩, .w 2 (Word.addr 0x8_1234), .w 3 (Word.int 0x20000000100)] (sN.core 3))
theorem wit_TlbRules : sTw.ready 3 4 = true
    ∧ see (.tlbw 3 4 1 2 3) sTw (fun t => ((t.core 3).tlb, (t.core 3).tlbNext, (t.core 3).landAll.wAt 4))
      = some ([(0, { vpn := 8, pte := 0x50007, ptea := 0x20000000100 })], 0, Word.int 0)
    ∧ see (.tlbi 3 2) (sTw.setCore 3 { sTw.core 3 with tlb := (sTlb.core 3).tlb }) (fun t => (tlbAt (t.core 3).tlb 9).valid) = some false
    ∧ see (.tlbia 3) (sTw.setCore 3 { sTw.core 3 with tlb := (sTlb.core 3).tlb }) (fun t => (tlbAt (t.core 3).tlb 9).valid) = some false
    ∧ see (.tlbia 3) (inDet sSys) (fun t => (t.core 3).srN 3) = some 2
    ∧ (tlbFind (sTlb.core 3).tlb 0x81234, sTlb.performs 3 0x20000000100, sTlb.l2Line 3 0x20000000100) = (some 9, true, none)
    ∧ see (.adUpdate 3 0x81234 .store) sTlb (fun t => ((t.core 3).ad, decodeContainer (t.cont (0x20000000100 / 4))))
      = some (some ⟨9, 0x81234, .store, .done⟩, .clean ⟨Tags.pte, 0x50C07⟩)
    ∧ see (.adUpdate 3 0x81234 .load) (sTlb.putWord (0x20000000100 / 4) ⟨Tags.pte, 0x60007⟩) (fun t => (t.core 3).ad)
      = some (some ⟨9, 0x81234, .load, .stale⟩)
    ∧ see (.adUpdateOutcome 3) (sTlb.setCore 3 { sTlb.core 3 with ad := some ⟨9, 0x81234, .store, .done⟩ })
        (fun t => ((t.core 3).ad, (tlbAt (t.core 3).tlb 9).pte)) = some (none, 0x50C07)
    ∧ see (.adUpdateOutcome 3) (inDet (sTlb.setCore 3 { sTlb.core 3 with ad := some ⟨9, 0x81234, .store, .stale⟩ }))
        (fun t => ((tlbAt (t.core 3).tlb 9).valid, (t.core 3).srN 3, (t.core 3).srN 4)) = some (false, 0x0C + 2 ^ 11, 0x81234) := by decide +kernel

/-- The example after R474: core 4 at U, CPRI 10, IE, DET, DEPTH 1 with lc0 5, source 20 pending at priority 40 and LVL S. -/
def sTrapEv : State := raise 20 ((State.reset.setCore 4 { landWrites [.sr 0 (Word.int 0x29C), .sr 21 (Word.int 1), .sr 32 (Word.int 5),
  .w 32 (Word.addr 0x30300001000)] (State.reset.core 4) with pc := 0x700 }).setRegN (R.EVC_ROUTE 20) (4 + 40 * 16 + 2048))
theorem wit_TrapEntries_event : sTrapEv.calm 4 = true ∧ sTrapEv.dueEvent 4 = some ⟨20, 40, .s⟩
    ∧ see (.trapEntry 4 .boundary) sTrapEv (fun t => ((t.core 4).srN 2, (t.core 4).srN 3, (t.core 4).srN 0, (t.core 4).pc, t.isPending 20))
      = some (0x4A4148, 0x54, 0xA11, 0x302000002A0, false)
    ∧ see (.trapEntry 4 .boundary) sTrapEv (fun t => [decodeContainer (t.nicheCont 4 0x30300000FD4), decodeContainer (t.nicheCont 4 0x30300000FF8)])
      = some [.clean (Word.int 0x29C), .clean (Word.int 0x11)]
    ∧ see (.trapEntry 4 (.micro 0x123 (Word.int 8) (Word.int 9))) (sTrapEv.setCore 4 { sTrapEv.core 4 with fbuf := [(0x700, 0, ⟨Tags.code, 0x60⟩)] }) (fun t => ((t.core 4).srN 16, (t.core 4).srW 18)) = some (0x2123, Word.int 9) := by decide +kernel
theorem wit_TrapEntries : sN.calm 3 = true
    ∧ see (.trapEntry 3 .boundary) ((inDet sN).setCore 3 { (inDet sN).core 3 with pfail := true, mcheck := [⟨2, 9⟩] }) (fun t => ((t.core 3).pfail, (t.core 3).srN 3))
      = some (false, 0x24)
    ∧ see (.trapEntry 3 .boundary) ((inDet sN).setCore 3 { (inDet sN).core 3 with astore := some (0x77, 3) }) (fun t => ((t.core 3).astore, (t.core 3).srN 3, (t.core 3).srN 4))
      = some (none, 0x12 + 3 * 2 ^ 11, 0x77)
    ∧ see (.trapEntry 3 .boundary) ((inDet sN).setCore 3 { (inDet sN).core 3 with pc := 2 ^ 42 }) (fun t => ((t.core 3).srN 3, (t.core 3).srN 4)) = some (7, 2 ^ 42)
    ∧ see (.trapEntry 3 .boundary) (nichePut 3 0x30300000200 ⟨Tags.code, 0x394C0400CA22⟩ ((inDet sN).setCore 3 { (inDet sN).core 3 with pc := 0x30300000202 })) (fun t => (t.core 3).pc)
      = some 0x30300000202
    ∧ see (.and 3 1 9 5) (inDet sN) (fun t => ((t.core 3).srN 3, (t.core 3).wAt 33)) = some (5 + 7 * 2 ^ 11, Word.addr 0x3030000FFD0)
    ∧ see (.and 3 1 5 9) (inDet sN) (fun t => (t.core 3).srN 3) = some (5 + 23 * 2 ^ 11)
    ∧ see (.lw 3 (.short 1 8 0)) (inDet sN) (fun t => ((t.core 3).srN 3, (t.core 3).srN 4)) = some (6, 3)
    ∧ see (.li 3 1 5) ((inDet sN).setCore 3 { (inDet sN).core 3 with pc := 0x30300030002 }) (fun t => ((t.core 3).srN 3, (t.core 3).srN 4)) = some (1, 0x30300030002) := by decide +kernel

def sCy : State := sN.setCore 3 { sN.core 3 with
  inflight := [⟨1, [.w 1 (Word.int 4)], { nx := true }⟩, ⟨3, [.w 2 (Word.int 5)], {}⟩]
  ras := [0x44, 0x48]
  branches := [⟨2, some 7, true, true, true, ⟨5, 2, some 0x40⟩⟩]
  divLeft := 3
  statPend := [(0, 1), (2, 0)]
  stores := [⟨0x20000000100, 0x100, .m, Word.int 6, true, false, false⟩] }
theorem wit_CoreCycles : see (.resultWriteback 3) sCy (fun t => ((t.core 3).wAt 1, (t.core 3).wAt 2, (t.core 3).inflight.length, (t.core 3).divLeft, (t.core 3).srN 19))
      = some (Word.int 4, Word.uni0, 1, 2, 0x1010)
    ∧ see (.branchResolve 3) sCy (fun t => ((t.core 3).branches.length, (t.core 3).counter 7, (t.core 3).gh, (t.core 3).ras)) = some (0, 2, 11, [0x40, 0x48])
    ∧ see (.statChangeEffective 3) sCy (fun t => ((t.core 3).pl, (t.core 3).statPend)) = some (.s, [(2, 0)])
    ∧ see (.divideUnitFree 3) sCy (fun t => (t.core 3).divLeft) = some 0 := by decide +kernel
theorem wit_CoreCycles_stores : see (.storeBufferDrain 3) (inDet sCy) (fun t => ((t.core 3).stores, t.junc.waiting.map (·.a))) = some ([], [0x20000000100])
    ∧ (match drainOne 3 ((sCy.setCore 3 { sCy.core 3 with stores := [⟨0x20000000100, 0x100, .m, Word.int 6, false, false, false⟩] })
        |> putL2 3 0x20000000100 (some ⟨List.replicate 8 Word.uni0, List.replicate 8 false⟩)) with
      | .got _ t => (t.l2Line 3 0x20000000100).map (·.dirty.take 2)
      | .wait _ => none) = some [true, false]
    ∧ see (.deterministicEntry 3) (sCy.setCore 3 ((sCy.core 3).setSr 0 0x12)) (fun t => ((t.core 3).branches.length, t.regN (R.LANTERN_HOLDCNT 3))) = some (0, 2)
    ∧ see (.resultWriteback 3) (sCy.setCore 3 { sCy.core 3 with stopped := true }) (fun t => (t.core 3).inflight.length) = some 2 := by decide +kernel

/-- Gallery 3 is owned by core 3, the stacks are trained, and the descriptor of a copy lies in HBM. -/
def sQ : State :=
  ((List.range 16).foldl (fun s i => s.putWord ((0x1000 + 4 * i) / 4) ⟨Tags.desc, (dsc 1 4 7).getD i 0⟩)
    (sN.setCore 3 (landWrites [.w 5 (Word.addr 0x1000), .w 6 (Word.int 3)] (sN.core 3)))).setRegN (R.GAL_CFG 3) 3 |> fun s => (List.range 6).foldl (fun s k => s.setRegN (R.HBM_STAT k) (2 ^ F.HBM_STAT_TRAINED.lo)) s
def sIssue : State := (sQ.setGal 3 { sQ.gal 3 with reqs := [⟨3, .m, false, 0x1000, 0x1000⟩] }).setCore 3
  { sQ.core 3 with frozen := some ⟨1, 0x30300030000, 0x1000, 3⟩ }
theorem wit_GalleryRequests : sQ.ready 3 4 = true
    ∧ see (.giss 3 1 5 3) sQ (fun t => ((t.gal 3).reqs, (t.core 3).frozen))
      = some ([⟨3, .m, false, 0x1000, 0x1000⟩], some ⟨1, 0x30300030000, 0x1000, 3⟩)
    ∧ see (.gissr 3 1 5 6) sQ (fun t => (t.gal 3).reqs.length) = some 1
    ∧ see (.gissr 3 1 5 5) (inDet sQ) (fun t => (t.core 3).srN 3) = some 1
    ∧ see (.giss 3 1 8 3) (inDet sQ) (fun t => (t.core 3).srN 3) = some 6
    ∧ (sIssue.setCore 3 { sIssue.core 3 with frozen := none }).calm 3 = true
    ∧ (dsc 1 4 7).check 3 = none ∧ (List.range 16).all (fun i => sIssue.galServes 3 (0x1000 + 4 * i)) = true
    ∧ see (.gissJudgement 3) sIssue (fun t => ((t.core 3).landAll.wAt 1, (t.slot 3 0).st, t.token 5 7, (t.core 3).pc))
      = some (Word.int 0, .ready, false, 0x30300030004)
    ∧ see (.gissJudgement 3) (sIssue.setGal 3 { sIssue.gal 3 with quar := true }) (fun t => ((t.core 3).landAll.wAt 1, (t.slot 3 0).st)) = some (Word.int 64, .free)
    ∧ see (.gissJudgement 3) (sIssue.setRegN (R.GAL_CFG 3) 4) (fun t => (t.core 3).landAll.wAt 1) = some (Word.int 96)
    ∧ see (.gissJudgement 3) (inDet (sIssue.putWord (0x1004 / 4) (Word.int 0))) (fun t => ((t.core 3).srN 3, (t.slot 3 0).st))
      = some (0x0F + (0x10 + 768) * 2 ^ 11, .free) := by decide +kernel
theorem wit_GalleryRequests_link : (sQ.setGal 3 { sQ.gal 3 with links := [⟨3, .m, false, 0x51000, 0⟩], tlb := [(4, { vpn := 5, pte := 0x407, ptea := 0 })] }
      |> fun s => (tlbFind (s.gal 3).tlb 0x51004, see (.linkedDescriptorIssue 3) s (fun t => ((t.slot 3 0).st, (t.gal 3).links, (t.slot 3 0).daddr))))
      = (some 4, some (.ready, [], 0x51000)) := by decide +kernel
theorem wit_GalleryRequests_resume : see (.gresume 3 1 3 9) (sQ.setSlot 3 9 { st := .susp }) (fun t => ((t.core 3).landAll.wAt 1, (t.slot 3 9).st))
      = some (Word.int 9, .ready)
    ∧ see (.gresume 3 1 3 9) sQ (fun t => (t.core 3).landAll.wAt 1) = some (Word.int 128)
    ∧ see (.gtlbw 3 3 1 2 3) (sTw.setRegN (R.GAL_CFG 3) 3) (fun t => (t.gal 3).tlb) = some [(0, { vpn := 8, pte := 0x50007, ptea := 0x20000000100 })]
    ∧ see (.gtlbw 3 3 1 2 3) (sTw.setRegN (R.GAL_CFG 3) 2) (fun t => (t.gal 3).tlb.length) = some 0
    ∧ see (.gtlbi 3 3 2) ((sTw.setRegN (R.GAL_CFG 3) 3).setGal 3 { tlb := (sTlb.core 3).tlb }) (fun t => (tlbAt (t.gal 3).tlb 9).valid) = some false
    ∧ see (.gtlbia 3 3) ((sTw.setRegN (R.GAL_CFG 3) 3).setGal 3 { tlb := (sTlb.core 3).tlb }) (fun t => (tlbAt (t.gal 3).tlb 9).valid) = some false := by decide +kernel

/-! ### Host, boot and security -/

/-- Trained stacks, an open port, segment 0 of the PF and its rings as in the example of R615. -/
def sHo : State := st ([(R.HOST_CTL, 2 ^ F.HOST_CTL_OPEN.lo + 2 ^ F.HOST_CTL_TOTVF.lo * 3), (R.FN_CFG 0, 1 + 6 * 2 ^ F.FN_CFG_SQLOG2.lo + 6 * 2 ^ F.FN_CFG_CQLOG2.lo),
    (R.FN_SEG 0 0, 2 ^ F.FN_SEG_V.lo + 2 ^ F.FN_SEG_RD.lo + 2 ^ F.FN_SEG_WR.lo + 4 * 2 ^ F.FN_SEG_BASE.lo),
    (R.FN_SQBASE 0, 0x40000000), (R.FN_CQBASE 0, 0x40000800),
    (R.FN_SQIDX 0, 5 * 2 ^ F.FN_SQIDX_PROD.lo + 5 * 2 ^ F.FN_SQIDX_CONS.lo), (R.FN_CQIDX 0, 5 * 2 ^ F.FN_CQIDX_PROD.lo + 5 * 2 ^ F.FN_CQIDX_CONS.lo)]
  ++ (List.range 6).map fun k => (R.HBM_STAT k, 2 ^ F.HBM_STAT_TRAINED.lo))

/-- Payloads stored as INT words. -/
def putInts (a : Nat) (l : List Nat) (s : State) : State :=
  (List.range l.length).foldl (fun s i => s.putWord ((a + 4 * i) / 4) (Word.int (BitVec.ofNat 48 (l.getD i 0)))) s

/-- A command at slot x. -/
def cmdIn (x op src dst len : Nat) (s : State) : State := putInts (0x40000000 + 32 * x) [op, 0x2A, 1, src, dst, len, 77, 78] s
/-- The payloads of the words from an address on. -/
def pays (a n : Nat) (t : State) : List Nat := (List.range n).map fun i => (t.cont (a / 4 + i)).toNat % 2 ^ 48
def sqGo (x : Nat) (s : State) : State := s.setFld (R.FN_SQIDX 0) F.FN_SQIDX_PROD x

theorem wit_HostRequests : sHo.bar2At 0 0x28 true 0x400000A0 ∧ sHo.performs 34 0x400000A0 = true
    ∧ see (.bar2Access 0 0x140 (allOf [1, 2, 3, 0, 0, 0, 8, 9])) sHo (fun t => (t.cont (0x400000A0 / 4), t.host.cpl))
      = some (encodeWord ⟨0xF, 0x30201⟩, some .posted)
    ∧ hostTag false 8 = 0xF ∧ hostTag true 8 = 8 ∧ hostTag false 0xD = 0
    ∧ see (.bar2Access 0 0x140 (.rd 8)) (sHo.putWord (0x400000A0 / 4) ⟨4, 0x2A⟩) (·.host.cpl) = some (some (.data [0x2A, 0, 0, 0, 0, 0, 4, 0]))
    ∧ see (.bar2Access 0 0x140 (.wr [some 1, none, some 1, some 1, some 1, some 1, some 1, some 1])) sHo
        (fun t => (t.flag (R.FN_STAT 0) F.FN_STAT_PARTW, t.isPending 736)) = some (true, true) := by
  unfold State.bar2At; decide +kernel
theorem wit_HostRequests_bad : see (.bar2Access 0 0x20000140 (.rd 8)) sHo
        (fun t => (t.host.cpl, t.regN (R.FN_ERRADDR 0), t.flag (R.FN_STAT 0) F.FN_STAT_BADACC, t.fld R.HOST_ERRCNT F.HOST_ERRCNT_ERRCNT))
      = some (some .unsupported, 0x20000140, true, 1)
    ∧ see (.bar2Access 1 0x140 (.rd 8)) State.reset (fun t => (t.host.cpl, t.fld R.HOST_ERRCNT F.HOST_ERRCNT_ERRCNT)) = some (some .unsupported, 1)
    ∧ see (.bar0Access 0 0 (.rd 8)) State.reset (·.host.cpl) = some (some .unsupported)
    ∧ ((bus 34 (lvlOf (sHo.fld R.HOST_CTL F.HOST_CTL_PFLVL)) (0x300_0000_0000 + R.FN_MBOX 0) (.wr (Word.raw 0x2A)) sHo) |> fun r => match r.1 with | .done a => a.st | .wait => .jerr) = .ok
    ∧ see (.bar0Access 0 (BitVec.ofNat 33 (2 * R.FN_MBOX 0)) (allOf [0x2A, 0, 0, 0, 0, 0, 0, 0])) sHo (fun t => (t.regN (R.FN_MBOX 0), t.host.cpl))
      = some (0x2A, some .posted)
    ∧ see (.bar0Access 0 0x8000004 (allOf [1, 2, 3, 4])) sHo (fun t => (t.hostFn 0).msixAt 1) = some 0x4030201 := by decide +kernel
theorem wit_HostRings : see (.sqdb 0 6) sHo (fun t => t.fld (R.FN_SQIDX 0) F.FN_SQIDX_PROD) = some 6
    ∧ see (.sqdb 0 4) sHo (fun t => (t.flag (R.FN_STAT 0) F.FN_STAT_DBERR, t.isPending 736)) = some (true, true)
    ∧ see (.sqdb 0 6) (sqGo 7 sHo) (fun t => t.fld (R.FN_SQIDX 0) F.FN_SQIDX_PROD) = some 7
    ∧ see (.cqdb 0 5) sHo (fun t => t.fld (R.FN_CQIDX 0) F.FN_CQIDX_CONS) = some 5
    ∧ see (.cqdb 0 6) sHo (fun t => t.flag (R.FN_STAT 0) F.FN_STAT_DBERR) = some true
    ∧ see (.fnCfgEnable 2 0) sHo (fun t => t.flag (R.FN_CFG 2) F.FN_CFG_EN) = some true
    ∧ see (.fnCfgEnable 0 0) sHo (fun t => (t.flag (R.FN_STAT 0) F.FN_STAT_STERR, t.fld (R.FN_SQIDX 0) F.FN_SQIDX_PROD)) = some (true, 5)
    ∧ see (.flr 0) sHo (fun t => (t.flag (R.FN_CFG 0) F.FN_CFG_EN, t.reg (R.FN_SQIDX 0), t.flag (R.FN_STAT 3) F.FN_STAT_FLR, t.isPending 739))
      = some (false, 0, true, true)
    ∧ see (.flr 4) sHo (fun t => t.flag (R.FN_STAT 4) F.FN_STAT_FLR) = some false
    ∧ see .perst sHo (fun t => (t.flag (R.FN_CFG 0) F.FN_CFG_EN, t.reg R.HOST_LINK)) = some (false, 0) := by decide +kernel
theorem wit_HostRings_msi : see (.msigen 0 2) sHo (fun t => ((t.hostFn 0).pba, t.host.msi)) = some (4, none)
    ∧ see (.msigen 0 2) (sHo.setHostFn 0 ((({} : HostFn).setMsix 11 0).setMsix 8 0xFEE)) (fun t => t.host.msi) = some (some ⟨0, 2, 0xFEE, 0⟩)
    ∧ see (.mbdb 3) sHo (fun t => t.isPending 739) = some true
    ∧ see (.pcieLinkChange true 5 16) sHo (fun t => t.regN R.HOST_LINK) = some 0x10B
    ∧ see .hostBootGo { sHo with sec := { sHo.sec with boot := .waitGo } } (fun t => t.sec.go) = some true
    ∧ see .hostBootGo sHo (fun t => t.flag (R.FN_STAT 0) F.FN_STAT_STERR) = some true := by decide +kernel
/-- The example of R615. -/
def sCp : State := sqGo 6 (putInts 0x50000000 [7, 8] (cmdIn 5 1 0x50000000 0x40100000 2 sHo))
def sRe : State := (sqGo 6 (cmdIn 5 1 0x50000000 0x40100000 512 sHo)).setHostFn 0 { hist := [⟨0x000100000000002A, 0, 0, 512⟩] }
theorem wit_HostCommands : sCp.nextFn = some 0 ∧ sCp.host.run = none ∧ sCp.cqSpace 0 = true ∧ sCp.cqAt 0 = 0x40000850
    ∧ (List.range 4).all (fun i => sCp.performs 34 (sCp.cqAt 0 + 4 * i)) = true
    ∧ see (.commandCopy 0) sCp (fun t => (pays 0x40000850 4 t, pays 0x40100000 2 t, t.fld (R.FN_SQIDX 0) F.FN_SQIDX_CONS, (t.hostFn 0).hist))
      = some ([0x800000000005, 0x2A, 1, 2], [7, 8], 6, [⟨0x000100000000002A, 0, 0, 2⟩])
    ∧ see (.commandCopy 0) sRe (fun t => (pays 0x40000850 4 t, pays 0x40100000 2 t, (t.hostFn 0).hist.length))
      = some ([0x800010000005, 0x2A, 1, 512], [0, 0], 1) := by decide +kernel
theorem wit_HostCommands_other : see (.commandNop 0) (sqGo 6 (cmdIn 5 0 0 0 0 sHo)) (pays 0x40000850 4) = some [0x800000000005, 0x2A, 1, 0]
    ∧ see (.commandNop 0) (sqGo 6 (cmdIn 5 0 2 0 0 sHo)) (pays 0x40000850 4) = some [0x800000010005, 0x2A, 1, 0]
    ∧ see (.commandReserved 0) (sqGo 6 (cmdIn 5 9 0 0 0 sHo)) (pays 0x40000850 4) = some [0x800000010005, 0x2A, 1, 0]
    ∧ see (.commandFill 0) (sqGo 6 (cmdIn 5 2 0 0x40100000 2 sHo)) (fun t => (pays 0x40000850 4 t, pays 0x40100000 3 t))
      = some ([0x800000000005, 0x2A, 1, 2], [77, 77, 0])
    ∧ see (.commandAttest 0) (sqGo 6 (cmdIn 5 3 0 0x40100000 0 sHo)) (fun t => t.sec.att) = some (some ⟨.cmd 0, 0x40100000, 77, 78, 0x000100000000002A, false⟩)
    ∧ see (.commandAttest 0) ((sqGo 6 (cmdIn 5 3 0 0x40100000 0 sHo)).setFld R.SEC_ATT F.SEC_ATT_BUSY 1) (fun t => t.pending)
      = some sHo.pending := by decide +kernel
/-- A FILL of three words stopped after its first. -/
def sFl : State := { sHo with host := { sHo.host with run := some { f := 0, op := 2, ws := [⟨5, 2⟩, ⟨5, 0x2A⟩, ⟨5, 1⟩, Word.int 0, Word.int 0x40100000, Word.int 3, Word.int 9], done := 1 } } }
theorem wit_HostCommands_run : see (.commandFill 0) sFl (fun t => (pays 0x40100000 4 t, pays 0x40000850 4 t, t.host.run))
      = some ([0, 9, 9, 0], [0x800000000005, 0x2A, 1, 3], none)
    ∧ see (.commandCopy 0) sFl (·.host.run) = some sFl.host.run
    ∧ see (.flr 0) sFl (·.host.run) = some none ∧ see (.flr 1) sFl (·.host.run) = some sFl.host.run := by decide +kernel
theorem test_shake256 : shake256 [] 2 = [0x46, 0xB9] := by decide +kernel
def sAtt : State := { sHo.setFld R.SEC_ATT F.SEC_ATT_BUSY 1 with sec := { sHo.sec with att := some ⟨.reg, 0x40100000, 5, 6, 0, false⟩ } }
theorem wit_HostCommands_attest : reportFits 0x40100000 = true ∧ (List.range 46).all (fun i => sAtt.performs 35 (0x40100000 + 4 * i)) = true
    ∧ sAtt.fld R.SEC_BOOT F.SEC_BOOT_CODE ≠ 11 ∧ sAtt.sec.att = some ⟨.reg, 0x40100000, 5, 6, 0, false⟩ := by decide +kernel
theorem wit_BootAndSecurity : State.reset.sec.boot = .notRun ∧ State.reset.mlock = false
    ∧ see (.bootRom false 0 true 0 0 true) State.reset (fun t => (t.sec.boot, t.mlock, t.fld R.SEC_BOOT F.SEC_BOOT_CODE)) = some (.halted, true, 11)
    ∧ see (.bootRom false 0 true 0 0 true) { sHo with sec := { sHo.sec with boot := .waitGo } } (fun t => t.sec.boot) = some .waitGo
    ∧ (match verifyStep { sHo with sec := { sHo.sec with boot := .waitGo, go := true } } with | .fail 1 _ => true | _ => false) = true
    ∧ see (.bootRom true 0 true 0 0 true) { sHo with sec := { sHo.sec with boot := .waitGo, go := true } }
        (fun t => (t.sec.boot, t.flag R.HOST_BOOT F.HOST_BOOT_WAITING, t.fld R.SEC_BOOT F.SEC_BOOT_CODE)) = some (.waitGo, true, 1) := by decide +kernel
def sHl : State := { sHo with sec := { sHo.sec with boot := .halted } }
theorem wit_BootAndSecurity_lock : see (.mlockSet 3 .s) sHo (fun t => (t.mlock, t.cairn.queue.length)) = some (false, 1)
    ∧ sHo.mlock = false
    ∧ see (.mlockSet 3 .m) (sHo.setFld R.SEC_LOCK F.SEC_LOCK_MLOCK 1) (·.mlock) = some true
    ∧ (sHl.coreWaits 3 = true ∧ see (.csgo 0 .m 8) (sHl.setRegN R.SEC_CSPC 0x1000) (fun t => ((t.core 3).pc, (t.core 3).inRom, (t.core 3).stat)) = some (0x1000, false, 2))
    ∧ see (.csgo 0 .m 1) sHo (fun t => t.cairn.queue.length) = some 1
    ∧ see (.attGo 0 .m) sHo (fun t => (t.sec.att, t.flag R.SEC_ATT F.SEC_ATT_BUSY)) = some (some ⟨.reg, 0, 0, 0, 0, false⟩, true) := by decide +kernel
theorem wit_BootAndSecurity_debug : see (.debugSessionOpen 5) { sHo with fuses := { sHo.fuses with dbgDis := false } }
        (fun t => (t.flag R.SEC_DBG F.SEC_DBG_ACTIVE, t.isPending 753)) = some (true, true)
    ∧ see (.debugSessionOpen 5) { sHo with fuses := { sHo.fuses with dbgDis := true } }
        (fun t => (t.flag R.SEC_DBG F.SEC_DBG_ACTIVE, t.dbg.locked)) = some (false, true)
    ∧ see .debugSessionClose (sHo.setFld R.SEC_DBG F.SEC_DBG_ACTIVE 1) (fun t => t.flag R.SEC_DBG F.SEC_DBG_ACTIVE) = some false
    ∧ see .idcode sHo (fun t => bits t.dbg.tdo 12 16) = some 0x4806 ∧ see .bypass sHo (fun t => t.dbg.tdo) = some 0
    ∧ see .smbusReadBoot sHo (fun t => t.dbg.smbus.length) = some 6 ∧ see .smbusReadTemp sHo (fun t => t.dbg.smbus.length) = some 6
    ∧ see .smbusReadIdpub sHo (fun t => t.dbg.smbus.length) = some 57 := by decide +kernel

end Sys2Proof.Tests
end

section
/-! Register space: an access of a register that is performed at once, and what the access codes of R17 make of a
register that is written (R17, R21, R645, R680 to R683). -/

namespace Sys2Proof.Machine

/-! ### Fields within a register -/

/-- The fields of a register lie within its 48 bits, and no two of them overlap. -/
abbrev fieldsApart (fs : List FieldRow) : Prop :=
  (∀ f ∈ fs, f.lo + f.w ≤ 48) ∧ fs.Pairwise fun f g => f.lo + f.w ≤ g.lo ∨ g.lo + g.w ≤ f.lo

/-- What holds of the members of both lists holds of those of the one chosen. -/
theorem forall_mem_ite {α : Type} {P : α → Prop} {c : Prop} [Decidable c] {l l' : List α} (h : ∀ r ∈ l, P r)
    (h' : ∀ r ∈ l', P r) : ∀ r ∈ (if c then l else l'), P r := by
  split
  · exact h
  · exact h'

/-- The field tables of every block keep their fields apart. -/
theorem rowsAt_fieldsApart (off : Nat) : ∀ r ∈ rowsAt off, fieldsApart r.fields := by
  unfold rowsAt
  repeat refine forall_mem_ite (by decide) ?_
  exact List.forall_mem_nil _

theorem findRow_mem {rs : List RegRow} {off : Nat} {r : RegRow} {ix : List Nat}
    (h : findRow rs off = some (r, ix)) : r ∈ rs := by
  induction rs with
  | nil => simp [findRow] at h
  | cons a rs ih =>
    unfold findRow at h
    split at h
    · exact List.mem_cons_of_mem a (ih h)
    · split at h
      · cases h
        exact List.mem_cons_self
      · exact List.mem_cons_of_mem a (ih h)

theorem regAt_fieldsApart {off : Nat} {r : RegRow} {ix : List Nat} (h : regAt off = some (r, ix)) :
    fieldsApart r.fields :=
  rowsAt_fieldsApart off r (findRow_mem h)

/-! ### Numbers built of single bits -/

theorem bit_eq_bits (x i : Nat) : bit x i = (bits x i 1 == 1) := rfl

/-- A bit put above all bits of a number. -/
theorem add_bit_eq_setBits {x n : Nat} (h : x < 2 ^ n) (b : Bool) : x + b2n b * 2 ^ n = setBits x n 1 (b2n b) := by
  have hb : b2n b % 2 ^ 1 = b2n b := by cases b <;> rfl
  have hx : x / 2 ^ (n + 1) = 0 := Nat.div_eq_of_lt (h.trans (Nat.pow_lt_pow_right (by omega) (by omega)))
  rw [setBits, hb, hx, Nat.mod_eq_of_lt h, Nat.zero_mul, Nat.add_zero]

/-- The number whose bits below `n` are given one by one. -/
def ofBitsBelow (b : Nat → Bool) (n : Nat) : Nat := (List.range n).foldl (fun x i => x + b2n (b i) * 2 ^ i) 0

theorem ofBitsBelow_succ (b : Nat → Bool) (n : Nat) :
    ofBitsBelow b (n + 1) = ofBitsBelow b n + b2n (b n) * 2 ^ n := by
  simp [ofBitsBelow, List.range_succ]

theorem ofBitsBelow_lt (b : Nat → Bool) (n : Nat) : ofBitsBelow b n < 2 ^ n := by
  induction n with
  | zero => exact Nat.one_pos
  | succ n ih =>
    rw [ofBitsBelow_succ, add_bit_eq_setBits ih]
    exact setBits_lt _ _ _ _ _ (ih.trans (Nat.pow_lt_pow_right (by omega) (by omega))) (Nat.le_refl _)

theorem bit_ofBitsBelow (b : Nat → Bool) {n i : Nat} (h : i < n) : bit (ofBitsBelow b n) i = b i := by
  induction n with
  | zero => omega
  | succ n ih =>
    rw [ofBitsBelow_succ, add_bit_eq_setBits (ofBitsBelow_lt b n), bit_eq_bits]
    rcases Nat.lt_succ_iff_lt_or_eq.mp h with hi | rfl
    · rw [bits_setBits_low _ _ _ _ _ _ hi, ← bit_eq_bits, ih hi]
    · rw [bits_setBits_same]
      cases b i <;> rfl

/-! ### Writes by access code, R17 -/

theorem bits_lt (x lo w : Nat) : bits x lo w < 2 ^ w := Nat.mod_lt _ (Nat.two_pow_pos w)

theorem fieldWrite_lt (lv : Level) (lock : Bool) (f : FieldRow) (old v : Nat) :
    fieldWrite lv lock f old v < 2 ^ f.w := by
  unfold fieldWrite
  cases f.acc with
  | w1c => exact ofBitsBelow_lt _ _
  | rwm => dsimp only; split <;> exact bits_lt ..
  | rwl => dsimp only; split <;> exact bits_lt ..
  | _ => exact bits_lt ..

theorem codeWrites_fieldWrite (lv : Level) (lock : Bool) (f : FieldRow) (old v : Nat) :
    codeWrites f.acc (decide (lv = .m)) lock f.w (bits old f.lo f.w) (bits v f.lo f.w)
      (fieldWrite lv lock f old v) := by
  unfold fieldWrite
  cases f.acc with
  | w1c => exact fun i hi => bit_ofBitsBelow (fun i => bit (bits old f.lo f.w) i && !bit (bits v f.lo f.w) i) hi
  | _ => simp [codeWrites]

/-- A field apart from the one written is unchanged. -/
theorem bits_setBits_apart (x v : Nat) {f g : FieldRow} (h : f.lo + f.w ≤ g.lo ∨ g.lo + g.w ≤ f.lo) :
    bits (setBits x g.lo g.w v) f.lo f.w = bits x f.lo f.w :=
  h.elim (bits_setBits_low x g.lo g.w v f.lo f.w) (bits_setBits_high x g.lo g.w v f.lo f.w)

/-- Fields written one after the other. -/
def putFields (val : FieldRow → Nat) (fs : List FieldRow) (x : Nat) : Nat :=
  fs.foldl (fun x f => setBits x f.lo f.w (val f)) x

theorem putFields_lt (val : FieldRow → Nat) {fs : List FieldRow} (hw : ∀ f ∈ fs, f.lo + f.w ≤ 48) {x : Nat}
    (hx : x < 2 ^ 48) : putFields val fs x < 2 ^ 48 := by
  induction fs generalizing x with
  | nil => exact hx
  | cons g fs ih =>
    exact ih (fun f hf => hw f (List.mem_cons_of_mem g hf))
      (setBits_lt _ _ _ _ _ hx (hw g List.mem_cons_self))

theorem bits_putFields_apart (val : FieldRow → Nat) {f : FieldRow} {fs : List FieldRow}
    (h : ∀ g ∈ fs, f.lo + f.w ≤ g.lo ∨ g.lo + g.w ≤ f.lo) (x : Nat) :
    bits (putFields val fs x) f.lo f.w = bits x f.lo f.w := by
  induction fs generalizing x with
  | nil => rfl
  | cons g fs ih =>
    exact (ih (fun k hk => h k (List.mem_cons_of_mem g hk)) _).trans (bits_setBits_apart _ _ (h g List.mem_cons_self))

/-- Of fields that do not overlap each holds the value put into it. -/
theorem bits_putFields (val : FieldRow → Nat) {fs : List FieldRow}
    (hp : fs.Pairwise fun f g => f.lo + f.w ≤ g.lo ∨ g.lo + g.w ≤ f.lo) {f : FieldRow} (hf : f ∈ fs) (x : Nat) :
    bits (putFields val fs x) f.lo f.w = val f % 2 ^ f.w := by
  induction fs generalizing x with
  | nil => cases hf
  | cons g fs ih =>
    obtain ⟨hg, hp⟩ := List.pairwise_cons.mp hp
    rcases List.mem_cons.mp hf with rfl | hf
    · exact (bits_putFields_apart val hg _).trans (bits_setBits_same ..)
    · exact ih hp hf _

theorem rowWrite_eq_putFields (lv : Level) (lock : Bool) (fs : List FieldRow) (old v : Nat) :
    rowWrite lv lock fs old v = putFields (fun f => fieldWrite lv lock f old v) fs old := rfl

theorem rowWrite_lt (lv : Level) (lock : Bool) {fs : List FieldRow} (ha : fieldsApart fs) {old : Nat} (v : Nat)
    (hold : old < 2 ^ 48) : rowWrite lv lock fs old v < 2 ^ 48 := by
  obtain ⟨hwithin, _⟩ := ha
  rw [rowWrite_eq_putFields]
  exact putFields_lt _ hwithin hold

theorem bits_rowWrite (lv : Level) (lock : Bool) {fs : List FieldRow} (ha : fieldsApart fs) {f : FieldRow}
    (hf : f ∈ fs) (old v : Nat) : bits (rowWrite lv lock fs old v) f.lo f.w = fieldWrite lv lock f old v := by
  obtain ⟨_, hpair⟩ := ha
  rw [rowWrite_eq_putFields, bits_putFields _ hpair hf, Nat.mod_eq_of_lt (fieldWrite_lt ..)]

section writeCodes
variable {off : Nat} {r : RegRow} {ix : List Nat} (s : State) (lv : Level) (v : Nat) (h : regAt off = some (r, ix))
include h

theorem State.writeCodes_eq_setRegN :
    s.writeCodes lv off v = s.setRegN off (rowWrite lv s.mlock r.fields (s.regN off) v) := by
  simp [State.writeCodes, h]

/-- Each field of the register written is as its access code says. -/
theorem State.writeCodes_field {f : FieldRow} (hf : f ∈ r.fields) :
    codeWrites f.acc (decide (lv = .m)) s.mlock f.w (bits (s.regN off) f.lo f.w) (bits v f.lo f.w)
      (bits ((s.writeCodes lv off v).regN off) f.lo f.w) := by
  have ha := regAt_fieldsApart h
  rw [s.writeCodes_eq_setRegN lv v h, s.setRegN_regN_same _ _ (rowWrite_lt _ _ ha _ (s.regN_lt off)),
    bits_rowWrite _ _ ha hf]
  exact codeWrites_fieldWrite ..

theorem State.writeCodes_reg_ne {k : Nat} (hk : k ≠ off) : (s.writeCodes lv off v).reg k = s.reg k := by
  rw [s.writeCodes_eq_setRegN lv v h]
  exact s.setReg_reg_ne hk _

theorem State.writeCodes_frame : s.writeCodes lv off v = { s with regs := (s.writeCodes lv off v).regs } := by
  rw [s.writeCodes_eq_setRegN lv v h]
  rfl

end writeCodes

/-! ### Register accesses that are performed at once -/

/-- Register space is 2^26 addresses, all of them at the five ports that hold registers, R327. -/
theorem targetOf_regAddr {off : Nat} (h : off < 2 ^ 26) :
    targetOf (regAddr off) = .reg ∨ targetOf (regAddr off) = .trav ∨ targetOf (regAddr off) = .evc
      ∨ targetOf (regAddr off) = .sec ∨ targetOf (regAddr off) = .cairn := by
  have lo (x : Nat) (hx : x ≤ 0x300_0000_0000) : ¬ regAddr off < x := by unfold regAddr; omega
  have hi : regAddr off < 0x300_0400_0000 := by unfold regAddr; omega
  unfold targetOf
  rw [if_neg (lo _ (by decide)), if_neg (lo _ (by decide)), if_neg (lo _ (by decide)), if_neg (lo _ (by decide)),
    if_pos hi]
  dsimp only
  split_ifs <;> simp

/-- Nothing goes before an access where nothing waits. -/
theorem State.turn_not_outranked {s : State} {m : Nat} (h : s.turn m = true) (a : Nat) (op : JOp) :
    s.outranked m a op = false := by
  unfold State.turn at h
  simp only [Bool.and_eq_true, Bool.not_eq_true', List.isEmpty_iff] at h
  obtain ⟨⟨_, hdrain⟩, hwait⟩ := h
  simp [State.outranked, hdrain, hwait]

theorem State.turn_not_barred {s : State} {m : Nat} (h : s.turn m = true) : s.barred m = false := by
  unfold State.turn at h
  simp only [Bool.and_eq_true, Bool.not_eq_true'] at h
  obtain ⟨⟨hbarred, _⟩, _⟩ := h
  exact hbarred

section regOpen
variable {s : State} {m off : Nat} (h : s.regOpen m off) (hoff : off < 2 ^ 26)
include h

theorem State.regOpen.turn : s.turn m = true := by
  obtain ⟨_, _, _, hturn, _⟩ := h
  exact hturn

/-- The access reaches the port of the register's own target. -/
theorem State.regOpen.portOf : s.portOf m (regAddr off) = targetOf (regAddr off) := by
  obtain ⟨hpath, hiso, _⟩ := h
  simp [State.portOf, hpath, hiso]

include hoff

/-- A read or write is register space's own operation. -/
theorem busPerform_regOpen (ra : Nat → Level → Nat → JOp → State → Ans × State) (lv : Level) {op : JOp}
    (hop : op = .rd ∨ ∃ w, op = .wr w) (se ep : Bool) :
    busPerform ra m lv (regAddr off) op s se ep = (.done (ra m lv off op s).1, (ra m lv off op s).2) := by
  obtain ⟨hpath, hiso, hdown, _, hrest, hal⟩ := h
  have hsub : regAddr off - 0x300_0000_0000 = off := Nat.add_sub_cancel_left ..
  have haddr : regAddr off % 4 = 0 := by unfold regAddr; omega
  unfold busPerform
  rcases targetOf_regAddr hoff with ht | ht | ht | ht | ht <;> rw [ht] at hpath hdown <;>
    rcases hop with rfl | ⟨w, rfl⟩ <;> simp [ht, hpath, hiso, hdown, hrest, haddr, hsub]

/-- It is answered at once, and the port of the target has granted it. -/
theorem busAccess_regOpen (ra : Nat → Level → Nat → JOp → State → Ans × State) (lv : Level) {op : JOp}
    (hop : op = .rd ∨ ∃ w, op = .wr w) (hst : (ra m lv off op s).1.st ≠ .linkdown) (se ep : Bool) :
    busAccess ra m lv (regAddr off) op s se ep
      = (.done (ra m lv off op s).1, (ra m lv off op s).2.granted (targetOf (regAddr off)).id m) := by
  unfold busAccess
  simp [busPerform_regOpen h hoff ra lv hop, State.turn_not_outranked h.turn, h.portOf, hst]

end regOpen

/-- A register write that is performed at once is answered, and leaves, what register space says. -/
theorem exec_registerWrite_regOpen (m : Fin 48) (lv : Level) (off : BitVec 26) (w : Word) (s : State)
    (h : s.regOpen m off.toNat) {r : Ans} {t : State}
    (hw : regSpaceWrite m (accessLevel m lv s) off.toNat w s = (r, t)) (hst : r.st ≠ .linkdown) :
    exec (.registerWrite m lv off w) s = .next (t.regDone m off.toNat true r) := by
  have hbus := busAccess_regOpen h off.isLt regAccess (accessLevel m lv s) (op := .wr w) (.inr ⟨w, rfl⟩)
    (by simpa [regAccess, hw] using hst) false false
  simp only [regAccess, hw, regAddr] at hbus
  simp [execRegisterWrite, bus, State.turn_not_barred h.turn, hbus, State.regDone, regAddr, ok]

/-! ### What register space says -/

section regSpaceWrite
variable (m : Nat) (lv : Level) {off : Nat} {w : Word} (s : State)

theorem regSpaceWrite_poisoned (hp : w.tag.poisoned = true) :
    regSpaceWrite m lv off w s = ({ st := .tref }, s) := by
  simp [regSpaceWrite, hp]

theorem regSpaceWrite_absent (hp : w.tag.poisoned = false) (hr : regAt off = none) :
    regSpaceWrite m lv off w s = ({ st := .ok }, s) := by
  simp [regSpaceWrite, hp, hr]

/-- A register that no unit's own rule writes is written by its access codes alone. -/
theorem plainRegWrite_plainReg (v : Nat) (hplain : plainReg off) :
    plainRegWrite m lv off v s = s.writeCodes lv off v := by
  unfold plainRegWrite
  rcases hplain with ⟨hlo, hhi⟩ | ⟨hlo, hhi, hboot⟩
  · rw [if_neg (by omega), if_neg (by omega), if_neg (by omega), if_pos hhi]
  · have hctl : R.HOST_CTL = 0x3C40000 := rfl
    simp only [hboot, if_false]
    repeat rw [if_neg (by omega)]

theorem regSpaceWrite_plainReg (hp : w.tag.poisoned = false) (hr : (regAt off).isNone = false)
    (hplain : plainReg off) :
    regSpaceWrite m lv off w s = ({ st := .ok }, s.writeCodes lv off w.pay.toNat) := by
  have hhi : off < 0x3D00000 := by rcases hplain with h | h <;> omega
  unfold regSpaceWrite
  simp only [hp, hr, plainRegWrite_plainReg m lv s _ hplain]
  rw [if_neg Bool.false_ne_true, if_neg Bool.false_ne_true, if_neg (by omega), if_neg (by omega)]

end regSpaceWrite

/-- Reading the window's fourth register advances RIDX and answers the word, R645. -/
theorem regSpaceRead_rdat3 (s : State) : regSpaceRead (R.CAIRN_RDAT 3) s = ((s.rdat 3).toNat, rdat3Read s) := by
  have hsome : (regAt (R.CAIRN_RDAT 3)).isNone = false := by decide
  rw [regSpaceRead, hsome]
  simp [R.CAIRN_RDAT]

theorem exec_rdat3Read_regOpen (m : Fin 48) (s : State) (h : s.regOpen m (R.CAIRN_RDAT 3)) :
    exec (.rdat3Read m) s
      = .next ((rdat3Read s).regDone m (R.CAIRN_RDAT 3) false { st := .ok, w := Word.raw (s.rdat 3) }) := by
  have hbus := busAccess_regOpen h (by decide) regAccess (accessLevel m .u s) (op := .rd) (.inl rfl)
    (by simp [regAccess]) false false
  simp only [regAccess, regSpaceRead_rdat3, BitVec.ofNat_toNat, BitVec.setWidth_eq, regAddr] at hbus
  simp [execRdat3Read, bus, State.turn_not_barred h.turn, hbus, State.regDone, regAddr, ok]

/-- Settles O5: an open access is the operation of register space, whose three branches give the answers; the fields of
a register lie apart, so that each ends as its own code says. -/
theorem registerWrites : Obligations.RegisterWrites := by
  unfold Obligations.RegisterWrites
  refine ⟨fun m lv off w s hopen => ⟨fun hp => ?_, fun hp hnone => ?_, fun hp hplain r ix hr => ?_⟩,
    exec_rdat3Read_regOpen⟩
  · exact exec_registerWrite_regOpen m lv off w s hopen (regSpaceWrite_poisoned _ _ s hp) (by decide)
  · exact exec_registerWrite_regOpen m lv off w s hopen (regSpaceWrite_absent _ _ s hp hnone) (by decide)
  · refine ⟨s.writeCodes (accessLevel m lv s) off.toNat w.pay.toNat, ?_, fun f hf => ?_, fun k hk => ?_, ?_⟩
    · exact exec_registerWrite_regOpen m lv off w s hopen
        (regSpaceWrite_plainReg _ _ s hp (by simp [hr]) hplain) (by decide)
    · exact s.writeCodes_field _ _ hr hf
    · exact s.writeCodes_reg_ne _ _ hr hk
    · exact s.writeCodes_frame _ _ hr

end Sys2Proof.Machine
end

section
/-! The event controller: what raising a source and writing its route change, and what they leave (R28, R462 to R464,
R487). -/

namespace Sys2Proof.Machine

variable (s : State)

/-! ### Waking a core -/

theorem Core.unwaiting_eq {c : Core} (h : c.waiting = false) : { c with waiting := false } = c := by
  rw [← h]

/-- A core wakes where an enabled route names it; where it does not wait, waking changes nothing. -/
theorem wakeFor_core (n k : Nat) : (wakeFor n s).core k =
    if s.flag (R.EVC_ROUTE n) F.EVC_ROUTE_EN = true ∧ s.fld (R.EVC_ROUTE n) F.EVC_ROUTE_CORE = k
    then { s.core k with waiting := false } else s.core k := by
  by_cases hnamed : s.flag (R.EVC_ROUTE n) F.EVC_ROUTE_EN = true ∧ s.fld (R.EVC_ROUTE n) F.EVC_ROUTE_CORE = k
  · obtain ⟨hen, rfl⟩ := hnamed
    rw [if_pos ⟨hen, rfl⟩]
    by_cases hw : (s.core (s.fld (R.EVC_ROUTE n) F.EVC_ROUTE_CORE)).waiting = true
    · simp [wakeFor, hen, hw]
    · rw [Core.unwaiting_eq (eq_false_of_ne_true hw)]
      simp [wakeFor, hw]
  · rw [if_neg hnamed]
    rw [not_and] at hnamed
    unfold wakeFor
    dsimp only
    split
    · next hw => rw [State.setCore_core, if_neg (Ne.symm (hnamed (Bool.and_eq_true_iff.mp hw).1))]
    · rfl

theorem wakeFor_rest (n : Nat) : ∃ c, wakeFor n s = { s with cores := c } := by
  rcases wakeFor_eq s n with h | h
  · exact ⟨s.cores, h⟩
  · exact ⟨_, h⟩

@[simp] theorem wakeFor_regs (n : Nat) : (wakeFor n s).regs = s.regs := by
  obtain ⟨c, h⟩ := wakeFor_rest s n
  rw [h]

/-! ### Pending bits -/

/-- No register of a route is one of the pending bits. -/
theorem EVC_ROUTE_ne_PEND {n : Nat} (h : n < 1024) (g : Nat) : R.EVC_ROUTE n ≠ R.EVC_PEND g := by
  unfold R.EVC_ROUTE R.EVC_PEND
  omega

/-- Writing one bit of a register leaves its other bits. -/
theorem bit_setBits_ne (x v : Nat) {i j : Nat} (h : j ≠ i) : bit (setBits x i 1 v) j = bit x j := by
  rw [bit_eq_bits, bit_eq_bits]
  rcases Nat.lt_or_gt_of_ne h with h | h
  · rw [bits_setBits_low _ _ _ _ _ _ h]
  · rw [bits_setBits_high _ _ _ _ _ _ h]

theorem raiseAtHub_isPending_ne {n k : Nat} (h : k ≠ n) : (raiseAtHub n s).isPending k = s.isPending k := by
  unfold State.isPending
  by_cases hg : k / 32 = n / 32
  · rw [hg, raiseAtHub_regN_pend, bit_setBits_ne _ _ (by omega)]
  · rw [State.regN_congr (raiseAtHub_regs s n), State.setRegN_regN_ne _ (by unfold R.EVC_PEND; omega)]

/-- Raising an event leaves every other pending bit. -/
theorem raise_isPending_ne {n k : Nat} (h : k ≠ n) : (raise n s).isPending k = s.isPending k := by
  rcases raise_lost_or_hub s n with e | e
  · rw [e]
  · rw [e, raiseAtHub_isPending_ne s h]

/-- Raising an event wakes the core that its enabled route names, and no other. -/
theorem raise_core {n : Nat} (hn : n < 1024) (h : s.sideDown (eventDie n) = false) (k : Nat) : (raise n s).core k =
    if s.flag (R.EVC_ROUTE n) F.EVC_ROUTE_EN = true ∧ s.fld (R.EVC_ROUTE n) F.EVC_ROUTE_CORE = k
    then { s.core k with waiting := false } else s.core k := by
  have hroute := s.setRegN_regN_ne (EVC_ROUTE_ne_PEND hn (n / 32))
  rw [raise_hub s n h, raiseAtHub, wakeFor_core]
  unfold State.flag State.fld
  rw [hroute, State.setRegN_core]

theorem raise_frame (n : Nat) : raise n s = { s with regs := (raise n s).regs, cores := (raise n s).cores } := by
  obtain ⟨r, c, h⟩ := raise_rest s n
  rw [h]

/-- An event is lost where the sideband of its die is down, R28. -/
theorem raise_lost {n : Nat} (h : s.sideDown (eventDie n) = true) : raise n s = s := if_pos h

/-! ### Routes -/

/-- The fields of a route, R462: CORE, PRIO, LVL and EN. -/
def routeFields : List FieldRow := [⟨0, 4, .rw, 0⟩, ⟨4, 6, .rw, 0⟩, ⟨10, 1, .rw, 1⟩, ⟨11, 1, .rw, 0⟩]

theorem routeFields_rw : ∀ f ∈ routeFields, f.acc = .rw := by decide

theorem findRow_cons_hit {r : RegRow} {rs : List RegRow} {off : Nat} {ix : List Nat} (hbase : r.base ≤ off)
    (hdim : dimIndex r.dims (off - r.base) = some ix) : findRow (r :: rs) off = some (r, ix) := by
  rw [findRow, if_neg (Nat.not_lt.mpr hbase), hdim]

theorem regAt_EVC_ROUTE {n : Nat} (h : n < 1024) :
    regAt (R.EVC_ROUTE n) = some (⟨0x400000, [(1024, 4)], routeFields⟩, [n]) := by
  have hrows : rowsAt (R.EVC_ROUTE n) = rows_evc := by
    unfold rowsAt R.EVC_ROUTE
    repeat rw [if_neg (by omega)]
    rw [if_pos (by omega)]
  have hdim : dimIndex [(1024, 4)] (R.EVC_ROUTE n - 0x400000) = some [n] := by
    have hoff : R.EVC_ROUTE n - 0x400000 = n * 4 := Nat.add_sub_cancel_left ..
    simp [dimIndex, hoff, h]
  rw [regAt, hrows]
  exact findRow_cons_hit (Nat.le_add_right ..) hdim

/-- A route's fields are open to every level, so that each is stored as written. -/
theorem writeCodes_EVC_ROUTE_fld {n : Nat} (h : n < 1024) (lv : Level) (v : Nat) {f : FieldRow}
    (hf : f ∈ routeFields) :
    (s.writeCodes lv (R.EVC_ROUTE n) v).fld (R.EVC_ROUTE n) ⟨f.lo, f.w⟩ = bits v f.lo f.w := by
  have hcode := s.writeCodes_field lv v (regAt_EVC_ROUTE h) hf
  have hrw : f.acc = .rw := routeFields_rw f hf
  rwa [hrw] at hcode

/-- A pending source follows its new route, R464. -/
theorem routeWrite_eq (n : Nat) (lv : Level) (v : Nat) : routeWrite n lv v s =
    if (s.writeCodes lv (R.EVC_ROUTE n) v).isPending n = true then wakeFor n (s.writeCodes lv (R.EVC_ROUTE n) v)
    else s.writeCodes lv (R.EVC_ROUTE n) v := rfl

theorem routeWrite_regs (n : Nat) (lv : Level) (v : Nat) :
    (routeWrite n lv v s).regs = (s.writeCodes lv (R.EVC_ROUTE n) v).regs := by
  rw [routeWrite_eq]
  split
  · exact wakeFor_regs _ n
  · rfl

/-- After a write of a route the core that it names wakes if the source is pending and the route enabled. -/
theorem routeWrite_core {n : Nat} (h : n < 1024) (lv : Level) (v k : Nat) : (routeWrite n lv v s).core k =
    if s.isPending n = true ∧ bits v 11 1 = 1 ∧ bits v 0 4 = k then { s.core k with waiting := false }
    else s.core k := by
  have hframe := s.writeCodes_frame lv v (regAt_EVC_ROUTE h)
  have hcore : (s.writeCodes lv (R.EVC_ROUTE n) v).core k = s.core k := by rw [hframe]; rfl
  have hreg := s.writeCodes_reg_ne lv v (regAt_EVC_ROUTE h) (EVC_ROUTE_ne_PEND h (n / 32)).symm
  have hpend : (s.writeCodes lv (R.EVC_ROUTE n) v).isPending n = s.isPending n := by
    unfold State.isPending State.regN
    rw [hreg]
  have hnamed := writeCodes_EVC_ROUTE_fld s h lv v (f := ⟨0, 4, .rw, 0⟩) (by decide)
  have hen := writeCodes_EVC_ROUTE_fld s h lv v (f := ⟨11, 1, .rw, 0⟩) (by decide)
  rw [routeWrite_eq, hpend]
  by_cases hp : s.isPending n = true
  · simp only [hp, if_true, true_and, wakeFor_core, hcore, State.flag, F.EVC_ROUTE_EN, F.EVC_ROUTE_CORE, hnamed, hen,
      beq_iff_eq]
  · rw [if_neg hp, if_neg (fun h => hp h.1), hcore]

/-! ### The statement -/

theorem exec_eventRaise_lost {src : Fin 1024} (h : reservedSource src = true ∨ s.sideDown (eventDie src) = true) :
    exec (.eventRaise src) s = .next s := by
  rw [exec_eventRaise, execEventRaise]
  split
  · rfl
  · next hres => rw [raise_lost s (h.resolve_left hres), ok]

theorem exec_eventRaise_open {src : Fin 1024} (h : reservedSource src = false) :
    exec (.eventRaise src) s = .next (raise src s) := by
  rw [exec_eventRaise, execEventRaise, h, if_neg Bool.false_ne_true, ok]

/-- The software's sources are no reserved numbers. -/
theorem reservedSource_of_swset {n : Nat} (h : 992 ≤ n) : reservedSource n = false := by
  unfold reservedSource
  have h191 : ¬ n ≤ 191 := by omega
  have h991 : ¬ n ≤ 991 := by omega
  simp [h191, h991]

/-- Settles O16: a raise sets the one pending bit and wakes the routed core, and a route written wakes the core that it
names where its source is pending already. -/
theorem eventRules : Obligations.EventRules := by
  unfold Obligations.EventRules
  refine ⟨fun src s hres hup => ?_, fun src s h => exec_eventRaise_lost s h, fun m v s => ⟨fun hv src hsrc => ?_,
    fun hv => ?_⟩, fun src lv v s => ?_⟩
  · exact ⟨raise src s, exec_eventRaise_open s hres, raise_isPending s _ hup,
      fun n _ hne => raise_isPending_ne s hne, fun k hk => raise_reg_ne s _ hk, raise_core s src.isLt hup,
      raise_frame s _⟩
  · rw [exec_eventRaise_open s (reservedSource_of_swset (hsrc ▸ hv)), hsrc, exec_swset, execSwset, swsetWrite]
    exact congrArg ok (if_pos hv)
  · rw [exec_swset, execSwset, swsetWrite]
    exact congrArg ok (if_neg (Nat.not_le.mpr hv))
  · have hfld {f : FieldRow} (hf : f ∈ routeFields) :=
      (State.fld_congr (routeWrite_regs s src lv v.toNat) _ _).trans
        (writeCodes_EVC_ROUTE_fld s src.isLt lv v.toNat hf)
    refine ⟨routeWrite src lv v.toNat s, rfl, hfld (f := ⟨0, 4, .rw, 0⟩) (by decide),
      hfld (f := ⟨4, 6, .rw, 0⟩) (by decide), hfld (f := ⟨10, 1, .rw, 1⟩) (by decide),
      hfld (f := ⟨11, 1, .rw, 0⟩) (by decide), fun k hk => ?_, routeWrite_core s src.isLt lv v.toNat, ?_⟩
    · exact (State.reg_congr (routeWrite_regs s src lv v.toNat) k).trans
        (s.writeCodes_reg_ne lv v.toNat (regAt_EVC_ROUTE src.isLt) hk)
    · have hframe := s.writeCodes_frame lv v.toNat (regAt_EVC_ROUTE src.isLt)
      rw [routeWrite_eq]
      split
      · obtain ⟨c, hc⟩ := wakeFor_rest (s.writeCodes lv (R.EVC_ROUTE src) v.toNat) src
        rw [hc, hframe]
      · rw [hframe]

end Sys2Proof.Machine
end

section
/-! Links that fail: replays and retrains, an internal link and a site link that go down, and a device request that times
out (R28, R363 to R366). -/

namespace Sys2Proof.Machine

variable (s : State)

/-! ### Reading through a register, a table and the log -/

/-- A field reads the same in two states that agree on its register. -/
theorem State.fld_of_reg {s t : State} {k : Nat} (h : t.reg k = s.reg k) (f : Fld) : t.fld k f = s.fld k f := by
  unfold State.fld State.regN
  rw [h]

theorem State.flag_of_reg {s t : State} {k : Nat} (h : t.reg k = s.reg k) (f : Fld) : t.flag k f = s.flag k f := by
  unfold State.flag
  rw [State.fld_of_reg h]

theorem State.core_congr {s t : State} (h : s.cores = t.cores) (n : Nat) : s.core n = t.core n := by
  unfold State.core
  rw [h]

theorem State.site_congr {s t : State} (h : s.sites = t.sites) (n : Nat) : s.site n = t.site n := by
  unfold State.site
  rw [h]

theorem State.sideDown_congr {s t : State} (h : s.junc = t.junc) (die : Nat) : s.sideDown die = t.sideDown die := by
  unfold State.sideDown
  rw [h]

theorem EVC_PEND_ne_DROPCNT {n : Nat} (h : n < 1024) : R.EVC_PEND (n / 32) ≠ R.CAIRN_DROPCNT := by
  unfold R.EVC_PEND R.CAIRN_DROPCNT
  omega

/-- An entry for the log leaves the pending bits. -/
theorem logCairn_isPending (src : Src) (code : Nat) (fs : List DF) {n : Nat} (h : n < 1024) :
    (logCairn src code fs s).isPending n = s.isPending n := by
  unfold State.isPending State.regN
  rw [logCairn_reg_ne s src code fs (EVC_PEND_ne_DROPCNT h)]

/-- Each of a list of distinct units updated in turn: every listed unit is updated once, the others stay. -/
theorem foldl_update_distinct {β : Type} (get : State → Nat → β) (step : State → Nat → State) (f : Nat → β → β)
    {l : List Nat} (hl : l.Nodup)
    (hstep : ∀ s, ∀ n ∈ l, ∀ k, get (step s n) k = if k = n then f n (get s n) else get s k) (s : State) (k : Nat) :
    get (l.foldl step s) k = if k ∈ l then f k (get s k) else get s k := by
  induction l generalizing s with
  | nil => rfl
  | cons n l ih =>
    obtain ⟨hn, hl⟩ := List.nodup_cons.mp hl
    rw [List.foldl_cons, ih hl (fun s m hm => hstep s m (List.mem_cons_of_mem n hm)), hstep s n List.mem_cons_self]
    by_cases hk : k = n
    · subst hk
      simp [hn]
    · simp [hk]

/-! ### An internal link goes down, R364 -/

/-- The machine check of sub-cause 4 that a lost link leaves at a core. -/
def linkCheck (l : Nat) (c : Core) : Core := { c with mcheck := c.mcheck ++ [{ sub := 4, eval := BitVec.ofNat 48 l }] }

/-- The machine check left at every core. -/
def linkChecks (l : Nat) (s : State) : State :=
  (List.range 16).foldl (fun s n => s.setCore n (linkCheck l (s.core n))) s

/-- An access of a master crosses the link. -/
def State.crosses (s : State) (l m a : Nat) : Bool :=
  (routeLinks (s.masterDie m a) (dieOfTarget (targetOf a))).contains l

/-- The Junction after the loss: the link is listed, and the waiting accesses that cross it have ended. -/
def Junc.linkLost (j : Junc) (l : Nat) (crosses : Nat → Nat → Bool) : Junc :=
  { j with
    linksDown := l :: j.linksDown
    waiting := j.waiting.filter fun r => !crosses r.m r.a
    rsps := j.rsps ++ (j.waiting.filter fun r => crosses r.m r.a).map fun r =>
      { m := r.m, a := r.a, st := .linkdown, w := Word.uni0, wr := r.op.writes, va := r.va } }

/-- A site after the loss: the device requests that cross the link have ended. -/
def Site.linkLost (y : Site) (crosses : Nat → Nat → Bool) : Site :=
  { y with
    reqs := y.reqs.filter fun r => !crosses r.m r.a
    retired := y.retired ++ y.reqs.filter fun r => crosses r.m r.a
    dones := y.dones ++ (y.reqs.filter fun r => crosses r.m r.a).map fun r =>
      { m := r.m, a := r.a, wr := r.wr, st := .linkdown, ws := [] } }

/-- Both sites after the loss. -/
def sitesLost (crosses : Nat → Nat → Bool) (s : State) : State :=
  (List.range 2).foldl (fun s x => s.setSite x ((s.site x).linkLost crosses)) s

/-- The cores and registers after the loss. -/
def linkTold (l : Nat) (s : State) : State := linkChecks l (s.setFld (R.PLINK_STAT l) F.PLINK_STAT_UP 0)

/-- What the loss of a link makes of the device, before its entry in the log. -/
def linkLost (l : Nat) (s : State) : State :=
  sitesLost (s.crosses l) { linkTold l s with junc := (linkTold l s).junc.linkLost l (s.crosses l) }

theorem internalDown_eq {l : Nat} (h : s.junc.linksDown.contains l = false) : internalDown l s =
    logCairn .passage 0x02 [dfUnit 9 l, ⟨16, (linkLost l s).freeNat.1⟩] (linkLost l s).freeNat.2 := by
  unfold internalDown
  rw [h, if_neg Bool.false_ne_true]
  rfl

theorem linkChecks_core (l k : Nat) :
    (linkChecks l s).core k = if k < 16 then linkCheck l (s.core k) else s.core k := by
  have h := foldl_update_distinct State.core (fun s n => s.setCore n (linkCheck l (s.core n))) (fun _ => linkCheck l)
    (List.nodup_range (n := 16)) (fun s n _ k => s.setCore_core n _ k) s k
  simp only [List.mem_range] at h
  exact h

theorem linkChecks_rest (l : Nat) : ∃ c, linkChecks l s = { s with cores := c } := by
  refine List.foldlRecOn (motive := fun t : State => ∃ c, t = { s with cores := c }) _ _ ⟨s.cores, rfl⟩ ?_
  rintro _ ⟨c, rfl⟩ n -
  exact ⟨_, rfl⟩

theorem sitesLost_rest (crosses : Nat → Nat → Bool) : ∃ y, sitesLost crosses s = { s with sites := y } := by
  refine List.foldlRecOn (motive := fun t : State => ∃ y, t = { s with sites := y }) _ _ ⟨s.sites, rfl⟩ ?_
  rintro _ ⟨y, rfl⟩ x -
  exact ⟨_, rfl⟩

theorem linkTold_rest (l : Nat) :
    ∃ c, linkTold l s = { s.setFld (R.PLINK_STAT l) F.PLINK_STAT_UP 0 with cores := c } := linkChecks_rest _ l

theorem linkTold_junc (l : Nat) : (linkTold l s).junc = s.junc := by
  obtain ⟨c, h⟩ := linkTold_rest s l
  rw [h, State.setFld_junc]

/-- Beyond what cores and registers are told, the loss of a link changes the Junction and the sites only. -/
theorem linkLost_rest (l : Nat) :
    ∃ y, linkLost l s = { linkTold l s with junc := s.junc.linkLost l (s.crosses l), sites := y } := by
  obtain ⟨y, hy⟩ := sitesLost_rest { linkTold l s with junc := (linkTold l s).junc.linkLost l (s.crosses l) }
    (s.crosses l)
  refine ⟨y, ?_⟩
  rw [linkLost, hy, linkTold_junc]

section internalDown
variable {s} {l : Nat} (h : s.junc.linksDown.contains l = false)
include h

theorem internalDown_junc : (internalDown l s).junc = s.junc.linkLost l (s.crosses l) := by
  obtain ⟨y, hy⟩ := linkLost_rest s l
  rw [internalDown_eq s h, logCairn_junc, State.freeNat_junc, hy]

/-- What an internal link that goes down leaves alone. -/
theorem internalDown_kept : (internalDown l s).mem = s.mem ∧ (internalDown l s).gals = s.gals
    ∧ (internalDown l s).lanes = s.lanes := by
  obtain ⟨y, hy⟩ := linkLost_rest s l
  obtain ⟨c, hc⟩ := linkTold_rest s l
  rw [internalDown_eq s h]
  simp [hy, hc]

theorem internalDown_core {k : Nat} (hk : k < 16) : (internalDown l s).core k = linkCheck l (s.core k) := by
  obtain ⟨y, hy⟩ := linkLost_rest s l
  have hcores : (internalDown l s).cores = (linkTold l s).cores := by
    rw [internalDown_eq s h, logCairn_cores, State.freeNat_cores, hy]
  rw [State.core_congr hcores, linkTold, linkChecks_core, if_pos hk, State.setFld_core]

theorem internalDown_up (hl : l < 11) : (internalDown l s).flag (R.PLINK_STAT l) F.PLINK_STAT_UP = false := by
  have hdrop : R.PLINK_STAT l ≠ R.CAIRN_DROPCNT := by unfold R.PLINK_STAT R.CAIRN_DROPCNT; omega
  obtain ⟨y, hy⟩ := linkLost_rest s l
  obtain ⟨c, hc⟩ := linkTold_rest s l
  have hregs : (linkLost l s).freeNat.2.regs = (s.setFld (R.PLINK_STAT l) F.PLINK_STAT_UP 0).regs := by
    rw [State.freeNat_regs, hy, hc]
  rw [internalDown_eq s h, State.flag_of_reg (logCairn_reg_ne _ _ _ _ hdrop), State.flag_congr hregs, State.flag,
    State.setFld_fld_same _ _ _ _ (by decide)]
  rfl

/-- A waiting access that crosses the link has ended with LINKDOWN. -/
theorem internalDown_waiting {r : JReq} (hr : r ∈ s.junc.waiting) (hc : s.crosses l r.m r.a = true) :
    r ∉ (internalDown l s).junc.waiting
    ∧ { m := r.m, a := r.a, st := .linkdown, w := Word.uni0, wr := r.op.writes, va := r.va }
      ∈ (internalDown l s).junc.rsps := by
  rw [internalDown_junc h]
  constructor
  · intro hmem
    simpa [hc] using (List.mem_filter.mp hmem).2
  · exact List.mem_append_right _ (List.mem_map_of_mem (List.mem_filter.mpr ⟨hr, hc⟩))

/-- The events of the die whose sideband the link carries are lost. -/
theorem internalDown_raise {n : Nat} (hn : eventDie n = l + 1) : raise n (internalDown l s) = internalDown l s := by
  apply raise_lost
  simp [State.sideDown, hn, internalDown_junc h, Junc.linkLost]

end internalDown

/-! ### A retrain, R364 -/

/-- A good retrain of an internal link that is up. -/
theorem retrain_link_good {l : Nat} (hl : l < 11) (rep : Bool) (hd : s.junc.linksDown.contains l = false)
    (hup : s.flag (R.PLINK_STAT l) F.PLINK_STAT_UP = true) :
    retrain l true rep s = (s.bump (R.PLINK_RETRAIN l) F.PLINK_RETRAIN_RETRAIN).setFld (R.PLINK_STAT l)
      F.PLINK_STAT_REPAIRED (b2n rep) := by
  have hne : R.PLINK_STAT l ≠ R.PLINK_RETRAIN l := by unfold R.PLINK_STAT R.PLINK_RETRAIN; omega
  have hup' : (s.bump (R.PLINK_RETRAIN l) F.PLINK_RETRAIN_RETRAIN).flag (R.PLINK_STAT l) F.PLINK_STAT_UP = true :=
    (State.flag_of_reg (State.setFld_reg_ne s _ hne _) _).trans hup
  have hd' : (s.bump (R.PLINK_RETRAIN l) F.PLINK_RETRAIN_RETRAIN).junc.linksDown.contains l = false := by
    rw [State.bump, State.setFld_junc, hd]
  unfold retrain linkUp
  dsimp only
  rw [if_pos hl, hd', if_neg Bool.false_ne_true, if_pos rfl, if_pos (.inr hup')]

theorem retrain_site_good {u : Nat} (hu : 11 ≤ u) (rep : Bool) :
    retrain u true rep s = s.bump (R.SITE_RETRAIN (u - 11)) F.SITE_RETRAIN_RETRAIN := by
  unfold retrain
  rw [if_neg (Nat.not_lt.mpr hu)]
  rfl

/-! ### A site link goes down, R365 -/

/-- The registers that say that a site's link is down. -/
def siteTold (x unack : Nat) (s : State) : State :=
  ((s.setFld (R.SITE_STAT x) F.SITE_STAT_UP 0).setFld (R.SITE_STAT x) F.SITE_STAT_DOWN 1).setFld (R.SITE_UNACK x)
    F.SITE_UNACK_UNACK unack

/-- A site after its link went down: every outstanding device request has ended with LINKDOWN. -/
def Site.down (y : Site) : Site :=
  { y with
    gotInit := false
    txq := []
    rxq := []
    strq := []
    owed := {}
    sent := []
    wire := []
    reqs := []
    retired := []
    stage := 0
    dones := y.dones ++ y.reqs.map fun r => { m := r.m, a := r.a, wr := r.wr, st := .linkdown, ws := [] } }

theorem siteDown_eq (x unack : Nat) : siteDown x unack s = logCairn .passage 0x02 [dfUnit 10 x, ⟨16, unack⟩]
    (raise (166 + x) ((siteTold x unack s).setSite x (s.site x).down)) := rfl

theorem siteTold_rest (x unack : Nat) : ∃ r, siteTold x unack s = { s with regs := r } := by
  obtain ⟨_, hup⟩ := s.setFld_rest (R.SITE_STAT x) F.SITE_STAT_UP 0
  obtain ⟨_, hdown⟩ := (s.setFld (R.SITE_STAT x) F.SITE_STAT_UP 0).setFld_rest (R.SITE_STAT x) F.SITE_STAT_DOWN 1
  obtain ⟨_, hunack⟩ :=
    ((s.setFld (R.SITE_STAT x) F.SITE_STAT_UP 0).setFld (R.SITE_STAT x) F.SITE_STAT_DOWN 1).setFld_rest (R.SITE_UNACK x)
      F.SITE_UNACK_UNACK unack
  rw [siteTold, hunack, hdown, hup]
  exact ⟨_, rfl⟩

theorem siteDown_rest (x unack : Nat) : ∃ y r c k, siteDown x unack s =
    { s with sites := y, regs := r, cores := c, cairn := k } := by
  rw [siteDown_eq]
  obtain ⟨_, htold⟩ := siteTold_rest s x unack
  obtain ⟨_, hsite⟩ := State.setSite_rest (siteTold x unack s) x (s.site x).down
  obtain ⟨_, _, hraise⟩ := raise_rest ((siteTold x unack s).setSite x (s.site x).down) (166 + x)
  obtain ⟨_, _, hlog⟩ := logCairn_rest (raise (166 + x) ((siteTold x unack s).setSite x (s.site x).down)) .passage 0x02
    [dfUnit 10 x, ⟨16, unack⟩]
  rw [hlog, hraise, hsite, htold]
  exact ⟨_, _, _, _, rfl⟩

theorem siteDown_site (x unack : Nat) : (siteDown x unack s).site x = (s.site x).down := by
  have hsites : (siteDown x unack s).sites = ((siteTold x unack s).setSite x (s.site x).down).sites := by
    rw [siteDown_eq, logCairn_sites, raise_sites]
  rw [State.site_congr hsites, State.setSite_site, if_pos rfl]

/-- A site's registers after its link went down. -/
theorem siteDown_reg (x : Fin 2) (unack : Nat) {k : Nat} (hlo : R.SITE_CTL 0 ≤ k) (hhi : k < R.CAIRN_DROPCNT) :
    (siteDown x unack s).reg k = (siteTold x unack s).reg k := by
  have hpend : k ≠ R.EVC_PEND ((166 + x) / 32) := by unfold R.SITE_CTL at hlo; unfold R.EVC_PEND; omega
  rw [siteDown_eq, logCairn_reg_ne _ _ _ _ (Nat.ne_of_lt hhi), raise_reg_ne _ _ hpend, State.setSite_reg]

/-- The event of a site comes from the site's die. -/
theorem eventDie_site (x : Fin 2) : eventDie (166 + x) = siteDie x := by
  revert x
  decide

theorem siteDown_isPending (x : Fin 2) (unack : Nat) (h : s.sideDown (siteDie x) = false) :
    (siteDown x unack s).isPending (166 + x) = true := by
  have hjunc : ((siteTold x unack s).setSite x (s.site x).down).junc = s.junc := by
    simp only [siteTold, State.setSite_junc, State.setFld_junc]
  rw [siteDown_eq, logCairn_isPending _ _ _ _ (by omega)]
  refine raise_isPending _ _ ?_
  rw [State.sideDown_congr hjunc, eventDie_site, h]

theorem siteTold_stat (x unack : Nat) (f : Fld) : (siteTold x unack s).fld (R.SITE_STAT x) f =
    ((s.setFld (R.SITE_STAT x) F.SITE_STAT_UP 0).setFld (R.SITE_STAT x) F.SITE_STAT_DOWN 1).fld (R.SITE_STAT x) f :=
  State.setFld_fld_ne _ _ _ (by unfold R.SITE_STAT R.SITE_UNACK; omega) _

theorem siteDown_fields (x : Fin 2) (u : BitVec 16) :
    (siteDown x u.toNat s).flag (R.SITE_STAT x) F.SITE_STAT_UP = false
    ∧ (siteDown x u.toNat s).flag (R.SITE_STAT x) F.SITE_STAT_DOWN = true
    ∧ (siteDown x u.toNat s).fld (R.SITE_UNACK x) F.SITE_UNACK_UNACK = u.toNat := by
  have hstat := siteDown_reg s x u.toNat (k := R.SITE_STAT x) (by unfold R.SITE_CTL R.SITE_STAT; omega)
    (by unfold R.SITE_STAT R.CAIRN_DROPCNT; omega)
  have hunack := siteDown_reg s x u.toNat (k := R.SITE_UNACK x) (by unfold R.SITE_CTL R.SITE_UNACK; omega)
    (by unfold R.SITE_UNACK R.CAIRN_DROPCNT; omega)
  refine ⟨?_, ?_, ?_⟩
  · rw [State.flag_of_reg hstat, State.flag, siteTold_stat,
      State.setFld_fld_other _ _ _ _ _ (by decide) (.inl (by decide)), State.setFld_fld_same _ _ _ _ (by decide)]
    rfl
  · rw [State.flag_of_reg hstat, State.flag, siteTold_stat, State.setFld_fld_same _ _ _ _ (by decide)]
    rfl
  · rw [State.fld_of_reg hunack, siteTold, State.setFld_fld_same _ _ _ _ (by decide)]
    exact Nat.mod_eq_of_lt u.isLt

/-! ### A device request times out, R366 -/

theorem siteTimeout_due {x : Nat} {r : PReq} {l : List PReq} (hreqs : (s.site x).reqs = r :: l)
    (htmo : s.fld (R.SITE_CTL x) F.SITE_CTL_TMO ≠ 0)
    (hdue : r.sentAt + s.fld (R.SITE_CTL x) F.SITE_CTL_TMO ≤ s.tick) :
    siteTimeout x s = logCairn .passage 0x04 [⟨1, x⟩, dfMaster r.m, ⟨10, r.tag⟩]
      ((s.setSite x { s.site x with
          reqs := l
          retired := (s.site x).retired ++ [r]
          dones := (s.site x).dones ++ [{ m := r.m, a := r.a, wr := r.wr, st := .timeout, ws := [] }] }).bump
        (R.SITE_TMOCNT x) F.SITE_TMOCNT_TMOCNT) := by
  unfold siteTimeout
  dsimp only
  rw [hreqs]
  exact if_pos ⟨htmo, hdue⟩

/-- Settles O26: a replay and a good retrain only count; the loss of an internal link is told to every core and ends what
crosses it, the loss of a site link ends what the device asked of the site, and an overdue request ends by itself. -/
theorem linkLoss : Obligations.LinkLoss := by
  unfold Obligations.LinkLoss
  refine ⟨fun u s => rfl, fun u rep s => ⟨fun hu hd hup => congrArg ok (retrain_link_good s hu rep hd hup),
    fun hu => congrArg ok (retrain_site_good s hu rep)⟩, fun l s h => ?_, fun x u s hup hheard => ?_,
    fun x r l s hreqs htmo hdue => congrArg ok (siteTimeout_due s hreqs htmo hdue)⟩
  · refine ⟨internalDown l s, rfl, ?_, internalDown_up h l.isLt, fun n hn => ?_,
      fun r hr hc => internalDown_waiting h hr hc, fun n hn => internalDown_raise h hn, internalDown_kept h⟩
    · rw [internalDown_junc h]
      rfl
    · rw [internalDown_core h hn]
      rfl
  · obtain ⟨hdown, hflag, hunack⟩ := siteDown_fields s x u
    obtain ⟨y, r, c, k, hrest⟩ := siteDown_rest s x u.toNat
    have hsite := siteDown_site s x u.toNat
    refine ⟨siteDown x u.toNat s, congrArg ok (if_pos hup), hdown, hflag, hunack, by rw [hsite]; rfl,
      by rw [hsite]; rfl, siteDown_isPending s x u.toNat hheard, by rw [hrest]⟩

end Sys2Proof.Machine
end

section
/-! Lanes: what a change of a lane's or an endpoint's state writes, and lock, loss of lock, recovery and UNREV
(R516 to R518, R536, R561 to R563, R572). -/

namespace Sys2Proof.Machine

variable {s : State}

/-! ### Registers that an operation leaves -/

theorem State.regsBut.trans {t u : State} {l l' : List Nat} (h : s.regsBut t l) (h' : t.regsBut u l') :
    s.regsBut u (l ++ l') := fun k hk => by
  obtain ⟨hl, hl'⟩ := not_or.mp (mt List.mem_append.mpr hk)
  rw [h' k hl', h k hl]

theorem State.regsBut.mono {t : State} {l l' : List Nat} (h : s.regsBut t l) (hsub : l ⊆ l') : s.regsBut t l' :=
  fun k hk => h k (mt (@hsub k) hk)

theorem State.regsBut_of_regs {t : State} (h : t.regs = s.regs) (l : List Nat) : s.regsBut t l :=
  fun k _ => State.reg_congr h k

theorem State.setReg_regsBut (s : State) (o : Nat) (v : BitVec 48) : s.regsBut (s.setReg o v) [o] :=
  fun _ hk => s.setReg_reg_ne (List.ne_of_not_mem_cons hk) v

theorem State.setFld_regsBut (s : State) (o : Nat) (f : Fld) (v : Nat) : s.regsBut (s.setFld o f v) [o] :=
  s.setReg_regsBut o _

theorem raise_regsBut (s : State) (n : Nat) : s.regsBut (raise n s) [R.EVC_PEND (n / 32)] :=
  fun _ hk => raise_reg_ne s n (List.ne_of_not_mem_cons hk)

theorem logCairn_regsBut (s : State) (src : Src) (code : Nat) (fs : List DF) :
    s.regsBut (logCairn src code fs s) [R.CAIRN_DROPCNT] :=
  fun _ hk => logCairn_reg_ne s src code fs (List.ne_of_not_mem_cons hk)

theorem State.lane_congr {t : State} (h : s.lanes = t.lanes) (n : Nat) : s.lane n = t.lane n := by
  unfold State.lane
  rw [h]

/-- Once pending, an event stays pending while others are raised. -/
theorem raise_isPending_mono {n k : Nat} (h : s.isPending k = true) : (raise n s).isPending k = true := by
  by_cases hk : k = n
  · rcases raise_lost_or_hub s n with e | e
    · rw [e, h]
    · rw [e, hk]
      exact raiseAtHub_isPending s n
  · rw [raise_isPending_ne s hk, h]

theorem State.setFld_laneHeard {l : Nat} (h : s.laneHeard l) (o : Nat) (f : Fld) (v : Nat) :
    (s.setFld o f v).laneHeard l :=
  (State.sideDown_congr (s.setFld_junc o f v) _).trans h

/-! ### Where the registers of a lane lie -/

/-- The registers that a lane event and its entry in the log may write. -/
def laneTellRegs (l : Nat) : List Nat := [R.LANE_EVT l, R.EVC_PEND ((192 + l) / 32), R.CAIRN_DROPCNT]

theorem laneRegs_eq (l : Nat) : laneRegs l = R.LANE_STAT l :: laneTellRegs l := rfl

section lies
variable {l : Nat} (h : l < 256)
include h

theorem LANE_STAT_not_told (k : Nat) : R.LANE_STAT k ∉ laneTellRegs l := by
  simp only [laneTellRegs, List.mem_cons, List.not_mem_nil, or_false, R.LANE_STAT, R.LANE_EVT, R.EVC_PEND, R.CAIRN_DROPCNT]
  omega

theorem LANE_CFG_not_told (k : Nat) : R.LANE_CFG k ∉ laneTellRegs l := by
  simp only [laneTellRegs, List.mem_cons, List.not_mem_nil, or_false, R.LANE_CFG, R.LANE_EVT, R.EVC_PEND, R.CAIRN_DROPCNT]
  omega

theorem EP_not_told : R.EP_STAT l 0 ∉ laneTellRegs l ∧ R.EP_SEQ l 0 ∉ laneTellRegs l := by
  simp only [laneTellRegs, List.mem_cons, List.not_mem_nil, or_false, R.EP_STAT, R.EP_SEQ, R.LANE_EVT, R.EVC_PEND,
    R.CAIRN_DROPCNT]
  omega

end lies

theorem LANE_STAT_inj {k l : Nat} : R.LANE_STAT k = R.LANE_STAT l ↔ k = l := by
  unfold R.LANE_STAT
  omega

/-! ### A lane event with its entry in the log -/

/-- An EVT bit set, the lane's event raised and an entry sent to the log. -/
def laneTell (l : Nat) (f : Fld) (code : Nat) (fs : List DF) (s : State) : State :=
  logCairn .link code fs (laneEvt l f s)

section laneTell
variable (s) (l : Nat) (f : Fld) (code : Nat) (fs : List DF)

theorem laneTell_rest : ∃ r c k, laneTell l f code fs s = { s with regs := r, cores := c, cairn := k } := by
  obtain ⟨_, hset⟩ := s.setFld_rest (R.LANE_EVT l) f 1
  obtain ⟨_, _, hraise⟩ := raise_rest (s.setFld (R.LANE_EVT l) f 1) (192 + l)
  obtain ⟨_, _, hlog⟩ := logCairn_rest (laneEvt l f s) .link code fs
  rw [laneTell, hlog, laneEvt, hraise, hset]
  exact ⟨_, _, _, rfl⟩

theorem laneTell_regsBut : s.regsBut (laneTell l f code fs s) (laneTellRegs l) :=
  ((s.setFld_regsBut _ _ _).trans (raise_regsBut _ _)).trans (logCairn_regsBut _ _ _ _)

theorem laneTell_isPending_mono {n : Nat} (hn : n < 1024) (hp : s.isPending n = true) :
    (laneTell l f code fs s).isPending n = true := by
  have hpend : R.EVC_PEND (n / 32) ≠ R.LANE_EVT l := by unfold R.LANE_EVT R.EVC_PEND; omega
  rw [laneTell, logCairn_isPending _ _ _ _ hn]
  refine raise_isPending_mono ?_
  unfold State.isPending at hp ⊢
  rw [State.setFld_regN_ne _ _ hpend, hp]

variable {l} (h : l < 256)
include h

/-- The event register is as the EVT bit leaves it. -/
theorem laneTell_evt :
    (laneTell l f code fs s).reg (R.LANE_EVT l) = (s.setFld (R.LANE_EVT l) f 1).reg (R.LANE_EVT l) := by
  have hpend : R.LANE_EVT l ≠ R.EVC_PEND ((192 + l) / 32) := by unfold R.LANE_EVT R.EVC_PEND; omega
  have hdrop : R.LANE_EVT l ≠ R.CAIRN_DROPCNT := by unfold R.LANE_EVT R.CAIRN_DROPCNT; omega
  rw [laneTell, logCairn_reg_ne _ _ _ _ hdrop, laneEvt, raise_reg_ne _ _ hpend]

theorem laneTell_isPending (hheard : s.laneHeard l) : (laneTell l f code fs s).isPending (192 + l) = true := by
  rw [laneTell, logCairn_isPending _ _ _ _ (by omega)]
  exact raise_isPending _ _ (State.setFld_laneHeard hheard _ _ _)

end laneTell

/-! ### A change of lane state, R518 -/

section setLaneSt
variable (s) (l new : Nat)

theorem setLaneSt_same (h : s.laneSt l = new) : setLaneSt l new s = s := if_pos h

variable {l new} in
theorem setLaneSt_change (h : s.laneSt l ≠ new) : setLaneSt l new s = laneTell l F.LANE_EVT_STCHG 0x05
    [⟨8, l⟩, ⟨3, s.laneSt l⟩, ⟨3, new⟩] (s.setFld (R.LANE_STAT l) F.LANE_STAT_STATE new) := if_neg h

theorem setLaneSt_rest : ∃ r c k, setLaneSt l new s = { s with regs := r, cores := c, cairn := k } := by
  by_cases h : s.laneSt l = new
  · exact ⟨_, _, _, setLaneSt_same s l new h⟩
  · obtain ⟨_, hset⟩ := s.setFld_rest (R.LANE_STAT l) F.LANE_STAT_STATE new
    obtain ⟨_, _, _, htell⟩ := laneTell_rest (s.setFld (R.LANE_STAT l) F.LANE_STAT_STATE new) l F.LANE_EVT_STCHG 0x05
      [⟨8, l⟩, ⟨3, s.laneSt l⟩, ⟨3, new⟩]
    rw [setLaneSt_change s h, htell, hset]
    exact ⟨_, _, _, rfl⟩

theorem setLaneSt_regsBut : s.regsBut (setLaneSt l new s) (laneRegs l) := by
  by_cases h : s.laneSt l = new
  · rw [setLaneSt_same s l new h]
    exact fun _ _ => rfl
  · rw [setLaneSt_change s h]
    exact (s.setFld_regsBut _ _ _).trans (laneTell_regsBut _ _ _ _ _)

variable {l new}

theorem setLaneSt_laneSt (hl : l < 256) (hnew : new < 8) (k : Nat) :
    (setLaneSt l new s).laneSt k = if k = l then new else s.laneSt k := by
  by_cases h : s.laneSt l = new
  · rw [setLaneSt_same s l new h]
    split
    · next hk => rw [hk, h]
    · rfl
  · rw [setLaneSt_change s h, State.laneSt,
      State.fld_of_reg (laneTell_regsBut _ _ _ _ _ _ (LANE_STAT_not_told hl k))]
    split
    · next hk =>
      rw [hk, State.setFld_fld_same _ _ _ _ (by decide)]
      exact Nat.mod_eq_of_lt hnew
    · next hk => exact State.setFld_fld_ne _ _ _ (mt LANE_STAT_inj.mp hk) _

/-- A change of lane state leaves the configuration of every lane. -/
theorem setLaneSt_cfg (hl : l < 256) (k : Nat) : (setLaneSt l new s).reg (R.LANE_CFG k) = s.reg (R.LANE_CFG k) := by
  refine setLaneSt_regsBut s l new _ ?_
  rw [laneRegs_eq, List.mem_cons, not_or]
  exact ⟨by unfold R.LANE_CFG R.LANE_STAT; omega, LANE_CFG_not_told hl k⟩

theorem setLaneSt_stchg (hl : l < 256) (h : s.laneSt l ≠ new) :
    (setLaneSt l new s).flag (R.LANE_EVT l) F.LANE_EVT_STCHG = true := by
  rw [setLaneSt_change s h, State.flag, State.fld_of_reg (laneTell_evt _ _ _ _ hl),
    State.setFld_fld_same _ _ _ _ (by decide)]
  rfl

theorem setLaneSt_isPending (hl : l < 256) (h : s.laneSt l ≠ new) (hheard : s.laneHeard l) :
    (setLaneSt l new s).isPending (192 + l) = true := by
  rw [setLaneSt_change s h]
  exact laneTell_isPending _ _ _ _ hl (State.setFld_laneHeard hheard _ _ _)

end setLaneSt

/-! ### Endpoint 0 of a CASC lane comes up, R563 -/

/-- What the lock of a CASC lane makes of endpoint 0. -/
def cascUp (l : Nat) (s : State) : State := setEpSt l 0 2 (s.setReg (R.EP_SEQ l 0) 0)

section cascUp
variable (s) {l : Nat}

theorem setEpSt_change {e new : Nat} (h : s.epSt l e ≠ new) : setEpSt l e new s = laneTell l F.LANE_EVT_EPCHG 0x06
    [⟨8, l⟩, ⟨4, e⟩, ⟨2, s.epSt l e⟩, ⟨2, new⟩] ((s.setFld (R.EP_STAT l e) F.EP_STAT_STATE new).setEp l e
      { (s.setFld (R.EP_STAT l e) F.EP_STAT_STATE new).ep l e with noted := false }) := if_neg h

/-- Either endpoint 0 is up already, or its state changes and the lane's event tells so. -/
theorem cascUp_cases (l : Nat) : (s.epSt l 0 = 2 ∧ cascUp l s = s.setReg (R.EP_SEQ l 0) 0)
    ∨ ∃ u fs, cascUp l s = laneTell l F.LANE_EVT_EPCHG 0x06 fs u
      ∧ u.regs = ((s.setReg (R.EP_SEQ l 0) 0).setFld (R.EP_STAT l 0) F.EP_STAT_STATE 2).regs
      ∧ ∃ r y, u = { s with regs := r, lanes := y } := by
  have hne : R.EP_STAT l 0 ≠ R.EP_SEQ l 0 := by unfold R.EP_STAT R.EP_SEQ; omega
  have hep : (s.setReg (R.EP_SEQ l 0) 0).epSt l 0 = s.epSt l 0 := State.fld_of_reg (s.setReg_reg_ne hne _) _
  by_cases h : s.epSt l 0 = 2
  · exact .inl ⟨h, if_pos (hep.trans h)⟩
  · obtain ⟨_, hseq⟩ := s.setReg_rest (R.EP_SEQ l 0) 0
    obtain ⟨_, hstat⟩ := (s.setReg (R.EP_SEQ l 0) 0).setFld_rest (R.EP_STAT l 0) F.EP_STAT_STATE 2
    refine .inr ⟨_, _, setEpSt_change _ (by rwa [hep]), State.setLane_regs .., ?_⟩
    rw [State.setEp, State.setLane, hstat, hseq]
    exact ⟨_, _, rfl⟩

theorem cascUp_rest (l : Nat) : ∃ r c k y, cascUp l s = { s with regs := r, cores := c, cairn := k, lanes := y } := by
  rcases cascUp_cases s l with ⟨_, h⟩ | ⟨u, fs, h, _, _, _, hu⟩
  · exact ⟨_, _, _, _, h⟩
  · obtain ⟨_, _, _, htell⟩ := laneTell_rest u l F.LANE_EVT_EPCHG 0x06 fs
    rw [h, htell, hu]
    exact ⟨_, _, _, _, rfl⟩

theorem cascUp_regsBut (l : Nat) : s.regsBut (cascUp l s) (R.EP_SEQ l 0 :: R.EP_STAT l 0 :: laneTellRegs l) := by
  have hseq := s.setReg_regsBut (R.EP_SEQ l 0) 0
  rcases cascUp_cases s l with ⟨_, h⟩ | ⟨u, fs, h, hregs, _⟩
  · rw [h]
    exact hseq.mono (List.cons_subset_cons _ (List.nil_subset _))
  · rw [h]
    exact ((hseq.trans (State.setFld_regsBut _ _ _ _)).trans (State.regsBut_of_regs hregs [])).trans
      (laneTell_regsBut u l _ _ fs)

theorem cascUp_isPending {n : Nat} (hn : n < 1024) (h : s.isPending n = true) : (cascUp l s).isPending n = true := by
  have hseq : R.EVC_PEND (n / 32) ≠ R.EP_SEQ l 0 := by unfold R.EVC_PEND R.EP_SEQ; omega
  have hstat : R.EVC_PEND (n / 32) ≠ R.EP_STAT l 0 := by unfold R.EVC_PEND R.EP_STAT; omega
  rcases cascUp_cases s l with ⟨_, e⟩ | ⟨u, fs, e, hregs, _⟩
  · rw [e, ← h]
    unfold State.isPending State.regN
    rw [State.setReg_reg_ne _ hseq]
  · rw [e]
    refine laneTell_isPending_mono _ _ _ _ _ hn ?_
    rw [← h]
    unfold State.isPending State.regN
    rw [State.reg_congr hregs, State.setFld_reg_ne _ _ hstat, State.setReg_reg_ne _ hseq]

variable (hl : l < 256)
include hl

theorem cascUp_ep : (cascUp l s).epSt l 0 = 2 ∧ (cascUp l s).regN (R.EP_SEQ l 0) = 0 := by
  obtain ⟨hstat, hseq⟩ := EP_not_told hl
  have hne : R.EP_SEQ l 0 ≠ R.EP_STAT l 0 := by unfold R.EP_STAT R.EP_SEQ; omega
  rcases cascUp_cases s l with ⟨h2, h⟩ | ⟨u, fs, h, hregs, _⟩
  · rw [h, State.epSt, State.fld_of_reg (s.setReg_reg_ne hne.symm _), State.regN, State.setReg_reg_same]
    exact ⟨h2, rfl⟩
  · have htell := laneTell_regsBut u l F.LANE_EVT_EPCHG 0x06 fs
    rw [h, State.epSt, State.fld_of_reg (htell _ hstat), State.fld_congr hregs, State.setFld_fld_same _ _ _ _ (by decide),
      State.regN, htell _ hseq, State.reg_congr hregs, State.setFld_reg_ne _ _ hne, State.setReg_reg_same]
    exact ⟨rfl, rfl⟩

theorem cascUp_stchg (h : s.flag (R.LANE_EVT l) F.LANE_EVT_STCHG = true) :
    (cascUp l s).flag (R.LANE_EVT l) F.LANE_EVT_STCHG = true := by
  have hseq : R.LANE_EVT l ≠ R.EP_SEQ l 0 := by unfold R.LANE_EVT R.EP_SEQ; omega
  have hstat : R.LANE_EVT l ≠ R.EP_STAT l 0 := by unfold R.LANE_EVT R.EP_STAT; omega
  rw [← h]
  rcases cascUp_cases s l with ⟨_, e⟩ | ⟨u, fs, e, hregs, _⟩
  · rw [e]
    exact State.flag_of_reg (s.setReg_reg_ne hseq _) _
  · rw [e, State.flag, State.fld_of_reg (laneTell_evt _ _ _ _ hl),
      State.setFld_fld_other _ _ _ _ _ (by decide) (.inl (by decide))]
    refine State.flag_of_reg ?_ _
    rw [State.reg_congr hregs, State.setFld_reg_ne _ _ hstat, State.setReg_reg_ne _ hseq]

end cascUp

/-! ### Lock, R518 -/

/-- The state that lock brings: RETURN for a return lane, UP for the others. -/
def State.lockSt (s : State) (l : Nat) : Nat := if s.flag (R.LANE_CFG l) F.LANE_CFG_RET = true then 4 else 2

theorem State.lockSt_lt (s : State) (l : Nat) : s.lockSt l < 8 := by
  unfold State.lockSt
  split <;> decide

section laneLocked
variable (s) {l : Nat} (hl : l < 256)

theorem laneLocked_idle (h : s.laneSt l ≠ 1) : laneLocked l s = s := if_neg h

include hl

theorem laneLocked_train (h : s.laneSt l = 1) : laneLocked l s =
    if s.laneMode l = 6 then cascUp l (setLaneSt l (s.lockSt l) s) else setLaneSt l (s.lockSt l) s := by
  have hmode : (setLaneSt l (s.lockSt l) s).laneMode l = s.laneMode l := State.fld_of_reg (setLaneSt_cfg s hl l) _
  rw [← hmode]
  exact if_pos h

/-- A lane in TRAIN takes its state of lock; every other lane keeps its own. -/
theorem laneLocked_laneSt (k : Nat) : (laneLocked l s).laneSt k =
    if k = l then (if s.laneSt l = 1 then s.lockSt l else s.laneSt l) else s.laneSt k := by
  have hep : R.LANE_STAT k ∉ R.EP_SEQ l 0 :: R.EP_STAT l 0 :: laneTellRegs l := by
    rw [List.mem_cons, List.mem_cons, not_or, not_or]
    exact ⟨by unfold R.LANE_STAT R.EP_SEQ; omega, by unfold R.LANE_STAT R.EP_STAT; omega, LANE_STAT_not_told hl k⟩
  by_cases h : s.laneSt l = 1
  · have hset := setLaneSt_laneSt s hl (s.lockSt_lt l) k
    rw [laneLocked_train s hl h, if_pos h]
    split
    · rw [← hset]
      exact State.fld_of_reg (cascUp_regsBut _ l _ hep) _
    · exact hset
  · rw [laneLocked_idle s h, if_neg h]
    split
    · next hk => rw [hk]
    · rfl

theorem laneLocked_cfg (k : Nat) : (laneLocked l s).reg (R.LANE_CFG k) = s.reg (R.LANE_CFG k) := by
  have hep : R.LANE_CFG k ∉ R.EP_SEQ l 0 :: R.EP_STAT l 0 :: laneTellRegs l := by
    rw [List.mem_cons, List.mem_cons, not_or, not_or]
    exact ⟨by unfold R.LANE_CFG R.EP_SEQ; omega, by unfold R.LANE_CFG R.EP_STAT; omega, LANE_CFG_not_told hl k⟩
  by_cases h : s.laneSt l = 1
  · rw [laneLocked_train s hl h]
    split
    · rw [cascUp_regsBut _ l _ hep, setLaneSt_cfg s hl]
    · exact setLaneSt_cfg s hl k
  · rw [laneLocked_idle s h]

theorem laneLocked_rest : ∃ r c k y, laneLocked l s = { s with regs := r, cores := c, cairn := k, lanes := y } := by
  by_cases h : s.laneSt l = 1
  · obtain ⟨_, _, _, hset⟩ := setLaneSt_rest s l (s.lockSt l)
    rw [laneLocked_train s hl h]
    split
    · obtain ⟨_, _, _, _, hcasc⟩ := cascUp_rest (setLaneSt l (s.lockSt l) s) l
      rw [hcasc, hset]
      exact ⟨_, _, _, _, rfl⟩
    · exact ⟨_, _, _, _, hset⟩
  · exact ⟨_, _, _, _, laneLocked_idle s h⟩

end laneLocked

end Sys2Proof.Machine
end

section
/-! Lanes: lock of a lane and of an ETH100 port, loss of lock, recovery and UNREV (R518, R561, R562). -/

namespace Sys2Proof.Machine

variable (s : State)

/-! ### Lock of a single lane -/

section laneLock
variable {s} {l : Nat} (hl : l < 256)
include hl

/-- The lock of a lane in TRAIN: its new state, its event, and on a CASC lane endpoint 0 up. -/
theorem laneLocked_train_tells (h : s.laneSt l = 1) (hheard : s.laneHeard l) :
    (laneLocked l s).flag (R.LANE_EVT l) F.LANE_EVT_STCHG = true ∧ (laneLocked l s).isPending (192 + l) = true
    ∧ (s.laneMode l = 6 → (laneLocked l s).epSt l 0 = 2 ∧ (laneLocked l s).regN (R.EP_SEQ l 0) = 0) := by
  have hne : s.laneSt l ≠ s.lockSt l := by
    rw [h, State.lockSt]
    split <;> decide
  have hevt := setLaneSt_stchg s hl hne
  have hpend := setLaneSt_isPending s hl hne hheard
  rw [laneLocked_train s hl h]
  split
  · exact ⟨cascUp_stchg _ hl hevt, cascUp_isPending _ (by omega) hpend, fun _ => cascUp_ep _ hl⟩
  · next hmode => exact ⟨hevt, hpend, fun h6 => absurd h6 hmode⟩

theorem laneLocked_regsBut (h : s.laneSt l = 1) :
    s.regsBut (laneLocked l s) (R.EP_SEQ l 0 :: R.EP_STAT l 0 :: laneRegs l) := by
  have hset := setLaneSt_regsBut s l (s.lockSt l)
  rw [laneLocked_train s hl h]
  split
  · refine (hset.trans (cascUp_regsBut _ l)).mono (List.append_subset_of_subset_of_subset ?_ ?_)
    · exact List.subset_append_right [R.EP_SEQ l 0, R.EP_STAT l 0] _
    · exact List.cons_subset_cons _ (List.cons_subset_cons _ (List.subset_cons_self ..))
  · exact hset.mono (List.subset_append_right [R.EP_SEQ l 0, R.EP_STAT l 0] _)

theorem laneLocked_plain (h : s.laneSt l = 1) (hmode : s.laneMode l ≠ 6) :
    s.regsBut (laneLocked l s) (laneRegs l)
    ∧ laneLocked l s = { s with
        regs := (laneLocked l s).regs
        cores := (laneLocked l s).cores
        cairn := (laneLocked l s).cairn } := by
  obtain ⟨_, _, _, hset⟩ := setLaneSt_rest s l (s.lockSt l)
  rw [laneLocked_train s hl h, if_neg hmode]
  exact ⟨setLaneSt_regsBut s l _, by rw [hset]⟩

end laneLock

/-! ### Lock of an ETH100 port -/

/-- The four lanes of the port of lane l. -/
def portLanes (l : Nat) : List Nat := (List.range 4).map fun i => l / 4 * 4 + i

theorem mem_portLanes {l k : Nat} : k ∈ portLanes l ↔ k / 4 = l / 4 := by
  simp only [portLanes, List.mem_map, List.mem_range]
  constructor
  · rintro ⟨i, hi, rfl⟩
    omega
  · exact fun h => ⟨k % 4, Nat.mod_lt k (by decide), by omega⟩

theorem portLanes_nodup (l : Nat) : (portLanes l).Nodup :=
  List.nodup_range.map fun _ _ h => Nat.add_left_cancel h

theorem mem_portLanes_of_lt {l i : Nat} (h : i < 4) : l / 4 * 4 + i ∈ portLanes l :=
  List.mem_map_of_mem (List.mem_range.mpr h)

/-- The lock of a port of which a lane is OFF takes no lane on. -/
theorem laneLock_port_off {l : Nat} (hmode : s.laneMode l = 5) {i : Nat} (hi : i < 4)
    (hoff : s.laneSt (l / 4 * 4 + i) = 0) : laneLock l s = s := by
  have hall : ¬ ((portLanes l).all fun k => s.laneSt k != 0) = true := by
    intro hall
    simpa [hoff] using List.all_eq_true.mp hall _ (mem_portLanes_of_lt hi)
  unfold laneLock
  rw [if_pos hmode]
  exact if_neg hall

theorem laneLock_port_on {l : Nat} (hmode : s.laneMode l = 5) (hon : ∀ i, i < 4 → s.laneSt (l / 4 * 4 + i) ≠ 0) :
    laneLock l s = (portLanes l).foldl (fun s i => laneLocked i s) s := by
  have hall : ((portLanes l).all fun k => s.laneSt k != 0) = true := by
    refine List.all_eq_true.mpr fun k hk => bne_iff_ne.mpr ?_
    obtain ⟨i, hi, rfl⟩ := List.mem_map.mp hk
    exact hon i (List.mem_range.mp hi)
  unfold laneLock
  rw [if_pos hmode]
  exact if_pos hall

/-- A lane's state with whether it is a return lane. -/
def State.stRet (s : State) (l : Nat) : Nat × Bool := (s.laneSt l, s.flag (R.LANE_CFG l) F.LANE_CFG_RET)

/-- What lock makes of a lane's state. -/
def lockStRet (x : Nat × Bool) : Nat × Bool := (if x.1 = 1 then (if x.2 = true then 4 else 2) else x.1, x.2)

theorem laneLocked_stRet {l : Nat} (hl : l < 256) (k : Nat) :
    (laneLocked l s).stRet k = if k = l then lockStRet (s.stRet l) else s.stRet k := by
  unfold State.stRet
  rw [laneLocked_laneSt s hl, State.flag_of_reg (laneLocked_cfg s hl k)]
  split
  · next hk =>
    rw [hk]
    rfl
  · rfl

/-- Each lane of the port is as its own lock leaves it; the lanes of other ports keep their states. -/
theorem portLocked_stRet {l : Nat} (hl : l < 256) (k : Nat) :
    ((portLanes l).foldl (fun s i => laneLocked i s) s).stRet k =
      if k ∈ portLanes l then lockStRet (s.stRet k) else s.stRet k :=
  foldl_update_distinct State.stRet (fun s i => laneLocked i s) (fun _ => lockStRet) (portLanes_nodup l)
    (fun s i hi k => laneLocked_stRet s (by have := mem_portLanes.mp hi; omega) k) s k

/-- A lane of the port that is in TRAIN takes its state of lock. -/
theorem portLocked_train {l k : Nat} (hl : l < 256) (hk : k ∈ portLanes l) (h : s.laneSt k = 1) :
    ((portLanes l).foldl (fun s i => laneLocked i s) s).laneSt k = s.lockSt k := by
  have hst := portLocked_stRet s hl k
  rw [if_pos hk] at hst
  exact (congrArg Prod.fst hst).trans (if_pos h)

/-- A lane that is not in TRAIN, or not of the port, keeps its state. -/
theorem portLocked_kept {l k : Nat} (hl : l < 256) (h : s.laneSt k ≠ 1 ∨ k ∉ portLanes l) :
    ((portLanes l).foldl (fun s i => laneLocked i s) s).laneSt k = s.laneSt k := by
  have hst := portLocked_stRet s hl k
  split at hst
  · next hk => exact (congrArg Prod.fst hst).trans (if_neg (h.resolve_right (not_not_intro hk)))
  · exact congrArg Prod.fst hst

theorem portLocked_rest {l : Nat} (hl : l < 256) : ∃ r c k y, (portLanes l).foldl (fun s i => laneLocked i s) s =
    { s with regs := r, cores := c, cairn := k, lanes := y } := by
  refine List.foldlRecOn
    (motive := fun t : State => ∃ r c k y, t = { s with regs := r, cores := c, cairn := k, lanes := y }) _ _ ⟨_, _, _, _, rfl⟩ ?_
  intro t ht i hi
  obtain ⟨_, _, _, _, ht⟩ := ht
  obtain ⟨_, _, _, _, hlock⟩ := laneLocked_rest t (l := i) (by have := mem_portLanes.mp hi; omega)
  rw [hlock, ht]
  exact ⟨_, _, _, _, rfl⟩

/-! ### Loss of lock, R518 and R561 -/

/-- The state of a lane whose lock is lost, before its reversal starts. -/
def laneLost (l : Nat) (s : State) : State :=
  setLaneSt l 3 (s.setLane l { s.lane l with before := s.laneSt l, faultAt := s.tick })

/-- What the start of a reversal keeps of its ring's lane. -/
def Lane.reversing (y : Lane) (tick : Nat) : Lane :=
  { y with rev := some tick, revQuery := none, revReports := [], failed := [] }

section laneLost
variable {s} {l : Nat}

theorem laneLost_rest : ∃ r c k, laneLost l s =
    { s.setLane l { s.lane l with before := s.laneSt l, faultAt := s.tick } with regs := r, cores := c, cairn := k } :=
  setLaneSt_rest _ l 3

theorem laneLost_lane (k : Nat) : (laneLost l s).lane k =
    if k = l then { s.lane l with before := s.laneSt l, faultAt := s.tick } else s.lane k := by
  obtain ⟨_, _, _, h⟩ := laneLost_rest (s := s) (l := l)
  rw [← State.setLane_lane s l { s.lane l with before := s.laneSt l, faultAt := s.tick } k, h]
  rfl

theorem laneLost_regsBut : s.regsBut (laneLost l s) (laneRegs l) :=
  fun k hk => setLaneSt_regsBut _ l 3 k hk

variable (hl : l < 256)
include hl

theorem laneLost_laneSt (k : Nat) : (laneLost l s).laneSt k = if k = l then 3 else s.laneSt k :=
  setLaneSt_laneSt _ hl (by decide) k

theorem laneLost_returnOf : (laneLost l s).returnOf l = s.returnOf l := by
  have hcfg : (laneLost l s).reg (R.LANE_CFG l) = s.reg (R.LANE_CFG l) := setLaneSt_cfg _ hl l
  unfold State.returnOf
  rw [State.flag_of_reg hcfg, State.fld_of_reg hcfg]

variable (hup : s.laneSt l = 2 ∨ s.laneSt l = 4)
include hup

theorem laneLost_isPending (hheard : s.laneHeard l) : (laneLost l s).isPending (192 + l) = true :=
  setLaneSt_isPending _ hl (by rw [State.laneSt, State.setLane_fld]; unfold State.laneSt at hup; omega) hheard

theorem laneFault_plain (hret : s.returnOf l = none) : laneFault l s = laneLost l s := by
  unfold laneFault
  dsimp only
  rw [if_pos hup]
  refine if_neg ?_
  show ¬ ((laneLost l s).returnOf l).isSome = true
  rw [laneLost_returnOf hl, hret]
  exact Bool.false_ne_true

theorem laneFault_ring {r : Nat} (hret : s.returnOf l = some r) : laneFault l s = startReversal l [] (laneLost l s) := by
  unfold laneFault
  dsimp only
  rw [if_pos hup]
  refine if_pos ?_
  show ((laneLost l s).returnOf l).isSome = true
  rw [laneLost_returnOf hl, hret]
  rfl

end laneLost

/-- A reversal starts: the ring's lane keeps when, and a return lane in FAULT or RETURN sends a QUERY. -/
theorem startReversal_start {l r : Nat} (hret : s.returnOf l = some r) (hrev : (s.lane l).rev = none) :
    startReversal l [] s =
      if s.laneSt r = 3 ∨ s.laneSt r = 4 then
        pushCtl r { ty := 7, bc := true, sub := 0 } (s.setLane l ((s.lane l).reversing s.tick))
      else s.setLane l ((s.lane l).reversing s.tick) := by
  unfold startReversal
  rw [hret]
  dsimp only
  rw [hrev]
  rfl

/-- What the start of a reversal writes: the ring's lane and its return lane, and no register. -/
theorem startReversal_lanes {l r : Nat} (hret : s.returnOf l = some r) (hne : r ≠ l) (hrev : (s.lane l).rev = none) :
    (startReversal l [] s).regs = s.regs ∧ (startReversal l [] s).lane l = (s.lane l).reversing s.tick
    ∧ (s.laneSt r = 3 ∨ s.laneSt r = 4 →
        ((startReversal l [] s).lane r).ctl = (s.lane r).ctl ++ [{ ty := 7, bc := true, sub := 0 }])
    ∧ (¬ (s.laneSt r = 3 ∨ s.laneSt r = 4) → (startReversal l [] s).lane r = s.lane r)
    ∧ ∃ y, startReversal l [] s = { s with lanes := y } := by
  rw [startReversal_start s hret hrev]
  split
  · next hq => exact ⟨rfl, by simp [pushCtl, hne.symm], fun _ => by simp [pushCtl, hne], fun h => absurd hq h, _, rfl⟩
  · next hq => exact ⟨rfl, by simp, fun h => absurd h hq, fun _ => by simp [hne], _, rfl⟩

/-- Loss of lock with a ring: the registers are as the change of state leaves them, the lane keeps when its reversal began,
and a return lane in FAULT or RETURN has a QUERY to send. -/
theorem laneFault_ring_tells {l r : Nat} (hl : l < 256) (hup : s.laneSt l = 2 ∨ s.laneSt l = 4)
    (hret : s.returnOf l = some r) (hne : r ≠ l) (hrev : (s.lane l).rev = none) :
    (laneFault l s).regs = (laneLost l s).regs
    ∧ (laneFault l s).lane l = Lane.reversing { s.lane l with before := s.laneSt l, faultAt := s.tick } s.tick
    ∧ (s.laneSt r = 3 ∨ s.laneSt r = 4 →
        ((laneFault l s).lane r).ctl = (s.lane r).ctl ++ [{ ty := 7, bc := true, sub := 0 }])
    ∧ (¬ (s.laneSt r = 3 ∨ s.laneSt r = 4) → (laneFault l s).lane r = s.lane r)
    ∧ ∃ r c k y, laneFault l s = { s with regs := r, cores := c, cairn := k, lanes := y } := by
  have hlane : (laneLost l s).lane l = { s.lane l with before := s.laneSt l, faultAt := s.tick } :=
    (laneLost_lane l).trans (if_pos rfl)
  have hlaneR : (laneLost l s).lane r = s.lane r := (laneLost_lane r).trans (if_neg hne)
  have hstR : (laneLost l s).laneSt r = s.laneSt r := (laneLost_laneSt hl r).trans (if_neg hne)
  obtain ⟨_, _, _, hrest⟩ := laneLost_rest (s := s) (l := l)
  have htick : (laneLost l s).tick = s.tick := by rw [hrest, State.setLane_tick]
  obtain ⟨hregs, hself, hquery, hquiet, _, hframe⟩ := startReversal_lanes (laneLost l s)
    ((laneLost_returnOf hl).trans hret) hne (by rw [hlane]; exact hrev)
  rw [hlane, htick] at hself
  rw [hstR, hlaneR] at hquery hquiet
  rw [laneFault_ring hl hup hret]
  exact ⟨hregs, hself, hquery, hquiet, _, _, _, _, by rw [hframe, hrest]; rfl⟩

/-! ### UNREV, R562 -/

/-- An endpoint whose unacknowledged frames wait to be sent again. -/
def Endpt.resent (x : Endpt) : Endpt :=
  { x with unack := x.unack.map fun q => if q.dead then q else { q with again := true } }

/-- One endpoint moved back to its own lane. -/
def unrevEp (l : Nat) (s : State) (e : Nat) : State := resendAll l e (s.setFld (R.EP_STAT l e) F.EP_STAT_REV 0)

/-- Whether an endpoint is served through the return lane, and what the device holds of it. -/
def State.revEp (s : State) (l e : Nat) : Bool × Endpt := (s.epRev l e, s.ep l e)

theorem State.setEp_ep (l e : Nat) (x : Endpt) (k : Nat) :
    (s.setEp l e x).ep l k = if k = e then x else s.ep l k := by
  unfold State.ep State.setEp
  rw [State.setLane_lane, if_pos rfl]
  exact tget_tset ..

theorem unrevEp_revEp (l e k : Nat) :
    (unrevEp l s e).revEp l k = if k = e then (false, (s.ep l e).resent) else s.revEp l k := by
  have hep : (unrevEp l s e).ep l k = if k = e then (s.ep l e).resent else s.ep l k := State.setEp_ep _ l e _ k
  have hrev : (unrevEp l s e).epRev l k = (s.setFld (R.EP_STAT l e) F.EP_STAT_REV 0).epRev l k := rfl
  unfold State.revEp
  rw [hep, hrev, State.epRev, State.flag]
  split
  · next hk =>
    rw [hk, State.setFld_fld_same _ _ _ _ (by decide)]
    rfl
  · next hk =>
    rw [State.setFld_fld_ne _ _ _ (by unfold R.EP_STAT; omega)]
    rfl

/-- The endpoints of a lane that its return lane serves. -/
def State.reversed (s : State) (l : Nat) : List Nat := (List.range 16).filter (s.epRev l ·)

theorem State.mem_reversed {l e : Nat} : e ∈ s.reversed l ↔ e < 16 ∧ s.epRev l e = true := by
  rw [State.reversed, List.mem_filter, List.mem_range]

theorem unrev_up {l : Nat} (h : s.laneSt l = 2) : unrev l s = (s.reversed l).foldl (unrevEp l) s :=
  if_neg (not_not_intro h)

section unrev
variable (l : Nat)

theorem unrev_revEp (k : Nat) : ((s.reversed l).foldl (unrevEp l) s).revEp l k =
    if k ∈ s.reversed l then (false, (s.ep l k).resent) else s.revEp l k :=
  foldl_update_distinct (fun s => s.revEp l) (unrevEp l) (fun _ x => (false, x.2.resent))
    (List.nodup_range.filter _) (fun s e _ k => unrevEp_revEp s l e k) s k

/-- After UNREV no endpoint of the lane is served through the return lane. -/
theorem unrev_epRev {e : Nat} (he : e < 16) : ((s.reversed l).foldl (unrevEp l) s).epRev l e = false := by
  have hst := unrev_revEp s l e
  split at hst
  · exact congrArg Prod.fst hst
  · next hmem =>
    rw [s.mem_reversed, not_and] at hmem
    exact (congrArg Prod.fst hst).trans (eq_false_of_ne_true (hmem he))

theorem unrev_regsBut :
    s.regsBut ((s.reversed l).foldl (unrevEp l) s) ((List.range 16).map (R.EP_STAT l)) := by
  refine List.foldlRecOn (motive := fun t => s.regsBut t ((List.range 16).map (R.EP_STAT l))) _ _ (fun _ _ => rfl) ?_
  intro t ht e he k hk
  have hne : k ≠ R.EP_STAT l e := by
    rintro rfl
    exact hk (List.mem_map_of_mem (List.mem_range.mpr ((s.mem_reversed).mp he).1))
  exact (t.setFld_reg_ne F.EP_STAT_REV hne 0).trans (ht k hk)

theorem unrev_rest : ∃ r y, (s.reversed l).foldl (unrevEp l) s = { s with regs := r, lanes := y } := by
  refine List.foldlRecOn (motive := fun t : State => ∃ r y, t = { s with regs := r, lanes := y }) _ _ ⟨_, _, rfl⟩ ?_
  rintro _ ⟨_, _, rfl⟩ e -
  exact ⟨_, _, rfl⟩

end unrev

/-- A write of CMD.UNREV by the owner of the lane. -/
theorem exec_unrev_owned {l : Fin 256} {m : Fin 48} (h : s.ownsLane m l = true) :
    exec (.unrev l m) s = .next (unrev l s) := by
  rw [exec_unrev, execUnrev, laneCmdWrite, ownerWrite, if_pos h]
  rfl

/-- A write rejected with STATE changes the lane's STAT and the log only. -/
theorem laneStateReject_tells {l : Nat} (hl : l < 256) (off : Nat) :
    (laneStateReject l off s).flag (R.LANE_STAT l) F.LANE_STAT_STERR = true
    ∧ s.regsBut (laneStateReject l off s) [R.LANE_STAT l, R.CAIRN_DROPCNT]
    ∧ laneStateReject l off s =
      { s with regs := (laneStateReject l off s).regs, cairn := (laneStateReject l off s).cairn } := by
  have hdrop : R.LANE_STAT l ≠ R.CAIRN_DROPCNT := by unfold R.LANE_STAT R.CAIRN_DROPCNT; omega
  refine ⟨?_, (s.setFld_regsBut _ _ _).trans (logCairn_regsBut _ _ _ _), ?_⟩
  · rw [laneStateReject, State.flag_of_reg (logCairn_reg_ne _ _ _ _ hdrop), State.flag,
      State.setFld_fld_same _ _ _ _ (by decide)]
    rfl
  · obtain ⟨_, hset⟩ := s.setFld_rest (R.LANE_STAT l) F.LANE_STAT_STERR 1
    obtain ⟨_, _, hlog⟩ := logCairn_rest (s.setFld (R.LANE_STAT l) F.LANE_STAT_STERR 1) .link 0x01 [dfUnit 4 l, dfOff off]
    rw [laneStateReject, hlog, hset]

/-! ### The statement -/

/-- The lock of a lane that is not of an ETH100 port. -/
theorem laneLock_single {l : Nat} (hmode : s.laneMode l ≠ 5) : laneLock l s = laneLocked l s := if_neg hmode

theorem exec_laneRecover_due {l : Fin 256} (h : s.laneSt l = 3) (hdue : (s.lane l).faultAt + 100000 ≤ s.tick) :
    exec (.laneRecover l) s = .next (setLaneSt l (s.lane l).before s) := by
  rw [exec_laneRecover, execLaneRecover, if_pos ⟨h, hdue⟩, ok]

theorem exec_laneRecover_early {l : Fin 256} (h : s.tick < (s.lane l).faultAt + 100000) :
    exec (.laneRecover l) s = .next s := by
  rw [exec_laneRecover, execLaneRecover, if_neg (fun hdue => Nat.not_le.mpr h hdue.2), ok]

/-- Settles O30: lock, loss of lock and recovery are each one change of a lane's state, told by the lane's event; a port's
lock is that of its four lanes in turn, and UNREV takes each reversed endpoint in turn. -/
theorem laneStates : Obligations.LaneStates := by
  unfold Obligations.LaneStates
  refine ⟨fun l s h hmode hheard => ?_, fun l s hmode => ⟨fun ⟨i, hi, hoff⟩ => ?_, fun hon => ?_⟩,
    fun l s hup hheard => ⟨fun hret => ?_, fun r hret hne hrev => ?_⟩,
    fun l s h hbefore => ⟨fun hearly => exec_laneRecover_early s hearly, fun hdue hheard => ?_⟩,
    fun l m s hown => ⟨fun hup => ?_, fun hup => ?_⟩⟩
  · obtain ⟨hevt, hpend, hcasc⟩ := laneLocked_train_tells l.isLt h hheard
    obtain ⟨_, _, _, _, hrest⟩ := laneLocked_rest s l.isLt
    refine ⟨laneLocked l s, congrArg ok (laneLock_single s hmode), ?_, hevt, hpend, hcasc,
      laneLocked_regsBut l.isLt h, laneLocked_plain l.isLt h, by rw [hrest]⟩
    rw [laneLocked_laneSt s l.isLt, if_pos rfl, if_pos h]
    rfl
  · exact congrArg ok (laneLock_port_off s hmode hi hoff)
  · obtain ⟨_, _, _, _, hrest⟩ := portLocked_rest s l.isLt
    exact ⟨_, congrArg ok (laneLock_port_on s hmode hon),
      fun i hi htrain => portLocked_train s l.isLt (mem_portLanes_of_lt hi) htrain,
      fun i hi => portLocked_kept s l.isLt (hi.imp_right (mt mem_portLanes.mp)), by rw [hrest]⟩
  · obtain ⟨_, _, _, hrest⟩ := laneLost_rest (s := s) (l := l)
    exact ⟨laneLost l s, congrArg ok (laneFault_plain l.isLt hup hret), (laneLost_laneSt l.isLt l).trans (if_pos rfl),
      (laneLost_lane l.val).trans (if_pos rfl), fun i hi => (laneLost_lane i).trans (if_neg hi),
      laneLost_isPending l.isLt hup hheard, laneLost_regsBut, by rw [hrest]; rfl⟩
  · obtain ⟨hregs, hself, hquery, hquiet, _, _, _, _, hrest⟩ := laneFault_ring_tells s l.isLt hup hret hne hrev
    exact ⟨laneFault l s, rfl,
      (State.fld_congr hregs _ _).trans ((laneLost_laneSt l.isLt l).trans (if_pos rfl)), congrArg Lane.before hself,
      congrArg Lane.faultAt hself, congrArg Lane.rev hself, congrArg Lane.revQuery hself,
      congrArg Lane.revReports hself, congrArg Lane.failed hself, hquery, fun h3 h4 => hquiet (not_or.mpr ⟨h3, h4⟩),
      fun k hk => (State.reg_congr hregs k).trans (laneLost_regsBut k hk), by rw [hrest]⟩
  · have hne : s.laneSt l ≠ (s.lane l).before := by omega
    obtain ⟨_, _, _, hrest⟩ := setLaneSt_rest s l (s.lane l).before
    exact ⟨_, exec_laneRecover_due s h hdue, (setLaneSt_laneSt s l.isLt (by omega) l).trans (if_pos rfl),
      setLaneSt_isPending s l.isLt hne hheard, setLaneSt_regsBut s l _, by rw [hrest]⟩
  · obtain ⟨_, _, hrest⟩ := unrev_rest s l
    refine ⟨_, (exec_unrev_owned s hown).trans (congrArg Host.Outcome.next (unrev_up s hup)), fun e he => ?_,
      fun e he hrev => ?_, unrev_regsBut s l, by rw [hrest]⟩
    · exact unrev_epRev s l he
    · have hmem := (s.mem_reversed).mpr ⟨he, hrev⟩
      exact congrArg (fun x => x.2.unack) ((unrev_revEp s l e).trans (if_pos hmem))
  · obtain ⟨hset, hregs, hframe⟩ := laneStateReject_tells s l.isLt (R.LANE_CMD l)
    exact ⟨_, (exec_unrev_owned s hown).trans (congrArg Host.Outcome.next (if_pos hup)), hset, hregs, hframe⟩

end Sys2Proof.Machine
end

section
/-! Accesses to stored words (R53 to R57, R62, R196, R306, R343): what an access that is performed at once leaves, and
the rotation of a chamber's ports. -/

namespace Sys2Proof.Machine

/-! ### An access that is performed at once -/

/-- The port that has granted a master last granted it. -/
theorem State.granted_last (s : State) (t m : Nat) : ((s.granted t m).port t).last = some m := by
  simp [State.granted, State.setPort, State.port]

/-- Storing a word changes memory only. -/
theorem State.putWord_rest (s : State) (w : Nat) (x : Word) : ∃ k, s.putWord w x = { s with mem := k } := ⟨_, rfl⟩

section performs
variable {s : State} {m a : Nat} (h : s.performs m a = true)
include h

/-- Nothing stands between the master and the target. -/
theorem performs_reach : hasPath m (targetOf a) = true ∧ s.junc.isolated = false ∧ s.lockedBy (a / 4) = none
    ∧ s.pathDown (s.masterDie m a) (dieOfTarget (targetOf a)) = false ∧ s.turn m = true := by
  simp only [State.performs, Bool.and_eq_true, Bool.not_eq_true', Option.isNone_iff_eq_none] at h
  obtain ⟨⟨⟨⟨⟨_, hpath⟩, hiso⟩, hlock⟩, hup⟩, hturn⟩ := h
  exact ⟨hpath, hiso, hlock, hup, hturn⟩

theorem performs_stores : (targetOf a).stores = true := by
  simp only [State.performs, Bool.and_eq_true] at h
  obtain ⟨⟨⟨⟨⟨htarget, _⟩, _⟩, _⟩, _⟩, _⟩ := h
  cases ht : targetOf a <;> simp_all [Target.stores]

theorem performs_portOf : s.portOf m a = targetOf a := by
  obtain ⟨hpath, hiso, _⟩ := performs_reach h
  simp [State.portOf, hpath, hiso]

/-- Its target takes it: the access is the storage operation, once the gallery port has had its turn. -/
theorem storageAccess_performs (op : JOp) :
    storageAccess false m a op s = (.done (storageOp m a op (s.presented a op.writes)).1,
      (storageOp m a op (s.presented a op.writes)).2) := by
  obtain ⟨_, _, hlock, _⟩ := performs_reach h
  simp only [State.performs, Bool.and_eq_true] at h
  obtain ⟨⟨⟨⟨⟨htarget, _⟩, _⟩, _⟩, _⟩, _⟩ := h
  cases ht : targetOf a with
  | hbm st =>
    simp only [ht, Bool.and_eq_true, Bool.not_eq_true'] at htarget
    obtain ⟨hwait, hquiet⟩ := htarget
    simp [storageAccess, hlock, ht, hwait, hquiet, State.presented]
  | cham n =>
    simp only [ht, decide_eq_true_eq] at htarget
    simp [storageAccess, hlock, ht, State.presented, Nat.not_le.mpr htarget]
  | lbuf k => simp [storageAccess, hlock, ht, State.presented]
  | _ => simp [ht] at htarget

/-- A sample store is performed at every address, aligned or not. -/
theorem busAccess_sample (ra : Nat → Level → Nat → JOp → State → Ans × State) (lv : Level) (v : BitVec 12)
    (se ep : Bool) :
    busAccess ra m lv a (.samp v) s se ep = (.done (storageOp m a (.samp v) (s.presented a true)).1,
      (storageOp m a (.samp v) (s.presented a true)).2.granted (targetOf a).id m) := by
  obtain ⟨hpath, hiso, _, hup, _⟩ := performs_reach h
  have hstores := performs_stores h
  have haccess : storageAccess false m a (.samp v) s = (.done (storageOp m a (.samp v) (s.presented a true)).1,
      (storageOp m a (.samp v) (s.presented a true)).2) := storageAccess_performs h (.samp v)
  have hperf : busPerform ra m lv a (.samp v) s se ep = storageAccess false m a (.samp v) s := by
    unfold busPerform
    cases ht : targetOf a <;> simp_all [Target.stores, State.performs]
  unfold busAccess
  simp [hperf, haccess, s.performs_free m a _ h, performs_portOf h, storageOp_status]

/-- A master's access is answered by the storage operation, once it has been presented to its target. -/
theorem storageRow_performs {op : JOp} (hal : a % 4 = 0 ∨ ∃ v, op = .samp v) :
    storageRow m a op s = .next (respond m a op.writes (evalAddr m a) (storageOp m a op (s.presented a op.writes)).1
      ((storageOp m a op (s.presented a op.writes)).2.granted (targetOf a).id m)) := by
  obtain ⟨_, _, _, _, hturn⟩ := performs_reach h
  have hacc : memAccess m .u a op s = (.done (storageOp m a op (s.presented a op.writes)).1,
      (storageOp m a op (s.presented a op.writes)).2.granted (targetOf a).id m) := by
    rcases hal with hal | ⟨v, rfl⟩
    · exact busAccess_performs noReg m .u a op s false false h hal
    · exact busAccess_sample h noReg .u v false false
  simp [storageRow, State.turn_not_barred hturn, performs_stores h, hacc, ok]

/-- What answering leaves, where the operation has changed at most a word and what the presentation changes. -/
theorem answered_granted {u : State} {w : Nat} (r : Ans) (wr : Bool) (hbut : s.sameBut u w)
    (hrest : u = { s with mem := u.mem, fresh := u.fresh, chams := u.chams }) :
    s.answered (respond m a wr (evalAddr m a) r (u.granted (targetOf a).id m)) m a r.st r.w wr w := by
  refine ⟨hbut, ?_, ?_, ?_⟩
  · rw [hrest]
    rfl
  · rw [performs_portOf h]
    exact u.granted_last _ m
  · rw [hrest]
    rfl

/-- An operation that stores the word y and answers r. -/
theorem storageRow_stores {op : JOp} (hal : a % 4 = 0 ∨ ∃ v, op = .samp v) {y : Word} {r : Ans}
    (hop : storageOp m a op (s.presented a op.writes) = (r, (s.presented a op.writes).putWord (a / 4) y)) :
    ∃ t, storageRow m a op s = .next t ∧ t.cont (a / 4) = encodeWord y
      ∧ s.answered t m a r.st r.w op.writes (a / 4) := by
  obtain ⟨f, c, hpres⟩ := s.presented_rest a op.writes
  have hrow := storageRow_performs h hal
  rw [hop] at hrow
  refine ⟨_, hrow, ?_, answered_granted h r _ (fun i hi => ?_) ?_⟩
  · have hmem : (respond m a op.writes (evalAddr m a) r
        (((s.presented a op.writes).putWord (a / 4) y).granted (targetOf a).id m)).mem
        = ((s.presented a op.writes).putWord (a / 4) y).mem := by rw [respond_mem, State.granted_mem]
    rw [State.cont_congr hmem, State.putWord, State.setCont_cont _ _ _ _ (performs_notRom s m a h), if_pos rfl]
  · rw [State.putWord, State.setCont_bytes _ _ _ _ hi, State.presented_mem]
  · obtain ⟨k, hput⟩ := (s.presented a op.writes).putWord_rest (a / 4) y
    rw [hput, hpres]

/-- An operation that changes no word and answers r. -/
theorem storageRow_keeps {op : JOp} (hal : a % 4 = 0 ∨ ∃ v, op = .samp v) {r : Ans}
    (hop : storageOp m a op (s.presented a op.writes) = (r, s.presented a op.writes)) :
    ∃ t, storageRow m a op s = .next t ∧ t.mem = s.mem ∧ s.answered t m a r.st r.w op.writes (a / 4) := by
  obtain ⟨f, c, hpres⟩ := s.presented_rest a op.writes
  have hrow := storageRow_performs h hal
  rw [hop] at hrow
  refine ⟨_, hrow, ?_, answered_granted h r _ (fun i _ => ?_) ?_⟩
  · exact s.presented_mem a op.writes
  · rw [State.presented_mem]
  · rw [hpres]

end performs

/-! ### What the storage operation makes of a clean word -/

section clean
variable {s : State} {a : Nat} {x : Word} (m : Nat) (hx : decodeContainer (s.cont (a / 4)) = .clean x)
include hx

theorem storageOp_rd_clean : storageOp m a .rd s = ({ st := .ok, w := x }, s) := by
  simp [storageOp, readWordAt, hx]

theorem storageOp_samp_quad (v : BitVec 12) (htag : x.tag = Tags.quad) :
    storageOp m a (.samp v) s = ({ st := .ok }, s.putWord (a / 4)
      ⟨Tags.quad, BitVec.ofNat 48 (setBits x.pay.toNat (12 * (a % 4)) 12 v.toNat)⟩) := by
  simp [storageOp, rmw, readWordAt, hx, rmwOn, htag, JOp.isPteupd]

theorem storageOp_samp_refused (v : BitVec 12) (htag : x.tag ≠ Tags.quad) :
    storageOp m a (.samp v) s = ({ st := .tref, found := some x.tag }, s) := by
  simp [storageOp, rmw, readWordAt, hx, rmwOn, htag, JOp.isPteupd]

theorem storageOp_field_same_tag (w : Word) (mask et : Nat) (htag : x.tag = w.tag) :
    storageOp m a (.field w mask et) s = ({ st := .ok }, s.putWord (a / 4)
      ⟨x.tag, BitVec.ofNat 48 (mergeFields et mask x.pay.toNat w.pay.toNat)⟩) := by
  simp [storageOp, rmw, readWordAt, hx, rmwOn, htag, JOp.isPteupd]

end clean

/-! ### The ports of a chamber, R306 -/

theorem State.galPort_chamber (s : State) (n k : Nat) : (s.galPort n).2.chamber k = s.chamber k := by
  obtain ⟨f, h⟩ := s.galPort_rest n
  rw [h]
  rfl

theorem State.setChamber_chamber_same (s : State) (n : Nat) (x : Chamber) : (s.setChamber n x).chamber n = x :=
  tget_tset_same ..

section chamberGclk
variable {n sa : Nat} {wr : Bool} {s : State}

/-- In a conflict the rotation bit says who is served, and changes sides. -/
theorem chamberGclk_conflict (h : (s.galPort n).1.conflicts wr sa = true) :
    (chamberGclk n sa wr s).1 = (s.chamber n).rot ∧ ((chamberGclk n sa wr s).2.chamber n).rot = !(s.chamber n).rot := by
  simp [chamberGclk, h, State.setChamber_chamber_same, State.galPort_chamber]

theorem chamberGclk_free (h : (s.galPort n).1.conflicts wr sa = false) : (chamberGclk n sa wr s).1 = true := by
  simp [chamberGclk, h]

/-- The port that the rotation bit favours is served, in a conflict or not. -/
theorem chamberGclk_favoured (h : (s.chamber n).rot = true) : (chamberGclk n sa wr s).1 = true := by
  cases hc : (s.galPort n).1.conflicts wr sa with
  | true => exact (chamberGclk_conflict hc).1.trans h
  | false => exact chamberGclk_free hc

/-- An access that is not served has lost a conflict, and is favoured from then on. -/
theorem chamberGclk_lost (h : (chamberGclk n sa wr s).1 = false) :
    ((chamberGclk n sa wr s).2.chamber n).rot = true := by
  cases hc : (s.galPort n).1.conflicts wr sa with
  | true =>
    obtain ⟨hserved, hrot⟩ := chamberGclk_conflict hc
    rw [hrot, ← hserved, h]
    rfl
  | false => exact absurd ((chamberGclk_free hc).symm.trans h) (by decide)

end chamberGclk

/-- Settles O18: each access is the storage operation on the word, and a master is answered with what it gives; a port
that loses a conflict holds the rotation bit in the next GCLK. -/
theorem wordAccesses : Obligations.WordAccesses := by
  unfold Obligations.WordAccesses
  refine ⟨fun m a w s h hal => ?_, fun m a x s h hal => ⟨fun hx => ?_, fun hx => ?_, fun hx => ?_⟩,
    fun m a v x s h hx => ⟨fun htag => ?_, fun htag => ?_⟩, fun m a w x mask et s h hal hx htag => ?_,
    fun n sa wr s hc => ?_, fun n a wr s hlost => chamberGclk_favoured (chamberGclk_lost hlost)⟩
  · exact storageRow_stores h (.inl hal) (op := .wr w) rfl
  · exact storageRow_keeps h (.inl hal) (storageOp_rd_clean m (by rwa [State.presented_cont]))
  · refine (storageRow_performs h (.inl hal) (op := .rd)).trans ?_
    simp [storageOp, readWordAt, hx, JOp.writes]
  · refine (storageRow_performs h (.inl hal) (op := .rd)).trans ?_
    simp [storageOp, readWordAt, hx, JOp.writes, noteUncorrectable, dfAddr, dfMaster, respond]
  · exact storageRow_stores h (.inr ⟨v, rfl⟩) (storageOp_samp_quad m (by rwa [State.presented_cont]) v htag)
  · exact storageRow_keeps h (.inr ⟨v, rfl⟩) (storageOp_samp_refused m (by rwa [State.presented_cont]) v htag)
  · exact storageRow_stores h (.inl hal) (op := .field w mask.toNat et.toNat)
      (storageOp_field_same_tag m (by rwa [State.presented_cont]) w _ _ htag)
  · rw [State.galPort_chamber]
    exact chamberGclk_conflict hc

end Sys2Proof.Machine
end

section
/-! Registers of a Lantern core after writes, and results in flight until they land (R379 to R386, R424 to R428). -/

namespace Sys2Proof.Machine

/-! ### Registers after writes -/

theorem Core.putW_wAt (c : Core) (i : Nat) (x : Word) (k : Nat) :
    (c.putW i x).wAt k = if k = i ∧ i ≠ 0 then x else c.wAt k := by
  unfold Core.putW Core.wAt
  by_cases hi : i = 0
  · simp [hi]
  · by_cases hk : k = i
    · subst hk
      simp [hi]
    · simp [hi, hk, tget_tset_ne]

/-- A write of a general register changes the general registers only. -/
theorem Core.putW_rest (c : Core) (i : Nat) (x : Word) : ∃ w, c.putW i x = { c with w := w } := by
  unfold Core.putW
  split
  · exact ⟨c.w, rfl⟩
  · exact ⟨_, rfl⟩

theorem Core.putSr_srW (c : Core) (i : Nat) (x : Word) (k : Nat) :
    (c.putSr i x).srW k = if k = i then x else c.srW k := tget_tset ..

theorem Core.srN_lt (c : Core) (k : Nat) : c.srN k < 2 ^ 48 := (c.srW k).pay.isLt

theorem Core.sameRegs.refl (c : Core) : c.sameRegs c :=
  ⟨fun _ => rfl, fun _ _ => rfl, fun _ => rfl, fun _ _ => rfl, rfl⟩

theorem Core.sameRegs.trans {c d e : Core} (h : c.sameRegs d) (h' : d.sameRegs e) : c.sameRegs e := by
  obtain ⟨hw, hv, hb, hsr, hfp⟩ := h
  obtain ⟨hw', hv', hb', hsr', hfp'⟩ := h'
  exact ⟨fun k => (hw' k).trans (hw k), fun r k => (hv' r k).trans (hv r k), fun k => (hb' k).trans (hb k),
    fun k hk => (hsr' k hk).trans (hsr k hk), hfp'.trans hfp⟩

theorem Core.putSr_sameRegs {c d : Core} (h : c.sameRegs d) (i : Nat) (x : Word) :
    (c.putSr i x).sameRegs (d.putSr i x) := by
  obtain ⟨hw, hv, hb, hsr, hfp⟩ := h
  refine ⟨hw, hv, hb, fun k hk => ?_, ?_⟩
  · rw [Core.putSr_srW, Core.putSr_srW, hsr k hk]
  · unfold Core.srN at hfp ⊢
    rw [Core.putSr_srW, Core.putSr_srW]
    split
    · rfl
    · exact hfp

/-- Cores with the same registers keep them the same under one write. -/
theorem RegWr.land_sameRegs {c d : Core} (h : c.sameRegs d) (x : RegWr) : (x.land c).sameRegs (x.land d) := by
  cases x with
  | w i x =>
    obtain ⟨hw, hv, hb, hsr, hfp⟩ := h
    obtain ⟨_, hc⟩ := c.putW_rest i x
    obtain ⟨_, hd⟩ := d.putW_rest i x
    refine ⟨fun k => ?_, ?_⟩
    · rw [RegWr.land, RegWr.land, Core.putW_wAt, Core.putW_wAt, hw]
    · rw [RegWr.land, RegWr.land, hc, hd]
      exact ⟨hv, hb, hsr, hfp⟩
  | v i x =>
    obtain ⟨hw, hv, hb, hsr, hfp⟩ := h
    refine ⟨hw, fun r k => ?_, hb, hsr, hfp⟩
    have := hv r k
    simp only [RegWr.land, Core.getV, tget_tset] at this ⊢
    rw [this]
  | b i x =>
    obtain ⟨hw, hv, hb, hsr, hfp⟩ := h
    refine ⟨hw, hv, fun k => ?_, hsr, hfp⟩
    have := hb k
    simp only [RegWr.land, Core.getB, tget_tset] at this ⊢
    rw [this]
  | sr i x => exact Core.putSr_sameRegs h i x

theorem landWrites_sameRegs {c d : Core} (h : c.sameRegs d) (ws : List RegWr) :
    (landWrites ws c).sameRegs (landWrites ws d) := by
  induction ws generalizing c d with
  | nil => exact h
  | cons x ws ih => exact ih (x.land_sameRegs h)

theorem Core.addFlags_sameRegs {c d : Core} (h : c.sameRegs d) (f : Flg) : (c.addFlags f).sameRegs (d.addFlags f) := by
  have hfp : d.srN 19 = c.srN 19 := by
    obtain ⟨_, _, _, _, hfp⟩ := h
    exact hfp
  unfold Core.addFlags Core.setSr
  rw [hfp]
  exact Core.putSr_sameRegs h _ _

/-- No flags leave FPCFG's payload as it is. -/
theorem Core.addFlags_none (c : Core) : c.sameRegs (c.addFlags {}) := by
  refine ⟨fun _ => rfl, fun _ _ => rfl, fun _ => rfl, fun k hk => ?_, ?_⟩
  · exact (c.putSr_srW 19 _ k).trans (if_neg hk)
  · have hpay : c.srN 19 ||| Flg.toNat {} * 256 = c.srN 19 := Nat.or_zero _
    rw [Core.addFlags, hpay, Core.srN, Core.setSr, Core.putSr_srW, if_pos rfl]
    exact (BitVec.toNat_ofNat ..).trans (Nat.mod_eq_of_lt (c.srN_lt 19))

/-! ### Results in flight -/

/-- A core without what an instruction that only writes registers may move. -/
def Core.frame (c : Core) : Core :=
  { c with pc := 0, w := [], v := [], b := [], sr := [], entered := none, fbuf := [], inflight := [], slot0 := none,
           divLeft := 0 }

theorem RegWr.land_frame (x : RegWr) (c : Core) :
    (x.land c).frame = c.frame ∧ (x.land c).inflight = c.inflight ∧ (x.land c).branches = c.branches
      ∧ (x.land c).divLeft = c.divLeft := by
  cases x with
  | w i x =>
    obtain ⟨_, hc⟩ := c.putW_rest i x
    rw [RegWr.land, hc]
    exact ⟨rfl, rfl, rfl, rfl⟩
  | _ => exact ⟨rfl, rfl, rfl, rfl⟩

theorem landWrites_frame (ws : List RegWr) (c : Core) :
    (landWrites ws c).frame = c.frame ∧ (landWrites ws c).divLeft = c.divLeft := by
  induction ws generalizing c with
  | nil => exact ⟨rfl, rfl⟩
  | cons x ws ih =>
    obtain ⟨hframe, _, _, hdiv⟩ := x.land_frame c
    obtain ⟨ihframe, ihdiv⟩ := ih (x.land c)
    exact ⟨ihframe.trans hframe, ihdiv.trans hdiv⟩

/-- Core x holds the results of an instruction that has issued on core c: they land at the end of k advancing cycles. -/
def Core.dueIn (c : Core) (ws : List RegWr) (fl : Flg) : Nat → Core → Prop
  | 0, x => x.frame = c.frame ∧ x.inflight = [] ∧ x.slot0 = none ∧ x.divLeft = 0
      ∧ ((landWrites ws c).addFlags fl).sameRegs x
  | k + 1, x => x.frame = c.frame ∧ x.inflight = [⟨k + 1, ws, fl⟩] ∧ x.divLeft ≤ k + 1 ∧ c.sameRegs x

section dueIn
variable {c x : Core} {ws : List RegWr} {fl : Flg} (hb : c.branches = [])

/-- Only the registers, the frame and the cycles that are left decide it. -/
theorem Core.dueIn_congr {y : Core} {k : Nat} (h : c.dueIn ws fl k x) (hframe : y.frame = x.frame)
    (hfl : y.inflight = x.inflight) (hslot : y.slot0 = x.slot0) (hdiv : y.divLeft = x.divLeft) (hregs : x.sameRegs y) :
    c.dueIn ws fl k y := by
  cases k with
  | zero =>
    obtain ⟨h1, h2, h3, h4, h5⟩ := h
    exact ⟨hframe.trans h1, hfl.trans h2, hslot.trans h3, hdiv.trans h4, h5.trans hregs⟩
  | succ k =>
    obtain ⟨h1, h2, h3, h4⟩ := h
    exact ⟨hframe.trans h1, hfl.trans h2, hdiv.trans_le h3, h4.trans hregs⟩

theorem Core.busy_dueIn {k : Nat} (h : c.dueIn ws fl k x) : x.busy = k := by
  cases k with
  | zero =>
    obtain ⟨_, hfl, _⟩ := h
    simp [Core.busy, hfl]
  | succ k =>
    obtain ⟨_, hfl, _⟩ := h
    simp [Core.busy, hfl]

include hb

/-- An advancing cycle brings them one cycle nearer, and lands them at the end of the last. -/
theorem Core.endCycle_dueIn {k : Nat} (h : c.dueIn ws fl (k + 1) x) : c.dueIn ws fl k x.endCycle := by
  obtain ⟨hframe, hfl, hdiv, hregs⟩ := h
  have hbr : x.branches = [] := (congrArg Core.branches hframe).trans hb
  cases k with
  | zero =>
    have hend : x.endCycle = { ((landWrites ws x).addFlags fl) with
        inflight := [], branches := x.branches, slot0 := none, divLeft := (landWrites ws x).divLeft - 1 } := by
      simp only [Core.endCycle, hfl, hbr, resolveDue, landDue]
      rfl
    obtain ⟨hframe', hdiv'⟩ := landWrites_frame ws x
    rw [hend, hdiv']
    exact ⟨(congrArg (fun z : Core => { z with branches := x.branches }) hframe').trans hframe, rfl, rfl,
      Nat.sub_eq_zero_of_le hdiv, Core.addFlags_sameRegs (landWrites_sameRegs hregs ws) fl⟩
  | succ k =>
    have hend : x.endCycle = { (x.addFlags {}) with
        inflight := [⟨k + 1, ws, fl⟩], branches := x.branches, slot0 := none, divLeft := x.divLeft - 1 } := by
      simp only [Core.endCycle, hfl, hbr, resolveDue, landDue]
      rfl
    rw [hend]
    exact ⟨hframe, rfl, Nat.sub_le_of_le_add hdiv, hregs.trans x.addFlags_none⟩

/-- Once every result has landed, they have. -/
theorem Core.landAll_dueIn {k : Nat} (h : c.dueIn ws fl k x) : c.dueIn ws fl 0 x.landAll := by
  unfold Core.landAll
  rw [Core.busy_dueIn h]
  induction k generalizing x with
  | zero => exact h
  | succ k ih => exact ih (Core.endCycle_dueIn hb h)

end dueIn

/-! ### An instruction on a core with an empty pipeline -/

/-- Nothing of an earlier instruction is left in a core. -/
structure Core.idle (c : Core) : Prop where
  delay : c.delay = none
  slot0 : c.slot0 = none
  inflight : c.inflight = []
  statPend : c.statPend = []
  branches : c.branches = []
  atBoundary : c.atBoundary = []
  ucHeld : c.ucHeld = []
  resume : c.resume = none
  divLeft : c.divLeft = 0

section idle
variable {c : Core} (h : c.idle)
include h

/-- What lands on an idle core leaves all else as it was. -/
theorem Core.idle.restSame_of_landed {ws : List RegWr} {fl : Flg} {x : Core} (hx : c.dueIn ws fl 0 x) :
    c.restSame x := by
  obtain ⟨hframe, hfl, hslot, hdiv, _⟩ := hx
  have hall : x = { x.frame with
      pc := x.pc, w := x.w, v := x.v, b := x.b, sr := x.sr, entered := x.entered, fbuf := x.fbuf
      inflight := c.inflight, slot0 := c.slot0, divLeft := c.divLeft } := by
    rw [h.inflight, h.slot0, h.divLeft, ← hfl, ← hslot, ← hdiv]
    rfl
  rw [hframe] at hall
  exact hall

/-- The frame of an issued instruction: its results are due, whether its cycle has ended or stays open. -/
theorem Core.idle.issue_dueIn {k : Kind} (hk : k.alone = false) {e : Eff} (hocc : e.occ = 1) (hdist : 1 ≤ e.dist)
    (seq : Nat) (endsT : Bool) : ∃ j, c.dueIn e.writes e.flags j (c.issue k seq endsT e).1 := by
  obtain ⟨j, hj⟩ := Nat.exists_eq_add_of_le' hdist
  have hdue (sl : Option Slot0) : c.dueIn e.writes e.flags (j + 1) { c with
      inflight := [⟨j + 1, e.writes, e.flags⟩]
      slot0 := sl
      divLeft := if k.unit = UnitKind.div then j + 1 else 0 } :=
    ⟨rfl, rfl, by dsimp only; split <;> omega, Core.sameRegs.refl c⟩
  cases hdet : c.det with
  | true =>
    refine ⟨j, ?_⟩
    simp only [Core.issue, h.slot0, h.inflight, h.divLeft, hocc, hj, hk, hdet, Nat.sub_self, Nat.zero_add]
    exact Core.endCycle_dueIn h.branches (hdue none)
  | false =>
    refine ⟨j + 1, ?_⟩
    simp only [Core.issue, h.slot0, h.inflight, h.divLeft, hocc, hj, hk, hdet, Nat.sub_self, Nat.zero_add, or_self]
    exact hdue _

/-- No STAT change is due. -/
theorem Core.idle.dueStat : c.dueStat = c := by
  unfold Core.dueStat
  rw [h.statPend]
  exact congrArg (fun l => { c with statPend := l }) h.statPend.symm

/-- The next instruction issues in the cycle that is open. -/
theorem Core.idle.slotFor (k : Kind) : c.slotFor k = (c, 0) := by
  have hholds : c.holds k = 0 := by simp [Core.holds, h.divLeft, h.branches]
  have hpairs : c.pairs k = false := by simp [Core.pairs, h.slot0]
  simp [Core.slotFor, hpairs, hholds, h.slot0, Core.cycles]

end idle

theorem loopCheck_none {c : Core} {t k : Nat} (h : ∀ j, j < k → c.le j ≠ t) : loopCheck t k c = (c, t) := by
  cases k with
  | zero => rfl
  | succ k => exact if_neg (h k (Nat.lt_succ_self k)).symm

end Sys2Proof.Machine
end

section
/-! How a Lantern instruction issues on a core that is ready for it, and what it leaves once it has completed (R391,
R422 to R446, R452). -/

namespace Sys2Proof.Machine

/-! ### A core that is ready -/

theorem State.clear_idle {s : State} {n sz : Nat} (h : s.clear n sz = true) : (s.core n).idle := by
  simp only [State.clear, Bool.and_eq_true, Option.isNone_iff_eq_none, List.isEmpty_iff, beq_iff_eq] at h
  obtain ⟨⟨⟨⟨⟨⟨⟨⟨⟨⟨_, hdelay⟩, hslot⟩, hfl⟩, hstat⟩, hbr⟩, hbound⟩, hheld⟩, hres⟩, hdiv⟩, _⟩ := h
  exact ⟨hdelay, hslot, hfl, hstat, hbr, hbound, hheld, hres, hdiv⟩

section ready
variable {s : State} {n sz : Nat} (h : s.ready n sz = true)
include h

theorem State.ready_clear : s.clear n sz = true := by
  simp only [State.ready, Bool.and_eq_true] at h
  obtain ⟨hclear, _⟩ := h
  exact hclear

theorem State.ready_idle : (s.core n).idle := State.clear_idle (State.ready_clear h)

theorem State.ready_mayIssue : s.mayIssue n = true := by
  have hclear := State.ready_clear h
  simp only [State.clear, Bool.and_eq_true] at hclear
  obtain ⟨⟨⟨⟨⟨⟨⟨⟨⟨⟨hmay, _⟩, _⟩, _⟩, _⟩, _⟩, _⟩, _⟩, _⟩, _⟩, _⟩ := hclear
  exact hmay

/-- The PC fits the size. -/
theorem State.ready_aligned (hsz : sz = 4) : (s.core n).pc.toNat % 4 = 0 := by
  have hclear := State.ready_clear h
  simpa [hsz] using (Bool.and_eq_true_iff.mp hclear).2

/-- The instruction ends no active loop. -/
theorem State.ready_noLoop : ∀ k, k < (s.core n).depth → (s.core n).le k ≠ (s.core n).seqNext sz := by
  simp only [State.ready, Bool.and_eq_true, List.all_eq_true, List.mem_range, bne_iff_ne] at h
  obtain ⟨_, hloop⟩ := h
  exact hloop

end ready

/-- The events that a core is offered are decided by registers alone. -/
theorem State.setCore_eventFor (s : State) (n : Nat) (x : Core) (c : Nat) (pl : Level) (ie : Bool) (cpri : Nat) :
    (s.setCore n x).eventFor c pl ie cpri = s.eventFor c pl ie cpri := rfl

/-! ### What fetching and counting change -/

/-- A core with other CODE words fetched ahead. -/
def Core.withCopies (c : Core) (f : List (Nat × Nat × Word)) : Core := { c with fbuf := f }

/-- State t differs from s in counters and CODE words fetched ahead of core n, and free values taken, only. -/
structure State.aside (s t : State) (n : Nat) : Prop where
  own : ∃ f, t.core n = (s.core n).withCopies f
  others : ∀ m, m ≠ n → t.core m = s.core m
  regs : s.regsBut t (countRegs n)
  rest : t = s.coresOf t

theorem State.aside.refl (s : State) (n : Nat) : s.aside s n := ⟨⟨_, rfl⟩, fun _ _ => rfl, fun _ _ => rfl, rfl⟩

theorem State.aside.trans {s t u : State} {n : Nat} (h : s.aside t n) (h' : t.aside u n) : s.aside u n := by
  obtain ⟨f, hf⟩ := h.own
  obtain ⟨g, hg⟩ := h'.own
  have hrest : t.coresOf u = (s.coresOf t).coresOf u := congrArg (fun x => State.coresOf x u) h.rest
  refine ⟨⟨g, ?_⟩, fun m hm => (h'.others m hm).trans (h.others m hm), fun k hk => (h'.regs k hk).trans (h.regs k hk),
    h'.rest.trans hrest⟩
  rw [hg, hf]
  rfl

/-- The niche memories are no part of it. -/
theorem State.aside.niche {s t : State} {n : Nat} (h : s.aside t n) : t.niche = s.niche := by
  rw [h.rest]
  rfl

theorem State.bump_aside (s : State) {n o : Nat} (ho : o ∈ countRegs n) (f : Fld) (k : Nat) :
    s.aside (s.bump o f k) n :=
  ⟨⟨_, rfl⟩, fun _ _ => rfl, fun _ hk => s.setFld_reg_ne f (ne_of_mem_of_not_mem ho hk).symm _, rfl⟩

theorem State.freeNat_aside (s : State) (n : Nat) : s.aside s.freeNat.2 n :=
  ⟨⟨_, rfl⟩, fun _ _ => rfl, fun _ _ => rfl, rfl⟩

theorem State.setCore_aside (s : State) {n : Nat} {c : Core} (h : ∃ f, c = (s.core n).withCopies f) :
    s.aside (s.setCore n c) n := by
  obtain ⟨f, rfl⟩ := h
  refine ⟨⟨f, ?_⟩, fun m hm => ?_, fun _ _ => rfl, rfl⟩
  · rw [State.setCore_core, if_pos rfl]
  · rw [State.setCore_core, if_neg hm]

theorem freezeFor_aside (n a : Nat) (op : JOp) (s : State) : s.aside (freezeFor n a op s) n := by
  have hfrz : R.LANTERN_FRZCNT n ∈ countRegs n := by simp [countRegs]
  unfold freezeFor
  split
  · exact s.bump_aside hfrz _ _
  · exact (s.freeNat_aside n).trans (State.bump_aside _ hfrz _ _)

theorem codeFreeze_aside (n : Nat) (s : State) : s.aside (codeFreeze n s) n := by
  unfold codeFreeze
  dsimp only
  split
  · split
    · exact State.aside.refl s n
    · split
      · split
        · exact (freezeFor_aside n _ _ s).trans (State.setCore_aside _ ⟨_, rfl⟩)
        · exact freezeFor_aside n _ _ s
      · exact freezeFor_aside n _ _ s
  · exact State.aside.refl s n

theorem keepFrom_aside (n k j pc : Nat) (c : Core) (last : Option (Nat × Word)) (s : State) :
    s.aside (keepFrom n k j pc c last s) n := by
  induction k generalizing j pc c last s with
  | zero => exact State.aside.refl s n
  | succ k ih =>
    unfold keepFrom
    dsimp only
    split
    · exact State.aside.refl s n
    · split
      · exact ih ..
      · exact (State.setCore_aside s ⟨_, rfl⟩).trans (ih ..)

theorem keepAhead_aside (n sz k : Nat) (s : State) : s.aside (keepAhead n sz k s) n := by
  unfold keepAhead
  extract_lets c pc straight
  split
  · exact State.aside.refl s n
  · exact keepFrom_aside ..

theorem storing_aside (n sz : Nat) (s : State) : s.aside (storing n sz s) n := by
  unfold storing
  split
  · exact keepAhead_aside ..
  · exact (s.freeNat_aside n).trans (keepAhead_aside ..)

/-- Counting an instruction is aside. -/
theorem countIssue_aside (n : Nat) (paired : Bool) (s : State) : s.aside (countIssue n paired s) n := by
  have hcount := (s.bump_aside (n := n) (o := R.LANTERN_ISSCNT n) (by simp [countRegs])
    F.LANTERN_ISSCNT_ISSCNT 1).trans (State.bump_aside _ (o := R.LANTERN_FETCHCNT n) (by simp [countRegs])
    F.LANTERN_FETCHCNT_FETCHCNT 1)
  unfold countIssue
  dsimp only
  split
  · exact hcount.trans (State.bump_aside _ (by simp [countRegs]) _ _)
  · exact hcount

/-! ### Issue -/

/-- An instruction that may be paired, is no transfer and no routine, and needs no level. -/
def Shape.plain (i : Shape) : Prop := i = { sz := i.sz, kind := { unit := i.kind.unit } }

section issue
variable {s : State} {n : Nat} {i : Shape} (h : s.ready n i.sz = true)
include h

/-- The state in which the instruction does its work. -/
theorem openCycle_aside (k : Kind) : s.aside (codeFreeze n (openCycle n k (s.setCore n (s.core n)))) n := by
  refine State.aside.trans ?_ (codeFreeze_aside n _)
  have hcore : (s.setCore n (s.core n)).core n = s.core n := by rw [State.setCore_core, if_pos rfl]
  unfold openCycle
  rw [hcore, (State.ready_idle h).dueStat, (State.ready_idle h).slotFor]
  exact ((s.setCore_aside ⟨_, rfl⟩).trans (State.bump_aside _ (by simp [countRegs]) _ _)).trans
    (State.setCore_aside _ ⟨(s.core n).fbuf, by simp [Core.withCopies]⟩)

/-- Nothing holds the instruction back: it does its work, and ends as that comes out. -/
theorem runInstr_ready (hi : i.plain) (go : State → Out) :
    runInstr n i go s = (go (codeFreeze n (openCycle n i.kind (s.setCore n (s.core n))))).finish n i s := by
  have hidle := State.ready_idle h
  have hcore : (s.setCore n (s.core n)).core n = s.core n := by rw [State.setCore_core, if_pos rfl]
  have hmay : (s.setCore n (s.core n)).mayIssue n = true := by
    have hmay := State.ready_mayIssue h
    simpa [State.mayIssue, State.trapDue, State.heldAtTs, State.dueEvent, hcore, State.setCore_eventFor] using hmay
  have hcheck : i.check (s.core n) = none := by
    have halign := State.ready_aligned h
    rw [hi]
    simp [Shape.check, hidle.delay, lvlCode]
    exact halign
  have hstat : i.takeStat (s.core n) = s.core n := by
    rw [hi]
    exact hidle.dueStat
  have hout (u : State) : microOut n i go u = go u := by
    rw [hi]
    rfl
  unfold runInstr issueWith
  simp [hstat, hmay, hcore, Core.annulled, hidle.delay, noEarly, hcheck, hout]

end issue

/-! ### Completion -/

/-- What is due on a core is due on one with the same frame and registers. -/
theorem Core.dueIn_base {c d x : Core} {ws : List RegWr} {fl : Flg} {j : Nat} (h : c.dueIn ws fl j x)
    (hframe : c.frame = d.frame) (hregs : d.sameRegs c) : d.dueIn ws fl j x := by
  cases j with
  | zero =>
    obtain ⟨hx, hfl, hslot, hdiv, hland⟩ := h
    exact ⟨hx.trans hframe, hfl, hslot, hdiv,
      (Core.addFlags_sameRegs (landWrites_sameRegs hregs ws) fl).trans hland⟩
  | succ j =>
    obtain ⟨hx, hfl, hdiv, hsame⟩ := h
    exact ⟨hx.trans hframe, hfl, hdiv, hregs.trans hsame⟩

/-- Where no STAT change and no boundary write waits, going on moves the PC and what was fetched ahead. -/
theorem Core.goOn_eq {x : Core} (hstat : x.statPend = []) (hbound : x.atBoundary = []) (hheld : x.ucHeld = [])
    (hres : x.resume = none) (pc : Payload) (st : Bool) :
    (x.goOn pc st).countStat.atBound = { x with pc := pc, fbuf := (x.stepBuf st).fbuf, entered := none } := by
  cases x
  dsimp only at hstat hbound hheld hres
  subst hstat hbound hheld hres
  rfl

theorem Core.idle.goOn_dueIn {c x : Core} (hc : c.idle) {ws : List RegWr} {fl : Flg} {j : Nat}
    (h : c.dueIn ws fl j x) (pc : Payload) (st : Bool) :
    c.dueIn ws fl j (x.goOn pc st).countStat.atBound ∧ (x.goOn pc st).countStat.atBound.pc = pc := by
  have hframe : x.frame = c.frame := by
    cases j with
    | zero =>
      obtain ⟨hframe, _⟩ := h
      exact hframe
    | succ j =>
      obtain ⟨hframe, _⟩ := h
      exact hframe
  rw [Core.goOn_eq (x := x) ((congrArg Core.statPend hframe).trans hc.statPend)
    ((congrArg Core.atBoundary hframe).trans hc.atBoundary) ((congrArg Core.ucHeld hframe).trans hc.ucHeld)
    ((congrArg Core.resume hframe).trans hc.resume)]
  exact ⟨Core.dueIn_congr h rfl rfl rfl rfl (Core.sameRegs.refl x), rfl⟩

/-- An instruction that ends no loop on an idle core completes: its results are due, and the PC goes on. -/
theorem complete_idle {u : State} {n sz : Nat} {c : Core} (hc : u.core n = c) (hidle : c.idle)
    (hloop : ∀ k, k < c.depth → c.le k ≠ c.seqNext sz) {kd : Kind} (hkd : kd.alone = false) {e : Eff}
    (hocc : e.occ = 1) (hdist : 1 ≤ e.dist) :
    ∃ j x p, c.dueIn e.writes e.flags j x ∧ x.pc = BitVec.ofNat 48 (c.seqNext sz)
      ∧ complete n sz kd e u = countIssue n p (u.setCore n x) := by
  obtain ⟨j, hj⟩ := hidle.issue_dueIn hkd hocc hdist (c.seqNext sz) (c.endsActive (c.seqNext sz))
  obtain ⟨hdue, hpc⟩ := hidle.goOn_dueIn hj (BitVec.ofNat 48 (c.seqNext sz)) true
  refine ⟨j, _, (c.issue kd (c.seqNext sz) (c.endsActive (c.seqNext sz)) e).2, hdue, hpc, ?_⟩
  have hcheck := loopCheck_none hloop
  unfold Core.seqNext at hcheck ⊢
  unfold complete
  simp only [hc, hidle.delay, hcheck]

section complete
variable {s : State} {n sz : Nat} (h : s.ready n sz = true)
include h

/-- An instruction that has done its work beside the niche memories completes as `State.ran` says. -/
theorem complete_ran {u : State} (hu : s.aside u n) (k : List Host.Cell) {kd : Kind} (hkd : kd.alone = false) {e : Eff}
    (hocc : e.occ = 1) (hdist : 1 ≤ e.dist) :
    s.ran (complete n sz kd e (u.setNiche k)) n sz e.writes e.flags
      ∧ complete n sz kd e (u.setNiche k) = s.nicheOf (complete n sz kd e (u.setNiche k))
      ∧ (complete n sz kd e (u.setNiche k)).niche = k := by
  obtain ⟨f, hf⟩ := hu.own
  have hidle := State.ready_idle h
  have hidle' : ((s.core n).withCopies f).idle :=
    ⟨hidle.delay, hidle.slot0, hidle.inflight, hidle.statPend, hidle.branches, hidle.atBoundary, hidle.ucHeld,
      hidle.resume, hidle.divLeft⟩
  obtain ⟨j, x, p, hx, hpc, ht⟩ := complete_idle (u := u.setNiche k) hf hidle' (State.ready_noLoop h) hkd hocc hdist
  have hcount := countIssue_aside n p ((u.setNiche k).setCore n x)
  obtain ⟨g, hown⟩ := hcount.own
  rw [State.setCore_core, if_pos rfl] at hown
  have hland := Core.landAll_dueIn hidle.branches (Core.dueIn_congr (y := x.withCopies g)
    (Core.dueIn_base hx rfl (Core.sameRegs.refl (s.core n))) rfl rfl rfl rfl (Core.sameRegs.refl x))
  have hrest := hidle.restSame_of_landed hland
  obtain ⟨_, _, _, _, hsame⟩ := hland
  rw [ht]
  refine ⟨⟨⟨⟨?_, ?_⟩, fun m hm => ?_, fun r hr => (hcount.regs r hr).trans (hu.regs r hr)⟩, ?_⟩, ?_, hcount.niche⟩
  · rw [hown]
    exact hpc
  · rw [hown]
    exact hsame
  · rw [hcount.others m hm, State.setCore_core, if_neg hm]
    exact hu.others m hm
  · rw [hown]
    exact hrest
  · have hset : ∀ v : State, s.nicheOf (State.coresOf ((u.setNiche k).setCore n x) v)
        = State.coresOf ((u.setNiche k).setCore n x) v := by
      intro v
      rw [hu.rest]
      rfl
    rw [hcount.rest]
    exact (hset _).symm

/-- An instruction whose work changes at most the niche memories runs. -/
theorem runInstr_ran {c : Instr} {i : Shape} {go : State → Out} (hc : exec c s = ok (runInstr n i go s))
    (hi : i.plain) (hsz : i.sz = sz) {ws : List RegWr} {fl : Flg} {dist : Nat} (hdist : 1 ≤ dist)
    {P : List Host.Cell → Prop}
    (hgo : ∀ u, s.aside u n → ∃ v k, s.aside v n
      ∧ go u = .done { writes := ws, flags := fl, dist := dist } (v.setNiche k) ∧ P k) :
    ∃ t, exec c s = .next t ∧ s.ran t n sz ws fl ∧ t = s.nicheOf t ∧ P t.niche := by
  subst hsz
  obtain ⟨v, k, hv, hdone, hP⟩ := hgo _ (openCycle_aside h i.kind)
  have hkd : i.kind.alone = false := by rw [hi]
  obtain ⟨hran, hrest, hniche⟩ := complete_ran h hv k hkd (e := ⟨ws, fl, dist, 1⟩) rfl hdist
  refine ⟨_, hc, ?_⟩
  rw [runInstr_ready h hi, hdone]
  exact ⟨hran, hrest, hniche.symm ▸ hP⟩

/-- An instruction whose work changes nothing but what fetching does runs and writes its registers alone. -/
theorem runInstr_runs {c : Instr} {i : Shape} {go : State → Out} (hc : exec c s = ok (runInstr n i go s))
    (hi : i.plain) (hsz : i.sz = sz) {ws : List RegWr} {fl : Flg} {dist : Nat} (hdist : 1 ≤ dist)
    (hgo : ∀ u, s.aside u n → go u = .done { writes := ws, flags := fl, dist := dist } u) : s.runs c n sz ws fl := by
  obtain ⟨t, hnext, hran, hrest, hniche⟩ := runInstr_ran h hc hi hsz hdist (P := (· = s.niche))
    fun u hu => ⟨u, u.niche, hu, hgo u hu, hu.niche⟩
  refine ⟨t, hnext, hran, ?_⟩
  unfold State.nicheOf at hrest
  rwa [hniche] at hrest

/-- An instruction that reads and writes registers alone runs. -/
theorem runReg_runs {c : Instr} {i : Shape} {go : Core → Chk Eff} (hc : exec c s = ok (runReg n i go s))
    (hi : i.plain) (hsz : i.sz = sz) {ws : List RegWr} {fl : Flg} {dist : Nat} (hdist : 1 ≤ dist)
    (hgo : ∀ f, go ((s.core n).withCopies f) = .ok { writes := ws, flags := fl, dist := dist }) :
    s.runs c n sz ws fl := by
  refine runInstr_runs h hc hi hsz hdist fun u hu => ?_
  obtain ⟨f, hf⟩ := hu.own
  simp only [hf, hgo]

end complete

end Sys2Proof.Machine
end

section
/-! Binary32 and vector instructions of a Lantern core on accepted operands (R37, R391, R411 to R415). -/

namespace Sys2Proof.Machine

/-! ### Registers do not depend on what was fetched ahead -/

section withCopies
variable (c : Core) (f : List (Nat × Nat × Word))

@[simp] theorem Core.withCopies_pl : (c.withCopies f).pl = c.pl := rfl
@[simp] theorem Core.withCopies_te : (c.withCopies f).te = c.te := rfl
@[simp] theorem Core.withCopies_getW (r : RegNo) : (c.withCopies f).getW r = c.getW r := rfl
@[simp] theorem Core.withCopies_getV (r : RegNo) (k : Nat) : (c.withCopies f).getV r k = c.getV r k := rfl
@[simp] theorem Core.withCopies_getF (r : RegNo) : (c.withCopies f).getF r = c.getF r := rfl
@[simp] theorem Core.withCopies_getB (k : Nat) : (c.withCopies f).getB k = c.getB k := rfl
@[simp] theorem Core.withCopies_fmode : (c.withCopies f).fmode = c.fmode := rfl
@[simp] theorem Core.withCopies_resW (d : RegNo) (x : Word) : resW (c.withCopies f) d x = resW c d x := rfl
@[simp] theorem Core.withCopies_vfmaEff (k : Nat) (d a b : RegNo) :
    vfmaEff k d a b (c.withCopies f) = vfmaEff k d a b c := rfl
@[simp] theorem Core.withCopies_vopEff (d a b : RegNo) (op et : Nat) (sat side : Bool) :
    vopEff d a b op et sat side (c.withCopies f) = vopEff d a b op et sat side c := rfl

end withCopies

/-! ### Accepted operands -/

theorem operand_mem {ok : List Tag} {w : Word} (h : w.tag ∈ ok) (k : Nat) : operand ok k w = .ok w.pay := if_pos h

theorem fpOperand_mem {w : Word} (h : w.tag ∈ fpTags) (k : Nat) : fpOperand k w = .ok (w.pay.toNat % 2 ^ 32) := by
  rw [fpOperand, operand_mem h]
  rfl

theorem movable_not_reserved {w : Word} (h : w.tag.reserved = false) (k : Nat) : movable k w = .ok w := by
  simp [movable, h]

/-- Checks that all pass give their values. -/
theorem mapM_ok {α β : Type} {l : List α} {g : α → Chk β} {v : α → β} (h : ∀ i ∈ l, g i = .ok (v i)) :
    l.mapM g = .ok (l.map v) := by
  induction l with
  | nil => rfl
  | cons i l ih =>
    rw [List.mapM_cons, h i List.mem_cons_self, ih fun j hj => h j (List.mem_cons_of_mem i hj)]
    rfl

theorem getD_map_range {α : Type} (g : Nat → α) {i k : Nat} (h : i < k) (x : α) :
    ((List.range k).map g).getD i x = g i := by
  simp [h]

theorem vCheck_mem {ok : List Tag} {c : Core} {r : RegNo} (h : ∀ i, i < 4 → (c.getV r i).tag ∈ ok) (k : Nat) :
    vCheck ok k c r = .ok ((List.range 4).map fun i => (c.getV r i).pay) :=
  mapM_ok fun i hi => operand_mem (h i (List.mem_range.mp hi)) k

/-! ### Scalar instructions -/

section scalar
variable {s : State} {n : Fin 16} {d a b : RegNo} (h : s.ready n 2 = true) {p q : Nat}
  (hp : p = ((s.core n).getF a).pay.toNat % 2 ^ 32) (hq : q = ((s.core n).getF b).pay.toNat % 2 ^ 32)
  (ha : ((s.core n).getF a).tag ∈ fpTags) (hb : ((s.core n).getF b).tag ∈ fpTags) {c : Instr} {i : Shape}
include h hp ha

theorem fp1_runs {f : FMode → Nat → Nat × Flg} {dist : FMode → Nat → Nat} (hc : exec c s = fp1 i n d a f dist s)
    (hi : i.plain) (hsz : i.sz = 2) (hdist : ∀ m x, 1 ≤ dist m x) :
    s.runs c n 2 [resV d 0 (fpWord (f (s.core n).fmode p).1)] (f (s.core n).fmode p).2 := by
  refine runReg_runs h hc hi hsz (hdist (s.core n).fmode p) fun g => ?_
  simp only [Core.withCopies_getF, Core.withCopies_fmode, fpOperand_mem ha, ← hp]
  rfl

include hq hb

theorem fp2_runs {f : FMode → Nat → Nat → Nat × Flg} {dist : FMode → Nat → Nat → Nat}
    (hc : exec c s = fp2 i n d a b f dist s) (hi : i.plain) (hsz : i.sz = 2) (hdist : ∀ m x y, 1 ≤ dist m x y) :
    s.runs c n 2 [resV d 0 (fpWord (f (s.core n).fmode p q).1)] (f (s.core n).fmode p q).2 := by
  refine runReg_runs h hc hi hsz (hdist (s.core n).fmode p q) fun g => ?_
  simp only [Core.withCopies_getF, Core.withCopies_fmode, fpOperand_mem ha, fpOperand_mem hb, ← hp, ← hq]
  rfl

theorem fpCmpOp_runs {k : Cmp} (hc : exec c s = fpCmpOp k n d a b s) :
    s.runs c n 2 (resW (s.core n) d (Word.int (if (fpCmp (s.core n).fmode k p q).1 then 1 else 0)))
      (fpCmp (s.core n).fmode k p q).2 := by
  refine runReg_runs h hc rfl rfl (Nat.one_le_ofNat (n := 2)) fun g => ?_
  simp only [Core.withCopies_getF, Core.withCopies_fmode, Core.withCopies_resW, fpOperand_mem ha, fpOperand_mem hb,
    ← hp, ← hq]
  rfl

end scalar

theorem fma_runs {s : State} {n : Fin 16} {d a b e : RegNo} (h : s.ready n 4 = true) {p q r : Nat}
    (hp : p = ((s.core n).getF a).pay.toNat % 2 ^ 32) (hq : q = ((s.core n).getF b).pay.toNat % 2 ^ 32)
    (hr : r = ((s.core n).getF e).pay.toNat % 2 ^ 32) (ha : ((s.core n).getF a).tag ∈ fpTags)
    (hb : ((s.core n).getF b).tag ∈ fpTags) (he : ((s.core n).getF e).tag ∈ fpTags) :
    s.runs (.fma n d a b e) n 4 [resV d 0 (fpWord (fpFma (s.core n).fmode p q r).1)]
      (fpFma (s.core n).fmode p q r).2 := by
  have hdist (m : FMode) : 1 ≤ 5 + slowBy m [p, q, r] (tinyFma m (fpTake m p) (fpTake m q) (fpTake m r)) := by omega
  refine runReg_runs h (exec_fma ..) rfl rfl (hdist (s.core n).fmode) fun g => ?_
  simp only [Core.withCopies_getF, Core.withCopies_fmode, fpOperand_mem ha, fpOperand_mem hb, fpOperand_mem he,
    ← hp, ← hq, ← hr]
  rfl

/-! ### Lanes -/

theorem vopWord_word (v : ChainEnv) (t : EType) (op : Nat) (x : Payload) (side : Nat → Int) :
    (vopWord v t op x side).1 = packLanes ((cvtTo op).getD t)
      ((List.range t.perWord).map fun j => (vopLane v t op (laneValue t x.toNat j) (side j)).1) := by
  simp [vopWord, Function.comp_def]

theorem vopWord_flags (v : ChainEnv) (t : EType) (op : Nat) (x : Payload) (side : Nat → Int) :
    (vopWord v t op x side).2.1 = (List.range t.perWord).foldl
      (fun g j => g.or (vopLane v t op (laneValue t x.toNat j) (side j)).2) {} := by
  simp [vopWord, List.foldl_map]

/-- Word i of an accepted VFMA. -/
def vfmaAt (c : Core) (d a b : RegNo) (i : Nat) : Word × Flg × Nat :=
  vfmaWord c.fmode ((c.getV a i).pay.toNat % 2 ^ 32) ((c.getV b i).pay.toNat % 2 ^ 32) ((c.getV d i).pay.toNat % 2 ^ 32)

theorem vfmaEff_accepted {c : Core} {d a b : RegNo}
    (h : ∀ i, i < 4 → (c.getV a i).tag ∈ fpTags ∧ (c.getV b i).tag ∈ fpTags ∧ (c.getV d i).tag ∈ fpTags) :
    ∃ dist, 1 ≤ dist ∧ ∀ kd, vfmaEff kd d a b c = .ok {
      writes := (List.range 4).map fun i => resV d i (vfmaAt c d a b i).1
      flags := (List.range 4).foldl (fun f i => f.or (vfmaAt c d a b i).2.1) {}
      dist := dist } := by
  have ha : ∀ i, i < 4 → (c.getV a i).tag ∈ fpTags := fun i hi => (h i hi).1
  have hb : ∀ i, i < 4 → (c.getV b i).tag ∈ fpTags := fun i hi => (h i hi).2.1
  have hd : ∀ i, i < 4 → (c.getV d i).tag ∈ fpTags := fun i hi => (h i hi).2.2
  refine ⟨4 + (if ((List.range 4).map (vfmaAt c d a b)).any (·.2.2 != 0) then 2 else 0), by omega, fun kd => ?_⟩
  simp only [vfmaEff, vCheck_mem ha, vCheck_mem hb, vCheck_mem hd]
  rfl

/-- Word i of an accepted VOP whose side operand is a v register. -/
def vopAt (c : Core) (v : ChainEnv) (ty : EType) (op : Nat) (a b : RegNo) (i : Nat) : Word × Flg × Bool :=
  vopWord v ty op (c.getV a i).pay fun j => laneValue ty (c.getV b i).pay.toNat j

theorem vopEff_accepted {c : Core} {d a b : RegNo} {op et : Nat} {ty : EType} (hty : vopType op et = some ty)
    (h : ∀ i, i < 4 → (c.getV a i).tag ∈ laneTags ty ∧ (c.getV b i).tag ∈ laneTags ty) (hside : vopNoSide op = false)
    {sat : Bool} {v : ChainEnv} (hv : v = vopEnv c ty ((cvtTo op).getD ty) sat) :
    vopEff d a b op et sat false c = .ok {
      writes := (List.range 4).map fun i => resV d i (vopAt c v ty op a b i).1
      flags := (List.range 4).foldl (fun f i => f.or (vopAt c v ty op a b i).2.1) {}
      dist := vopDist op + (if ((List.range 4).map (vopAt c v ty op a b)).any (·.2.2) then 2 else 0) } := by
  have ha : ∀ i, i < 4 → (c.getV a i).tag ∈ laneTags ty := fun i hi => (h i hi).1
  have hb : ∀ i, i < 4 → (c.getV b i).tag ∈ laneTags ty := fun i hi => (h i hi).2
  have hwords : ((List.range 4).map fun i =>
      vopWord v ty op (((List.range 4).map fun i => (c.getV a i).pay).getD i 0) fun j =>
        laneValue ty (((List.range 4).map fun i => (c.getV b i).pay).getD i 0).toNat j)
      = (List.range 4).map (vopAt c v ty op a b) :=
    List.map_congr_left fun i hi => by simp only [getD_map_range _ (List.mem_range.mp hi), vopAt]
  have hwrites : ((List.range 4).map fun i =>
      resV d i (((List.range 4).map (vopAt c v ty op a b)).getD i (Word.uni0, {}, false)).1)
      = (List.range 4).map fun i => resV d i (vopAt c v ty op a b i).1 :=
    List.map_congr_left fun i hi => by rw [getD_map_range _ (List.mem_range.mp hi)]
  simp only [vopEff, hty, vCheck_mem ha, vopSide, hside, vCheck_mem hb, ← hv]
  refine congrArg Except.ok ?_
  simp only [hwords, hwrites, List.foldl_map]

theorem vopDist_pos (op : Nat) : 1 ≤ vopDist op := by
  unfold vopDist
  split_ifs <;> decide

/-- Settles O45: on accepted operands an instruction's work is its operation on the registers as they stand, and what it
writes lands. -/
theorem floatVectorOps : Obligations.FloatVectorOps := by
  unfold Obligations.FloatVectorOps
  refine ⟨?_, ?_, ?_, ?_⟩
  · rintro n d a b s _ _ _ p q h rfl rfl rfl hp hq ha
    refine ⟨?_, ?_, fun hb => ⟨?_, ?_⟩⟩
    · simp only [List.forall_mem_cons]
      refine ⟨fp1_runs (f := fpSqrt) h hp ha (exec_fsqrt ..) rfl rfl ?_,
        fp1_runs (f := fun _ x => (fpSignOp false x, {})) h hp ha (exec_fabs ..) rfl rfl ?_,
        fp1_runs (f := fun _ x => (fpSignOp true x, {})) h hp ha (exec_fneg ..) rfl rfl ?_, List.forall_mem_nil _⟩
      all_goals intros; omega
    · refine runReg_runs h (exec_fcvtwi ..) rfl rfl (Nat.one_le_ofNat (n := 4)) fun g => ?_
      simp only [Core.withCopies_getF, Core.withCopies_fmode, Core.withCopies_resW, fpOperand_mem ha, ← hp]
      rfl
    · simp only [List.forall_mem_cons]
      refine ⟨fp2_runs (f := fpAdd) h hp hq ha hb (exec_fadd ..) rfl rfl ?_,
        fp2_runs (f := fpSub) h hp hq ha hb (exec_fsub ..) rfl rfl ?_,
        fp2_runs (f := fpMul) h hp hq ha hb (exec_fmul ..) rfl rfl ?_,
        fp2_runs (f := fpDiv) h hp hq ha hb (exec_fdiv ..) rfl rfl ?_,
        fp2_runs (f := fun m => fpMinMax m false) h hp hq ha hb (exec_fmin ..) rfl rfl ?_,
        fp2_runs (f := fun m => fpMinMax m true) h hp hq ha hb (exec_fmax ..) rfl rfl ?_, List.forall_mem_nil _⟩
      all_goals intros; omega
    · simp only [List.forall_mem_cons]
      exact ⟨fpCmpOp_runs h hp hq ha hb (exec_fcmpeq ..), fpCmpOp_runs h hp hq ha hb (exec_fcmplt ..),
        fpCmpOp_runs h hp hq ha hb (exec_fcmple ..), List.forall_mem_nil _⟩
  · rintro n d a s _ h rfl
    refine ⟨fun ha => ?_, fun ha => ?_, fun ha => ?_⟩
    · refine runReg_runs h (exec_fcvtiw ..) rfl rfl (Nat.one_le_ofNat (n := 4)) fun g => ?_
      simp only [Core.withCopies_getW, Core.withCopies_fmode, operand_mem ha]
      rfl
    · refine runReg_runs h (exec_fmvwf ..) rfl rfl (Nat.le_refl 1) fun g => ?_
      simp only [Core.withCopies_getW, movable_not_reserved ha]
      rfl
    · refine runReg_runs h (exec_fmvfw ..) rfl rfl (Nat.le_refl 1) fun g => ?_
      simp only [Core.withCopies_getF, Core.withCopies_resW, movable_not_reserved ha]
      rfl
  · rintro n d a b e k s _ h rfl
    refine ⟨fun ha hb he => ?_, fun ha => ?_, fun ha => ?_, fun ha => ?_, fun ha => ?_, fun hall => ?_⟩
    · exact fma_runs h rfl rfl rfl ha hb he
    · refine runReg_runs h (exec_vbcast ..) rfl rfl (Nat.le_refl 1) fun g => ?_
      simp only [Core.withCopies_getW, movable_not_reserved ha]
      rfl
    · refine runReg_runs h (exec_vext ..) rfl rfl (Nat.le_refl 1) fun g => ?_
      simp only [Core.withCopies_getV, Core.withCopies_resW, movable_not_reserved ha]
      rfl
    · refine runReg_runs h (exec_vins ..) rfl rfl (Nat.le_refl 1) fun g => ?_
      simp only [Core.withCopies_getW, movable_not_reserved ha]
      rfl
    · refine runReg_runs h (exec_vmov ..) rfl rfl (Nat.le_refl 1) fun g => ?_
      simp only [Core.withCopies_getV, mapM_ok fun i hi => movable_not_reserved (ha i (List.mem_range.mp hi)) 0]
      rfl
    · obtain ⟨dist, hdist, heff⟩ := vfmaEff_accepted hall
      refine runInstr_runs h (exec_vfma ..) rfl rfl hdist fun u hu => ?_
      obtain ⟨f, hf⟩ := hu.own
      simp only [hf, Core.withCopies_vfmaEff, heff]
      rfl
  · rintro n d a b op et sat ty s _ h rfl hty htags hside u v r
    have hruns := runReg_runs h (exec_vop s n d a b op et sat false) rfl rfl
      (Nat.le_add_right_of_le (vopDist_pos op.toNat)) fun f =>
        ((s.core n).withCopies_vopEff ..).trans (vopEff_accepted hty htags hside (v := v) rfl)
    simp only [vopAt, vopWord_word, vopWord_flags] at hruns
    exact hruns

end Sys2Proof.Machine
end

section
/-! Loads, stores, atomics and cache maintenance of a Lantern core on untranslated niche addresses (R61 to R63, R300,
R396, R397, R492). -/

namespace Sys2Proof.Machine

/-! ### Paths -/

/-- The path of an access to niche memory. -/
def nichePath (a : Nat) : Path := ⟨a, true, false, false, false⟩

theorem inNiche_iff (a : Nat) : inNiche a = true ↔ 0x303_0000_0000 ≤ a ∧ a < 0x303_0004_0000 := by simp [inNiche]

/-- No target that R293 caches lies in the niche range. -/
theorem cacheable_niche {a : Nat} (h : inNiche a = true) : cacheable a = false := by
  obtain ⟨hlo, hhi⟩ := (inNiche_iff a).mp h
  have htarget : targetOf a = .default := by
    unfold targetOf
    iterate 9 rw [if_neg (by omega)]
    rw [if_pos (by omega)]
  rw [cacheable, htarget]

/-- The word of a sample address has the address's niche index. -/
theorem nicheIx_word (n a : Nat) : nicheIx n (a / 4 * 4) = nicheIx n a := by
  unfold nicheIx
  omega

theorem State.nicheAt_inNiche {s : State} {n a : Nat} (h : s.nicheAt n a = true) : inNiche a = true := by
  simp only [State.nicheAt, Bool.and_eq_true] at h
  obtain ⟨_, hin⟩ := h
  exact hin

/-- The counters of a core lie below its translation registers. -/
theorem not_mem_countRegs {n o : Nat} (ho : R.LANTERN_TLBCFG n ≤ o) : o ∉ countRegs n := by
  unfold R.LANTERN_TLBCFG at ho
  simp only [countRegs, List.mem_cons, List.not_mem_nil, or_false, R.LANTERN_ISSCNT, R.LANTERN_FETCHCNT,
    R.LANTERN_PAIRCNT, R.LANTERN_HOLDCNT, R.LANTERN_MISPCNT, R.LANTERN_FRZCNT]
  omega

/-- The window registers of a core count nothing. -/
theorem State.aside.inWindow {s u : State} {n : Nat} (h : s.aside u n) (a : Nat) : u.inWindow n a = s.inWindow n a := by
  have hlo : u.regN (R.LANTERN_PWLO n) = s.regN (R.LANTERN_PWLO n) :=
    congrArg BitVec.toNat (h.regs _ (not_mem_countRegs (by unfold R.LANTERN_TLBCFG R.LANTERN_PWLO; omega)))
  have hhi : u.regN (R.LANTERN_PWHI n) = s.regN (R.LANTERN_PWHI n) :=
    congrArg BitVec.toNat (h.regs _ (not_mem_countRegs (by unfold R.LANTERN_TLBCFG R.LANTERN_PWHI; omega)))
  unfold State.inWindow State.fld
  rw [hlo, hhi]

theorem State.aside.nicheCont {s u : State} {n : Nat} (h : s.aside u n) (a : Nat) :
    u.nicheCont n a = s.nicheCont n a := by
  rw [State.nicheCont, h.niche, State.nicheCont]

section access
variable {s u : State} {n a : Nat} (h : s.nicheAt n a = true) (hu : s.aside u n)
include h hu

theorem untranslated_niche (k : AccKind) : untranslated n k a u = .ok (nichePath a) u := by
  obtain ⟨f, hf⟩ := hu.own
  have hin := State.nicheAt_inNiche h
  obtain ⟨_, hhi⟩ := (inNiche_iff a).mp hin
  have hbound : ¬ 2 ^ 42 ≤ a := by omega
  have hmod : a % 2 ^ 42 = a := by omega
  have hpath : u.plainPath n a = nichePath a := by
    simp [State.plainPath, pathOf, cacheable_niche hin, hin, nichePath]
  simp only [State.nicheAt, Bool.and_eq_true, Bool.or_eq_true, beq_iff_eq] at h
  obtain ⟨⟨_, hlevel⟩, _⟩ := h
  simp only [untranslated, hf, Core.withCopies_pl, hpath, hmod, hbound, hu.inWindow, false_and, if_false]
  obtain hm | ⟨hs, hwin⟩ := hlevel
  · simp [hm, nichePath]
  · simp [hs, hwin, nichePath]

theorem nicheAt_te : (u.core n).te = false := by
  obtain ⟨f, hf⟩ := hu.own
  simp only [State.nicheAt, Bool.and_eq_true, Bool.not_eq_true'] at h
  obtain ⟨⟨hte, _⟩, _⟩ := h
  rw [hf, Core.withCopies_te, hte]

theorem translate_niche (k : AccKind) : translate n k a u = .ok (nichePath a) u := by
  rw [translate, nicheAt_te h hu, untranslated_niche h hu]
  rfl

theorem accessExc_niche (k : AccKind) : u.accessExc n k a = none := by
  simp [State.accessExc, nicheAt_te h hu, untranslated_niche h hu]

end access

/-! ### Words read -/

theorem baseAddr_mem {c : Core} {a : RegNo} (h : (c.getW a).tag ∈ addrTags) (disp : Int) :
    baseAddr c a disp = .ok (addrOf (c.getW a).pay disp) := by
  rw [baseAddr, operand_mem h]
  rfl

theorem indexAddr_mem {c : Core} {a b : RegNo} (ha : (c.getW a).tag ∈ addrTags) (hb : (c.getW b).tag ∈ intTags) :
    indexAddr c a b = .ok ((c.getW a).pay + 4 * (c.getW b).pay).toNat := by
  rw [indexAddr, operand_mem ha, operand_mem hb]
  rfl

theorem baseAddr_zero {c : Core} {a : RegNo} (h : (c.getW a).tag ∈ addrTags) :
    baseAddr c a 0 = .ok (c.getW a).pay.toNat := by
  simp [baseAddr_mem h, addrOf]

/-- The niche memories with a word of a core's stored, if there is one to store. -/
def nicheWith (n a : Nat) (y : Option Word) (m : List Host.Cell) : List Host.Cell :=
  y.elim m fun y => contPut m (nicheIx n a) (encodeWord y)

theorem elim_encodeWord_ite (p : Prop) [Decidable p] (y : Word) (x : Container) :
    (if p then some y else none).elim x encodeWord = if p then encodeWord y else x := by
  split <;> rfl

theorem setNiche_nicheWith_some (n a : Nat) (y : Word) (u : State) :
    u.setNiche (nicheWith n a (some y) u.niche) = nichePut n a y u := by
  rw [nicheWith, Option.elim_some, nichePut]

theorem nicheRead_clean {u : State} {n a : Nat} {w : Word} (h : decodeContainer (u.nicheCont n a) = .clean w) :
    nicheRead n a u = ((w, false), u) := by
  unfold State.nicheCont at h
  rw [nicheRead, h]

section reads
variable {s u : State} {n a : Nat} (h : s.nicheAt n a = true) (hu : s.aside u n) {w : Word}
  (hw : decodeContainer (s.nicheCont n a) = .clean w)

include hu hw

/-- A read-modify-write of a clean niche word answers and stores what the operation makes of the word. -/
theorem nicheOp_rmw {op : JOp} (hrd : op ≠ .rd) (hwr : ∀ x, op ≠ .wr x) :
    nicheOp n a op u = ((rmwOn a op w).2, u.setNiche (nicheWith n a (rmwOn a op w).1 u.niche)) := by
  have hread := nicheRead_clean ((congrArg decodeContainer (hu.nicheCont a)).trans hw)
  unfold nicheOp
  split
  · exact absurd rfl (hwr _)
  · exact absurd rfl hrd
  · rw [hread]
    dsimp only
    split <;> rename_i hput <;> rw [hput]
    · rw [setNiche_nicheWith_some]
    · rw [nicheWith, Option.elim_none]
      rfl

include h

theorem loadAt_niche (k : AccKind) : loadAt n k a u = .got w u := by
  have hword : decodeContainer (u.nicheCont n (a / 4 * 4)) = .clean w := by
    rw [State.nicheCont, nicheIx_word, ← hw, ← hu.nicheCont a, State.nicheCont]
  simp [loadAt, translate_niche h hu, nichePath, loadWord, nicheOp, nicheRead_clean hword, busExc]

end reads

/-! ### Loads -/

section loads
variable {s : State} {n : Fin 16} {sz e : Nat} (h : s.ready n sz = true) (hat : s.nicheAt n e = true) {w : Word}
  (hw : decodeContainer (s.nicheCont n e) = .clean w) {d : RegNo} {c : Instr} (i : Shape) (addr : Core → Chk Nat)
include h hat hw

theorem wordLoad_runs (hc : exec c s = memRow n i addr (loadInstr n d) s) (hi : i.plain) (hsz : i.sz = sz)
    (haddr : ∀ f, addr ((s.core n).withCopies f) = .ok e) (hal : e % 4 = 0) (hres : w.tag.reserved = false) :
    s.runs c n sz (resW (s.core n) d w) {} := by
  refine runInstr_runs h hc hi hsz (Nat.one_le_ofNat (n := 3)) fun u hu => ?_
  obtain ⟨f, hf⟩ := hu.own
  simp [hf, haddr, loadInstr, hal, loadAt_niche hat hu hw, hres]

theorem sampleLoad_runs {sg : Bool} (hc : exec c s = memRow n i addr (sampleLoad n sg d) s) (hi : i.plain)
    (hsz : i.sz = sz) (haddr : ∀ f, addr ((s.core n).withCopies f) = .ok e) (htag : w.tag = Tags.quad) {v : BitVec 12}
    (hv : v = BitVec.ofNat 12 (w.pay.toNat / 2 ^ (12 * (e % 4)))) :
    s.runs c n sz (resW (s.core n) d (Word.int (if sg then v.signExtend 48 else v.setWidth 48))) {} := by
  have hbits : BitVec.ofNat 12 (bits w.pay.toNat (12 * (e % 4)) 12) = v := by
    rw [hv]
    apply BitVec.eq_of_toNat_eq
    simp [bits]
  refine runInstr_runs h hc hi hsz (Nat.one_le_ofNat (n := 3)) fun u hu => ?_
  obtain ⟨f, hf⟩ := hu.own
  simp [hf, haddr, sampleLoad, loadAt_niche hat hu hw, htag, hbits]

end loads

/-! ### Stores -/

/-- Instruction c of sz samples runs on core n, writes these registers and leaves the container x at the niche sample
address e and every other niche word as it was. -/
def State.edits (s : State) (c : Instr) (n sz : Nat) (ws : List RegWr) (e : Nat) (x : Container) : Prop :=
  ∃ t, exec c s = .next t ∧ s.ran t n sz ws {} ∧ t.nicheCont n e = x ∧ s.nicheBut t n [e] ∧ t = s.nicheOf t

section stores
variable {s : State} {n : Fin 16} {sz e : Nat} (h : s.ready n sz = true)
include h

/-- An instruction whose work stores at most one niche word edits that word. -/
theorem runInstr_edits {c : Instr} {i : Shape} {go : State → Out} (hc : exec c s = ok (runInstr n i go s))
    (hi : i.plain) (hsz : i.sz = sz) {ws : List RegWr} {dist : Nat} (hdist : 1 ≤ dist) (y : Option Word)
    (hgo : ∀ u, s.aside u n → ∃ v, s.aside v n
      ∧ go u = .done { writes := ws, dist := dist } (v.setNiche (nicheWith n e y v.niche))) :
    s.edits c n sz ws e (y.elim (s.nicheCont n e) encodeWord) := by
  obtain ⟨t, hnext, hran, hrest, hniche⟩ := runInstr_ran h hc hi hsz hdist
    (P := (· = nicheWith n e y s.niche)) fun u hu => by
      obtain ⟨v, hv, hdone⟩ := hgo u hu
      exact ⟨v, _, hv, hdone, by rw [hv.niche]⟩
  refine ⟨t, hnext, hran, ?_, fun j hj => ?_, hrest⟩
  · cases y with
    | none => rw [State.nicheCont, hniche, nicheWith, Option.elim_none, Option.elim_none, State.nicheCont]
    | some y => rw [State.nicheCont, hniche, nicheWith, Option.elim_some, Option.elim_some, contAt_contPut_same]
  · cases y with
    | none => rw [hniche, nicheWith, Option.elim_none]
    | some y => rw [hniche, nicheWith, Option.elim_some, contAt_contPut_ne _ _ _ _ (hj e List.mem_cons_self)]

variable (hat : s.nicheAt n e = true) {d : RegNo} {c : Instr}
include hat

theorem wordStore_edits (i : Shape) (addr : Core → Chk Nat) {k : Nat}
    (hc : exec c s = memRow n i addr (fun e s => storeInstr n k ((s.core n).getW d) e s) s)
    (hi : i.plain) (hsz : i.sz = sz) (haddr : ∀ f, addr ((s.core n).withCopies f) = .ok e) (hal : e % 4 = 0) :
    s.edits c n sz [] e (encodeWord ((s.core n).getW d)) := by
  refine runInstr_edits h hc hi hsz (Nat.le_refl 1) (some _) fun u hu => ⟨_, hu.trans (storing_aside n k u), ?_⟩
  obtain ⟨f, hf⟩ := hu.own
  simp only [hf, haddr, Core.withCopies_getW, storeInstr, hal, translate_niche hat hu, nichePath, storeWord,
    setNiche_nicheWith_some]
  rfl

variable {w : Word} (hw : decodeContainer (s.nicheCont n e) = .clean w) (i : Shape) (addr : Core → Chk Nat)
include hw

theorem sampleStore_edits (hc : exec c s = memRow n i addr (fun e s => sampleStore n ((s.core n).getW d) e s) s)
    (hi : i.plain) (hsz : i.sz = sz) (haddr : ∀ f, addr ((s.core n).withCopies f) = .ok e) (htag : w.tag = Tags.quad)
    (hd : ((s.core n).getW d).tag ∈ intTags) :
    s.edits c n sz [] e (encodeWord ⟨Tags.quad, BitVec.ofNat 48
      (setBits w.pay.toNat (12 * (e % 4)) 12 (((s.core n).getW d).pay.toNat % 2 ^ 12))⟩) := by
  refine runInstr_edits h hc hi hsz (Nat.le_refl 1) (some _) fun u hu => ⟨_, hu.trans (storing_aside n 4 u), ?_⟩
  obtain ⟨f, hf⟩ := hu.own
  have hstoring := hu.trans (storing_aside n 4 u)
  simp [hf, haddr, sampleStore, operand_mem hd, translate_niche hat hu, nichePath, storeSample,
    nicheOp_rmw hstoring hw, rmwOn, htag, sampleStored]

/-- An atomic edits its word as its read-modify-write of the word says. -/
theorem atomic_edits (op : Core → Chk JOp) {o : JOp}
    (hc : exec c s = memRow n i addr (fun e s => atomicInstr n d e (op (s.core n)) s) s) (hi : i.plain)
    (hsz : i.sz = sz) (haddr : ∀ f, addr ((s.core n).withCopies f) = .ok e) (hal : e % 4 = 0)
    (hop : ∀ f, op ((s.core n).withCopies f) = .ok o) (hrd : o ≠ .rd) (hwr : ∀ x, o ≠ .wr x) {y : Option Word}
    (hrmw : rmwOn e o w = (y, { st := .ok, w := w })) :
    s.edits c n sz (resW (s.core n) d w) e (y.elim (s.nicheCont n e) encodeWord) := by
  refine runInstr_edits h hc hi hsz (Nat.one_le_ofNat (n := 3)) y fun u hu => ⟨_, hu.trans (storing_aside n 4 u), ?_⟩
  obtain ⟨f, hf⟩ := hu.own
  have hstoring := hu.trans (storing_aside n 4 u)
  obtain ⟨g, hg⟩ := hstoring.own
  have hcore (m : List Host.Cell) : ((storing n 4 u).setNiche m).core n = (s.core n).withCopies g := hg
  simp [hf, haddr, hop, atomicInstr, hal, translate_niche hat hu, nichePath, atomicOp,
    nicheOp_rmw hstoring hw hrd hwr, hrmw, hcore]

end stores

/-! ### Cache maintenance -/

/-- Maintenance of a niche word changes nothing. -/
theorem cacheInstr_runs {s : State} {n : Fin 16} (h : s.ready n 2 = true) {a : RegNo}
    (ha : ((s.core n).getW a).tag ∈ addrTags) (hat : s.nicheAt n ((s.core n).getW a).pay.toNat = true) {c : Instr}
    {clean inval : Bool} (hc : exec c s = memRow n mem24 (baseAddr · a 0) (cacheInstr n clean inval) s) :
    s.runs c n 2 [] {} := by
  refine runInstr_runs h hc rfl rfl (Nat.le_refl 1) fun u hu => ?_
  obtain ⟨f, hf⟩ := hu.own
  have haddr : baseAddr ((s.core n).withCopies f) a 0 = .ok ((s.core n).getW a).pay.toNat := baseAddr_zero ha
  simp [hf, haddr, cacheInstr, translate_niche hat hu, nichePath]

/-! ### Four words -/

section words
variable {s u : State} {n : Nat} (hu : s.aside u n) {is : List Nat} {f : Nat → Nat}
  (hat : ∀ i ∈ is, s.nicheAt n (f i) = true) {w : Nat → Word}
include hu hat

theorem translateEach_niche (k : AccKind) :
    translateEach n k (is.map f) u = .ok (is.map fun i => nichePath (f i)) u := by
  induction is with
  | nil => rfl
  | cons i is ih =>
    obtain ⟨hi, his⟩ := List.forall_mem_cons.mp hat
    simp [translateEach, translate_niche hi hu, ih his]

theorem translateAll_niche (k : AccKind) :
    translateAll n k (is.map f) u = .ok (is.map fun i => nichePath (f i)) u := by
  have hnone : (is.map f).filterMap (u.accessExc n k) = [] := by
    simp only [List.filterMap_eq_nil_iff, List.forall_mem_map]
    exact fun i hi => accessExc_niche (hat i hi) hu k
  rw [translateAll, hnone]
  exact translateEach_niche hu hat k

omit hat in
theorem loadAll_niche
    (hw : ∀ i ∈ is, decodeContainer (s.nicheCont n (f i)) = .clean (w i) ∧ (w i).tag.reserved = false) :
    loadAll n (is.map fun i => (f i, nichePath (f i))) u = .got (is.map w) u := by
  induction is with
  | nil => rfl
  | cons i is ih =>
    obtain ⟨⟨hclean, hres⟩, his⟩ := List.forall_mem_cons.mp hw
    rw [← hu.nicheCont] at hclean
    have hload : loadWord n (nichePath (f i)) u = .got { st := .ok, w := w i } u := by
      simp [loadWord, nichePath, nicheOp, nicheRead_clean hclean]
    simp [loadAll, hload, busExc, hres, ih his]

end words

/-- The niche memories with the word of each i stored at its address f i. -/
def nicheStores (n : Nat) (f : Nat → Nat) (w : Nat → Word) (is : List Nat) (m : List Host.Cell) : List Host.Cell :=
  is.foldl (fun m i => contPut m (nicheIx n (f i)) (encodeWord (w i))) m

section stored
variable {n : Nat} {f : Nat → Nat} {w : Nat → Word} {is : List Nat}

theorem nicheStores_cons (i : Nat) (m : List Host.Cell) :
    nicheStores n f w (i :: is) m = nicheStores n f w is (contPut m (nicheIx n (f i)) (encodeWord (w i))) := by
  rw [nicheStores, List.foldl_cons, nicheStores]

theorem nichePut_niche (n a : Nat) (x : Word) (v : State) :
    (nichePut n a x v).niche = contPut v.niche (nicheIx n a) (encodeWord x) := by
  rw [nichePut, State.setNiche]

theorem State.setNiche_setNiche (v : State) (m m' : List Host.Cell) : (v.setNiche m).setNiche m' = v.setNiche m' := rfl

theorem nichePut_setNiche (n a : Nat) (x : Word) (v : State) (m : List Host.Cell) :
    (nichePut n a x v).setNiche m = v.setNiche m := by
  rw [nichePut, State.setNiche_setNiche]

theorem storeEach_niche (v : State) :
    storeEach (storeWord n) (is.map fun i => (f i, nichePath (f i), w i)) v
      = .got () (v.setNiche (nicheStores n f w is v.niche)) := by
  induction is generalizing v with
  | nil => rfl
  | cons i is ih =>
    simp only [List.map_cons, storeEach, storeWord, nichePath, if_true] at ih ⊢
    rw [ih, nicheStores_cons, nichePut_niche, nichePut_setNiche]

theorem storeAll_niche (v : State) : storeAll n (is.map fun i => (f i, nichePath (f i), w i)) v
    = .got () (v.setNiche (nicheStores n f w is v.niche)) := by
  have hse : ((is.map fun i => (f i, nichePath (f i), w i)).any fun x => x.2.1.se) = false := by simp [nichePath]
  rw [storeAll, hse]
  exact storeEach_niche v

theorem contAt_nicheStores_ne {j : Nat} (h : ∀ i ∈ is, j ≠ nicheIx n (f i)) (m : List Host.Cell) :
    contAt (nicheStores n f w is m) j = contAt m j := by
  induction is generalizing m with
  | nil => rfl
  | cons i is ih =>
    obtain ⟨hi, his⟩ := List.forall_mem_cons.mp h
    rw [nicheStores_cons, ih his, contAt_contPut_ne _ _ _ _ hi]

/-- Where the addresses have different niche words, each holds its own. -/
theorem contAt_nicheStores_mem (hinj : ∀ i ∈ is, ∀ j ∈ is, nicheIx n (f i) = nicheIx n (f j) → i = j) {i : Nat}
    (hi : i ∈ is) (m : List Host.Cell) : contAt (nicheStores n f w is m) (nicheIx n (f i)) = encodeWord (w i) := by
  induction is generalizing m with
  | nil => exact absurd hi List.not_mem_nil
  | cons k is ih =>
    rw [nicheStores_cons]
    by_cases htail : i ∈ is
    · exact ih (fun a ha b hb => hinj a (List.mem_cons_of_mem k ha) b (List.mem_cons_of_mem k hb)) htail _
    · obtain rfl : i = k := (List.mem_cons.mp hi).resolve_right htail
      have hne : ∀ j ∈ is, nicheIx n (f i) ≠ nicheIx n (f j) := fun j hj heq =>
        htail (hinj i hi j (List.mem_cons_of_mem i hj) heq ▸ hj)
      rw [contAt_nicheStores_ne hne, contAt_contPut_same]

end stored

section four
variable {s : State} {n : Fin 16} {e : Nat} (hat : ∀ i ∈ List.range 4, s.nicheAt n (e + 4 * i) = true)
include hat

theorem fourAddrs_niche : fourAddrs e = (List.range 4).map fun i => e + 4 * i := by
  refine List.map_congr_left fun i hi => Nat.mod_eq_of_lt ?_
  obtain ⟨_, hhi⟩ := (inNiche_iff _).mp (State.nicheAt_inNiche (hat i hi))
  omega

/-- The four words are different niche words. -/
theorem nicheIx_four :
    ∀ i ∈ List.range 4, ∀ j ∈ List.range 4, nicheIx n (e + 4 * i) = nicheIx n (e + 4 * j) → i = j := by
  intro i hi j hj heq
  obtain ⟨hlo, hhi⟩ := (inNiche_iff _).mp (State.nicheAt_inNiche (hat i hi))
  obtain ⟨hlo', hhi'⟩ := (inNiche_iff _).mp (State.nicheAt_inNiche (hat j hj))
  unfold nicheIx at heq
  omega

variable (h : s.ready n 4 = true) {d a : RegNo} {imm : BitVec 24} (ha : ((s.core n).getW a).tag ∈ addrTags)
  (he : e = addrOf ((s.core n).getW a).pay imm.toInt) (hal : e % 4 = 0)
include h ha he hal

theorem vld_runs {w : Nat → Word} (hw : ∀ i ∈ List.range 4,
      decodeContainer (s.nicheCont n (e + 4 * i)) = .clean (w i) ∧ (w i).tag.reserved = false) :
    s.runs (.vld n d a imm) n 4 ((List.range 4).map fun i => resV d i (w i)) {} := by
  refine runInstr_runs h (exec_vld ..) rfl rfl (Nat.one_le_ofNat (n := 3)) fun u hu => ?_
  obtain ⟨f, hf⟩ := hu.own
  have haddr : baseAddr ((s.core n).withCopies f) a imm.toInt = .ok e := he ▸ baseAddr_mem ha _
  simp only [hf, haddr, vldInstr, hal, fourAddrs_niche hat, translateAll_niche hu hat, List.zip_map',
    loadAll_niche hu hw]
  rfl

theorem vst_runs : ∃ t, exec (.vst n d a imm) s = .next t ∧ s.ran t n 4 [] {}
    ∧ (∀ i ∈ List.range 4, t.nicheCont n (e + 4 * i) = encodeWord ((s.core n).getV d i))
    ∧ s.nicheBut t n ((List.range 4).map fun i => e + 4 * i) ∧ t = s.nicheOf t := by
  obtain ⟨t, hnext, hran, hrest, hniche⟩ := runInstr_ran h (exec_vst s n d a imm) rfl rfl (Nat.le_refl 1)
    (ws := []) (fl := {})
    (P := (· = nicheStores n (fun i => e + 4 * i) ((s.core n).getV d) (List.range 4) s.niche)) fun u hu => by
      obtain ⟨f, hf⟩ := hu.own
      have haddr : baseAddr ((s.core n).withCopies f) a imm.toInt = .ok e := he ▸ baseAddr_mem ha _
      have hstoring := hu.trans (storing_aside n 4 u)
      refine ⟨storing n 4 u, _, hstoring, ?_, rfl⟩
      simp only [hf, haddr, vstInstr, hal, fourAddrs_niche hat, translateAll_niche hu hat, List.zip_map',
        Core.withCopies_getV, storeAll_niche, hstoring.niche]
      rfl
  refine ⟨t, hnext, hran, fun i hi => ?_, fun j hj => ?_, hrest⟩
  · rw [State.nicheCont, hniche]
    exact contAt_nicheStores_mem (f := fun i => e + 4 * i) (nicheIx_four hat) hi _
  · rw [hniche]
    exact contAt_nicheStores_ne (fun i hi => hj _ (List.mem_map_of_mem hi)) _

end four

/-- Settles O46: a niche address reaches its word on a path that no cache and no Junction serves, and an instruction's
work there is a read or a replacement of that word. -/
theorem nicheAccesses : Obligations.NicheAccesses := by
  unfold Obligations.NicheAccesses
  refine ⟨?_, ?_, ?_, ?_⟩
  · rintro n sz e d c w s h rfl hat hw
    refine ⟨fun i hform hal hres => ?_, ?_, ?_, ?_⟩
    · obtain ⟨a, disp, rfl, rfl, ha, rfl⟩ | ⟨a, disp, rfl, rfl, ha, rfl⟩ | ⟨a, b, rfl, rfl, ha, hb, rfl⟩
        | ⟨bk, ad, rfl, rfl, rfl⟩ := hform
      · exact wordLoad_runs h hat hw mem24 (baseAddr · a (4 * disp.toNat)) (exec_lw ..)
          rfl rfl (fun _ => baseAddr_mem ha _) hal hres
      · exact wordLoad_runs h hat hw mem48 (baseAddr · a disp.toInt) (exec_lw ..)
          rfl rfl (fun _ => baseAddr_mem ha _) hal hres
      · exact wordLoad_runs h hat hw mem48 (indexAddr · a b) (exec_lwx ..)
          rfl rfl (fun _ => indexAddr_mem ha hb) hal hres
      · exact wordLoad_runs h hat hw mem48 (fun c => Except.ok (bankAddr c bk ad)) (exec_lwb ..)
          rfl rfl (fun _ => rfl) hal hres
    · rintro i sg rfl (⟨a, imm, rfl, ha, rfl⟩ | ⟨bk, ad, rfl, rfl, rfl⟩) htag
      · cases sg with
        | false =>
          exact sampleLoad_runs h hat hw mem48 (baseAddr · a imm.toInt) (exec_lsu ..)
            rfl rfl (fun _ => baseAddr_mem ha _) htag rfl
        | true =>
          exact sampleLoad_runs h hat hw mem48 (baseAddr · a imm.toInt) (exec_lss ..)
            rfl rfl (fun _ => baseAddr_mem ha _) htag rfl
      · exact sampleLoad_runs h hat hw mem48 (fun c => Except.ok (bankAddr c bk ad)) (exec_lsub ..)
          rfl rfl (fun _ => rfl) htag rfl
    · rintro i rfl (⟨a, imm, rfl, ha, rfl⟩ | ⟨bk, ad, rfl, rfl⟩) htag hd
      · exact sampleStore_edits h hat hw mem48 (baseAddr · a imm.toInt) (exec_ss ..)
          rfl rfl (fun _ => baseAddr_mem ha _) htag hd
      · exact sampleStore_edits h hat hw mem48 (fun c => Except.ok (bankAddr c bk ad)) (exec_ssb ..)
          rfl rfl (fun _ => rfl) htag hd
    · rintro a b g rfl rfl hal ha
      simp only [List.forall_mem_cons]
      refine ⟨fun ⟨htag, hb⟩ => ?_, fun _ => ?_, fun _ => ?_, List.forall_mem_nil _⟩
      · refine atomic_edits h hat hw mem48 (baseAddr · a 0)
          (fun c => (operand intTags 1 (c.getW b)).bind fun q => .ok (.fadd q)) (exec_amoadd ..) rfl rfl
          (fun _ => baseAddr_zero ha) hal (o := .fadd ((s.core n).getW b).pay) (fun f => ?_) nofun nofun
          (y := some ⟨w.tag, w.pay + ((s.core n).getW b).pay⟩) (if_pos htag)
        rw [Core.withCopies_getW, operand_mem hb]
        rfl
      · exact atomic_edits h hat hw mem48 (baseAddr · a 0) (fun c => .ok (.swap (c.getW b))) (exec_amoswp ..) rfl rfl
          (fun _ => baseAddr_zero ha) hal (o := .swap ((s.core n).getW b)) (fun _ => rfl) nofun nofun
          (y := some ((s.core n).getW b)) rfl
      · rw [← elim_encodeWord_ite]
        exact atomic_edits h hat hw mem48 (baseAddr · a 0) (fun c => .ok (.cas (c.getW b) (c.getW g))) (exec_amocas ..)
            rfl rfl (fun _ => baseAddr_zero ha) hal (o := .cas ((s.core n).getW b) ((s.core n).getW g)) (fun _ => rfl)
          nofun nofun rfl
  · rintro n sz e d c i s h rfl hat hal hform
    obtain ⟨a, disp, rfl, rfl, ha, rfl⟩ | ⟨a, disp, rfl, rfl, ha, rfl⟩ | ⟨a, b, rfl, rfl, ha, hb, rfl⟩
      | ⟨bk, ad, rfl, rfl, rfl⟩ := hform
    · exact wordStore_edits h hat mem24 (baseAddr · a (4 * disp.toNat)) (exec_sw ..)
        rfl rfl (fun _ => baseAddr_mem ha _) hal
    · exact wordStore_edits h hat mem48 (baseAddr · a disp.toInt) (exec_sw ..) rfl rfl (fun _ => baseAddr_mem ha _) hal
    · exact wordStore_edits h hat mem48 (indexAddr · a b) (exec_swx ..) rfl rfl (fun _ => indexAddr_mem ha hb) hal
    · exact wordStore_edits h hat mem48 (fun c => Except.ok (bankAddr c bk ad)) (exec_swb ..) rfl rfl (fun _ => rfl) hal
  · rintro n d a imm e c ws s h rfl ha he hal hat
    have hat' : ∀ i ∈ List.range 4, s.nicheAt n (e + 4 * i) = true := fun i hi => hat i (List.mem_range.mp hi)
    refine ⟨fun _ hws => vld_runs hat' h ha he hal fun i hi => hws i (List.mem_range.mp hi), ?_⟩
    obtain ⟨t, hnext, hran, hwords, hrest⟩ := vst_runs hat' h (d := d) ha he hal
    exact ⟨t, hnext, hran, fun i hi => hwords i (List.mem_range.mpr hi), hrest⟩
  · intro n a s h ha hat
    simp only [List.forall_mem_cons]
    exact ⟨cacheInstr_runs h ha hat (exec_dclean ..), cacheInstr_runs h ha hat (exec_dinv ..),
      cacheInstr_runs h ha hat (exec_dclinv ..), List.forall_mem_nil _⟩

end Sys2Proof.Machine
end

section
/-! The entry into deterministic mode (R451) on a core whose outstanding branches have no cycle left. -/

namespace Sys2Proof.Machine

theorem Core.branchesLeft_eq_zero {c : Core} (h : ∀ b ∈ c.branches, b.left = 0) : c.branchesLeft = 0 := by
  unfold Core.branchesLeft
  generalize c.branches = bs at h
  induction bs with
  | nil => rfl
  | cons b bs ih =>
    rw [List.foldl_cons, h b List.mem_cons_self]
    exact ih fun x hx => h x (List.mem_cons_of_mem b hx)

/-- Where no outstanding branch has a cycle left, the entry into deterministic mode (R451) waits for none, and the
branches stay on the core. -/
theorem exec_deterministicEntry_noneLeft {s : State} {n : Fin 16} (hopen : (s.core n).shut = false)
    (hdet : (s.core n).det = true) (hbr : (s.core n).branches ≠ []) (hleft : ∀ b ∈ (s.core n).branches, b.left = 0) :
    ∃ t, exec (.deterministicEntry n) s = .next t ∧ t.core n = s.core n := by
  refine ⟨_, exec_deterministicEntry .., ?_⟩
  simp [advance, Core.advances, hopen, hdet, hbr, Core.branchesLeft_eq_zero hleft, Core.cycles]

/-- A core in deterministic mode with one transfer outstanding, which has no cycle left until it resolves. -/
def coreBranchDue : Core :=
  { (({} : Core).setSr 0 16) with branches := [⟨0, none, false, true, false, ⟨0, 0, none⟩⟩] }

/-- Refutes O55: in the clause on R451 (deterministic mode waits for every branch) nothing says that a branch has a cycle
left, as the clause on R435 does. On core 0 of this state the one outstanding branch has none left; the core waits for
zero cycles, and the branch stays where the clause says that none is left. -/
theorem not_coreCycles : ¬ Obligations.CoreCycles := by
  unfold Obligations.CoreCycles
  rintro ⟨hcore, -⟩
  have hc : (State.reset.setCore 0 coreBranchDue).core (0 : Fin 16) = coreBranchDue := State.setCore_core ..
  have hopen : coreBranchDue.shut = false := by decide
  have hdet : coreBranchDue.det = true := by decide
  have hbr : coreBranchDue.branches ≠ [] := by decide
  have hleft : ∀ b ∈ coreBranchDue.branches, b.left = 0 := by decide
  obtain ⟨-, -, -, -, -, hentry⟩ := hcore 0 _ _ hc.symm
  obtain ⟨t, hnext, hnone, -⟩ := hentry hopen hdet hbr
  rw [← hc] at hopen hdet hbr hleft
  obtain ⟨u, hnext', hkept⟩ := exec_deterministicEntry_noneLeft hopen hdet hbr hleft
  have htu : t = u := Host.Outcome.next.inj (hnext.symm.trans hnext')
  rw [htu, hkept] at hnone
  exact hbr hnone

end Sys2Proof.Machine
end

section
/-! Axes: the state changes of enabling, disabling, a source fault and a coast that times out, and the SETPOS write
(R118 to R120, R149). -/

namespace Sys2Proof.Machine

variable {s : State}

/-! ### Registers written -/

theorem State.setRegN_reg_ne (s : State) {o k : Nat} (h : k ≠ o) (v : Nat) : (s.setRegN o v).reg k = s.reg k :=
  s.setReg_reg_ne h _

theorem State.setRegN_regsBut (s : State) (o v : Nat) : s.regsBut (s.setRegN o v) [o] := s.setReg_regsBut o _

/-! ### Events of the hub -/

/-- The hub's own sources cross no sideband, R28. -/
theorem State.hears_hub (s : State) {n : Nat} (h : eventDie n = 0) : s.sideDown (eventDie n) = false := by
  simp [State.sideDown, h]

theorem raise_isPending_hub (s : State) {n : Nat} (h : eventDie n = 0) : (raise n s).isPending n = true :=
  raise_isPending s n (s.hears_hub h)

theorem eventDie_of_lt {n : Nat} (h : n < 84) : eventDie n = 0 := if_pos h

theorem unlessRestoring_go (h : s.pf.restoring = false) (f : State → State) : unlessRestoring f s = f s := by
  simp [unlessRestoring, h]

/-! ### A change of state, R118 -/

section change
variable {n : Nat} {new : AxState} (h : (s.axis n).st ≠ new)
include h

theorem axisTo_change : axisTo n new s = logCairn .traverse 0x01 [⟨4, n⟩, ⟨3, (s.axis n).st.code⟩, ⟨3, new.code⟩]
    (raise n (s.setAxis n { s.axis n with st := new })) := if_neg h

theorem axisTo_isPending (hn : n < 16) : (axisTo n new s).isPending n = true := by
  rw [axisTo_change h, logCairn_isPending _ _ _ _ (by omega)]
  exact raise_isPending_hub _ (eventDie_of_lt (by omega))

end change

theorem axisTo_axis_same (s : State) (n : Nat) (new : AxState) :
    (axisTo n new s).axis n = { s.axis n with st := new } := by
  rw [axisTo_axis, if_pos rfl]

theorem axisTo_axis_ne (s : State) {n k : Nat} (new : AxState) (h : k ≠ n) :
    (axisTo n new s).axis k = s.axis k := by
  rw [axisTo_axis, if_neg h]

theorem EVC_PEND_axis {n : Nat} (h : n < 16) : R.EVC_PEND (n / 32) = R.EVC_PEND 0 := by
  rw [Nat.div_eq_of_lt (by omega)]

/-- Of an axis's registers a change of state writes none: its event's pending bits and the log's counter only. -/
theorem axisTo_regsBut (s : State) {n : Nat} (hn : n < 16) (new : AxState) :
    s.regsBut (axisTo n new s) [R.EVC_PEND 0, R.CAIRN_DROPCNT] := fun k hk => by
  simp only [List.mem_cons, List.not_mem_nil, or_false, not_or] at hk
  exact axisTo_reg_ne s n new (by rw [EVC_PEND_axis hn]; exact hk.1) hk.2

/-! ### Enabling, R119 -/

/-- An axis on its own source again: a takeover's switch undone. -/
def unswitch (n : Nat) (s : State) : State :=
  { s with casc := { s.casc with switched := s.casc.switched.filter (· != n) } }

theorem bits_eq_mod_div (x lo w : Nat) : bits x lo w = x % 2 ^ (lo + w) / 2 ^ lo := by
  rw [bits, pow_add, Nat.mod_mul_right_div_self]

/-- A field within the bits written reads as that field of the value written. -/
theorem bits_setBits_inside (x v : Nat) {lo w k : Nat} (h : lo + w ≤ k) :
    bits (setBits x 0 k v) lo w = bits v lo w := by
  obtain ⟨j, rfl⟩ := Nat.exists_eq_add_of_le h
  have hmod : setBits x 0 (lo + w + j) v % 2 ^ (lo + w) = v % 2 ^ (lo + w) := by
    have hcut : setBits x 0 (lo + w + j) v = v % 2 ^ (lo + w + j)
        + 2 ^ (lo + w) * (x / 2 ^ (lo + w + j) * 2 ^ j) := by
      simp only [setBits, pow_zero, Nat.mod_one, Nat.zero_add, Nat.mul_one, pow_add]
      ring
    rw [hcut, Nat.add_mul_mod_self_left, Nat.mod_mod_of_dvd _ (Nat.pow_dvd_pow 2 (by omega))]
  rw [bits_eq_mod_div, hmod, ← bits_eq_mod_div]

/-- AXIS[n].CFG as a write of its 20 bits leaves it. -/
def State.cfgTaken (s : State) (n v : Nat) : Nat := setBits (s.regN (R.AXIS_CFG n)) 0 20 v

@[simp] theorem unswitch_axis (n : Nat) (s : State) (k : Nat) : (unswitch n s).axis k = s.axis k := rfl
@[simp] theorem unswitch_regs (n : Nat) (s : State) : (unswitch n s).regs = s.regs := rfl

theorem unswitch_setRegN_regsBut (s : State) (n o v : Nat) : s.regsBut (unswitch n (s.setRegN o v)) [o] :=
  (s.setRegN_regsBut o v).trans (State.regsBut_of_regs (unswitch_regs n (s.setRegN o v)) [])

theorem unswitch_srcOf (s : State) (n : Nat) : (unswitch n s).srcOf n
    = (s.fld (R.AXIS_CFG n) F.AXIS_CFG_SRC, s.fld (R.AXIS_CFG n) F.AXIS_CFG_INST) := by
  simp [State.srcOf, unswitch, State.fld, State.regN, State.reg]

theorem axisCfgWrite_off {n v : Nat} (hoff : (s.axis n).now = .off) : axisCfgWrite n v s
    = if v % 2 = 0 then axisDisable n (unswitch n (s.setRegN (R.AXIS_CFG n) (s.cfgTaken n v)))
      else axisEnable n (unswitch n (s.setRegN (R.AXIS_CFG n) (s.cfgTaken n v))) := by
  simp [axisCfgWrite, hoff, unswitch, State.cfgTaken]

theorem axisCfgWrite_disable {n v : Nat} (hoff : (s.axis n).now ≠ .off) (hv : v % 2 = 0)
    (hsame : setBits (s.cfgTaken n v) 0 1 0 = setBits (s.regN (R.AXIS_CFG n)) 0 1 0) :
    axisCfgWrite n v s = axisDisable n (s.setRegN (R.AXIS_CFG n) (s.cfgTaken n v)) := by
  unfold State.cfgTaken at hsame
  simp [axisCfgWrite, hoff, hv, hsame, State.cfgTaken]

/-- The state of the axis that a QUAD or SYNTH axis starts in. -/
theorem axisEnable_track {n : Nat} (hsrc : (s.srcOf n).1 ≤ 1) : ∃ x : Axis, axisEnable n s = axisTo n .track (s.setAxis n x)
    ∧ x.st = (s.axis n).st ∧ x.pos = 0 ∧ x.vel = 0 ∧ x.acc = 0 ∧ x.src.n = 0 ∧ x.front = 0 := by
  have hlisted : ¬ 6 ≤ (s.srcOf n).1 := by omega
  unfold axisEnable
  dsimp only
  rw [if_neg hlisted, if_pos hsrc]
  exact ⟨_, rfl, rfl, rfl, rfl, rfl, rfl, rfl⟩

theorem axisEnable_acquire {n : Nat} (hsrc : 2 ≤ (s.srcOf n).1) (hle : (s.srcOf n).1 ≤ 5) :
    ∃ x : Axis, axisEnable n s = axisTo n .acquire (s.setAxis n x)
    ∧ x.st = (s.axis n).st ∧ x.pos = (s.axis n).pos ∧ x.vel = (s.axis n).vel ∧ x.acc = (s.axis n).acc := by
  have hlisted : ¬ 6 ≤ (s.srcOf n).1 := by omega
  have hmeasured : ¬ (s.srcOf n).1 ≤ 1 := by omega
  unfold axisEnable
  dsimp only
  rw [if_neg hlisted, if_neg hmeasured]
  exact ⟨_, rfl, rfl, rfl, rfl, rfl⟩

/-- SRC as it is written is the source that an axis in OFF is enabled with. -/
theorem cfgTaken_srcOf (n v : Nat) : ((unswitch n (s.setRegN (R.AXIS_CFG n) (s.cfgTaken n (setBits v 0 1 1)))).srcOf n).1
    = bits v F.AXIS_CFG_SRC.lo F.AXIS_CFG_SRC.w := by
  have htaken : s.cfgTaken n (setBits v 0 1 1) < 2 ^ 48 := setBits_lt _ _ _ _ _ (s.regN_lt _) (by decide)
  rw [unswitch_srcOf, State.fld, State.setRegN_regN_same _ _ _ htaken]
  have hread := bits_setBits_inside (s.regN (R.AXIS_CFG n)) (setBits v 0 1 1) (lo := 1) (w := 3) (k := 20) (by decide)
  exact hread.trans (bits_setBits_high v 0 1 1 1 3 (by decide))

/-- The registers that a change of an axis's configuration and state may write. -/
def axisCfgRegs (n : Nat) : List Nat := [R.AXIS_CFG n, R.EVC_PEND 0, R.CAIRN_DROPCNT]

/-- An axis enabled with a listed source starts in a state other than OFF, and nothing else is touched. -/
theorem exec_axisEnable_starts {n : Fin 16} {v : Payload} (hgo : s.pf.restoring = false)
    (hoff : (s.axis n).now = .off) {new : AxState} (hnew : new ≠ .off) {x : Axis} (hx : x.st = .off)
    (h : axisEnable n (unswitch n (s.setRegN (R.AXIS_CFG n) (s.cfgTaken n (setBits v.toNat 0 1 1))))
      = axisTo n new ((unswitch n (s.setRegN (R.AXIS_CFG n) (s.cfgTaken n (setBits v.toNat 0 1 1)))).setAxis n x)) :
    ∃ t, exec (.axisEnable n v) s = .next t ∧ t.axis n = { x with st := new } ∧ t.isPending n = true
      ∧ (∀ k, k ≠ n.val → t.axis k = s.axis k) ∧ s.regsBut t (axisCfgRegs n)
      ∧ t = { s with regs := t.regs, axes := t.axes, cores := t.cores, cairn := t.cairn, casc := t.casc } := by
  have hodd : ¬ setBits v.toNat 0 1 1 % 2 = 0 := by simp [setBits]; omega
  rw [exec_axisEnable, execAxisEnable, unlessRestoring_go hgo, axisCfgWrite_off hoff, if_neg hodd, h]
  set u := (unswitch n (s.setRegN (R.AXIS_CFG n) (s.cfgTaken n (setBits v.toNat 0 1 1)))).setAxis n x with hu
  have hun : u.axis n = x := by rw [hu, State.setAxis_axis, if_pos rfl]
  have hne : (u.axis n).st ≠ new := by rw [hun, hx]; exact hnew.symm
  refine ⟨_, rfl, by rw [axisTo_axis_same, hun], axisTo_isPending hne n.isLt, fun k hk => ?_, ?_, ?_⟩
  · rw [axisTo_axis_ne _ _ hk, hu, State.setAxis_axis, if_neg hk, unswitch_axis, State.setRegN_axis]
  · have hregs : u.regs = (unswitch n (s.setRegN (R.AXIS_CFG n) (s.cfgTaken n (setBits v.toNat 0 1 1)))).regs := by
      rw [hu, State.setAxis_regs]
    exact ((unswitch_setRegN_regsBut s n _ _).trans (State.regsBut_of_regs hregs [])).trans
      (axisTo_regsBut u n.isLt new)
  · obtain ⟨_, _, _, _, hrest⟩ := axisTo_rest u n new
    obtain ⟨_, hset⟩ := s.setRegN_rest (R.AXIS_CFG n) (s.cfgTaken n (setBits v.toNat 0 1 1))
    rw [hrest, hu, State.setAxis, unswitch, hset]

/-! ### Disabling, R119 -/

theorem axisDisable_on {n : Nat} (h : (s.axis n).st ≠ .off) : axisDisable n s = axisTo n .off (holdRun n s) := if_neg h

theorem holdRun_axis (n k : Nat) : (holdRun n s).axis k
    = if k = n then { s.axis n with runAs := some (s.axis n).now } else s.axis k := by
  rw [holdRun, State.setAxis_axis]
  rfl

/-- A change of state that waits for the tick's end: the axis keeps the state in which this tick's update runs, R119. -/
def axisEnds (n : Nat) (new : AxState) (s : State) : State := axisTo n new (holdRun n s)

section ends
variable {n : Nat} {new : AxState}

theorem axisEnds_axis (k : Nat) : (axisEnds n new s).axis k
    = if k = n then { s.axis n with st := new, runAs := some (s.axis n).now } else s.axis k := by
  rw [axisEnds, axisTo_axis, holdRun_axis, holdRun_axis, if_pos rfl]
  split <;> rfl

theorem axisEnds_isPending (h : (s.axis n).st ≠ new) (hn : n < 16) : (axisEnds n new s).isPending n = true := by
  refine axisTo_isPending ?_ hn
  rwa [holdRun_axis, if_pos rfl]

theorem axisEnds_regsBut (hn : n < 16) : s.regsBut (axisEnds n new s) [R.EVC_PEND 0, R.CAIRN_DROPCNT] :=
  axisTo_regsBut (holdRun n s) hn new

theorem axisEnds_rest : ∃ r a c l, axisEnds n new s = { s with regs := r, axes := a, cores := c, cairn := l } := by
  obtain ⟨_, _, _, _, h⟩ := axisTo_rest (holdRun n s) n new
  exact ⟨_, _, _, _, h⟩

end ends

/-- A write of CFG that changes nothing but EN disables an axis that is not OFF; where the axis is OFF within the tick it
also undoes a takeover's switch. -/
theorem axisCfgWrite_disables {n v : Nat} (hst : (s.axis n).st ≠ .off) (hv : v % 2 = 0)
    (h : (s.axis n).now = .off ∨ setBits (s.cfgTaken n v) 0 1 0 = setBits (s.regN (R.AXIS_CFG n)) 0 1 0) :
    ∃ u, axisCfgWrite n v s = axisEnds n .off u ∧ s.regsBut u [R.AXIS_CFG n]
      ∧ ∃ r c, u = { s with regs := r, casc := c } := by
  obtain ⟨_, hset⟩ := s.setRegN_rest (R.AXIS_CFG n) (s.cfgTaken n v)
  by_cases hoff : (s.axis n).now = .off
  · refine ⟨unswitch n (s.setRegN (R.AXIS_CFG n) (s.cfgTaken n v)), ?_, unswitch_setRegN_regsBut s n _ _, ?_⟩
    · rw [axisCfgWrite_off hoff, if_pos hv]
      exact axisDisable_on (by rwa [unswitch_axis, State.setRegN_axis])
    · rw [unswitch, hset]
      exact ⟨_, _, rfl⟩
  · refine ⟨s.setRegN (R.AXIS_CFG n) (s.cfgTaken n v), ?_, s.setRegN_regsBut _ _, ?_⟩
    · rw [axisCfgWrite_disable hoff hv (h.resolve_left hoff)]
      exact axisDisable_on (by rwa [State.setRegN_axis])
    · rw [hset]
      exact ⟨_, _, rfl⟩

/-! ### A source fault and the last tick in COAST, R117 and R119 -/

/-- A faulted TRACK axis begins its time in COAST. -/
def coastBegun (n : Nat) (s : State) : State := (holdRun n s).setAxis n { (holdRun n s).axis n with coastFor := 0 }

theorem coastBegun_axis (n k : Nat) : (coastBegun n s).axis k
    = if k = n then { s.axis n with coastFor := 0, runAs := some (s.axis n).now } else s.axis k := by
  rw [coastBegun, State.setAxis_axis, holdRun_axis, holdRun_axis, if_pos rfl]
  split <;> rfl

theorem coastBegun_regs (n : Nat) (s : State) : (coastBegun n s).regs = s.regs := by
  rw [coastBegun, State.setAxis_regs, holdRun, State.setAxis_regs]

theorem AXIS_STAT_not_told (n : Fin 16) : R.AXIS_STAT n ∉ [R.EVC_PEND 0, R.CAIRN_DROPCNT] := by
  simp only [List.mem_cons, List.not_mem_nil, or_false, R.AXIS_STAT, R.EVC_PEND, R.CAIRN_DROPCNT]
  omega

theorem sourceFault_coasts {n : Nat} (hst : (s.axis n).st = .track) (hnow : (s.axis n).now = .track)
    (hfault : s.faultNow n = true) (hmax : (s.axis n).coastmax ≠ 0) : sourceFault n s
      = axisTo n .coast (coastBegun n (s.setFld (R.AXIS_STAT n) F.AXIS_STAT_LOSS 1)) := by
  have hkept : ((axisTo n .coast (coastBegun n (s.setFld (R.AXIS_STAT n) F.AXIS_STAT_LOSS 1))).axis n).coastmax
      ≠ 0 := by
    rwa [axisTo_axis_same, coastBegun_axis, if_pos rfl]
  rw [sourceFault, if_pos ⟨hst, hnow, hfault⟩]
  exact if_neg hkept

theorem coastTimeout_lost {n : Nat} (hst : (s.axis n).st = .coast) (hrun : (s.axis n).runAs = none)
    (hmax : (s.axis n).coastmax ≤ (s.axis n).coastFor + 1)
    (hok : (s.filterNow n (s.srcOf n).1 (s.srcOf n).2 .coast).2.ok = false) :
    coastTimeout n s = axisEnds n .lost s :=
  if_pos ⟨hst, hrun, hmax, ne_true_of_eq_false hok⟩

theorem Axis.now_of_runAs_none {x : Axis} (h : x.runAs = none) : x.now = x.st := by rw [Axis.now, h]; rfl

/-! ### SETPOS, R120 -/

theorem AxState.live_iff (x : AxState) : x.live = true ↔ x = .track ∨ x = .coast := by
  cases x <;> simp [AxState.live]

/-- Settles O9: each command is one change of an axis's state on the state that its own writes leave, and a change of
state touches the axis, its event and the log only. -/
theorem axisCommands : Obligations.AxisCommands := by
  unfold Obligations.AxisCommands
  refine ⟨⟨fun n v s hgo hst hoff hsrc => ?_, fun n v s hgo hst hsame => ?_, fun n s hst hnow hfault hmax => ?_,
    fun n s hst hrun hmax hok => ?_⟩, fun n v s hgo => ⟨fun hlive => ?_, fun ht hc => ?_⟩⟩
  · have hstart {new : AxState} := exec_axisEnable_starts (v := v) hgo hoff (new := new)
    have hsrcOf := cfgTaken_srcOf (s := s) n v.toNat
    by_cases hle : bits v.toNat F.AXIS_CFG_SRC.lo F.AXIS_CFG_SRC.w ≤ 1
    · obtain ⟨x, hen, hx, hpos, hvel, hacc, hcount, hfront⟩ := axisEnable_track (hsrcOf.trans_le hle)
      rw [unswitch_axis, State.setRegN_axis, hst] at hx
      obtain ⟨t, hexec, haxis, hpend, hothers, hregs, hrest⟩ := hstart (by decide) hx hen
      refine ⟨t, hexec, fun _ => ?_, fun hge => by omega, hpend, hothers, fun k h1 h2 h3 => hregs k ?_, hrest⟩
      · rw [haxis]
        exact ⟨rfl, hpos, hvel, hacc, hcount, hfront⟩
      · simp [axisCfgRegs, h1, h2, h3]
    · obtain ⟨x, hen, hx, hpos, hvel, hacc⟩ := axisEnable_acquire
        (Nat.lt_of_lt_of_eq (Nat.lt_of_not_le hle) hsrcOf.symm) (hsrcOf.trans_le hsrc)
      rw [unswitch_axis, State.setRegN_axis] at hx hpos hvel hacc
      obtain ⟨t, hexec, haxis, hpend, hothers, hregs, hrest⟩ := hstart (by decide) (hx.trans hst) hen
      refine ⟨t, hexec, fun h => absurd h hle, fun _ => ?_, hpend, hothers, fun k h1 h2 h3 => hregs k ?_, hrest⟩
      · rw [haxis]
        exact ⟨rfl, hpos, hvel, hacc⟩
      · simp [axisCfgRegs, h1, h2, h3]
  · have heven : setBits v.toNat 0 1 0 % 2 = 0 := by simp [setBits, Nat.mod_one]
    obtain ⟨u, hends, hregs, r, c, hu⟩ := axisCfgWrite_disables hst heven hsame
    have hax (k : Nat) : u.axis k = s.axis k := by rw [hu]; rfl
    rw [exec_axisDisable, execAxisDisable, unlessRestoring_go hgo, hends]
    refine ⟨_, rfl, by rw [axisEnds_axis, if_pos rfl, hax], axisEnds_isPending (by rwa [hax]) n.isLt, fun k hk => ?_,
      fun k h1 h2 h3 => (hregs.trans (axisEnds_regsBut n.isLt)) k (by simp [h1, h2, h3]), ?_⟩
    · rw [axisEnds_axis, if_neg hk, hax]
    · obtain ⟨_, _, _, _, hrest⟩ := axisEnds_rest (s := u) (n := n) (new := .off)
      rw [hrest, hu]
  · rw [exec_sourceFault, execSourceFault, sourceFault_coasts hst hnow hfault hmax]
    set u := s.setFld (R.AXIS_STAT n) F.AXIS_STAT_LOSS 1 with hu
    have hax (k : Nat) : u.axis k = s.axis k := s.setFld_axis _ _ _ k
    have htrack : ((coastBegun n u).axis n).st ≠ .coast := by
      rw [coastBegun_axis, if_pos rfl, hax, hst]
      decide
    have hto := axisTo_regsBut (coastBegun n u) n.isLt .coast
    have hregs : s.regsBut (axisTo n .coast (coastBegun n u)) [R.AXIS_STAT n, R.EVC_PEND 0, R.CAIRN_DROPCNT] :=
      ((s.setFld_regsBut _ _ _).trans (State.regsBut_of_regs (coastBegun_regs n u) [])).trans hto
    refine ⟨_, rfl, ?_, ?_, axisTo_isPending htrack n.isLt, fun k hk => ?_,
      fun k h1 h2 h3 => hregs k (by simp [h1, h2, h3]), ?_⟩
    · rw [axisTo_axis_same, coastBegun_axis, if_pos rfl, hax]
    · rw [State.fld_of_reg (hto _ (AXIS_STAT_not_told n)), State.fld_congr (coastBegun_regs n u),
        State.setFld_fld_same _ _ _ _ (by decide)]
      rfl
    · rw [axisTo_axis_ne _ _ hk, coastBegun_axis, if_neg hk, hax]
    · obtain ⟨_, _, _, _, hrest⟩ := axisTo_rest (coastBegun n u) n .coast
      obtain ⟨_, hset⟩ := s.setFld_rest (R.AXIS_STAT n) F.AXIS_STAT_LOSS 1
      rw [hrest, coastBegun, holdRun, hu, hset]
      rfl
  · rw [exec_coastTimeout, execCoastTimeout, coastTimeout_lost hst hrun hmax hok]
    have hne : (s.axis n).st ≠ .lost := by rw [hst]; decide
    refine ⟨_, rfl, ?_, axisEnds_isPending hne n.isLt, fun k hk => by rw [axisEnds_axis, if_neg hk],
      fun k h1 h2 => axisEnds_regsBut n.isLt k (by simp [h1, h2]), ?_⟩
    · rw [axisEnds_axis, if_pos rfl, Axis.now_of_runAs_none hrun, hst]
    · obtain ⟨_, _, _, _, hrest⟩ := axisEnds_rest (s := s) (n := n) (new := .lost)
      rw [hrest]
  · rw [exec_setpos, execSetpos, unlessRestoring_go hgo, setposWrite]
    exact congrArg ok (if_pos ((AxState.live_iff _).mpr hlive))
  · rw [exec_setpos, execSetpos, unlessRestoring_go hgo, setposWrite]
    exact congrArg ok (if_neg (by rw [AxState.live_iff]; exact not_or.mpr ⟨ht, hc⟩))

end Sys2Proof.Machine
end

section
/-! Gazetteer entries: what disarming, arming and a refused write leave of an entry (R123 to R126). -/

namespace Sys2Proof.Machine

variable {s : State}

/-! ### Marks and waiting fires -/

@[simp] theorem setMark_regs (i : Nat) (k : GazMark) (s : State) : (setMark i k s).regs = s.regs := rfl
@[simp] theorem setMark_trav (i : Nat) (k : GazMark) (s : State) :
    (setMark i k s).trav = { s.trav with marks := tset (fun _ => {}) s.trav.marks i k } := rfl
@[simp] theorem setFires_regs (l : List Fire) (s : State) : (setFires l s).regs = s.regs := rfl
@[simp] theorem setFires_trav (l : List Fire) (s : State) : (setFires l s).trav = { s.trav with fires := l } := rfl

theorem setMark_mark_same (i : Nat) (k : GazMark) (s : State) : (setMark i k s).mark i = k := tget_tset_same ..

theorem setEntSt_rest (i v : Nat) (s : State) : ∃ r, setEntSt i v s = { s with regs := r } := s.setFld_rest ..

/-! ### STATE and the parameters -/

theorem ENT_W2_inj {i j : Nat} : R.ENT_W2 i = R.ENT_W2 j ↔ i = j := by
  unfold R.ENT_W2
  omega

theorem setEntSt_entSt_same (i : Nat) {v : Nat} (h : v < 4) (s : State) : (setEntSt i v s).entSt i = v := by
  rw [State.entSt, setEntSt, State.setFld_fld_same _ _ _ _ (by decide)]
  exact Nat.mod_eq_of_lt h

theorem setEntSt_entSt_ne {i j : Nat} (h : j ≠ i) (v : Nat) (s : State) : (setEntSt i v s).entSt j = s.entSt j :=
  s.setFld_fld_ne _ _ (mt ENT_W2_inj.mp h) _

theorem setEntSt_regsBut (i v : Nat) (s : State) : s.regsBut (setEntSt i v s) [R.ENT_W2 i] :=
  s.setFld_regsBut _ _ _

theorem State.entSt_congr {s t : State} (h : s.regs = t.regs) (i : Nat) : s.entSt i = t.entSt i := State.fld_congr h _ _

theorem State.entLive_iff (i : Nat) : s.entLive i = true ↔ s.entSt i = 1 ∨ s.entSt i = 3 := by
  have hlt : s.entSt i < 2 ^ 2 := bits_lt ..
  unfold State.entLive
  rw [beq_iff_eq]
  omega

theorem State.entLive_of_idle {i : Nat} (h : s.entSt i = 0 ∨ s.entSt i = 2) : s.entLive i = false := by
  unfold State.entLive
  rcases h with h | h <;> rw [h] <;> rfl

/-! ### Disarming, R125 -/

section gazDisarm
variable (i : Nat) (s : State)

theorem gazDisarm_regs : (gazDisarm i s).regs = (setEntSt i 0 s).regs := rfl

theorem gazDisarm_trav : (gazDisarm i s).trav = { s.trav with
    fires := s.trav.fires.filter (fun f => !(f.i == i && !f.fb)),
    marks := tset (fun _ => {}) s.trav.marks i {} } := by
  rw [gazDisarm, setFires_trav, setMark_trav, setEntSt, State.setFld_trav]
  rfl

theorem gazDisarm_rest : ∃ r v, gazDisarm i s = { s with regs := r, trav := v } := by
  obtain ⟨_, h⟩ := setEntSt_rest i 0 s
  rw [gazDisarm, h]
  exact ⟨_, _, rfl⟩

theorem gazDisarm_regsBut : s.regsBut (gazDisarm i s) [R.ENT_W2 i] :=
  (setEntSt_regsBut i 0 s).trans (State.regsBut_of_regs (gazDisarm_regs i s) [])

theorem gazDisarm_entSt_same : (gazDisarm i s).entSt i = 0 := by
  rw [State.entSt_congr (gazDisarm_regs i s), setEntSt_entSt_same i (by decide)]

theorem gazDisarm_entSt_ne {j : Nat} (h : j ≠ i) : (gazDisarm i s).entSt j = s.entSt j := by
  rw [State.entSt_congr (gazDisarm_regs i s), setEntSt_entSt_ne h]

end gazDisarm

/-! ### Writes of word 2, R125 -/

section word2
variable {i v : Nat}

theorem gazW2_disarms (h : bits v 46 2 ≠ 1) :
    gazWrite i 2 v s = (gazDisarm i s).setFld (R.ENT_W2 i) F.ENT_W2_PARAM v := if_neg h

theorem gazW2_arms (h : bits v 46 2 = 1) (hok : s.armRefused i = false) :
    gazWrite i 2 v s = setMark i {} (s.setRegN (R.ENT_W2 i) v) := by
  rw [gazWrite, if_pos rfl, gazW2, if_pos h, hok, if_neg Bool.false_ne_true]

theorem gazW2_refused (h : bits v 46 2 = 1) (hno : s.armRefused i = true) : gazWrite i 2 v s = gazRefuse i 2 s := by
  rw [gazWrite, if_pos rfl, gazW2, if_pos h, if_pos hno]

theorem State.armRefused_iff : s.armRefused i = true ↔ s.entSt i = 1 ∨ s.entSt i = 3 ∨ s.ent1 i F.ENT_W1_DIR = 0
    ∨ s.ent1 i F.ENT_W1_ACTION = 7 ∨ (s.ent1 i F.ENT_W1_DPOL = 3 ∧ i = 65535) := by
  simp only [State.armRefused, Bool.or_eq_true, Bool.and_eq_true, beq_iff_eq, State.entLive_iff, or_assoc]

/-- STATE and the parameters of a word that is stored whole. -/
theorem setRegN_W2_fields (hv : v < 2 ^ 48) :
    (s.setRegN (R.ENT_W2 i) v).entSt i = bits v 46 2 ∧ (s.setRegN (R.ENT_W2 i) v).entP i = bits v 0 46 := by
  unfold State.entSt State.entP State.fld
  rw [State.setRegN_regN_same _ _ _ hv]
  exact ⟨rfl, rfl⟩

end word2

/-! ### The other words, R126 -/

theorem gazWrite_other {i k v : Nat} (h : k ≠ 2) :
    gazWrite i k v s = if s.entLive i then gazRefuse i k s else s.setRegN (R.ENT_W0 i + 4 * k) v := if_neg h

/-- A written word whose STATE is not 0b01 disarms the entry and stores its parameters. -/
theorem gazWrite_disarmed {i v : Nat} (h : bits v 46 2 ≠ 1) : ∃ t, gazWrite i 2 v s = t
    ∧ t.entSt i = 0 ∧ t.entP i = bits v 0 46
    ∧ t.trav = { s.trav with fires := s.trav.fires.filter (fun f => !(f.i == i && !f.fb)),
                             marks := tset (fun _ => {}) s.trav.marks i {} }
    ∧ s.regsBut t [R.ENT_W2 i] ∧ t = { s with regs := t.regs, trav := t.trav } := by
  refine ⟨_, gazW2_disarms h, ?_, ?_, ?_, (gazDisarm_regsBut i s).trans (State.setFld_regsBut _ _ _ _) |>.mono ?_, ?_⟩
  · rw [State.entSt, State.setFld_fld_other _ _ _ _ _ (by decide) (.inr (by decide)), ← State.entSt,
      gazDisarm_entSt_same]
  · rw [State.entP, State.setFld_fld_same _ _ _ _ (by decide)]
    simp [bits, F.ENT_W2_PARAM]
  · rw [State.setFld_trav, gazDisarm_trav]
  · simp
  · obtain ⟨_, _, hdis⟩ := gazDisarm_rest i s
    obtain ⟨_, hset⟩ := (gazDisarm i s).setFld_rest (R.ENT_W2 i) F.ENT_W2_PARAM v
    rw [hset, hdis]

/-- Settles O11: a write of word 2 disarms or arms, one of another word stores it, and a refused write only says so. -/
theorem gazetteerWrites : Obligations.GazetteerWrites := by
  unfold Obligations.GazetteerWrites
  intro i v s hgo
  have harm : bits (setBits v.toNat 46 2 1) 46 2 = 1 := bits_setBits_same ..
  refine ⟨fun hv c hc => ?_, fun ⟨hidle, hdir, haction, hlast⟩ => ?_, fun hno => ?_, fun k hk => ⟨fun hidle => ?_, fun hlive => ?_⟩⟩
  · obtain ⟨t, ht, hst, hp, htrav, hregs, hrest⟩ := gazWrite_disarmed (s := s) (i := i) hv
    have hexec : exec c s = .next t := by
      simp only [List.mem_cons, List.not_mem_nil, or_false] at hc
      rcases hc with rfl | rfl
      · rw [exec_gazDisarm, execGazDisarm, unlessRestoring_go hgo, if_neg hv, ht, ok]
      · rw [exec_gazEntryWrite, execGazEntryWrite, unlessRestoring_go hgo]
        exact congrArg ok ht
    exact ⟨t, hexec, hst, hp, htrav, fun k hk => hregs k (by simpa using hk), hrest⟩
  · have hok : s.armRefused i = false := by
      refine eq_false_of_ne_true fun hno => ?_
      rcases State.armRefused_iff.mp hno with h | h | h | h | h
      · omega
      · omega
      · exact hdir h
      · exact haction h
      · exact hlast h
    have hlt : setBits v.toNat 46 2 1 < 2 ^ 48 := setBits_lt _ _ _ _ _ v.isLt (by decide)
    obtain ⟨hst, hp⟩ := setRegN_W2_fields (s := s) (i := i) hlt
    rw [exec_gazArm, execGazArm, unlessRestoring_go hgo, gazW2_arms harm hok]
    refine ⟨_, rfl, ?_, ?_, by rw [setMark_trav, State.setRegN_trav], fun k hk => ?_, ?_⟩
    · rw [State.entSt_congr (setMark_regs _ _ _), hst, harm]
    · rw [State.entP, State.fld_congr (setMark_regs _ _ _), ← State.entP, hp]
      exact bits_setBits_low _ _ _ _ _ _ (by decide)
    · rw [State.reg_congr (setMark_regs _ _ _)]
      exact s.setReg_reg_ne hk _
    · obtain ⟨_, hset⟩ := s.setRegN_rest (R.ENT_W2 i) (setBits v.toNat 46 2 1)
      rw [setMark, hset]
  · rw [exec_gazArm, execGazArm, unlessRestoring_go hgo, gazW2_refused harm (State.armRefused_iff.mpr hno),
      gazRefuse, ok]
  · have hk2 : k.val ≠ 2 := fun h => hk (Fin.ext h)
    rw [exec_gazEntryWrite, execGazEntryWrite, unlessRestoring_go hgo, gazWrite_other hk2, State.entLive_of_idle hidle,
      if_neg Bool.false_ne_true, State.setRegN, BitVec.ofNat_toNat, BitVec.setWidth_eq, ok]
  · have hk2 : k.val ≠ 2 := fun h => hk (Fin.ext h)
    rw [exec_gazEntryWrite, execGazEntryWrite, unlessRestoring_go hgo, gazWrite_other hk2,
      if_pos ((State.entLive_iff i).mpr hlive), gazRefuse, ok]

end Sys2Proof.Machine
end

section
/-! The end of a tick: what each of its parts leaves alone, and the axes of SYNTH sources and those that are LOST
(R112, R114, R119, R122). -/

namespace Sys2Proof.Machine

variable {s : State}

/-! ### Folds over distinct units -/

/-- What a fold of steps keeps that each of them keeps. -/
theorem foldl_keeps {α β : Type} (get : State → β) {step : State → α → State} {l : List α}
    (h : ∀ t, ∀ a ∈ l, get (step t a) = get t) (s : State) : get (l.foldl step s) = get s :=
  List.foldlRecOn (motive := fun t => get t = get s) l step rfl fun t ht a ha => (h t a ha).trans ht

/-- Where only its own step changes what is seen of a unit, a fold over distinct units leaves what that step makes of it;
the state that the step finds is related to the first one as every step relates its states. -/
theorem foldl_own_step {α β : Type} (R : State → State → Prop) (hrefl : ∀ s, R s s)
    (htrans : ∀ {s t u}, R s t → R t u → R s u) (get : State → β) {step : State → α → State} {l : List α}
    (hl : l.Nodup) {a : α} (ha : a ∈ l) (hR : ∀ t, ∀ b ∈ l, R t (step t b))
    (h : ∀ t, ∀ b ∈ l, b ≠ a → get (step t b) = get t) (s : State) :
    ∃ u, R s u ∧ get u = get s ∧ get (l.foldl step s) = get (step u a) := by
  obtain ⟨before, after, rfl⟩ := List.append_of_mem ha
  obtain ⟨_, hafter, hapart⟩ := List.nodup_append.mp hl
  have hne (b : α) (hb : b ∈ after) : b ≠ a := fun e => (List.nodup_cons.mp hafter).1 (e ▸ hb)
  have hne' (b : α) (hb : b ∈ before) : b ≠ a := fun e => hapart b hb a List.mem_cons_self e
  refine ⟨before.foldl step s, ?_, foldl_keeps get (fun t b hb => h t b (by simp [hb]) (hne' b hb)) s, ?_⟩
  · exact List.foldlRecOn (motive := fun t => R s t) before step (hrefl s) fun t ht b hb =>
      htrans ht (hR t b (by simp [hb]))
  · rw [List.foldl_append, List.foldl_cons]
    exact foldl_keeps get (fun t b hb => h t b (by simp [hb]) (hne b hb)) _

/-- The source of an axis is read from two registers and the switches of a takeover. -/
theorem State.srcOf_congr {t : State} {n : Nat} (hcfg : t.reg (R.AXIS_CFG n) = s.reg (R.AXIS_CFG n))
    (halt : t.reg (R.CASC_ALT n) = s.reg (R.CASC_ALT n)) (hsw : t.casc.switched = s.casc.switched) :
    t.srcOf n = s.srcOf n := by
  simp only [State.srcOf, hsw, State.fld_of_reg hcfg, State.fld_of_reg halt]

/-! ### What an operation on one axis leaves -/

/-- The registers that the end of a tick may write for axis m. -/
def axisTickRegs (m : Nat) : List Nat :=
  [R.AXIS_CFG m, R.AXIS_STAT m, R.AXIS_ZCAP m, R.CASC_ALTOFS m, R.EVC_PEND 0, R.CAIRN_DROPCNT]

/-- From `s` to `t` only axis m, its registers, its events and its entries in the log have changed. -/
structure State.axisOnly (m : Nat) (s t : State) : Prop where
  others : ∀ k, k ≠ m → t.axis k = s.axis k
  regs : s.regsBut t (axisTickRegs m)
  switched : t.casc.switched = s.casc.switched
  rest : ∃ r a c l k, t = { s with regs := r, axes := a, cores := c, cairn := l, casc := k }

namespace State.axisOnly
variable {m : Nat} {t u : State}

theorem refl (m : Nat) (s : State) : s.axisOnly m s := ⟨fun _ _ => rfl, fun _ _ => rfl, rfl, _, _, _, _, _, rfl⟩

theorem trans (h : s.axisOnly m t) (h' : t.axisOnly m u) : s.axisOnly m u := by
  obtain ⟨_, _, _, _, _, hst⟩ := h.rest
  obtain ⟨_, _, _, _, _, htu⟩ := h'.rest
  refine ⟨fun k hk => (h'.others k hk).trans (h.others k hk), (h.regs.trans h'.regs).mono (by simp),
    h'.switched.trans h.switched, ?_⟩
  rw [htu, hst]
  exact ⟨_, _, _, _, _, rfl⟩

/-- The source of another axis is as it was. -/
theorem srcOf (h : s.axisOnly m t) {n : Nat} (hm : m < 16) (hn : n < 16) (hne : n ≠ m) : t.srcOf n = s.srcOf n := by
  refine State.srcOf_congr (h.regs _ ?_) (h.regs _ ?_) h.switched
  · simp only [axisTickRegs, List.mem_cons, List.not_mem_nil, or_false, R.AXIS_CFG, R.AXIS_STAT, R.AXIS_ZCAP,
      R.CASC_ALTOFS, R.EVC_PEND, R.CAIRN_DROPCNT]
    omega
  · simp only [axisTickRegs, List.mem_cons, List.not_mem_nil, or_false, R.CASC_ALT, R.AXIS_CFG, R.AXIS_STAT,
      R.AXIS_ZCAP, R.CASC_ALTOFS, R.EVC_PEND, R.CAIRN_DROPCNT]
    omega

theorem setAxis (m : Nat) (s : State) (x : Axis) : s.axisOnly m (s.setAxis m x) :=
  ⟨fun k hk => by rw [State.setAxis_axis, if_neg hk], State.regsBut_of_regs (s.setAxis_regs m x) _, by
    rw [State.setAxis_casc], _, _, _, _, _, rfl⟩

theorem setReg (s : State) {o : Nat} (ho : o ∈ axisTickRegs m) (v : BitVec 48) : s.axisOnly m (s.setReg o v) := by
  obtain ⟨_, hset⟩ := s.setReg_rest o v
  refine ⟨fun k _ => s.setReg_axis o v k, (s.setReg_regsBut o v).mono (by simpa using ho), by rw [State.setReg_casc], ?_⟩
  rw [hset]
  exact ⟨_, _, _, _, _, rfl⟩

theorem setFld (s : State) {o : Nat} (ho : o ∈ axisTickRegs m) (f : Fld) (v : Nat) : s.axisOnly m (s.setFld o f v) :=
  setReg s ho _

theorem log (m : Nat) (s : State) (src : Src) (code : Nat) (fs : List DF) :
    s.axisOnly m (logCairn src code fs s) := by
  obtain ⟨_, _, hlog⟩ := logCairn_rest s src code fs
  refine ⟨fun k _ => logCairn_axis .., (logCairn_regsBut s src code fs).mono (by simp [axisTickRegs]), by rw [logCairn_casc],
    ?_⟩
  rw [hlog]
  exact ⟨_, _, _, _, _, rfl⟩

theorem change (hm : m < 16) (s : State) (new : AxState) : s.axisOnly m (axisTo m new s) := by
  obtain ⟨_, _, _, _, hto⟩ := axisTo_rest s m new
  refine ⟨fun k hk => axisTo_axis_ne s new hk, (axisTo_regsBut s hm new).mono (by simp [axisTickRegs]), by rw [hto], ?_⟩
  rw [hto]
  exact ⟨_, _, _, _, _, rfl⟩

theorem altofs (m : Nat) (s : State) (k : Tab (BitVec 68)) :
    s.axisOnly m { s with casc := { s.casc with altofs := k } } :=
  ⟨fun _ _ => rfl, fun _ _ => rfl, rfl, _, _, _, _, _, rfl⟩

end State.axisOnly

/-! ### The update of one axis -/

open State.axisOnly in
theorem altofsUpdate_axisOnly (m src : Nat) (x : Option (BitVec 68)) (t : Taken) (vel : Int) (s : State) :
    s.axisOnly m (altofsUpdate m src x t vel s) := by
  unfold altofsUpdate
  split
  · split
    · split
      · exact (setReg s (by simp [axisTickRegs]) _).trans (altofs m _ _)
      · exact refl m s
    · exact refl m s
  · exact refl m s

open State.axisOnly in
theorem noteTaken_axisOnly (m : Nat) (t : Taken) (s : State) : s.axisOnly m (noteTaken m t s) := by
  have hstat (f : Fld) : s.axisOnly m (s.setFld (R.AXIS_STAT m) f 1) := setFld s (by simp [axisTickRegs]) f 1
  cases t with
  | none => exact refl m s
  | accepted rev =>
    cases rev with
    | false => exact refl m s
    | true => exact hstat _
  | rejected => exact hstat _
  | stepped e => exact (hstat F.AXIS_STAT_STEP).trans (log m _ _ _ _)

open State.axisOnly in
/-- What a tick's measurement leaves in the registers and the axis. -/
theorem taken_axisOnly (m src : Nat) (x : Option (BitVec 68)) (t : Taken) (vel : Int) (y : Axis) (s : State) :
    s.axisOnly m (noteTaken m t ((altofsUpdate m src x t vel s).setAxis m y)) :=
  ((altofsUpdate_axisOnly m src x t vel s).trans (setAxis m _ y)).trans (noteTaken_axisOnly m t _)

open State.axisOnly in
theorem trackTick_axisOnly {m : Nat} (hm : m < 16) (src inst : Nat) (run : AxState) (s : State) :
    s.axisOnly m (trackTick m src inst run s) := by
  unfold trackTick
  dsimp only
  split
  · split
    · split
      · exact (taken_axisOnly ..).trans (change hm _ _)
      · exact taken_axisOnly ..
    · exact (taken_axisOnly ..).trans (setAxis m _ _)
  · exact taken_axisOnly ..

open State.axisOnly in
theorem acquireTick_axisOnly {m : Nat} (hm : m < 16) (src inst : Nat) (s : State) :
    s.axisOnly m (acquireTick m src inst s) := by
  unfold acquireTick
  dsimp only
  split
  · split
    · exact refl m s
    · exact (setAxis m s _).trans (change hm _ _)
  · exact refl m s

open State.axisOnly in
theorem rebaseTick_axisOnly (m : Nat) (quad : Bool) (s : State) : s.axisOnly m (rebaseTick m quad s) := by
  unfold rebaseTick
  dsimp only
  refine List.foldlRecOn (motive := fun t => s.axisOnly m t) _ _ ?_ fun t ht v _ => ht.trans (setAxis m t _)
  have hcapture : s.axisOnly m (if (s.axis m).zhit && s.fld (R.AXIS_CFG m) F.AXIS_CFG_ZMODE != 0 then
      s.setReg (R.AXIS_ZCAP m) (s.axis m).bearing else s) := by
    split
    · exact setReg s (by simp [axisTickRegs]) _
    · exact refl m s
  split
  · exact ((hcapture.trans (setFld _ (by simp [axisTickRegs]) _ _)).trans (setAxis m _ _)).trans (log m _ _ _ _)
  · exact hcapture

/-- The end of a tick for one axis touches that axis, its registers, events and log entries only. -/
theorem axisTick_axisOnly {m : Nat} (hm : m < 16) (s : State) : s.axisOnly m (axisTick m s) := by
  unfold axisTick
  dsimp only
  refine (State.axisOnly.trans ?_ (rebaseTick_axisOnly m _ _)).trans (.setAxis m _ _)
  split
  · exact acquireTick_axisOnly hm ..
  · split
    · exact .setAxis m s _
    · exact trackTick_axisOnly hm ..
  · split
    · exact .setAxis m s _
    · exact trackTick_axisOnly hm ..
  · exact .refl m s

/-! ### The rest of the tick's end -/

/-- What an observer of the stores sees: the tick and the three memories. -/
def State.held (s : State) : Nat × List Host.Cell × List Host.Cell × List Host.Cell := (s.tick, s.mem, s.niche, s.flash)

/-- What decides how an axis ends a tick: the axis and its source. -/
def State.axisSeen (n : Nat) (s : State) : Axis × Nat × Nat := (s.axis n, s.srcOf n)

theorem State.axisOnly.held {m : Nat} {t : State} (h : s.axisOnly m t) : t.held = s.held := by
  obtain ⟨_, _, _, _, _, hrest⟩ := h.rest
  rw [hrest]
  rfl

theorem State.axisOnly.axisSeen {m n : Nat} {t : State} (h : s.axisOnly m t) (hm : m < 16) (hn : n < 16) (hne : n ≠ m) :
    t.axisSeen n = s.axisSeen n := by
  rw [State.axisSeen, State.axisSeen, h.others n hne, h.srcOf hm hn hne]

section ptp
variable (p : Nat) (x : Int) (s : State)

/-- Two registers and the fraction of a port's clock written. -/
theorem clockWritten_rest (sec nsec : Nat) (y : Eth) : ∃ r e, ((s.setRegN (R.ETH_PTPSEC p) sec).setFld (R.ETH_PTPNS p)
    F.ETH_PTPNS_NS nsec).setEth p y = { s with regs := r, eths := e } := by
  obtain ⟨_, hsec⟩ := s.setRegN_rest (R.ETH_PTPSEC p) sec
  obtain ⟨_, hns⟩ := (s.setRegN (R.ETH_PTPSEC p) sec).setFld_rest (R.ETH_PTPNS p) F.ETH_PTPNS_NS nsec
  rw [State.setEth, hns, hsec]
  exact ⟨_, _, rfl⟩

theorem setPtpClock_rest : ∃ r e, setPtpClock p x s = { s with regs := r, eths := e } := clockWritten_rest ..

theorem setPtpClock_regsBut : s.regsBut (setPtpClock p x s) [R.ETH_PTPSEC p, R.ETH_PTPNS p] := by
  unfold setPtpClock
  dsimp only
  exact ((s.setRegN_regsBut _ _).trans (State.setFld_regsBut _ _ _ _)).trans
    (State.regsBut_of_regs (State.setEth_regs ..) [])

/-- A PTP clock is no part of the stores and of no axis. -/
theorem setPtpClock_held : (setPtpClock p x s).held = s.held := by
  obtain ⟨_, _, h⟩ := setPtpClock_rest p x s
  rw [h]
  rfl

variable {p}

theorem setPtpClock_axisSeen (hp : p < 64) {n : Nat} (hn : n < 16) : (setPtpClock p x s).axisSeen n = s.axisSeen n := by
  obtain ⟨_, _, h⟩ := setPtpClock_rest p x s
  have hregs := setPtpClock_regsBut p x s
  refine Prod.ext (by rw [h]; rfl) (State.srcOf_congr (hregs _ ?_) (hregs _ ?_) (by rw [h]))
  · simp only [List.mem_cons, List.not_mem_nil, or_false, R.AXIS_CFG, R.ETH_PTPSEC, R.ETH_PTPNS]
    omega
  · simp only [List.mem_cons, List.not_mem_nil, or_false, R.CASC_ALT, R.ETH_PTPSEC, R.ETH_PTPNS]
    omega

end ptp

/-! The evaluations of a tick. -/

theorem gazEval_rest (i : Nat) (s : State) : ∃ v, gazEval i s = { s with trav := v } := by
  unfold gazEval
  dsimp only
  split
  · exact ⟨_, rfl⟩
  · split
    · exact ⟨_, rfl⟩
    · exact ⟨_, rfl⟩

theorem startEval_rest (g sl : Nat) (s : State) : ∃ k, startEval g sl s = { s with gals := k } :=
  (ite_eq_or_eq _ _ _).elim (fun h => ⟨_, h⟩) (fun h => ⟨_, h⟩)

/-- The evaluations of a tick change the monitor's and the Gazetteer's lists and the slots that wait for a bearing. -/
theorem evaluate_rest (s : State) : ∃ v k, evaluate s = { s with trav := v, gals := k } := by
  unfold evaluate
  dsimp only
  split
  · exact ⟨_, _, rfl⟩
  · have hgaz : ∃ v, s.liveEnts.foldl (fun s i => gazEval i s) s = { s with trav := v } := by
      refine List.foldlRecOn (motive := fun t : State => ∃ v, t = { s with trav := v }) _ _ ⟨_, rfl⟩ ?_
      rintro _ ⟨v, rfl⟩ i _
      obtain ⟨_, h⟩ := gazEval_rest i { s with trav := v }
      exact ⟨_, h⟩
    obtain ⟨v, hgaz⟩ := hgaz
    have hstart : ∃ k, (List.range 16).foldl (fun s g => (s.bearingSlots g).foldl (fun s sl => startEval g sl s) s)
        { s with trav := v } = { s with trav := v, gals := k } := by
      refine List.foldlRecOn (motive := fun t : State => ∃ k, t = { s with trav := v, gals := k }) _ _ ⟨_, rfl⟩ ?_
      rintro _ ⟨k, rfl⟩ g _
      refine List.foldlRecOn (motive := fun t : State => ∃ k, t = { s with trav := v, gals := k }) _ _ ⟨_, rfl⟩ ?_
      rintro _ ⟨k, rfl⟩ sl _
      obtain ⟨_, h⟩ := startEval_rest g sl { s with trav := v, gals := k }
      exact ⟨_, h⟩
    obtain ⟨k, hstart⟩ := hstart
    rw [hgaz, hstart]
    exact ⟨_, _, rfl⟩

/-! The cascade unit and the capture of a save. -/

/-- How an axis stands: its state, VEL, ACC, POS and frontier. -/
def Axis.stand (x : Axis) : AxState × Int × Int × BitVec 68 × BitVec 68 := (x.st, x.vel, x.acc, x.pos, x.front)

/-- What the end of a tick leaves when the axes have been updated: the stores, and how every axis stands. -/
def State.standing (s : State) : (Nat × List Host.Cell × List Host.Cell × List Host.Cell)
    × (Nat → AxState × Int × Int × BitVec 68 × BitVec 68) := (s.held, fun n => (s.axis n).stand)

theorem evaluate_standing (s : State) : (evaluate s).standing = s.standing := by
  obtain ⟨v, k, h⟩ := evaluate_rest s
  rw [h]
  rfl

/-- A switched axis gets another source and stands as before. -/
theorem takeAxis_standing (m : Nat) (s : State) : (takeAxis m s).standing = s.standing := by
  unfold takeAxis
  dsimp only
  split
  · refine Prod.ext rfl (funext fun n => ?_)
    have hax : (modCasc (fun c => { c with switched := m :: c.switched })
        (s.setAxis m { s.axis m with src := (s.axis m).alt })).axis n
          = (s.setAxis m { s.axis m with src := (s.axis m).alt }).axis n := rfl
    simp only [State.standing, hax, State.setAxis_axis]
    split
    · next h => rw [h]; rfl
    · rfl
  · obtain ⟨_, _, h⟩ := logCairn_rest s .cascade 0x08 [⟨4, m⟩]
    rw [h]
    rfl

theorem setFld_standing (o : Nat) (f : Fld) (v : Nat) (s : State) : (s.setFld o f v).standing = s.standing := by
  obtain ⟨_, h⟩ := s.setFld_rest o f v
  rw [h]
  rfl

theorem modCasc_standing (f : Casc → Casc) (s : State) : (modCasc f s).standing = s.standing := rfl

theorem takeAxes_standing (l : List Nat) (s : State) : (l.foldl (fun s n => takeAxis n s) s).standing = s.standing :=
  foldl_keeps State.standing (fun t n _ => takeAxis_standing n t) s

theorem cascTick_standing (s : State) : (cascTick s).standing = s.standing := by
  unfold cascTick
  dsimp only
  rw [modCasc_standing]
  split
  · split
    · rw [takeAxes_standing, setFld_standing]
    · exact setFld_standing ..
  · split
    · exact takeAxes_standing ..
    · rfl

theorem setImages_standing (i : Nat) (ws : List Word) (s : State) : (setImages i ws s).standing = s.standing :=
  foldl_keeps State.standing (step := fun s (x : Word × Nat) => setImage (i + x.2) x.1 s) (fun _ _ _ => rfl) s

theorem captureAxes_standing (s : State) : (captureAxes s).standing = s.standing := by
  have hflag (t : State) (p : Pf) : ({ t with pf := p } : State).standing = t.standing := rfl
  rw [captureAxes, hflag]
  exact foldl_keeps State.standing (fun _ _ _ => setImages_standing _ _ _) s

/-! ### The end of a tick -/

/-- The PTP clocks after the tick. -/
def ptpTicked (s : State) : State := (List.range 64).foldl (fun s p => ptpTick p s) s

/-- The axes after the tick, in their order. -/
def axesTicked (s : State) : State := (List.range 16).foldl (fun s n => axisTick n s) s

theorem ptpTicked_held (s : State) : (ptpTicked s).held = s.held :=
  foldl_keeps State.held (fun _ _ _ => setPtpClock_held _ _ _) s

theorem ptpTicked_axisSeen (s : State) {n : Nat} (hn : n < 16) : (ptpTicked s).axisSeen n = s.axisSeen n :=
  foldl_keeps (State.axisSeen n) (fun _ _ hp => setPtpClock_axisSeen _ _ (List.mem_range.mp hp) hn) s

theorem axesTicked_held (s : State) : (axesTicked s).held = s.held :=
  foldl_keeps State.held (fun t _ hm => (axisTick_axisOnly (List.mem_range.mp hm) t).held) s

/-- After the axes' updates an axis stands as its own update on what it began with leaves it. -/
theorem axesTicked_axis (s : State) {n : Nat} (hn : n < 16) : ∃ u : State, u.axisSeen n = s.axisSeen n
    ∧ (axesTicked s).axis n = (axisTick n u).axis n := by
  obtain ⟨u, _, hu, hown⟩ := foldl_own_step (fun _ _ => True) (fun _ => trivial) (fun _ _ => trivial) (State.axisSeen n)
    (step := fun s n => axisTick n s) List.nodup_range (List.mem_range.mpr hn) (fun _ _ _ => trivial)
    (fun t m hm hne => (axisTick_axisOnly (List.mem_range.mp hm) t).axisSeen (List.mem_range.mp hm) hn hne.symm) s
  obtain ⟨haxis, _⟩ := Prod.mk.inj hown
  exact ⟨u, hu, haxis⟩

/-- The tick's end before a save captures the axes. -/
def tickEvaluated (s : State) : State := cascTick (evaluate (axesTicked (ptpTicked s)))

theorem tickEvaluated_standing (s : State) : (tickEvaluated s).standing = (axesTicked (ptpTicked s)).standing := by
  rw [tickEvaluated, cascTick_standing, evaluate_standing]

/-- The same with the axes captured where a save waits for them. -/
def tickCaptured (s : State) : State :=
  if (tickEvaluated s).pf.stage = .saving ∧ (tickEvaluated s).pf.axesDone = false then captureAxes (tickEvaluated s)
  else tickEvaluated s

/-- After the updates of the axes the tick's end moves none of them and stores nothing. -/
theorem tickCaptured_standing (s : State) : (tickCaptured s).standing = (axesTicked (ptpTicked s)).standing := by
  unfold tickCaptured
  split
  · rw [captureAxes_standing, tickEvaluated_standing]
  · exact tickEvaluated_standing s

theorem tickUpdate_eq (s : State) : tickUpdate s = { tickCaptured s with
    tick := (tickCaptured s).tick + 1
    trav := { (tickCaptured s).trav with fired := false } } := by
  unfold tickUpdate tickCaptured tickEvaluated axesTicked ptpTicked
  rfl

theorem tickUpdate_held (s : State) : (tickUpdate s).held = (s.tick + 1, s.mem, s.niche, s.flash) := by
  obtain ⟨hheld, _⟩ := Prod.mk.inj (tickCaptured_standing s)
  rw [axesTicked_held, ptpTicked_held] at hheld
  obtain ⟨htick, hstores⟩ := Prod.mk.inj hheld
  rw [tickUpdate_eq, ← htick, ← hstores]
  rfl

/-- An axis ends a tick as its own update leaves it, on the axis and source that it began with. -/
theorem tickUpdate_axis (s : State) {n : Nat} (hn : n < 16) : ∃ u : State, u.axis n = s.axis n ∧ u.srcOf n = s.srcOf n
    ∧ ((tickUpdate s).axis n).stand = ((axisTick n u).axis n).stand := by
  obtain ⟨_, hstand⟩ := Prod.mk.inj (tickCaptured_standing s)
  obtain ⟨u, hu, hown⟩ := axesTicked_axis (ptpTicked s) hn
  rw [ptpTicked_axisSeen s hn] at hu
  obtain ⟨haxis, hsrc⟩ := Prod.mk.inj hu
  have hafter : (tickUpdate s).axis n = (tickCaptured s).axis n := by rw [tickUpdate_eq]; rfl
  exact ⟨u, haxis, hsrc, by rw [hafter, ← hown]; exact congrFun hstand n⟩

/-! ### One axis -/

/-- What belongs to the tick of an axis that is neither rebased nor captured. -/
theorem rebaseTick_none {n : Nat} {quad : Bool} (hreb : (s.axis n).rebases = []) (hz : (s.axis n).zhit = false) :
    rebaseTick n quad s = s := by
  simp [rebaseTick, hreb, hz]

theorem axisClose_live {n src : Nat} {x : Axis} (hlive : x.st.live = true) (hsrc : src ≠ 1) :
    (axisClose s n src x).stand = (x.st, x.vel, x.acc, x.pos, x.pos + BitVec.ofInt 68 x.vel) := by
  have hlost : x.st ≠ .lost := fun h => by rw [h] at hlive; cases hlive
  simp [axisClose, Axis.stand, hlost, hlive, hsrc]

theorem axisClose_lost {n src : Nat} {x : Axis} (h : x.st = .lost) :
    (axisClose s n src x).stand = (.lost, 0, 0, x.pos, x.pos) := by
  simp [axisClose, Axis.stand, h, AxState.live]

section axisTick
variable {n : Nat} (hrun : (s.axis n).runAs = none) (hreb : (s.axis n).rebases = []) (hz : (s.axis n).zhit = false)
include hrun hreb hz

theorem axisTick_synth (hst : (s.axis n).st = .track) (hsrc : (s.srcOf n).1 = 0) : ((axisTick n s).axis n).stand
    = (.track, (synthStep (s.axis n)).vel, (synthStep (s.axis n)).acc, (synthStep (s.axis n)).pos,
      (synthStep (s.axis n)).pos + BitVec.ofInt 68 (synthStep (s.axis n)).vel) := by
  set x := synthStep (s.axis n) with hx
  have hxst : x.st = .track := hst
  have hset : (s.setAxis n x).axis n = x := by rw [State.setAxis_axis, if_pos rfl]
  have hrebase (quad : Bool) : rebaseTick n quad (s.setAxis n x) = s.setAxis n x :=
    rebaseTick_none (by rw [hset]; exact hreb) (by rw [hset]; exact hz)
  have htick : axisTick n s = (s.setAxis n x).setAxis n (axisClose (s.setAxis n x) n 0 ((s.setAxis n x).axis n)) := by
    simp only [axisTick, hrun, hst, hsrc, Option.getD_none, if_true, ← hx, hrebase]
  rw [htick, State.setAxis_axis, if_pos rfl, hset, axisClose_live (by rw [hxst]; rfl) (by decide), hxst]

theorem axisTick_lost (hst : (s.axis n).st = .lost) : ((axisTick n s).axis n).stand
    = (.lost, 0, 0, (s.axis n).pos, (s.axis n).pos) := by
  have htick : axisTick n s = s.setAxis n (axisClose s n (s.srcOf n).1 (s.axis n)) := by
    simp only [axisTick, hrun, hst, Option.getD_none, rebaseTick_none hreb hz]
  rw [htick, State.setAxis_axis, if_pos rfl, axisClose_lost hst]

end axisTick

/-- Within the signed 48 bits `sat48` changes nothing. -/
theorem sat48_of_mem {x : Int} (hlo : -(2 : Int) ^ 47 ≤ x) (hhi : x < 2 ^ 47) : sat48 x = x := by
  unfold sat48 satSigned
  omega

/-- VEL of a SYNTH axis stays between its old value and SYNV, R114. -/
theorem synthStep_vel {x : Axis} (hlo : -(2 : Int) ^ 47 ≤ x.vel) (hhi : x.vel < 2 ^ 47) : (synthStep x).vel
    = x.vel + max (-(x.lat.synr.toNat : Int)) (min (x.lat.synr.toNat : Int) (x.lat.synv.toInt - x.vel)) := by
  have hmin := BitVec.le_toInt x.lat.synv
  have hmax := BitVec.toInt_lt (x := x.lat.synv)
  refine sat48_of_mem ?_ ?_
  · omega
  · omega

/-- Settles O12: the tick's end comes to each axis once, on the axis and source that the tick began with, and nothing
after the axes' updates moves an axis. -/
theorem synthTick : Obligations.SynthTick := by
  unfold Obligations.SynthTick
  intro s
  have hheld := tickUpdate_held s
  simp only [State.held, Prod.mk.injEq] at hheld
  obtain ⟨htick, hmem, hniche, hflash⟩ := hheld
  refine ⟨tickUpdate s, rfl, htick, hmem, hniche, hflash, fun n hn hst hrun hreb hz hsrc hlo hhi => ?_,
    fun n hn hst hrun hreb hz => ?_⟩
  · obtain ⟨u, haxis, husrc, hend⟩ := tickUpdate_axis s hn
    rw [← haxis] at hst hrun hreb hz hlo hhi ⊢
    rw [axisTick_synth hrun hreb hz hst (by rw [husrc, hsrc])] at hend
    simp only [Axis.stand, Prod.mk.injEq] at hend
    obtain ⟨hend1, hvel, hacc, hpos, hfront⟩ := hend
    have hv := synthStep_vel hlo hhi
    have hp : (synthStep (u.axis n)).pos = (u.axis n).pos + BitVec.ofInt 68 (synthStep (u.axis n)).vel := rfl
    rw [hp, hv] at hpos hfront
    exact ⟨hend1, hvel.trans hv, hacc, hpos, hfront⟩
  · obtain ⟨u, haxis, _, hend⟩ := tickUpdate_axis s hn
    rw [← haxis] at hst hrun hreb hz ⊢
    rw [axisTick_lost hrun hreb hz hst] at hend
    simp only [Axis.stand, Prod.mk.injEq] at hend
    obtain ⟨hend1, hvel, hacc, hpos, hfront⟩ := hend
    exact ⟨hend1, hvel, hacc, hpos, hfront⟩

end Sys2Proof.Machine
end

section
/-! The one fire of an EVENT entry that is on time, and the miss of an entry that is ARMED or PENDING (R131 to R135, R143,
R145, R147). -/

namespace Sys2Proof.Machine

variable {s : State}

/-! ### The fires of a tick, R131 -/

theorem sortFires_single (f : Fire) : sortFires [f] = [f] := rfl

/-- A waiting fire of an axis in motion goes ahead where nothing else waits. -/
theorem pickFires_single {f : Fire} (h : (s.axis (s.ent1 f.i F.ENT_W1_AXIS)).now.live = true) :
    s.pickFires [f] = { go := [f] } := by
  simp [State.pickFires, h]

/-- The state in which the one waiting fire of a tick is performed. -/
def fireTaken (s : State) : State := { s with trav := { s.trav with fired := true, fires := [] } }

theorem gazFire_single {f : Fire} {u : State} (hfires : s.trav.fires = [f]) (hfired : s.trav.fired = false)
    (hstopped : s.trav.stopped = false) (hmisses : s.trav.misses = [])
    (hlive : (s.axis (s.ent1 f.i F.ENT_W1_AXIS)).now.live = true) (hone : gazFireOne f [] (fireTaken s) = ([], u)) :
    gazFire s = u := by
  have hopen : ¬ (s.trav.fired || s.trav.stopped || !s.trav.misses.isEmpty) = true := by
    simp [hfired, hstopped, hmisses]
  have htaken : setFires [] { s with trav := { s.trav with fired := true } } = fireTaken s := rfl
  unfold gazFire
  rw [if_neg hopen, hfires, sortFires_single, pickFires_single hlive]
  simp only [List.foldl_nil, List.foldl_cons, htaken, hone]

/-! ### One fire, R130 to R135 -/

/-- FIRECNT and LASTFIRE after a fire of entry i that is not late. -/
def fireCounted (i : Nat) (s : State) : State :=
  (s.bump R.GAZ_FIRECNT F.GAZ_FIRECNT_FIRECNT).setRegN R.GAZ_LASTFIRE i

theorem fireCounted_regsBut (i : Nat) (s : State) :
    s.regsBut (fireCounted i s) [R.GAZ_FIRECNT, R.GAZ_LASTFIRE] :=
  (s.setReg_regsBut _ _).trans (State.setRegN_regsBut _ _ _)

theorem fireCounted_rest (i : Nat) (s : State) : ∃ r, fireCounted i s = { s with regs := r } := by
  obtain ⟨_, hcount⟩ := s.bump_rest R.GAZ_FIRECNT F.GAZ_FIRECNT_FIRECNT 1
  obtain ⟨_, hlast⟩ := (s.bump R.GAZ_FIRECNT F.GAZ_FIRECNT_FIRECNT).setRegN_rest R.GAZ_LASTFIRE i
  rw [fireCounted, hlast, hcount]
  exact ⟨_, rfl⟩

/-- The registers of an entry are none of those that a fire counts in. -/
theorem ENT_W1_not_counted (i : Nat) : R.ENT_W1 i ∉ [R.GAZ_FIRECNT, R.GAZ_LASTFIRE] := by
  simp only [List.mem_cons, List.not_mem_nil, or_false, R.ENT_W1, R.GAZ_FIRECNT, R.GAZ_LASTFIRE]
  omega

theorem ENT_W2_not_counted (i : Nat) : R.ENT_W2 i ∉ [R.GAZ_FIRECNT, R.GAZ_LASTFIRE] := by
  simp only [List.mem_cons, List.not_mem_nil, or_false, R.ENT_W2, R.GAZ_FIRECNT, R.GAZ_LASTFIRE]
  omega

theorem gazFireOne_event {f : Fire} {c : List CmpFire} (hfb : f.fb = false) (hlate : f.late0 = 0)
    (htick : s.tick = f.evalAt + 1) (hmark : (s.mark f.i).missed = false) (hact : s.ent1 f.i F.ENT_W1_ACTION = 1) :
    gazFireOne f c s = (c, gazAfter f.i (raise (16 + s.entP f.i % 64) (fireCounted f.i s))) := by
  have hregs := fireCounted_regsBut f.i s
  have hact' : (fireCounted f.i s).ent1 f.i F.ENT_W1_ACTION = 1 :=
    (State.fld_of_reg (hregs _ (ENT_W1_not_counted _)) _).trans hact
  have hp : (fireCounted f.i s).entP f.i = s.entP f.i := State.fld_of_reg (hregs _ (ENT_W2_not_counted _)) _
  have hdo (ph : Nat) : gazAction f.i ph false c (fireCounted f.i s)
      = (c, raise (16 + s.entP f.i % 64) (fireCounted f.i s)) := by
    simp only [gazAction, hact', hp]
  have hln : min 65535 (s.tick - (f.evalAt + 1) + f.late0) = 0 := by simp [htick, hlate]
  have hlast : f.i + 0 * 2 ^ 16 + b2n false * 2 ^ 32 = f.i := by simp [b2n]
  unfold gazFireOne
  simp only [hln, hmark, hfb, Bool.not_false, Nat.not_lt_zero, decide_false, Bool.and_false,
    Bool.false_and, Bool.false_eq_true, if_false, if_true, hlast]
  rw [← fireCounted, hdo]

/-! ### What a fire leaves of its entry, R133 -/

section gazAfter
variable (i : Nat) (s : State)

/-- A periodic entry is armed again a PERIOD further, another one has fired. -/
theorem gazAfter_eq : gazAfter i s = if s.ent1 i F.ENT_W1_DPOL = 0 ∧ s.reg (R.ENT_W3 i) ≠ 0
    then setEntSt i 1 ((setMark i {} s).setReg (R.ENT_W0 i) (s.reg (R.ENT_W0 i) + s.reg (R.ENT_W3 i)))
    else setEntSt i 2 (setMark i {} s) := rfl

theorem gazAfter_rest : ∃ r v, gazAfter i s = { s with regs := r, trav := v } := by
  rw [gazAfter_eq]
  split
  · obtain ⟨_, hset⟩ := (setMark i {} s).setReg_rest (R.ENT_W0 i) (s.reg (R.ENT_W0 i) + s.reg (R.ENT_W3 i))
    obtain ⟨_, hst⟩ := setEntSt_rest i 1
      ((setMark i {} s).setReg (R.ENT_W0 i) (s.reg (R.ENT_W0 i) + s.reg (R.ENT_W3 i)))
    rw [hst, hset]
    exact ⟨_, _, rfl⟩
  · obtain ⟨_, hst⟩ := setEntSt_rest i 2 (setMark i {} s)
    rw [hst]
    exact ⟨_, _, rfl⟩

theorem gazAfter_trav : (gazAfter i s).trav = { s.trav with marks := tset (fun _ => {}) s.trav.marks i {} } := by
  rw [gazAfter_eq]
  split
  · rw [setEntSt, State.setFld_trav, State.setReg_trav, setMark_trav]
  · rw [setEntSt, State.setFld_trav, setMark_trav]

theorem gazAfter_regsBut : s.regsBut (gazAfter i s) [R.ENT_W0 i, R.ENT_W2 i] := by
  have hmark := State.regsBut_of_regs (setMark_regs i {} s) []
  rw [gazAfter_eq]
  split
  · exact (hmark.trans (State.setReg_regsBut _ _ _)).trans (setEntSt_regsBut _ _ _)
  · exact (hmark.trans (setEntSt_regsBut _ _ _)).mono (by simp)

theorem ENT_W0_ne_W2 (j : Nat) : R.ENT_W0 i ≠ R.ENT_W2 j := by
  unfold R.ENT_W0 R.ENT_W2
  omega

variable {i s}

theorem gazAfter_periodic (h : s.ent1 i F.ENT_W1_DPOL = 0 ∧ s.reg (R.ENT_W3 i) ≠ 0) : (gazAfter i s).entSt i = 1
    ∧ (gazAfter i s).reg (R.ENT_W0 i) = s.reg (R.ENT_W0 i) + s.reg (R.ENT_W3 i) := by
  rw [gazAfter_eq, if_pos h, setEntSt_entSt_same i (by decide), setEntSt,
    State.setFld_reg_ne _ _ (ENT_W0_ne_W2 i i), State.setReg_reg_same]
  exact ⟨rfl, rfl⟩

theorem gazAfter_once (h : ¬ (s.ent1 i F.ENT_W1_DPOL = 0 ∧ s.reg (R.ENT_W3 i) ≠ 0)) : (gazAfter i s).entSt i = 2
    ∧ (gazAfter i s).reg (R.ENT_W0 i) = s.reg (R.ENT_W0 i) := by
  rw [gazAfter_eq, if_neg h, setEntSt_entSt_same i (by decide), setEntSt,
    State.setFld_reg_ne _ _ (ENT_W0_ne_W2 i i), State.reg_congr (setMark_regs i {} s)]
  exact ⟨rfl, rfl⟩

end gazAfter

/-! ### The fire of an EVENT entry -/

/-- The state after an EVENT entry has raised its line. -/
def lineRaised (i n : Nat) (s : State) : State := raise n (fireCounted i s)

/-- The registers that a fire of the entry may write beside the entry's own. -/
def fireRegs (n : Nat) : List Nat := [R.GAZ_FIRECNT, R.GAZ_LASTFIRE, R.EVC_PEND (n / 32)]

section line
variable (i n : Nat) (s : State)

theorem lineRaised_regsBut : s.regsBut (lineRaised i n s) (fireRegs n) :=
  (fireCounted_regsBut i s).trans (raise_regsBut _ _)

theorem lineRaised_trav : (lineRaised i n s).trav = s.trav := by
  obtain ⟨_, h⟩ := fireCounted_rest i s
  rw [lineRaised, raise_trav, h]

theorem lineRaised_rest : ∃ r c, lineRaised i n s = { s with regs := r, cores := c } := by
  obtain ⟨_, _, hraise⟩ := raise_rest (fireCounted i s) n
  obtain ⟨_, h⟩ := fireCounted_rest i s
  rw [lineRaised, hraise, h]
  exact ⟨_, _, rfl⟩

variable {i n}

/-- FIRECNT and LASTFIRE after the fire. -/
theorem lineRaised_counts (hi : i < 65536) : (lineRaised i n s).regN R.GAZ_LASTFIRE = i
    ∧ (lineRaised i n s).fld R.GAZ_FIRECNT F.GAZ_FIRECNT_FIRECNT
      = (s.fld R.GAZ_FIRECNT F.GAZ_FIRECNT_FIRECNT + 1) % 2 ^ 48 := by
  have hlast : R.GAZ_LASTFIRE ≠ R.EVC_PEND (n / 32) := by unfold R.GAZ_LASTFIRE R.EVC_PEND; omega
  have hcount : R.GAZ_FIRECNT ≠ R.EVC_PEND (n / 32) := by unfold R.GAZ_FIRECNT R.EVC_PEND; omega
  refine ⟨?_, ?_⟩
  · rw [lineRaised, State.regN, raise_reg_ne _ _ hlast]
    exact State.setRegN_regN_same _ _ _ (by omega)
  · have hne : R.GAZ_FIRECNT ≠ R.GAZ_LASTFIRE := by decide
    rw [lineRaised, State.fld_of_reg (raise_reg_ne _ _ hcount)]
    exact (State.fld_of_reg (State.setRegN_reg_ne _ hne _) _).trans (State.setFld_fld_same _ _ _ _ (by decide))

theorem lineRaised_isPending (hn : n < 84) : (lineRaised i n s).isPending n = true :=
  raise_isPending_hub _ (eventDie_of_lt hn)

end line

/-- The words of an entry are none of the registers that its fire counts in or raises. -/
theorem ENT_not_fireRegs {i n : Nat} (hi : i < 65536) : R.ENT_W0 i ∉ fireRegs n ∧ R.ENT_W1 i ∉ fireRegs n
    ∧ R.ENT_W3 i ∉ fireRegs n := by
  simp only [fireRegs, List.mem_cons, List.not_mem_nil, or_false, R.ENT_W0, R.ENT_W1, R.ENT_W3, R.GAZ_FIRECNT,
    R.GAZ_LASTFIRE, R.EVC_PEND]
  omega

/-- The registers of a fire are no words of the entry. -/
theorem fireRegs_not_ENT {i n : Nat} (hi : i < 65536) : ∀ k ∈ fireRegs n, k ∉ [R.ENT_W0 i, R.ENT_W2 i] := by
  simp only [fireRegs, List.mem_cons, List.not_mem_nil, or_false, R.ENT_W0, R.ENT_W2, R.GAZ_FIRECNT, R.GAZ_LASTFIRE,
    R.EVC_PEND]
  omega

/-- The fire of an EVENT entry raises its line, counts, and leaves the entry ARMED again or FIRED. -/
theorem eventFire_leaves {i n : Nat} (hi : i < 65536) (hn : n < 84) : ∃ t, gazAfter i (lineRaised i n s) = t
    ∧ t.isPending n = true ∧ t.regN R.GAZ_LASTFIRE = i
    ∧ t.fld R.GAZ_FIRECNT F.GAZ_FIRECNT_FIRECNT = (s.fld R.GAZ_FIRECNT F.GAZ_FIRECNT_FIRECNT + 1) % 2 ^ 48
    ∧ t.trav = { s.trav with marks := tset (fun _ => {}) s.trav.marks i {} }
    ∧ (s.ent1 i F.ENT_W1_DPOL = 0 ∧ s.reg (R.ENT_W3 i) ≠ 0 →
        t.entSt i = 1 ∧ t.reg (R.ENT_W0 i) = s.reg (R.ENT_W0 i) + s.reg (R.ENT_W3 i))
    ∧ (¬ (s.ent1 i F.ENT_W1_DPOL = 0 ∧ s.reg (R.ENT_W3 i) ≠ 0) →
        t.entSt i = 2 ∧ t.reg (R.ENT_W0 i) = s.reg (R.ENT_W0 i))
    ∧ ∃ r c v, t = { s with regs := r, cores := c, trav := v } := by
  have hregs := lineRaised_regsBut i n s
  have hafter := gazAfter_regsBut i (lineRaised i n s)
  obtain ⟨hw0, hw1, hw3⟩ := ENT_not_fireRegs (n := n) hi
  obtain ⟨hlast, hcount⟩ := lineRaised_counts (n := n) s hi
  have hkeep {k : Nat} (hk : k ∈ fireRegs n) : (gazAfter i (lineRaised i n s)).reg k = (lineRaised i n s).reg k :=
    hafter k (fireRegs_not_ENT hi k hk)
  have hdpol : (lineRaised i n s).ent1 i F.ENT_W1_DPOL = s.ent1 i F.ENT_W1_DPOL := State.fld_of_reg (hregs _ hw1) _
  have hperiodic := gazAfter_periodic (i := i) (s := lineRaised i n s)
  have honce := gazAfter_once (i := i) (s := lineRaised i n s)
  rw [hdpol, hregs _ hw0, hregs _ hw3] at hperiodic
  rw [hdpol, hregs _ hw0, hregs _ hw3] at honce
  refine ⟨_, rfl, ?_, ?_, ?_, ?_, hperiodic, honce, ?_⟩
  · rw [← lineRaised_isPending (i := i) s hn]
    unfold State.isPending State.regN
    rw [hkeep (by simp [fireRegs])]
  · rw [State.regN, hkeep (by simp [fireRegs])]
    exact hlast
  · rw [State.fld_of_reg (hkeep (by simp [fireRegs])), hcount]
  · rw [gazAfter_trav, lineRaised_trav]
  · obtain ⟨_, _, h⟩ := gazAfter_rest i (lineRaised i n s)
    obtain ⟨_, _, hline⟩ := lineRaised_rest i n s
    rw [h, hline]
    exact ⟨_, _, _, rfl⟩

/-! ### A miss of an entry, R143 to R147 -/

/-- Raising an event leaves the fields above the 32 pending bits of every register. -/
theorem raise_fld_high (n k : Nat) {f : Fld} (h : 32 ≤ f.lo) : (raise n s).fld k f = s.fld k f := by
  rcases raise_lost_or_hub s n with e | e
  · rw [e]
  · by_cases hk : k = R.EVC_PEND (n / 32)
    · unfold State.fld
      rw [e, hk, raiseAtHub_regN_pend, bits_setBits_high _ _ _ _ _ _ (by omega)]
    · exact State.fld_of_reg (raise_reg_ne s n hk) f

/-- The monitor's registers after a miss. -/
def missCounted (s : State) : State :=
  (s.setFld R.DLM_STATUS F.DLM_STATUS_MISS 1).bump R.DLM_MISSCNT F.DLM_MISSCNT_MISSCNT

section missCounted
variable (s : State)

theorem missCounted_regsBut : s.regsBut (missCounted s) [R.DLM_STATUS, R.DLM_MISSCNT] :=
  (s.setFld_regsBut _ _ _).trans (State.setReg_regsBut _ _ _)

theorem missCounted_rest : ∃ r, missCounted s = { s with regs := r } := by
  obtain ⟨_, hset⟩ := s.setFld_rest R.DLM_STATUS F.DLM_STATUS_MISS 1
  obtain ⟨_, hcount⟩ := (s.setFld R.DLM_STATUS F.DLM_STATUS_MISS 1).bump_rest R.DLM_MISSCNT F.DLM_MISSCNT_MISSCNT 1
  rw [missCounted, hcount, hset]
  exact ⟨_, rfl⟩

theorem missCounted_counts : (missCounted s).fld R.DLM_STATUS F.DLM_STATUS_MISS = 1
    ∧ (missCounted s).fld R.DLM_MISSCNT F.DLM_MISSCNT_MISSCNT
      = (s.fld R.DLM_MISSCNT F.DLM_MISSCNT_MISSCNT + 1) % 2 ^ 48 := by
  have hne : R.DLM_STATUS ≠ R.DLM_MISSCNT := by decide
  have hcount : (s.setFld R.DLM_STATUS F.DLM_STATUS_MISS 1).fld R.DLM_MISSCNT F.DLM_MISSCNT_MISSCNT
      = s.fld R.DLM_MISSCNT F.DLM_MISSCNT_MISSCNT := State.setFld_fld_ne _ _ _ hne.symm _
  refine ⟨(State.setFld_fld_ne _ _ _ hne _).trans (State.setFld_fld_same _ _ _ _ (by decide)), ?_⟩
  rw [missCounted, State.bump, hcount]
  exact State.setFld_fld_same _ _ _ _ (by decide)

end missCounted

section noteMiss
variable (x : Miss) (p : Nat) (s : State)

theorem noteMiss_eq : noteMiss x p none s = logCairn .traverse 0x05 (x.item.df ++ [⟨2, p⟩, ⟨4, x.axis⟩] ++ [])
    (raise x.item.event (missCounted s)) := rfl

theorem noteMiss_trav : (noteMiss x p none s).trav = s.trav := by
  obtain ⟨_, h⟩ := missCounted_rest s
  rw [noteMiss_eq, logCairn_trav, raise_trav, h]

theorem noteMiss_rest : ∃ r c l, noteMiss x p none s = { s with regs := r, cores := c, cairn := l } := by
  obtain ⟨_, hcount⟩ := missCounted_rest s
  obtain ⟨_, _, hraise⟩ := raise_rest (missCounted s) x.item.event
  obtain ⟨_, _, hlog⟩ := logCairn_rest (raise x.item.event (missCounted s)) .traverse 0x05
    (x.item.df ++ [⟨2, p⟩, ⟨4, x.axis⟩] ++ [])
  rw [noteMiss_eq, hlog, hraise, hcount]
  exact ⟨_, _, _, rfl⟩

/-- The monitor's note of a miss leaves the state of every entry. -/
theorem noteMiss_entSt (j : Nat) : (noteMiss x p none s).entSt j = s.entSt j := by
  have hdrop : R.ENT_W2 j ≠ R.CAIRN_DROPCNT := by unfold R.ENT_W2 R.CAIRN_DROPCNT; omega
  have hdlm : R.ENT_W2 j ∉ [R.DLM_STATUS, R.DLM_MISSCNT] := by
    simp only [List.mem_cons, List.not_mem_nil, or_false, R.ENT_W2, R.DLM_STATUS, R.DLM_MISSCNT]
    omega
  rw [noteMiss_eq, State.entSt, State.fld_of_reg (logCairn_reg_ne _ _ _ _ hdrop), raise_fld_high _ _ (by decide)]
  exact State.fld_of_reg (missCounted_regsBut s _ hdlm) _

theorem noteMiss_isPending {x : Miss} (h : x.item.event < 84) : (noteMiss x p none s).isPending x.item.event = true := by
  rw [noteMiss_eq, logCairn_isPending _ _ _ _ (by omega)]
  exact raise_isPending_hub _ (eventDie_of_lt h)

theorem noteMiss_counts : (noteMiss x p none s).fld R.DLM_STATUS F.DLM_STATUS_MISS = 1
    ∧ (noteMiss x p none s).fld R.DLM_MISSCNT F.DLM_MISSCNT_MISSCNT
      = (s.fld R.DLM_MISSCNT F.DLM_MISSCNT_MISSCNT + 1) % 2 ^ 48 := by
  have hkeep {k : Nat} (hk : k = R.DLM_STATUS ∨ k = R.DLM_MISSCNT) :
      (noteMiss x p none s).reg k = (missCounted s).reg k := by
    have hpend : k ≠ R.EVC_PEND (x.item.event / 32) := by
      rcases hk with rfl | rfl
      · unfold R.DLM_STATUS R.EVC_PEND; omega
      · unfold R.DLM_MISSCNT R.EVC_PEND; omega
    have hdrop : k ≠ R.CAIRN_DROPCNT := by
      rcases hk with rfl | rfl
      · decide
      · decide
    rw [noteMiss_eq, logCairn_reg_ne _ _ _ _ hdrop, raise_reg_ne _ _ hpend]
  rw [State.fld_of_reg (hkeep (.inl rfl)), State.fld_of_reg (hkeep (.inr rfl))]
  exact missCounted_counts s

end noteMiss

/-- What the monitor makes of an ARMED or PENDING entry that misses: nothing but its marks and fires, and its STATE under
CANCEL and SUBSTITUTE. -/
theorem gazMiss_live {i : Nat} (h : s.entLive i = true) :
    gazMiss i 1 s = gazDisarm i s
    ∧ gazMiss i 2 s = setMark i { s.mark i with missed := true } s
    ∧ ∃ f : Fire, gazMiss i 3 s = setFires ((gazDisarm i s).trav.fires ++ [f]) (gazDisarm i s)
      ∧ f.i = i + 1 ∧ f.fb = true ∧ f.onTime = true ∧ f.k = 0 := by
  unfold gazMiss
  dsimp only
  rw [if_pos h, if_pos h, if_pos h]
  exact ⟨rfl, rfl, _, rfl, rfl, rfl, rfl, rfl⟩

/-- The first of the decided misses is that of an entry. -/
theorem deadlineMiss_entry {i p n : Nat} {l : List Miss} (hstopped : s.trav.stopped = false)
    (h : s.trav.misses = { item := .gaz i, policy := p, axis := n } :: l) : deadlineMiss s
      = noteMiss { item := .gaz i, policy := p, axis := n } p none
        (gazMiss i p { s with trav := { s.trav with misses := l } }) := by
  rw [deadlineMiss, hstopped, if_neg Bool.false_ne_true, h]

/-- The entry's own fires are gone. -/
abbrev State.otherFires (s : State) (i : Nat) : List Fire := s.trav.fires.filter fun f => !(f.i == i && !f.fb)

/-- Under each of the three policies a miss writes no register but word 2 of the entry. -/
theorem gazMiss_leaves {i p : Nat} (h : s.entLive i = true) (hlo : 1 ≤ p) (hhi : p ≤ 3) : ∃ u, gazMiss i p s = u
    ∧ (p = 1 ∨ p = 3 → u.entSt i = 0)
    ∧ (p = 2 → u.entSt i = s.entSt i ∧ (u.mark i).missed = true)
    ∧ (p = 3 → ∃ f, u.trav.fires = s.otherFires i ++ [f] ∧ f.i = i + 1 ∧ f.fb = true ∧ f.onTime = true ∧ f.k = 0)
    ∧ (∀ j, j ≠ i → u.entSt j = s.entSt j) ∧ s.regsBut u [R.ENT_W2 i] ∧ u.trav.misses = s.trav.misses
    ∧ ∃ r v, u = { s with regs := r, trav := v } := by
  obtain ⟨hcancel, hfinish, f, hsubst, hf⟩ := gazMiss_live h
  have hidle := gazDisarm_entSt_same i s
  have hothers (j : Nat) (hj : j ≠ i) := gazDisarm_entSt_ne i s hj
  have hregs := gazDisarm_regsBut i s
  have htrav := gazDisarm_trav i s
  obtain ⟨r, v, hrest⟩ := gazDisarm_rest i s
  obtain rfl | rfl | rfl : p = 1 ∨ p = 2 ∨ p = 3 := by omega
  · exact ⟨_, hcancel, fun _ => hidle, fun h => absurd h (by decide), fun h => absurd h (by decide), hothers, hregs,
      by rw [htrav], r, v, hrest⟩
  · have hmark := setMark_regs i { s.mark i with missed := true } s
    exact ⟨_, hfinish, fun h => absurd h (by decide), fun _ => ⟨State.entSt_congr hmark i, by rw [setMark_mark_same]⟩,
      fun h => absurd h (by decide), fun j _ => State.entSt_congr hmark j, State.regsBut_of_regs hmark _,
      by rw [setMark_trav], _, _, rfl⟩
  · have hfires := setFires_regs ((gazDisarm i s).trav.fires ++ [f]) (gazDisarm i s)
    refine ⟨_, hsubst, fun _ => (State.entSt_congr hfires i).trans hidle, fun h => absurd h (by decide),
      fun _ => ⟨f, by rw [setFires_trav, htrav], hf⟩, fun j hj => (State.entSt_congr hfires j).trans (hothers j hj),
      (hregs.trans (State.regsBut_of_regs hfires [])), by rw [setFires_trav, htrav], ?_⟩
    rw [setFires, hrest]
    exact ⟨_, _, rfl⟩

/-- Settles O13: the one fire is performed on a state in which nothing waits, and the miss is the entry's policy followed
by the monitor's note. -/
theorem fireAndMiss : Obligations.FireAndMiss := by
  unfold Obligations.FireAndMiss
  refine ⟨fun f s hfires hfired hstopped hmisses hfb hi hlate htick hlive hmark hact => ?_,
    fun i p n l s hmisses hstopped hst hlo hhi => ?_⟩
  · have hp : 16 + s.entP f.i % 64 < 84 := by omega
    obtain ⟨t, ht, hpend, hlast, hcount, htrav, hperiodic, honce, r, c, v, hrest⟩ :=
      eventFire_leaves (s := fireTaken s) hi hp
    have hone : gazFireOne f [] (fireTaken s) = ([], t) := by
      rw [gazFireOne_event (s := fireTaken s) hfb hlate htick hmark hact, ← ht]
      rfl
    rw [exec_gazFire, execGazFire, gazFire_single hfires hfired hstopped hmisses hlive hone]
    refine ⟨t, rfl, hpend, hlast, hcount, by rw [htrav]; rfl, by rw [htrav]; rfl, hperiodic, honce, ?_⟩
    rw [hrest, fireTaken]
  · set u : State := { s with trav := { s.trav with misses := l } } with hu
    have hlive : u.entLive i = true := (State.entLive_iff i).mpr hst
    obtain ⟨w, hw, hidle, hfinish, hsubst, hothers, hregs, hleft, r, v, hrest⟩ := gazMiss_leaves hlive hlo hhi
    rw [exec_deadlineMiss, execDeadlineMiss, deadlineMiss_entry hstopped hmisses, ← hu, hw]
    set x : Miss := { item := .gaz i, policy := p, axis := n } with hx
    obtain ⟨hmiss, hcount⟩ := noteMiss_counts x p w
    have htrav := noteMiss_trav x p w
    have hmark : (noteMiss x p none w).mark i = w.mark i := by rw [State.mark, htrav, State.mark]
    have hdlm : R.DLM_MISSCNT ∉ [R.ENT_W2 i] := by
      simp only [List.mem_cons, List.not_mem_nil, or_false, R.ENT_W2, R.DLM_MISSCNT]
      omega
    rw [State.fld_of_reg (hregs _ hdlm)] at hcount
    refine ⟨_, rfl, noteMiss_isPending p w (x := x) (show 83 < 84 by decide), hmiss, hcount, by rw [htrav, hleft], ?_, ?_, ?_, ?_, ?_⟩
    · rwa [noteMiss_entSt]
    · rwa [noteMiss_entSt, hmark]
    · rwa [htrav]
    · exact fun j hj => by rw [noteMiss_entSt, hothers j hj]; rfl
    · obtain ⟨_, _, _, h⟩ := noteMiss_rest x p w
      rw [h, hrest, hu]

end Sys2Proof.Machine
end

section
/-! Measurement inputs and pins: triggers and conversions, loss of signal, pulse outputs and GPIO (R583 to R593). -/

namespace Sys2Proof.Machine

variable {s : State}

/-- The use of a resource is read from its CLAIM register. -/
theorem State.useOf_of_reg {t : State} {k : Nat} (h : t.reg k = s.reg k) : t.useOf k = s.useOf k := by
  unfold State.useOf
  rw [State.flag_of_reg h, State.fld_of_reg h]

/-! ### Triggers, R583 to R586 -/

theorem pinOwnerWrite_owner {r : PinRes} {m off : Nat} {f : State → State} (h : s.ownsPin (pinClaimReg r) m = true) :
    pinOwnerWrite r m off f s = f s := if_pos h

/-- The one waiting trigger of a channel is its next. -/
theorem nextTrig_single {c : Nat} {t : AdcTrig} (htrigs : s.pins.trigs = [t]) (hc : t.c = c)
    (hreach : t.at' < 16 * s.tick + 16) : s.nextTrig c = some t.at' := by
  simp [State.nextTrig, htrigs, hc, hreach]

/-- A channel in use SAMPLE takes a trigger 800 GCLK after its last sample. -/
theorem adcBusy_rested {c g : Nat} (huse : s.useOf (R.ADC_CLAIM c) = 1)
    (hrest : ∀ x, tget (fun _ => none) s.pins.lastSample c = some x → x + 800 ≤ g) : s.adcBusy c g = false := by
  unfold State.adcBusy
  rw [huse]
  split
  · next x hx => simpa using hrest x hx
  · rfl

/-- A claimed trigger alone in its instant begins a conversion. -/
theorem adcInstant_single {c g : Nat} {code : BitVec 12} {t : AdcTrig} (hfree : s.adcBusy c g = false)
    (hclaim : s.trigClaimed t = true) : adcInstant c g code [t] s = adcConvert c g code t.gaz s := by
  simp [adcInstant, hfree, hclaim]

/-- The waiting triggers taken. -/
def trigsTaken (s : State) : State := { s with pins := { s.pins with trigs := [] } }

theorem trigsTaken_useOf (k : Nat) : (trigsTaken s).useOf k = s.useOf k := rfl

theorem adcSample_single {c ph : Nat} {code : BitVec 12} {t : AdcTrig} (htrigs : s.pins.trigs = [t]) (hc : t.c = c)
    (hreach : t.at' < 16 * s.tick + 16) : adcSample c ph code s = adcInstant c t.at' code [t] (trigsTaken s) := by
  simp [adcSample, nextTrig_single htrigs hc hreach, htrigs, hc, trigsTaken]

/-! ### The end of a conversion, R583 and R587 -/

/-- DATA and STAMP of a conversion that has ended. -/
def convEnded (c : Nat) (v : AdcConv) (vs : List AdcConv) (s : State) : State :=
  ({ s with pins := { s.pins with convs := tset (fun _ => []) s.pins.convs c vs } }.setRegN (R.ADC_DATA c)
    (v.code.toNat + 4096 * b2n v.trig + 8192 * (v.at' % 16))).setRegN (R.ADC_STAMP c) (v.at' / 16)

section convEnded
variable {c : Nat} {v : AdcConv} {vs : List AdcConv}

theorem convEnded_regsBut : s.regsBut (convEnded c v vs s) [R.ADC_DATA c, R.ADC_STAMP c] :=
  ((State.regsBut_of_regs rfl []).trans (State.setRegN_regsBut
    { s with pins := { s.pins with convs := tset (fun _ => []) s.pins.convs c vs } } _ _)).trans
    (State.setRegN_regsBut _ _ _)

theorem convEnded_cev : (convEnded c v vs s).flag (R.ADC_CFG c) F.ADC_CFG_CEV = s.flag (R.ADC_CFG c) F.ADC_CFG_CEV := by
  refine State.flag_of_reg (convEnded_regsBut _ ?_) _
  simp only [List.mem_cons, List.not_mem_nil, or_false, R.ADC_CFG, R.ADC_DATA, R.ADC_STAMP]
  omega

theorem adcDone_due (hconvs : s.convs c = v :: vs) (hdue : v.at' + 768 ≤ 16 * s.tick + 15) : adcDone c s
    = if s.flag (R.ADC_CFG c) F.ADC_CFG_CEV then raise (576 + c) (convEnded c v vs s) else convEnded c v vs s := by
  unfold adcDone
  rw [hconvs, ← convEnded_cev (v := v) (vs := vs)]
  exact if_neg (Nat.not_lt.mpr hdue)

theorem adcDelivered_sampling (hconvs : s.convs c = v :: vs) (huse : s.useOf (R.ADC_CLAIM c) ≠ 2) :
    adcDelivered c s = adcDone c s := by
  unfold adcDelivered
  dsimp only
  rw [hconvs]
  exact if_neg fun h => huse h.1

end convEnded

/-! ### Encoder inputs, R589 -/

/-- A receiver that reports a loss not reported before sets a bit that was clear. -/
theorem los_rises {los : BitVec 3} (h : los ≠ 0) :
    ((List.range 3).any fun i => bit los.toNat i && !bit 0 i) = true := by
  revert los
  decide

theorem encLoss_new {e : Nat} {los : BitVec 3} (huse : s.useOf (R.ENC_CLAIM e) ≠ 2)
    (hold : s.fld (R.ENC_STAT e) F.ENC_STAT_LOS = 0) (hlos : los ≠ 0) (hev : s.flag (R.ENC_CFG e) F.ENC_CFG_EVLOS = true) :
    encLoss e los s = raise (656 + e)
      ((s.setFld (R.ENC_STAT e) F.ENC_STAT_LOS los.toNat).setFld (R.ENC_STAT e) F.ENC_STAT_LOSEV 1) := by
  have hne : R.ENC_CFG e ≠ R.ENC_STAT e := by unfold R.ENC_CFG R.ENC_STAT; omega
  have hev' : ((s.setFld (R.ENC_STAT e) F.ENC_STAT_LOS los.toNat).setFld (R.ENC_STAT e) F.ENC_STAT_LOSEV 1).flag
      (R.ENC_CFG e) F.ENC_CFG_EVLOS = true := by
    rw [← hev]
    exact State.flag_of_reg ((State.setFld_reg_ne _ _ hne _).trans (State.setFld_reg_ne _ _ hne _)) _
  unfold encLoss
  dsimp only
  rw [if_neg huse, hold, if_pos (los_rises hlos), if_pos hev']

/-! ### Pulse outputs, R137, R138, R590 and R592 -/

theorem poSet_free {o : Nat} {b : Bool} (h : tget (fun _ => none) s.pins.poForced o = none) : poSet o b s
    = if b && !s.flag (R.PO_STAT o) F.PO_STAT_LVL
          && (s.setFld (R.PO_STAT o) F.PO_STAT_LVL (b2n b)).flag (R.PO_CFG o) F.PO_CFG_EVR then
        raise (672 + o) (s.setFld (R.PO_STAT o) F.PO_STAT_LVL (b2n b))
      else s.setFld (R.PO_STAT o) F.PO_STAT_LVL (b2n b) := by
  rw [poSet, h]
  rfl

theorem pulseLow_driven {c : Nat} (hlive : s.pins.frozen = false) (huse : s.useOf (R.PO_CLAIM (c / 4)) = 1)
    (h : tget (fun _ => none) s.pins.poForced (c / 4) = none) :
    pulseLow c s = (s.setPulseEnd c none).setFld (R.PO_STAT (c / 4)) F.PO_STAT_LVL 0 := by
  have huse' : (s.setPulseEnd c none).useOf (R.PO_CLAIM (c / 4)) = 1 := huse
  unfold pulseLow
  dsimp only
  rw [huse', poSet_free (s := s.setPulseEnd c none) h, State.setPulseEnd, hlive]
  rfl

/-- SWLVL of an output in use SW, stored, and the level that follows it. -/
theorem swlvlWrite_driven {o : Fin 64} {m v : Nat} (hown : s.ownsPin (R.PO_CLAIM o) m = true)
    (huse : s.useOf (R.PO_CLAIM o) = 2) : swlvlWrite o m v s = poSet o (v % 2 == 1) (s.setRegN (R.PO_SWLVL o) (v % 2)) := by
  have hres : Fin.ofNat 64 o.val = o := Fin.ofNat_val_eq_self o
  have hclaim : R.PO_CLAIM o ≠ R.PO_SWLVL o := by unfold R.PO_CLAIM R.PO_SWLVL; omega
  have huse' : (s.setRegN (R.PO_SWLVL o) (v % 2)).useOf (R.PO_CLAIM o) = 2 := by
    rw [State.useOf_of_reg (State.setRegN_reg_ne _ hclaim _), huse]
  rw [swlvlWrite, hres, pinOwnerWrite_owner (r := .po o) hown]
  exact if_pos huse'

/-- A level set on an output that PFAIL does not force: the level, the event of a rising edge, and nothing else. -/
theorem poSet_leaves {o : Nat} {b : Bool} (ho : o < 64) (h : tget (fun _ => none) s.pins.poForced o = none) :
    (poSet o b s).fld (R.PO_STAT o) F.PO_STAT_LVL = b2n b
    ∧ (b = true → s.flag (R.PO_STAT o) F.PO_STAT_LVL = false → s.flag (R.PO_CFG o) F.PO_CFG_EVR = true →
        (poSet o b s).isPending (672 + o) = true)
    ∧ s.regsBut (poSet o b s) [R.PO_STAT o, R.EVC_PEND ((672 + o) / 32)]
    ∧ ∃ r c, poSet o b s = { s with regs := r, cores := c } := by
  have hstat : R.PO_STAT o ≠ R.EVC_PEND ((672 + o) / 32) := by unfold R.PO_STAT R.EVC_PEND; omega
  have hcfg : R.PO_CFG o ≠ R.PO_STAT o := by unfold R.PO_CFG R.PO_STAT; omega
  have hset : (s.setFld (R.PO_STAT o) F.PO_STAT_LVL (b2n b)).fld (R.PO_STAT o) F.PO_STAT_LVL = b2n b := by
    rw [State.setFld_fld_same _ _ _ _ (by decide)]
    cases b
    · rfl
    · rfl
  have hregs := s.setFld_regsBut (R.PO_STAT o) F.PO_STAT_LVL (b2n b)
  obtain ⟨r, hrest⟩ := s.setFld_rest (R.PO_STAT o) F.PO_STAT_LVL (b2n b)
  have hevr := State.flag_of_reg (s.setFld_reg_ne F.PO_STAT_LVL hcfg (b2n b)) F.PO_CFG_EVR
  rw [poSet_free h, hevr]
  split
  · refine ⟨?_, fun _ _ _ => ?_, hregs.trans (raise_regsBut _ _), ?_⟩
    · rw [State.fld_of_reg (raise_reg_ne _ _ hstat), hset]
    · exact raise_isPending_hub _ (by unfold eventDie; repeat rw [if_neg (by omega)])
    · obtain ⟨_, _, hraise⟩ := raise_rest (s.setFld (R.PO_STAT o) F.PO_STAT_LVL (b2n b)) (672 + o)
      rw [hraise, hrest]
      exact ⟨_, _, rfl⟩
  · next hquiet =>
    refine ⟨hset, fun hb hlow hev => absurd ?_ hquiet, hregs.mono (by simp), ?_⟩
    · rw [hb, hlow, hev]
      rfl
    · rw [hrest]
      exact ⟨_, _, rfl⟩

/-! ### GPIO, R593 -/

theorem gpioLevel_free {g : Nat} {lvl : Bool} (h : tget (fun _ => none) s.pins.gpioForced g = none) :
    s.gpioLevel g lvl = (if s.useOf (R.GPIO_CLAIM g) = 2 then s.flag (R.GPIO_CFG g) F.GPIO_CFG_OUT
      else if s.useOf (R.GPIO_CLAIM g) = 3 then s.flag (R.GPIO_CFG g) F.GPIO_CFG_OUT && lvl else lvl) := by
  unfold State.gpioLevel State.gpioPin
  rw [h]
  dsimp only
  generalize s.useOf (R.GPIO_CLAIM g) = use
  generalize s.flag (R.GPIO_CFG g) F.GPIO_CFG_OUT = out
  by_cases h2 : use = 2
  · subst h2
    cases out <;> rfl
  by_cases h3 : use = 3
  · subst h3
    cases out <;> rfl
  rw [if_neg h2, if_neg h3]
  split
  · next heq =>
    split at heq
    · exact absurd rfl h2
    · exact absurd rfl h3
    · cases heq
  · next heq =>
    split at heq
    · exact absurd rfl h2
    · exact absurd rfl h3
    · cases heq
  · rfl

/-- Where IN and the level differ, a selected edge has come. -/
theorem edge_selected {lvl was : Bool} {sel : Nat} (hmoved : was ≠ lvl) (hsel : bit sel (if lvl then 0 else 1) = true) :
    ((lvl && !was && bit sel 0) || (!lvl && was && bit sel 1)) = true := by
  obtain rfl : was = !lvl := Bool.eq_not.mpr hmoved
  cases lvl
  · exact hsel
  · rw [Bool.not_true, Bool.not_false, Bool.and_self, Bool.true_and]
    exact Bool.or_eq_true_iff.mpr (.inl hsel)

section gpioEdge
variable {g : Nat} {lvl : Bool}

theorem GPIO_STAT_ne (g : Nat) : R.GPIO_CFG g ≠ R.GPIO_STAT g ∧ R.GPIO_CLAIM g ≠ R.GPIO_STAT g := by
  unfold R.GPIO_CFG R.GPIO_STAT R.GPIO_CLAIM
  omega

/-- The event of a GPIO depends on its claim and its selected edges as they stand before. -/
theorem gpioEdge_eq : gpioEdge g lvl s
    = if (((s.gpioLevel g lvl && !s.flag (R.GPIO_STAT g) F.GPIO_STAT_IN && bit (s.fld (R.GPIO_CFG g) F.GPIO_CFG_EDGE) 0)
          || (!s.gpioLevel g lvl && s.flag (R.GPIO_STAT g) F.GPIO_STAT_IN
            && bit (s.fld (R.GPIO_CFG g) F.GPIO_CFG_EDGE) 1)) && s.useOf (R.GPIO_CLAIM g) != 0) = true then
        raise (608 + g) ((s.setFld (R.GPIO_STAT g) F.GPIO_STAT_IN (b2n (s.gpioLevel g lvl))).setFld (R.GPIO_STAT g)
          F.GPIO_STAT_EDG 1)
      else s.setFld (R.GPIO_STAT g) F.GPIO_STAT_IN (b2n (s.gpioLevel g lvl)) := by
  obtain ⟨hcfg, hclaim⟩ := GPIO_STAT_ne g
  unfold gpioEdge
  dsimp only
  rw [State.setFld_fld_ne _ _ _ hcfg, State.useOf_of_reg (State.setFld_reg_ne _ _ hclaim _)]

end gpioEdge

/-- Settles O15: each command is one operation of the block, and the registers that steer it are none that it writes. -/
theorem measureAndDrive : Obligations.MeasureAndDrive := by
  unfold Obligations.MeasureAndDrive
  refine ⟨fun c m ph s hown => ?_, fun c ph code t s htrigs hc hreach huse hclaim hrest => ?_,
    fun c v vs s hconvs hdue huse hcev => ?_, fun e los s huse hold hlos hev => ?_,
    fun c g s hend hreach hlive huse hfree => ?_, fun o m v s hown huse hfree => ?_,
    fun g lvl s hclaim hmoved hsel => ?_, fun g lvl s hclaim => ?_, fun g lvl s hfree => gpioLevel_free hfree⟩
  · rw [exec_adcGo, execAdcGo, pinOwnerWrite_owner (r := .adc c) hown]
    rfl
  · have hgood : (trigsTaken s).trigClaimed t = true := by
      rw [State.trigClaimed, hc, trigsTaken_useOf, huse]
      rcases hclaim with h | h
      · rw [h]; rfl
      · have hown : (trigsTaken s).ownsPin (R.ADC_CLAIM c) t.by' = true := h
        rw [hown, Bool.or_true]; rfl
    rw [exec_adcSample, execAdcSample, adcSample_single htrigs hc hreach,
      adcInstant_single (adcBusy_rested (s := trigsTaken s) huse hrest) hgood]
    rfl
  · rw [exec_adcConversionDone, execAdcConversionDone, adcDelivered_sampling hconvs huse, adcDone_due hconvs hdue,
      if_pos hcev]
    rfl
  · rw [exec_encoderLossOfSignal, execEncoderLossOfSignal, encLoss_new huse hold hlos hev, ok]
  · rw [exec_comparatorPulseEnd, execComparatorPulseEnd, hend]
    dsimp only
    rw [if_pos hreach, pulseLow_driven hlive huse hfree, ok]
  · have hsw := s.setRegN_regsBut (R.PO_SWLVL o) (v.toNat % 2)
    obtain ⟨r, hrest⟩ := s.setRegN_rest (R.PO_SWLVL o) (v.toNat % 2)
    have hfree' : tget (fun _ => none) (s.setRegN (R.PO_SWLVL o) (v.toNat % 2)).pins.poForced o.val = none := by
      rwa [State.setRegN_pins]
    have hstat : R.PO_STAT o ≠ R.PO_SWLVL o := by unfold R.PO_STAT R.PO_SWLVL; omega
    have hcfg : R.PO_CFG o ≠ R.PO_SWLVL o := by unfold R.PO_CFG R.PO_SWLVL; omega
    have hkept : R.PO_SWLVL o ∉ [R.PO_STAT o, R.EVC_PEND ((672 + o.val) / 32)] := by
      simp only [List.mem_cons, List.not_mem_nil, or_false, R.PO_STAT, R.PO_SWLVL, R.EVC_PEND]
      omega
    obtain ⟨hlvl, hevent, hregs, r', c, hset⟩ := poSet_leaves (b := v.toNat % 2 == 1) o.isLt hfree'
    rw [State.flag_of_reg (State.setRegN_reg_ne _ hstat _), State.flag_of_reg (State.setRegN_reg_ne _ hcfg _)] at hevent
    rw [exec_swlvlWrite, execSwlvlWrite, swlvlWrite_driven hown huse]
    refine ⟨_, rfl, ?_, ?_, fun hhigh => hevent (by rw [hhigh]; rfl), fun k h1 h2 h3 => ?_, ?_⟩
    · rw [State.regN, hregs _ hkept]
      exact State.setRegN_regN_same _ _ _ (by omega)
    · rw [hlvl]
      rcases Nat.mod_two_eq_zero_or_one v.toNat with h | h
      · rw [h]; rfl
      · rw [h]; rfl
    · exact (hsw.trans hregs) k (by simp [h1, h2, h3])
    · rw [hset, hrest]
  · rw [exec_gpioEdge, execGpioEdge, gpioEdge_eq, edge_selected hmoved hsel, Bool.true_and,
      if_pos (bne_iff_ne.mpr hclaim), ok]
  · have hset := s.setFld_fld_same (R.GPIO_STAT g) F.GPIO_STAT_IN (b2n (s.gpioLevel g lvl)) (by decide)
    obtain ⟨r, hrest⟩ := s.setFld_rest (R.GPIO_STAT g) F.GPIO_STAT_IN (b2n (s.gpioLevel g lvl))
    rw [exec_gpioEdge, execGpioEdge, gpioEdge_eq, hclaim, bne_self_eq_false, Bool.and_false, if_neg Bool.false_ne_true]
    refine ⟨_, rfl, ?_, fun k hk => s.setFld_reg_ne _ hk _, by rw [hrest]⟩
    rw [State.flag, hset]
    cases s.gpioLevel g lvl <;> rfl

end Sys2Proof.Machine
end

section
/-! The sources of the axes: which axes and sources a command reaches, and what it leaves of each (R107 to R109, R116,
R586, R589, R714). -/

namespace Sys2Proof.Machine

variable {s : State}

/-! ### One of the two tracked sources of an axis -/

/-- One of an axis's two tracked sources changed. -/
def Axis.withSrc (x : Axis) (alt : Bool) (f : SrcSt → SrcSt) : Axis :=
  if alt then { x with alt := f x.alt } else { x with src := f x.src }

section withSrc
variable (x : Axis) (alt : Bool) (f : SrcSt → SrcSt)

@[simp] theorem Axis.withSrc_srcSt_same : (x.withSrc alt f).srcSt alt = f (x.srcSt alt) := by
  cases alt
  · rfl
  · rfl

@[simp] theorem Axis.withSrc_srcSt_other : (x.withSrc alt f).srcSt (!alt) = x.srcSt (!alt) := by
  cases alt
  · rfl
  · rfl

theorem Axis.withSrc_rest : ∃ y z, x.withSrc alt f = { x with src := y, alt := z } := by
  cases alt
  · exact ⟨_, _, rfl⟩
  · exact ⟨_, _, rfl⟩

theorem Axis.withSrc_withSrc (g : SrcSt → SrcSt) : (x.withSrc alt f).withSrc alt g = x.withSrc alt fun y => g (f y) := by
  cases alt
  · rfl
  · rfl

end withSrc

theorem modSrc_eq (n : Nat) (alt : Bool) (f : SrcSt → SrcSt) (s : State) :
    modSrc n alt f s = s.setAxis n ((s.axis n).withSrc alt f) := rfl

theorem modSrc_axis (n : Nat) (alt : Bool) (f : SrcSt → SrcSt) (k : Nat) : (modSrc n alt f s).axis k
    = if k = n then (s.axis n).withSrc alt f else s.axis k := by
  rw [modSrc_eq, State.setAxis_axis]

@[simp] theorem modSrc_regs (n : Nat) (alt : Bool) (f : SrcSt → SrcSt) : (modSrc n alt f s).regs = s.regs := by
  rw [modSrc_eq, State.setAxis_regs]

theorem modSrc_srcSt (n : Nat) (alt : Bool) (f : SrcSt → SrcSt) :
    ((modSrc n alt f s).axis n).srcSt alt = f ((s.axis n).srcSt alt) := by
  rw [modSrc_axis, if_pos rfl, Axis.withSrc_srcSt_same]

/-- Two changes of one source are one. -/
theorem modSrc_modSrc (n : Nat) (alt : Bool) (f g : SrcSt → SrcSt) :
    modSrc n alt g (modSrc n alt f s) = modSrc n alt (fun y => g (f y)) s := by
  rw [modSrc_eq, modSrc_axis, if_pos rfl, Axis.withSrc_withSrc, modSrc_eq, State.setAxis_setAxis, modSrc_eq]

/-! ### What a source's command leaves -/

/-- What of an axis no source's command touches. -/
def Axis.motion (x : Axis) : AxState × Option AxState × BitVec 68 × Int := (x.st, x.runAs, x.pos, x.vel)

theorem Axis.withSrc_motion (x : Axis) (alt : Bool) (f : SrcSt → SrcSt) : (x.withSrc alt f).motion = x.motion := by
  obtain ⟨_, _, h⟩ := x.withSrc_rest alt f
  rw [h]
  rfl

/-- From `s` to `t` the axes' sources and glitch counts and their STAT registers alone have changed. -/
structure State.sourced (s t : State) : Prop where
  motion : ∀ k, (t.axis k).motion = (s.axis k).motion
  regs : s.regsBut t ((List.range 16).map R.AXIS_STAT)
  rest : ∃ r a, t = { s with regs := r, axes := a }

/-- From `s` to `t` one source of axis n alone has changed, and for the axis's own source its glitches. -/
structure State.sourceOnly (n : Nat) (alt : Bool) (s t : State) : Prop where
  others : ∀ k, k ≠ n → t.axis k = s.axis k
  other : (t.axis n).srcSt (!alt) = (s.axis n).srcSt (!alt)
  motion : (t.axis n).motion = (s.axis n).motion
  count : alt = true → (t.axis n).glcnt = (s.axis n).glcnt
  regs : s.regsBut t (if alt then [] else [R.AXIS_STAT n])
  rest : ∃ r a, t = { s with regs := r, axes := a }

theorem State.sourced.refl (s : State) : s.sourced s := ⟨fun _ => rfl, fun _ _ => rfl, _, _, rfl⟩

theorem State.sourced.trans {t u : State} (h : s.sourced t) (h' : t.sourced u) : s.sourced u := by
  obtain ⟨_, _, hst⟩ := h.rest
  obtain ⟨_, _, htu⟩ := h'.rest
  refine ⟨fun k => (h'.motion k).trans (h.motion k), (h.regs.trans h'.regs).mono (by simp), ?_⟩
  rw [htu, hst]
  exact ⟨_, _, rfl⟩

namespace State.sourceOnly
variable {n : Nat} {alt : Bool} {t u : State}

theorem refl (n : Nat) (alt : Bool) (s : State) : s.sourceOnly n alt s :=
  ⟨fun _ _ => rfl, rfl, rfl, fun _ => rfl, fun _ _ => rfl, _, _, rfl⟩

theorem trans (h : s.sourceOnly n alt t) (h' : t.sourceOnly n alt u) : s.sourceOnly n alt u := by
  obtain ⟨_, _, hst⟩ := h.rest
  obtain ⟨_, _, htu⟩ := h'.rest
  refine ⟨fun k hk => (h'.others k hk).trans (h.others k hk), h'.other.trans h.other, h'.motion.trans h.motion,
    fun ha => (h'.count ha).trans (h.count ha), (h.regs.trans h'.regs).mono (by simp), ?_⟩
  rw [htu, hst]
  exact ⟨_, _, rfl⟩

theorem sourced (h : s.sourceOnly n alt t) (hn : n < 16) : s.sourced t := by
  refine ⟨fun k => ?_, h.regs.mono ?_, h.rest⟩
  · by_cases hk : k = n
    · rw [hk, h.motion]
    · rw [h.others k hk]
  · split
    · exact List.nil_subset _
    · exact List.cons_subset.mpr ⟨List.mem_map.mpr ⟨n, List.mem_range.mpr hn, rfl⟩, List.nil_subset _⟩

theorem modSrc (n : Nat) (alt : Bool) (f : SrcSt → SrcSt) (s : State) : s.sourceOnly n alt (modSrc n alt f s) := by
  refine ⟨fun k hk => by rw [modSrc_axis, if_neg hk], ?_, ?_, fun _ => ?_, State.regsBut_of_regs (modSrc_regs n alt f) _, _, _,
    rfl⟩
  · rw [modSrc_axis, if_pos rfl, Axis.withSrc_srcSt_other]
  · rw [modSrc_axis, if_pos rfl, Axis.withSrc_motion]
  · obtain ⟨_, _, h⟩ := (s.axis n).withSrc_rest alt f
    rw [modSrc_axis, if_pos rfl, h]

end State.sourceOnly

/-! ### Which sources are tracked -/

/-- The source of an axis in a state in which its registers are the same. -/
theorem State.tracked_congr {t : State} {n : Nat} {alt : Bool} (hnow : (t.axis n).now = (s.axis n).now)
    (hregs : ∀ k, k = R.AXIS_CFG n ∨ k = R.CASC_ALT n ∨ k = R.CASC_CFG ∨ k = R.CASC_TAKEAX → t.reg k = s.reg k)
    (hcasc : t.casc = s.casc) : t.tracked n alt = s.tracked n alt := by
  have hsrc : t.srcOf n = s.srcOf n := State.srcOf_congr (hregs _ (by simp)) (hregs _ (by simp)) (by rw [hcasc])
  have halt : t.altOf n = s.altOf n := by
    have htake : t.regN R.CASC_TAKEAX = s.regN R.CASC_TAKEAX := congrArg BitVec.toNat (hregs _ (by simp))
    have hrole : t.reg R.CASC_CFG = s.reg R.CASC_CFG := hregs _ (by simp)
    have hown : t.reg (R.CASC_ALT n) = s.reg (R.CASC_ALT n) := hregs _ (by simp)
    unfold State.altOf
    rw [hcasc, htake, State.fld_of_reg hrole, State.fld_of_reg hown, State.fld_of_reg hown]
  unfold State.tracked
  rw [hnow, hsrc, halt]

theorem Axis.now_of_motion {x y : Axis} (h : x.motion = y.motion) : x.now = y.now := by
  obtain ⟨hst, hrun, _⟩ := Prod.mk.inj h |>.imp id fun h => Prod.mk.inj h
  unfold Axis.now
  rw [hst, hrun]

/-- No register of an axis other than STAT, and none of the cascade unit, is a STAT register. -/
theorem not_AXIS_STAT {k : Nat} (h : k % 64 ≠ 0x30 ∨ 0x200400 ≤ k) : k ∉ (List.range 16).map R.AXIS_STAT := by
  rw [List.mem_map]
  rintro ⟨m, hm, rfl⟩
  rw [List.mem_range] at hm
  unfold R.AXIS_STAT at h
  omega

theorem State.sourced.tracked {t : State} (h : s.sourced t) (n : Nat) (alt : Bool) : t.tracked n alt = s.tracked n alt := by
  obtain ⟨_, _, hrest⟩ := h.rest
  refine State.tracked_congr (Axis.now_of_motion (h.motion n)) (fun k hk => h.regs k (not_AXIS_STAT ?_)) (by rw [hrest])
  rcases hk with rfl | rfl | rfl | rfl
  · exact .inl (by unfold R.AXIS_CFG; omega)
  · exact .inr (by unfold R.CASC_ALT; omega)
  · exact .inr (by decide)
  · exact .inr (by decide)

/-- The axes and sources in the order in which a command reaches them. -/
def sources : List (Nat × Bool) := (List.range 16).flatMap fun n => [(n, false), (n, true)]

theorem sources_nodup : sources.Nodup := by decide

theorem mem_sources {n : Nat} {alt : Bool} : (n, alt) ∈ sources ↔ n < 16 := by
  cases alt <;> simp [sources]

/-- The sources that name a unit. -/
def State.naming (s : State) (p : Nat × Nat) : List (Nat × Bool) :=
  sources.filter fun x => s.tracked x.1 x.2 = some p

theorem mem_naming {p : Nat × Nat} {n : Nat} {alt : Bool} : (n, alt) ∈ s.naming p ↔ n < 16 ∧ s.tracked n alt = some p := by
  rw [State.naming, List.mem_filter, mem_sources, decide_eq_true_eq]

/-- A fold whose steps ask a question that none of them changes is one over those that answer it at first. -/
theorem foldl_asked {α : Type} (ask : State → α → Bool) (f : State → α → State) {l : List α}
    (hf : ∀ t, ∀ a ∈ l, ∀ b, ask (f t a) b = ask t b) (s : State) :
    l.foldl (fun s a => if ask s a then f s a else s) s = (l.filter (ask s)).foldl f s := by
  induction l generalizing s with
  | nil => rfl
  | cons a l ih =>
    have hf' : ∀ t, ∀ b ∈ l, ∀ c, ask (f t b) c = ask t c := fun t b hb => hf t b (List.mem_cons_of_mem a hb)
    rw [List.foldl_cons, ih hf']
    by_cases ha : ask s a = true
    · have hkept : ask (f s a) = ask s := funext (hf s a List.mem_cons_self)
      rw [if_pos ha, List.filter_cons_of_pos ha, List.foldl_cons, hkept]
    · rw [if_neg ha, List.filter_cons_of_neg ha]

/-- A command that asks each source in turn whether it names the unit reaches those that name it at first. -/
theorem foldl_naming (p : Nat × Nat) (f : Nat → Bool → State → State)
    (hf : ∀ n alt, ∀ t : State, n < 16 → t.sourceOnly n alt (f n alt t)) (s : State) :
    (List.range 16).foldl (fun s n => [false, true].foldl (fun s alt =>
      if s.tracked n alt = some p then f n alt s else s) s) s = (s.naming p).foldl (fun s x => f x.1 x.2 s) s := by
  have hasked := foldl_asked (fun s (x : Nat × Bool) => decide (s.tracked x.1 x.2 = some p)) (fun s x => f x.1 x.2 s)
    (l := sources) (fun t x hx y => by
      rw [((hf x.1 x.2 t (mem_sources.mp hx)).sourced (mem_sources.mp hx)).tracked]) s
  rw [State.naming, ← hasked, sources, List.foldl_flatMap]
  simp only [List.foldl_cons, List.foldl_nil, decide_eq_true_eq]

section reached
variable (p : Nat × Nat) (f : Nat → Bool → State → State)
  (hf : ∀ n alt, ∀ t : State, n < 16 → t.sourceOnly n alt (f n alt t))

/-- The state after a command has reached every source that names the unit. -/
def State.reached (s : State) : State := (s.naming p).foldl (fun s x => f x.1 x.2 s) s

include hf

theorem State.reached_sourced (s : State) : s.sourced (s.reached p f) :=
  List.foldlRecOn (motive := fun t => s.sourced t) _ _ (.refl s) fun t ht x hx =>
    ht.trans ((hf x.1 x.2 t (mem_naming.mp hx).1).sourced (mem_naming.mp hx).1)

/-- What is seen of a source that does not name the unit, and that no other source's command changes, stays. -/
theorem State.reached_keeps {β : Type} (get : State → β) {n : Nat} {alt : Bool} (hno : s.tracked n alt ≠ some p)
    (hget : ∀ t u : State, ∀ m a, (m, a) ≠ (n, alt) → t.sourceOnly m a u → get u = get t) :
    get (s.reached p f) = get s :=
  foldl_keeps get (fun t x hx => hget _ _ x.1 x.2 (fun e => hno (by
    obtain ⟨rfl, rfl⟩ := Prod.mk.inj e
    exact (mem_naming.mp hx).2)) (hf x.1 x.2 t (mem_naming.mp hx).1)) s

/-- A source that names the unit ends as its own step leaves it. -/
theorem State.reached_own {β : Type} (get : State → β) {n : Nat} {alt : Bool} (hn : n < 16)
    (hyes : s.tracked n alt = some p)
    (hget : ∀ t u : State, ∀ m a, (m, a) ≠ (n, alt) → t.sourceOnly m a u → get u = get t) :
    ∃ u, s.sourced u ∧ get u = get s ∧ get (s.reached p f) = get (f n alt u) :=
  foldl_own_step State.sourced .refl .trans get (sources_nodup.filter _) (mem_naming.mpr ⟨hn, hyes⟩)
    (fun t x hx => (hf x.1 x.2 t (mem_naming.mp hx).1).sourced (mem_naming.mp hx).1)
    (fun t x hx hne => hget _ _ x.1 x.2 hne (hf x.1 x.2 t (mem_naming.mp hx).1)) s

end reached

/-! ### QUAD, R108 and R116 -/

/-- The tick of an illegal transition, kept while it is within 1,024 ticks, R117. -/
def SrcSt.glitched (tick : Nat) (x : SrcSt) : SrcSt :=
  { x with glitches := tick :: x.glitches.filter fun t => decide (tick < t + 1024) }

/-- An illegal transition of an axis's own source counted. -/
def glitchCounted (n : Nat) (s : State) : State :=
  (s.setFld (R.AXIS_STAT n) F.AXIS_STAT_GLITCH 1).setAxis n { s.axis n with glcnt := (s.axis n).glcnt + 1 }

theorem quadGlitch_eq (n : Nat) (alt : Bool) (s : State) : quadGlitch n alt s
    = if alt then modSrc n alt (SrcSt.glitched s.tick) s else glitchCounted n (modSrc n alt (SrcSt.glitched s.tick) s) :=
  rfl

theorem glitchCounted_axis (n k : Nat) : (glitchCounted n s).axis k
    = if k = n then { s.axis n with glcnt := (s.axis n).glcnt + 1 } else s.axis k := by
  rw [glitchCounted, State.setAxis_axis, State.setFld_axis]

theorem glitchCounted_regs (n : Nat) :
    (glitchCounted n s).regs = (s.setFld (R.AXIS_STAT n) F.AXIS_STAT_GLITCH 1).regs := by
  rw [glitchCounted, State.setAxis_regs]

theorem glitchCounted_glitch (n : Nat) :
    (glitchCounted n s).flag (R.AXIS_STAT n) F.AXIS_STAT_GLITCH = true := by
  rw [State.flag_congr (glitchCounted_regs n), State.flag, State.setFld_fld_same _ _ _ _ (by decide)]
  rfl

theorem glitchCounted_sourceOnly (n : Nat) (s : State) : s.sourceOnly n false (glitchCounted n s) := by
  obtain ⟨_, hset⟩ := s.setFld_rest (R.AXIS_STAT n) F.AXIS_STAT_GLITCH 1
  refine ⟨fun k hk => by rw [glitchCounted_axis, if_neg hk], ?_, ?_, fun h => absurd h (by decide), ?_, ?_⟩
  · rw [glitchCounted_axis, if_pos rfl]
    rfl
  · rw [glitchCounted_axis, if_pos rfl]
    rfl
  · exact (s.setFld_regsBut _ _ _).trans (State.regsBut_of_regs (glitchCounted_regs n) [])
  · rw [glitchCounted, State.setAxis, hset]
    exact ⟨_, _, rfl⟩

theorem quadGlitch_sourceOnly (n : Nat) (alt : Bool) (s : State) : s.sourceOnly n alt (quadGlitch n alt s) := by
  have hglitch := State.sourceOnly.modSrc n alt (SrcSt.glitched s.tick) s
  rw [quadGlitch_eq]
  cases alt with
  | true => exact hglitch
  | false => exact hglitch.trans (glitchCounted_sourceOnly n _)

theorem quadTake_sourceOnly (n : Nat) (alt : Bool) (ph : Nat) (a b : Bool) (sa sb : Nat) (s : State) :
    s.sourceOnly n alt (quadTake n alt ph a b sa sb s) := by
  have hfilter := State.sourceOnly.modSrc n alt (fun x => { x with
    fa := filtered (s.qifilt n) sa a ((s.axis n).srcSt alt).fa
    fb := filtered (s.qifilt n) sb b ((s.axis n).srcSt alt).fb }) s
  unfold quadTake
  dsimp only
  split
  · exact hfilter
  · split
    · exact hfilter.trans (quadGlitch_sourceOnly n alt _)
    · exact hfilter.trans (.modSrc n alt _ _)

/-- What is seen of an axis's own QUAD source: the source, the glitch count and STAT. -/
def State.quadSeen (n : Nat) (s : State) : SrcSt × BitVec 24 × BitVec 48 :=
  ((s.axis n).src, (s.axis n).glcnt, s.reg (R.AXIS_STAT n))

theorem AXIS_STAT_inj {m n : Nat} : R.AXIS_STAT m = R.AXIS_STAT n ↔ m = n := by
  unfold R.AXIS_STAT
  omega

theorem quadSeen_kept {n : Nat} (t u : State) (m : Nat) (a : Bool) (hne : (m, a) ≠ (n, false)) (h : t.sourceOnly m a u) :
    u.quadSeen n = t.quadSeen n := by
  unfold State.quadSeen
  by_cases hm : m = n
  · subst hm
    obtain rfl : a = true := by simpa using hne
    have hstat := h.regs (R.AXIS_STAT m) (by simp)
    have hsrc : (u.axis m).src = (t.axis m).src := h.other
    rw [hsrc, h.count rfl, hstat]
  · have hstat := h.regs (R.AXIS_STAT n) (by
      cases a
      · simpa using fun e => hm (AXIS_STAT_inj.mp e).symm
      · simp)
    rw [h.others n (Ne.symm hm), hstat]

/-- What a QUAD source `x` with glitch count `g` becomes when its filters pass the levels `a` and `b`: one level that
changes is an edge, two are a glitch, R108, R116 and R117. -/
def QuadTook (inv : Bool) (ph : Nat) (a b : Bool) (x y : SrcSt) (g g' : BitVec 24) (glitch : Bool) : Prop :=
  y.fa = a ∧ y.fb = b
    ∧ (a = x.fa → b = x.fb → y = x)
    ∧ (a ≠ x.fa → b ≠ x.fb → y.n = x.n ∧ g' = g + 1 ∧ glitch = true)
    ∧ ((a != x.fa) ≠ (b != x.fb) → g' = g
        ∧ (((quadPhase a b == (quadPhase x.fa x.fb + 1) % 4) != inv) = true →
            y.n = x.n + 1 ∧ y.edge = some { fwd := true, ph := ph, b := (x.n + 1).toNat })
        ∧ (((quadPhase a b == (quadPhase x.fa x.fb + 1) % 4) != inv) = false →
            y.n = x.n - 1 ∧ y.edge = some { fwd := false, ph := ph, b := x.n.toNat }))

/-- The levels that the input filters of a QUAD source pass. -/
def SrcSt.passed (a b : Bool) (x : SrcSt) : SrcSt := { x with fa := a, fb := b }

section took
variable {inv : Bool} {ph : Nat} {a b : Bool} {x : SrcSt} {g : BitVec 24} {glitch : Bool}

theorem quadTook_same (ha : a = x.fa) (hb : b = x.fb) : QuadTook inv ph a b x (x.passed a b) g g glitch := by
  subst ha hb
  exact ⟨rfl, rfl, fun _ _ => rfl, fun h => absurd rfl h, fun h => absurd (by rw [bne_self_eq_false, bne_self_eq_false]) h⟩

theorem quadTook_glitch (tick : Nat) (ha : a ≠ x.fa) (hb : b ≠ x.fb) :
    QuadTook inv ph a b x ((x.passed a b).glitched tick) g (g + 1) true :=
  ⟨rfl, rfl, fun h => absurd h ha, fun _ _ => ⟨rfl, rfl, rfl⟩,
    fun h => absurd (by rw [bne_iff_ne.mpr ha, bne_iff_ne.mpr hb]) h⟩

theorem quadTook_edge {fwd : Bool} (hfwd : fwd = ((quadPhase a b == (quadPhase x.fa x.fb + 1) % 4) != inv))
    (hone : (a != x.fa) ≠ (b != x.fb)) : QuadTook inv ph a b x (countEdge fwd ph (x.passed a b)) g g glitch := by
  have hne : a = x.fa → b ≠ x.fb := fun ha hb => hone (by rw [ha, hb, bne_self_eq_false, bne_self_eq_false])
  have heq : a ≠ x.fa → ¬ b ≠ x.fb := fun ha hb => hone (by rw [bne_iff_ne.mpr ha, bne_iff_ne.mpr hb])
  refine ⟨?_, ?_, fun ha hb => absurd hb (hne ha), fun ha hb => absurd hb (heq ha), fun _ => ⟨rfl, fun h => ?_, fun h => ?_⟩⟩
  · cases fwd <;> rfl
  · cases fwd <;> rfl
  · rw [hfwd, h]
    exact ⟨rfl, rfl⟩
  · rw [hfwd, h]
    exact ⟨rfl, rfl⟩

end took

theorem modSrc_src (n : Nat) (f : SrcSt → SrcSt) : ((modSrc n false f s).axis n).src = f (s.axis n).src := modSrc_srcSt n false f

theorem modSrc_glcnt (n : Nat) (alt : Bool) (f : SrcSt → SrcSt) :
    ((modSrc n alt f s).axis n).glcnt = (s.axis n).glcnt := by
  obtain ⟨_, _, h⟩ := (s.axis n).withSrc_rest alt f
  rw [modSrc_axis, if_pos rfl, h]

theorem quadTake_took (n ph : Nat) (a b : Bool) (sa sb : Nat) (s : State) :
    QuadTook (s.flag (R.AXIS_CFG n) F.AXIS_CFG_INV) ph (filtered (s.qifilt n) sa a (s.axis n).src.fa)
      (filtered (s.qifilt n) sb b (s.axis n).src.fb) (s.axis n).src ((quadTake n false ph a b sa sb s).axis n).src
      (s.axis n).glcnt ((quadTake n false ph a b sa sb s).axis n).glcnt
      ((quadTake n false ph a b sa sb s).flag (R.AXIS_STAT n) F.AXIS_STAT_GLITCH) := by
  have hsrc : (s.axis n).srcSt false = (s.axis n).src := rfl
  unfold quadTake
  simp only [hsrc, Bool.and_eq_true, beq_iff_eq, bne_iff_ne]
  generalize filtered (s.qifilt n) sa a (s.axis n).src.fa = a'
  generalize filtered (s.qifilt n) sb b (s.axis n).src.fb = b'
  have hflag : (modSrc n false (fun x => x.passed a' b') s).flag (R.AXIS_CFG n) F.AXIS_CFG_INV
      = s.flag (R.AXIS_CFG n) F.AXIS_CFG_INV := State.flag_congr (modSrc_regs n false _) _ _
  split
  · next h =>
    rw [modSrc_src, modSrc_glcnt]
    exact quadTook_same h.1 h.2
  · next hsame =>
    split
    · next h =>
      rw [quadGlitch_eq, if_neg Bool.false_ne_true, glitchCounted_glitch, glitchCounted_axis, if_pos rfl, modSrc_src,
        modSrc_src, modSrc_glcnt, modSrc_glcnt]
      exact quadTook_glitch _ h.1 h.2
    · next hboth =>
      rw [modSrc_src, modSrc_glcnt, modSrc_src, modSrc_glcnt]
      refine quadTook_edge (by rw [← hflag]; rfl) fun hone => ?_
      by_cases ha : a' = (s.axis n).src.fa
      · rw [ha, bne_self_eq_false] at hone
        exact hsame ⟨ha, by simpa using hone.symm⟩
      · rw [bne_iff_ne.mpr ha] at hone
        exact hboth ⟨ha, by simpa using hone.symm⟩

/-- The levels of A and B in the encoder's STAT. -/
def encLevels (e : Nat) (a b : Bool) (s : State) : State :=
  s.setRegN (R.ENC_STAT e) (setBits (setBits (s.regN (R.ENC_STAT e)) 0 1 (b2n a)) 1 1 (b2n b))

section encStat
variable {e : Nat} (he : e < 16)
include he

/-- STAT of an encoder input is no register that says which source an axis has, how it is read or who holds the input. -/
theorem ENC_STAT_apart (n : Nat) : R.AXIS_CFG n ≠ R.ENC_STAT e ∧ R.AXIS_SRCP n ≠ R.ENC_STAT e
    ∧ R.CASC_ALT n ≠ R.ENC_STAT e ∧ R.CASC_CFG ≠ R.ENC_STAT e ∧ R.CASC_TAKEAX ≠ R.ENC_STAT e
    ∧ R.ENC_CLAIM e ≠ R.ENC_STAT e ∧ R.ENC_CFG e ≠ R.ENC_STAT e := by
  unfold R.AXIS_CFG R.AXIS_SRCP R.CASC_ALT R.CASC_CFG R.CASC_TAKEAX R.ENC_CLAIM R.ENC_CFG R.ENC_STAT
  omega

theorem ENC_STAT_written_tracked (v n : Nat) (alt : Bool) :
    (s.setRegN (R.ENC_STAT e) v).tracked n alt = s.tracked n alt := by
  obtain ⟨hcfg, _, halt, hcasc, htake, _⟩ := ENC_STAT_apart he n
  refine State.tracked_congr (by rw [State.setRegN_axis]) (fun k hk => State.setRegN_reg_ne _ ?_ _) (by rw [State.setRegN_casc])
  rcases hk with rfl | rfl | rfl | rfl
  · exact hcfg
  · exact halt
  · exact hcasc
  · exact htake

theorem ENC_STAT_written_useOf (v : Nat) :
    (s.setRegN (R.ENC_STAT e) v).useOf (R.ENC_CLAIM e) = s.useOf (R.ENC_CLAIM e) := by
  obtain ⟨_, _, _, _, _, hclaim, _⟩ := ENC_STAT_apart he 0
  exact State.useOf_of_reg (State.setRegN_reg_ne _ hclaim _)

/-- Levels on an encoder input in use QUAD come to every source that names it. -/
theorem quadEdge_reached (ph : Nat) (a b : Bool) (sa sb : Nat) (huse : s.encUse e 1 = true) :
    quadEdge e ph a b sa sb s
      = (encLevels e a b s).reached (1, e) (fun n alt => quadTake n alt ph a b sa sb) := by
  have huse' : (encLevels e a b s).encUse e 1 = true := by
    rw [← huse, State.encUse, encLevels, ENC_STAT_written_useOf he, State.encUse]
  rw [State.reached, ← foldl_naming _ _ (fun n alt t _ => quadTake_sourceOnly n alt ph a b sa sb t)]
  unfold quadEdge
  dsimp only
  rw [← encLevels, huse']
  rfl

end encStat

/-- The registers that say how an axis takes its source are no STAT register. -/
theorem AXIS_steering_not_STAT (n : Nat) : R.AXIS_CFG n ∉ (List.range 16).map R.AXIS_STAT
    ∧ R.AXIS_SRCP n ∉ (List.range 16).map R.AXIS_STAT :=
  ⟨not_AXIS_STAT (.inl (by unfold R.AXIS_CFG; omega)), not_AXIS_STAT (.inl (by unfold R.AXIS_SRCP; omega))⟩

/-- POS, VEL and the state of an axis do not move. -/
theorem Axis.motion_fields {x y : Axis} (h : x.motion = y.motion) : x.pos = y.pos ∧ x.vel = y.vel ∧ x.st = y.st := by
  obtain ⟨hst, h⟩ := Prod.mk.inj h
  obtain ⟨_, h⟩ := Prod.mk.inj h
  obtain ⟨hpos, hvel⟩ := Prod.mk.inj h
  exact ⟨hpos, hvel, hst⟩

section quad
variable (e ph : Fin 16) (a b : Bool) (sa sb : BitVec 8)

/-- The state after A and B levels on an input that is in use. -/
def quadCame (s : State) : State :=
  (encLevels e a b s).reached (1, e.val) (fun n alt => quadTake n alt ph a b sa.toNat sb.toNat)

theorem quadCame_sourced (s : State) : (encLevels e a b s).sourced (quadCame e ph a b sa sb s) :=
  State.reached_sourced _ _ (fun n alt t _ => quadTake_sourceOnly n alt ph a b sa.toNat sb.toNat t) _

theorem exec_quadCountEdge_came (h : s.encUse e 1 = true) :
    exec (.quadCountEdge e ⟨a, sa⟩ ⟨b, sb⟩ ph) s = .next (quadCame e ph a b sa sb s) := by
  rw [exec_quadCountEdge, execQuadCountEdge, quadEdge_reached e.isLt _ _ _ _ _ h, quadCame, ok]

theorem quadCame_took {n : Nat} (hn : n < 16) (h : s.tracked n false = some (1, e.val)) :
    QuadTook (s.flag (R.AXIS_CFG n) F.AXIS_CFG_INV) ph (filtered (s.qifilt n) sa.toNat a (s.axis n).src.fa)
      (filtered (s.qifilt n) sb.toNat b (s.axis n).src.fb) (s.axis n).src ((quadCame e ph a b sa sb s).axis n).src
      (s.axis n).glcnt ((quadCame e ph a b sa sb s).axis n).glcnt
      ((quadCame e ph a b sa sb s).flag (R.AXIS_STAT n) F.AXIS_STAT_GLITCH) := by
  obtain ⟨hcfgs, hsrcps⟩ := AXIS_steering_not_STAT n
  obtain ⟨hcfge, hsrcpe, _⟩ := ENC_STAT_apart e.isLt n
  obtain ⟨u, hsourced, hu, hown⟩ := State.reached_own (s := encLevels e a b s) (1, e.val) _
    (fun n alt t _ => quadTake_sourceOnly n alt ph a b sa.toNat sb.toNat t) (State.quadSeen n) hn
    (by rw [encLevels, ENC_STAT_written_tracked e.isLt, h]) quadSeen_kept
  have hcfg : u.reg (R.AXIS_CFG n) = s.reg (R.AXIS_CFG n) :=
    (hsourced.regs _ hcfgs).trans (State.setRegN_reg_ne _ hcfge _)
  have hsrcp : u.reg (R.AXIS_SRCP n) = s.reg (R.AXIS_SRCP n) :=
    (hsourced.regs _ hsrcps).trans (State.setRegN_reg_ne _ hsrcpe _)
  have hqifilt : u.qifilt n = s.qifilt n := State.fld_of_reg hsrcp _
  obtain ⟨hsrc, hrest⟩ := Prod.mk.inj hu
  obtain ⟨hcount, _⟩ := Prod.mk.inj hrest
  obtain ⟨hsrc', hrest'⟩ := Prod.mk.inj hown
  obtain ⟨hcount', hstat'⟩ := Prod.mk.inj hrest'
  have htook := quadTake_took n ph a b sa.toNat sb.toNat u
  rw [State.flag_of_reg hcfg, hqifilt, hsrc, hcount, ← hsrc', ← hcount', ← State.flag_of_reg hstat', encLevels,
    State.setRegN_axis] at htook
  exact htook

theorem quadCame_untracked {n : Nat} (h : s.tracked n false ≠ some (1, e.val)) :
    ((quadCame e ph a b sa sb s).axis n).src = (s.axis n).src := by
  have hkept := State.reached_keeps (s := encLevels e a b s) (1, e.val) _
    (fun n alt t _ => quadTake_sourceOnly n alt ph a b sa.toNat sb.toNat t) (State.quadSeen n)
    (by rwa [encLevels, ENC_STAT_written_tracked e.isLt]) quadSeen_kept
  obtain ⟨hsrc, _⟩ := Prod.mk.inj hkept
  rw [quadCame, hsrc, encLevels, State.setRegN_axis]

theorem quadCame_encStat : (quadCame e ph a b sa sb s).reg (R.ENC_STAT e)
    = BitVec.ofNat 48 (setBits (setBits (s.regN (R.ENC_STAT e)) 0 1 (b2n a)) 1 1 (b2n b)) := by
  have hstat : R.ENC_STAT e ∉ (List.range 16).map R.AXIS_STAT := not_AXIS_STAT (.inr (by unfold R.ENC_STAT; omega))
  rw [(quadCame_sourced e ph a b sa sb s).regs _ hstat]
  exact s.setReg_reg_same _ _

theorem quadCame_regs {k : Nat} (hk : k ≠ R.ENC_STAT e) (hstat : ∀ n, n < 16 → k ≠ R.AXIS_STAT n) :
    (quadCame e ph a b sa sb s).reg k = s.reg k := by
  have hnot : k ∉ (List.range 16).map R.AXIS_STAT := by
    rw [List.mem_map]
    rintro ⟨n, hn, rfl⟩
    exact hstat n (List.mem_range.mp hn) rfl
  rw [(quadCame_sourced e ph a b sa sb s).regs _ hnot]
  exact State.setRegN_reg_ne _ hk _

theorem quadCame_rest : ∃ r x, quadCame e ph a b sa sb s = { s with regs := r, axes := x } := by
  obtain ⟨_, _, h⟩ := (quadCame_sourced e ph a b sa sb s).rest
  obtain ⟨_, hset⟩ := s.setRegN_rest (R.ENC_STAT e)
    (setBits (setBits (s.regN (R.ENC_STAT e)) 0 1 (b2n a)) 1 1 (b2n b))
  rw [h, encLevels, hset]
  exact ⟨_, _, rfl⟩

end quad

/-! ### SSI, R109 and R714 -/

theorem State.encUse_congr {t : State} (h : t.regs = s.regs) (e use : Nat) : t.encUse e use = s.encUse e use := by
  rw [State.encUse, State.useOf_of_reg (State.reg_congr h _), State.encUse]

theorem State.ssiBits_congr {t : State} (h : t.regs = s.regs) (n : Nat) : t.ssiBits n = s.ssiBits n := by
  unfold State.ssiBits
  rw [State.fld_congr h]

theorem State.ssiCode_congr {t : State} (h : t.regs = s.regs) (n raw : Nat) : t.ssiCode n raw = s.ssiCode n raw := by
  unfold State.ssiCode
  rw [State.ssiBits_congr h, State.flag_congr h, State.flag_congr h]

/-- A source whose frame has been clocked. -/
def SrcSt.unframed (x : SrcSt) : SrcSt := { x with frame := none }

/-- A source that has taken a code `c` of `w` bits with its age. -/
def SrcSt.ssiTaken (w c : Nat) (age : Int) (x : SrcSt) : SrcSt :=
  { unwrap w c x with meas := some { base := (unwrap w c x).u.toNat * 2 ^ 32, age := age }, quiet := 0 }

section ssi
variable {n : Nat} {alt : Bool} {inst : Nat} (htracked : s.tracked n alt = some (2, inst))
include htracked

/-- A poll that is due starts a frame where none is being clocked. -/
theorem ssiPoll_starts (hdue : ((s.axis n).srcSt alt).pollAt ≤ s.tick) (hframe : ((s.axis n).srcSt alt).frame = none) :
    ssiPoll n alt s = modSrc n alt (fun x => { x with
      pollAt := s.tick + max 1 (s.fld (R.AXIS_SRCP n) F.AXIS_SRCP_SSIPOLL)
      frame := some (16 * s.tick) }) s := by
  unfold ssiPoll
  rw [htracked]
  dsimp only
  rw [if_neg (Nat.not_lt.mpr hdue), hframe]
  rfl

/-- A frame whose last clock period has ended, with the data line high before it, is one change of the source. -/
theorem ssiFrame_good {g raw : Nat} (huse : s.encUse inst 2 = true) (hframe : ((s.axis n).srcSt alt).frame = some g)
    (hend : s.ssiLast n g ≤ 16 * s.tick + 15) : ssiFrame n alt raw false s
      = modSrc n alt (fun x => x.unframed.ssiTaken (s.ssiBits n) (s.ssiCode n raw)
          (16 * (s.tick + 1) - (g + s.fld (R.AXIS_SRCP n) F.AXIS_SRCP_SSIDLY : Int))) s := by
  have hregs : (modSrc n alt SrcSt.unframed s).regs = s.regs := modSrc_regs n alt _
  have hopen : ¬ (false || !(modSrc n alt SrcSt.unframed s).encUse inst 2) = true := by
    rw [State.encUse_congr hregs, huse]
    decide
  have hjudged : ssiFrame n alt raw false s = if 16 * s.tick + 15 < s.ssiLast n g then s
      else if false || !(modSrc n alt SrcSt.unframed s).encUse inst 2 then modSrc n alt SrcSt.unframed s
      else modSrc n alt (SrcSt.ssiTaken ((modSrc n alt SrcSt.unframed s).ssiBits n)
        ((modSrc n alt SrcSt.unframed s).ssiCode n raw) (16 * ((modSrc n alt SrcSt.unframed s).tick + 1)
          - (g + (modSrc n alt SrcSt.unframed s).fld (R.AXIS_SRCP n) F.AXIS_SRCP_SSIDLY : Int)))
        (modSrc n alt SrcSt.unframed s) := by
    unfold ssiFrame
    rw [htracked, hframe]
    rfl
  rw [hjudged, if_neg (Nat.not_lt.mpr hend), if_neg hopen, State.ssiBits_congr hregs, State.ssiCode_congr hregs,
    State.fld_congr hregs, modSrc_modSrc, modSrc_eq n alt SrcSt.unframed, State.setAxis_tick]

end ssi

/-! ### MAINS, R107, R109 and R586 -/

/-- A crossing in the direction that MEDGE names is counted, and measured on the line through its two samples. -/
def Crossing.counted (c : Crossing) (tick : Nat) (y : SrcSt) : SrcSt :=
  { y with
    n := y.n + 1
    meas := some (c.meas tick ((y.n + 1).toNat * 2 ^ 32))
    quiet := 0
    cross := none }

section crossing
variable {n inst : Nat} {alt : Bool} {c : Crossing} (htracked : s.tracked n alt = some (3, inst)) (hinst : inst < 32)
  (huse : s.useOf (R.ADC_CLAIM inst) = 2) (hcross : ((s.axis n).srcSt alt).cross = some c)
include htracked hinst huse hcross

theorem mainsCrossing_eq (rise : Bool) : mainsCrossing n alt rise s
    = if rise = s.mainsRise n then modSrc n alt (c.counted s.tick) s else s := by
  have hjudged : mainsCrossing n alt rise s = if inst < 32 ∧ s.useOf (R.ADC_CLAIM inst) = 2 ∧ rise = s.mainsRise n
      then modSrc n alt (c.counted s.tick) s else s := by
    unfold mainsCrossing
    rw [htracked, hcross]
    rfl
  simp only [hjudged, hinst, huse, true_and]

end crossing

/-! A code delivered to the axes that name the channel. -/

/-- What a code at GCLK g makes of each source on the channel. -/
def mainsStep (g : Nat) (code : BitVec 12) (n : Nat) (alt : Bool) (s : State) : State :=
  modSrc n alt (mainsTake (bits (s.regN (R.AXIS_SRCP n)) 0 12) g (if s.mainsRise n then code.toInt else -code.toInt)) s

theorem mainsSample_reached (c g : Nat) (code : BitVec 12) (s : State) :
    mainsSample c g code s = s.reached (3, c) (mainsStep g code) :=
  foldl_naming (3, c) (mainsStep g code) (fun n alt t _ => .modSrc n alt _ t) s

theorem srcSt_kept {n : Nat} {alt : Bool} (t u : State) (m : Nat) (a : Bool) (hne : (m, a) ≠ (n, alt))
    (h : t.sourceOnly m a u) : (u.axis n).srcSt alt = (t.axis n).srcSt alt := by
  by_cases hm : m = n
  · subst hm
    obtain rfl : alt = !a := Bool.eq_not.mpr fun e => hne (by rw [e])
    exact h.other
  · rw [h.others n (Ne.symm hm)]

/-- Each source on the channel takes the code as MEDGE of its axis sees it. -/
theorem mainsSample_srcSt {c g n : Nat} {alt : Bool} (code : BitVec 12) (hn : n < 16)
    (h : s.tracked n alt = some (3, c)) : ((mainsSample c g code s).axis n).srcSt alt
      = mainsTake (bits (s.regN (R.AXIS_SRCP n)) 0 12) g (if s.mainsRise n then code.toInt else -code.toInt)
          ((s.axis n).srcSt alt) := by
  obtain ⟨u, hsourced, hu, hown⟩ := State.reached_own (3, c) (mainsStep g code) (fun n alt t _ => .modSrc n alt _ t)
    (fun t => (t.axis n).srcSt alt) hn h srcSt_kept
  have hsrcp : u.regN (R.AXIS_SRCP n) = s.regN (R.AXIS_SRCP n) :=
    congrArg BitVec.toNat (hsourced.regs _ (AXIS_steering_not_STAT n).2)
  rw [mainsSample_reached, hown, mainsStep, modSrc_srcSt, State.mainsRise, hsrcp, hu, State.mainsRise]

/-- What a source makes of a sample that MEDGE sees as `u`. -/
theorem mainsTake_took (hyst g : Nat) (u : Int) (x : SrcSt) : (mainsTake hyst g u x).sample = some (g, u)
    ∧ (u < 0 → u ≤ -(hyst : Int) → (mainsTake hyst g u x).armed = true)
    ∧ (∀ g0 v0, x.sample = some (g0, v0) → x.armed = true → v0 < 0 → 0 ≤ u →
        (mainsTake hyst g u x).armed = false ∧ (mainsTake hyst g u x).cross = some { g0 := g0, v0 := v0, g1 := g, v1 := u })
    ∧ (x.armed = false ∨ u < 0 → (mainsTake hyst g u x).cross = x.cross)
    ∧ (mainsTake hyst g u x).n = x.n ∧ (mainsTake hyst g u x).meas = x.meas ∧ (mainsTake hyst g u x).quiet = x.quiet := by
  unfold mainsTake
  dsimp only
  split
  · next g0 v0 hsample =>
    split
    · next h =>
      obtain ⟨harmed, _, hu⟩ := h
      refine ⟨rfl, fun hneg => absurd hneg (Int.not_lt.mpr hu), fun _ _ hlast _ _ _ => ?_, fun hno => ?_, rfl, rfl, rfl⟩
      · obtain ⟨rfl, rfl⟩ := Prod.mk.inj (Option.some.inj (hsample.symm.trans hlast))
        exact ⟨rfl, rfl⟩
      · rcases hno with hno | hneg
        · exact absurd harmed (by simp [hno])
        · exact absurd hneg (Int.not_lt.mpr hu)
    · next h =>
      refine ⟨rfl, fun hneg hlow => by simp [hneg, hlow], fun _ _ hlast harmed hbelow hu => ?_, fun _ => rfl, rfl, rfl, rfl⟩
      obtain ⟨rfl, rfl⟩ := Prod.mk.inj (Option.some.inj (hsample.symm.trans hlast))
      exact absurd ⟨harmed, hbelow, hu⟩ h
  · next hsample =>
    refine ⟨rfl, fun hneg hlow => by simp [hneg, hlow], fun _ _ hlast => ?_, fun _ => rfl, rfl, rfl, rfl⟩
    rw [hsample] at hlast
    exact nomatch hlast

theorem mainsSample_regs (c g : Nat) (code : BitVec 12) (s : State) : (mainsSample c g code s).regs = s.regs := by
  rw [mainsSample_reached]
  exact foldl_keeps State.regs (fun _ (x : Nat × Bool) _ => modSrc_regs x.1 x.2 _) s

theorem mainsSample_sourced (c g : Nat) (code : BitVec 12) (s : State) : s.sourced (mainsSample c g code s) := by
  rw [mainsSample_reached]
  exact State.reached_sourced _ _ (fun n alt t _ => .modSrc n alt _ t) s

/-! The end of a conversion on a channel in use MAINS. -/

section convDone
variable {c : Nat} {v : AdcConv} {vs : List AdcConv} (hconvs : s.convs c = v :: vs)
  (hdue : v.at' + 768 ≤ 16 * s.tick + 15)

theorem convEnded_convs : (convEnded c v vs s).convs c = vs := by
  rw [convEnded, State.convs, State.setRegN_pins, State.setRegN_pins, tget_tset_same]

theorem convEnded_data : (convEnded c v vs s).regN (R.ADC_DATA c)
    = v.code.toNat + 4096 * b2n v.trig + 8192 * (v.at' % 16) := by
  have hstamp : R.ADC_DATA c ≠ R.ADC_STAMP c := by unfold R.ADC_DATA R.ADC_STAMP; omega
  have htrig : b2n v.trig ≤ 1 := by cases v.trig <;> decide
  have hcode := v.code.isLt
  rw [convEnded, State.regN, State.setRegN_reg_ne _ hstamp]
  exact State.setRegN_regN_same _ _ _ (by omega)

theorem convEnded_rest : ∃ r p, convEnded c v vs s = { s with regs := r, pins := p } := by
  obtain ⟨_, hdata⟩ := State.setRegN_rest
    (s := { s with pins := { s.pins with convs := tset (fun _ => []) s.pins.convs c vs } }) (R.ADC_DATA c)
    (v.code.toNat + 4096 * b2n v.trig + 8192 * (v.at' % 16))
  obtain ⟨_, hstamp⟩ := State.setRegN_rest (s := State.setRegN
    { s with pins := { s.pins with convs := tset (fun _ => []) s.pins.convs c vs } } (R.ADC_DATA c)
    (v.code.toNat + 4096 * b2n v.trig + 8192 * (v.at' % 16))) (R.ADC_STAMP c) (v.at' / 16)
  rw [convEnded, hstamp, hdata]
  exact ⟨_, _, rfl⟩

include hconvs hdue

/-- A conversion's end is its registers and, where CEV asks for it, its event. -/
theorem adcDone_raised : adcDone c s = convEnded c v vs s ∨ adcDone c s = raise (576 + c) (convEnded c v vs s) := by
  rw [adcDone_due hconvs hdue]
  split
  · exact .inr rfl
  · exact .inl rfl

theorem adcDone_convs : (adcDone c s).convs c = vs := by
  rcases adcDone_raised hconvs hdue with h | h
  · rw [h, convEnded_convs]
  · rw [h, State.convs, raise_pins, ← State.convs, convEnded_convs]

theorem adcDone_regsBut :
    s.regsBut (adcDone c s) [R.ADC_DATA c, R.ADC_STAMP c, R.EVC_PEND ((576 + c) / 32)] := by
  rcases adcDone_raised hconvs hdue with h | h
  · rw [h]
    exact convEnded_regsBut.mono (by simp)
  · rw [h]
    exact convEnded_regsBut.trans (raise_regsBut _ _)

theorem adcDone_data : (adcDone c s).regN (R.ADC_DATA c)
    = v.code.toNat + 4096 * b2n v.trig + 8192 * (v.at' % 16) := by
  have hpend : R.ADC_DATA c ≠ R.EVC_PEND ((576 + c) / 32) := by unfold R.ADC_DATA R.EVC_PEND; omega
  rw [← convEnded_data (s := s) (vs := vs), State.regN]
  rcases adcDone_raised hconvs hdue with h | h
  · rw [h, State.regN]
  · rw [h, raise_reg_ne _ _ hpend, State.regN]

theorem adcDone_rest : ∃ r p k, adcDone c s = { s with regs := r, pins := p, cores := k } := by
  obtain ⟨_, _, hended⟩ := convEnded_rest (s := s) (c := c) (v := v) (vs := vs)
  rcases adcDone_raised hconvs hdue with h | h
  · rw [h, hended]
    exact ⟨_, _, _, rfl⟩
  · obtain ⟨_, _, hraised⟩ := raise_rest (convEnded c v vs s) (576 + c)
    rw [h, hraised, hended]
    exact ⟨_, _, _, rfl⟩

theorem adcDone_axis (n : Nat) : (adcDone c s).axis n = s.axis n := by
  obtain ⟨_, _, _, h⟩ := adcDone_rest hconvs hdue
  rw [h]
  rfl

/-- The end of a conversion writes no register of an axis. -/
theorem adcDone_axisReg {k : Nat} (hc : c < 32) (h : k < 0x400000 ∨ 0x3f00000 ≤ k) : (adcDone c s).reg k = s.reg k := by
  refine adcDone_regsBut hconvs hdue k ?_
  simp only [List.mem_cons, List.not_mem_nil, or_false, R.ADC_DATA, R.ADC_STAMP, R.EVC_PEND]
  omega

theorem adcDone_tracked {n : Nat} (hc : c < 32) (hn : n < 16) (alt : Bool) :
    (adcDone c s).tracked n alt = s.tracked n alt := by
  obtain ⟨_, _, _, hrest⟩ := adcDone_rest hconvs hdue
  refine State.tracked_congr (by rw [adcDone_axis hconvs hdue]) (fun k hk => adcDone_axisReg hconvs hdue hc ?_) (by rw [hrest])
  rcases hk with rfl | rfl | rfl | rfl
  · exact .inl (by unfold R.AXIS_CFG; omega)
  · exact .inr (by unfold R.CASC_ALT; omega)
  · exact .inr (by decide)
  · exact .inr (by decide)

theorem adcDelivered_mains (huse : s.useOf (R.ADC_CLAIM c) = 2) :
    adcDelivered c s = mainsSample c v.at' v.code (adcDone c s) := by
  have hjudged : adcDelivered c s = if s.useOf (R.ADC_CLAIM c) = 2 ∧ (adcDone c s).convs c = vs
      then mainsSample c v.at' v.code (adcDone c s) else adcDone c s := by
    unfold adcDelivered
    dsimp only
    rw [hconvs]
  rw [hjudged, if_pos ⟨huse, adcDone_convs hconvs hdue⟩]

theorem adcDelivered_srcSt {n : Nat} {alt : Bool} (huse : s.useOf (R.ADC_CLAIM c) = 2) (hc : c < 32) (hn : n < 16)
    (h : s.tracked n alt = some (3, c)) : ((adcDelivered c s).axis n).srcSt alt
      = mainsTake (bits (s.regN (R.AXIS_SRCP n)) 0 12) v.at' (if s.mainsRise n then v.code.toInt else -v.code.toInt)
          ((s.axis n).srcSt alt) := by
  have hsrcp : (adcDone c s).regN (R.AXIS_SRCP n) = s.regN (R.AXIS_SRCP n) :=
    congrArg BitVec.toNat (adcDone_axisReg hconvs hdue hc (.inl (by unfold R.AXIS_SRCP; omega)))
  rw [adcDelivered_mains hconvs hdue huse,
    mainsSample_srcSt v.code hn ((adcDone_tracked hconvs hdue hc hn alt).trans h), State.mainsRise, hsrcp,
    adcDone_axis hconvs hdue, State.mainsRise]

theorem adcDelivered_regs (huse : s.useOf (R.ADC_CLAIM c) = 2) (k : Nat) :
    (adcDelivered c s).reg k = (adcDone c s).reg k := by
  rw [adcDelivered_mains hconvs hdue huse]
  exact State.reg_congr (mainsSample_regs ..) k

theorem adcDelivered_motion (huse : s.useOf (R.ADC_CLAIM c) = 2) (n : Nat) :
    ((adcDelivered c s).axis n).motion = (s.axis n).motion := by
  rw [adcDelivered_mains hconvs hdue huse, (mainsSample_sourced ..).motion, adcDone_axis hconvs hdue]

theorem adcDelivered_rest (huse : s.useOf (R.ADC_CLAIM c) = 2) :
    ∃ r a p k, adcDelivered c s = { s with regs := r, axes := a, pins := p, cores := k } := by
  obtain ⟨_, _, hsampled⟩ := (mainsSample_sourced c v.at' v.code (adcDone c s)).rest
  obtain ⟨_, _, _, hdone⟩ := adcDone_rest hconvs hdue
  rw [adcDelivered_mains hconvs hdue huse, hsampled, hdone]
  exact ⟨_, _, _, _, rfl⟩

end convDone

/-! ### The Z level, R149 and R589 -/

/-- The Z level in the encoder's STAT. -/
def encZ (e : Nat) (lvl : Bool) (s : State) : State :=
  s.setRegN (R.ENC_STAT e) (setBits (s.regN (R.ENC_STAT e)) 2 1 (b2n lvl))

/-- The enabled axes whose own source is QUAD on the encoder. -/
def zNamed (e : Nat) (s : State) : List Nat := (List.range 16).filter fun n => (s.axis n).st != .off && s.srcOf n == (1, e)

/-- Those whose Z filter passes a change. -/
def zPassed (e : Nat) (lvl : Bool) (sz : Nat) (s : State) : List Nat :=
  (zNamed e s).filter fun n => filtered (s.qifilt n) sz lvl (s.axis n).src.fz != (s.axis n).src.fz

/-- Those at which the change is one into the active level. -/
def zHits (e : Nat) (lvl : Bool) (sz : Nat) (s : State) : List Nat :=
  (zPassed e lvl sz s).filter fun n => lvl != s.flag (R.AXIS_SRCP n) F.AXIS_SRCP_QZPOL

/-- A Z level that a filter has passed. -/
def zPass (lvl : Bool) (s : State) (n : Nat) : State := modSrc n false (fun x => { x with fz := lvl }) s

/-- A capture marked for the end of the tick. -/
def zMark (s : State) (n : Nat) : State := s.setAxis n { s.axis n with zhit := true }

/-- A Z level taken by the axes on the encoder. -/
def zTaken (e : Nat) (lvl : Bool) (sz : Nat) (s : State) : State :=
  (zHits e lvl sz s).foldl zMark ((zPassed e lvl sz s).foldl (zPass lvl) s)

/-- The encoder's Z event, where EVZ asks for it. -/
def zEvent (e : Nat) (ev : Bool) (s : State) : State :=
  if ev && s.flag (R.ENC_CFG e) F.ENC_CFG_EVZ then raise (656 + e) s else s

theorem zEdge_eq (e : Nat) (lvl : Bool) (sz : Nat) (s : State) : zEdge e lvl sz s
    = zEvent e (if (encZ e lvl s).useOf (R.ENC_CLAIM e) = 1 ∧ zNamed e (encZ e lvl s) ≠ []
          then !(zHits e lvl sz (encZ e lvl s)).isEmpty
          else (bit (s.regN (R.ENC_STAT e)) 2 != lvl)
            && ((encZ e lvl s).useOf (R.ENC_CLAIM e) == 1 || (encZ e lvl s).useOf (R.ENC_CLAIM e) == 3))
        (if (encZ e lvl s).useOf (R.ENC_CLAIM e) = 1
          then (zHits e lvl sz (encZ e lvl s)).foldl zMark
            (if (encZ e lvl s).useOf (R.ENC_CLAIM e) = 1
              then (zPassed e lvl sz (encZ e lvl s)).foldl (zPass lvl) (encZ e lvl s) else encZ e lvl s)
          else if (encZ e lvl s).useOf (R.ENC_CLAIM e) = 1
            then (zPassed e lvl sz (encZ e lvl s)).foldl (zPass lvl) (encZ e lvl s) else encZ e lvl s) := rfl

theorem zPassed_foldl_axis {l : List Nat} (hl : l.Nodup) (lvl : Bool) (s : State) (k : Nat) :
    (l.foldl (zPass lvl) s).axis k = if k ∈ l then (s.axis k).withSrc false (fun x => { x with fz := lvl }) else s.axis k :=
  foldl_update_distinct State.axis (zPass lvl) (fun _ x => x.withSrc false (fun x => { x with fz := lvl })) hl
    (fun _ n _ k => modSrc_axis n false _ k) s k

theorem zMark_foldl_axis {l : List Nat} (hl : l.Nodup) (s : State) (k : Nat) :
    (l.foldl zMark s).axis k = if k ∈ l then { s.axis k with zhit := true } else s.axis k :=
  foldl_update_distinct State.axis zMark (fun _ x => { x with zhit := true }) hl
    (fun s n _ k => State.setAxis_axis s n _ k) s k

section zTaken
variable {e : Nat} {lvl : Bool} {sz n : Nat}

theorem mem_zPassed : n ∈ zPassed e lvl sz s ↔ (n < 16 ∧ (s.axis n).st ≠ .off ∧ s.srcOf n = (1, e))
    ∧ filtered (s.qifilt n) sz lvl (s.axis n).src.fz ≠ (s.axis n).src.fz := by
  simp only [zPassed, zNamed, List.mem_filter, List.mem_range, Bool.and_eq_true, bne_iff_ne, beq_iff_eq]

theorem mem_zHits : n ∈ zHits e lvl sz s ↔ n ∈ zPassed e lvl sz s ∧ lvl ≠ s.flag (R.AXIS_SRCP n) F.AXIS_SRCP_QZPOL := by
  rw [zHits, List.mem_filter, bne_iff_ne]

theorem zPassed_nodup : (zPassed e lvl sz s).Nodup := (List.nodup_range.filter _).filter _

theorem zHits_nodup : (zHits e lvl sz s).Nodup := zPassed_nodup.filter _

theorem zTaken_hit (h : n ∈ zHits e lvl sz s) : (zTaken e lvl sz s).axis n
    = { (s.axis n).withSrc false (fun x => { x with fz := lvl }) with zhit := true } := by
  rw [zTaken, zMark_foldl_axis zHits_nodup, if_pos h, zPassed_foldl_axis zPassed_nodup, if_pos (mem_zHits.mp h).1]

theorem zTaken_passed (h : n ∈ zPassed e lvl sz s) (hno : n ∉ zHits e lvl sz s) :
    (zTaken e lvl sz s).axis n = (s.axis n).withSrc false (fun x => { x with fz := lvl }) := by
  rw [zTaken, zMark_foldl_axis zHits_nodup, if_neg hno, zPassed_foldl_axis zPassed_nodup, if_pos h]

theorem zTaken_kept (h : n ∉ zPassed e lvl sz s) : (zTaken e lvl sz s).axis n = s.axis n := by
  rw [zTaken, zMark_foldl_axis zHits_nodup, if_neg fun hit => h (mem_zHits.mp hit).1,
    zPassed_foldl_axis zPassed_nodup, if_neg h]

/-- What an axis on the encoder makes of a Z level whose filter passes `z`: an edge into the active level captures. -/
def ZTook (pol lvl z : Bool) (x y : Axis) : Prop :=
  y.src.fz = z ∧ (z ≠ x.src.fz → lvl ≠ pol → y.zhit = true) ∧ (z = x.src.fz ∨ lvl = pol → y.zhit = x.zhit)

theorem filtered_of_ne {need stable : Nat} {new old : Bool} (h : filtered need stable new old ≠ old) :
    filtered need stable new old = new := by
  unfold filtered at h ⊢
  split at h
  · next hneed => exact if_pos hneed
  · exact absurd rfl h

theorem zTaken_took (hn : n < 16) (hon : (s.axis n).st ≠ .off) (hsrc : s.srcOf n = (1, e)) :
    ZTook (s.flag (R.AXIS_SRCP n) F.AXIS_SRCP_QZPOL) lvl (filtered (s.qifilt n) sz lvl (s.axis n).src.fz) (s.axis n)
      ((zTaken e lvl sz s).axis n) := by
  by_cases hpass : filtered (s.qifilt n) sz lvl (s.axis n).src.fz = (s.axis n).src.fz
  · rw [zTaken_kept fun h => (mem_zPassed.mp h).2 hpass]
    exact ⟨hpass.symm, fun hne => absurd hpass hne, fun _ => rfl⟩
  · have hpassed : n ∈ zPassed e lvl sz s := mem_zPassed.mpr ⟨⟨hn, hon, hsrc⟩, hpass⟩
    have hlvl := filtered_of_ne hpass
    by_cases hpol : lvl = s.flag (R.AXIS_SRCP n) F.AXIS_SRCP_QZPOL
    · rw [zTaken_passed hpassed fun h => (mem_zHits.mp h).2 hpol]
      exact ⟨hlvl.symm, fun _ hne => absurd hpol hne, fun _ => rfl⟩
    · rw [zTaken_hit (mem_zHits.mpr ⟨hpassed, hpol⟩)]
      exact ⟨hlvl.symm, fun _ _ => rfl, fun hno => absurd hno (not_or.mpr ⟨hpass, hpol⟩)⟩

theorem zTaken_elsewhere (h : (s.axis n).st = .off ∨ s.srcOf n ≠ (1, e)) : (zTaken e lvl sz s).axis n = s.axis n := by
  refine zTaken_kept fun hpassed => ?_
  obtain ⟨⟨_, hon, hsrc⟩, _⟩ := mem_zPassed.mp hpassed
  exact h.elim hon fun hne => hne hsrc

theorem zTaken_motion (n : Nat) : ((zTaken e lvl sz s).axis n).motion = (s.axis n).motion := by
  have hpass := (s.axis n).withSrc_motion false (fun x => { x with fz := lvl })
  by_cases hhit : n ∈ zHits e lvl sz s
  · rw [zTaken_hit hhit, ← hpass]
    rfl
  · by_cases hpassed : n ∈ zPassed e lvl sz s
    · rw [zTaken_passed hpassed hhit, hpass]
    · rw [zTaken_kept hpassed]

/-- Only axes change. -/
theorem foldl_axes {α : Type} {step : State → α → State} (hstep : ∀ t a, ∃ x, step t a = { t with axes := x })
    (l : List α) (s : State) : ∃ x, l.foldl step s = { s with axes := x } :=
  List.foldlRecOn (motive := fun t => ∃ x, t = { s with axes := x }) l step ⟨_, rfl⟩ fun t ht a _ => by
    obtain ⟨_, ht⟩ := ht
    obtain ⟨_, hs⟩ := hstep t a
    rw [hs, ht]
    exact ⟨_, rfl⟩

theorem zTaken_rest : ∃ x, zTaken e lvl sz s = { s with axes := x } := by
  obtain ⟨_, hpass⟩ := foldl_axes (step := zPass lvl) (fun _ _ => ⟨_, rfl⟩) (zPassed e lvl sz s) s
  obtain ⟨_, hmark⟩ := foldl_axes (step := zMark) (fun _ _ => ⟨_, rfl⟩) (zHits e lvl sz s)
    ((zPassed e lvl sz s).foldl (zPass lvl) s)
  rw [zTaken, hmark, hpass]
  exact ⟨_, rfl⟩

end zTaken

section zEdge
variable {e : Nat} {lvl : Bool} (sz : Nat)

theorem encZ_axis (n : Nat) : (encZ e lvl s).axis n = s.axis n := by rw [encZ, State.setRegN_axis]

section steering
variable (he : e < 16)
include he

theorem encZ_useOf : (encZ e lvl s).useOf (R.ENC_CLAIM e) = s.useOf (R.ENC_CLAIM e) := ENC_STAT_written_useOf he _

theorem encZ_srcp (n : Nat) : (encZ e lvl s).reg (R.AXIS_SRCP n) = s.reg (R.AXIS_SRCP n) :=
  State.setRegN_reg_ne _ (ENC_STAT_apart he n).2.1 _

theorem encZ_srcOf (n : Nat) : (encZ e lvl s).srcOf n = s.srcOf n := by
  obtain ⟨hcfg, _, halt, _⟩ := ENC_STAT_apart he n
  exact State.srcOf_congr (State.setRegN_reg_ne _ hcfg _) (State.setRegN_reg_ne _ halt _) (by rw [encZ, State.setRegN_casc])

/-- An input in use QUAD hands its Z level to the axes; whether they or its own move raise the event is `ev`. -/
theorem zEdge_quad (huse : s.useOf (R.ENC_CLAIM e) = 1) :
    ∃ ev, zEdge e lvl sz s = zEvent e ev (zTaken e lvl sz (encZ e lvl s)) := by
  rw [zEdge_eq, encZ_useOf he, huse, if_pos rfl, if_pos rfl]
  exact ⟨_, rfl⟩

/-- An input in use IN raises its event at every move. -/
theorem zEdge_in (hmoved : bit (s.regN (R.ENC_STAT e)) 2 ≠ lvl) (huse : s.useOf (R.ENC_CLAIM e) = 3)
    (hev : s.flag (R.ENC_CFG e) F.ENC_CFG_EVZ = true) : zEdge e lvl sz s = raise (656 + e) (encZ e lvl s) := by
  have hcfg : (encZ e lvl s).flag (R.ENC_CFG e) F.ENC_CFG_EVZ = true :=
    (State.flag_of_reg (State.setRegN_reg_ne _ (ENC_STAT_apart he 0).2.2.2.2.2.2 _) _).trans hev
  rw [zEdge_eq, encZ_useOf he, huse, bne_iff_ne.mpr hmoved]
  exact if_pos hcfg

end steering

variable (ev : Bool)

theorem zEvent_regsBut : s.regsBut (zEvent e ev s) [R.EVC_PEND ((656 + e) / 32)] := by
  unfold zEvent
  split
  · exact raise_regsBut s _
  · exact fun _ _ => rfl

theorem zEvent_rest : ∃ r c, zEvent e ev s = { s with regs := r, cores := c } := by
  unfold zEvent
  split
  · exact raise_rest s _
  · exact ⟨_, _, rfl⟩

theorem zEvent_axis (n : Nat) : (zEvent e ev s).axis n = s.axis n := by
  obtain ⟨_, _, h⟩ := zEvent_rest (s := s) (e := e) ev
  rw [h]
  rfl

theorem zEvent_zTaken_regsBut :
    s.regsBut (zEvent e ev (zTaken e lvl sz (encZ e lvl s))) [R.ENC_STAT e, R.EVC_PEND ((656 + e) / 32)] := by
  obtain ⟨_, h⟩ := zTaken_rest (s := encZ e lvl s) (e := e) (lvl := lvl) (sz := sz)
  have hset : s.regsBut (encZ e lvl s) [R.ENC_STAT e] := s.setRegN_regsBut _ _
  have htaken : (encZ e lvl s).regsBut (zTaken e lvl sz (encZ e lvl s)) [] := State.regsBut_of_regs (by rw [h]) []
  exact (hset.trans htaken).trans (zEvent_regsBut ev)

theorem zEvent_zTaken_rest :
    ∃ r a c, zEvent e ev (zTaken e lvl sz (encZ e lvl s)) = { s with regs := r, axes := a, cores := c } := by
  obtain ⟨_, _, hev⟩ := zEvent_rest (s := zTaken e lvl sz (encZ e lvl s)) (e := e) ev
  obtain ⟨_, htaken⟩ := zTaken_rest (s := encZ e lvl s) (e := e) (lvl := lvl) (sz := sz)
  obtain ⟨_, hset⟩ := s.setRegN_rest (R.ENC_STAT e) (setBits (s.regN (R.ENC_STAT e)) 2 1 (b2n lvl))
  rw [hev, htaken, encZ, hset]
  exact ⟨_, _, _, rfl⟩

end zEdge

/-- Settles O10: a command asks each tracked source whether it names the unit; no source's command changes which
sources do, so each takes its own step and no other source's. -/
theorem axisSources : Obligations.AxisSources := by
  unfold Obligations.AxisSources
  refine ⟨fun e ph a b sa sb s huse => ?_, fun n alt inst s htracked hdue hframe => ?_,
    fun n alt inst g raw s htracked huse hframe hend => ?_, fun c v vs s hconvs hdue huse => ?_,
    fun n alt rise inst c s htracked hinst huse hcross => ?_, fun e lvl sz s hmoved huse hev => ?_,
    fun e lvl sz s huse => ?_⟩
  · refine ⟨_, exec_quadCountEdge_came e ph a b sa sb huse, fun n hn htracked => quadCame_took e ph a b sa sb hn htracked,
      fun n hno => quadCame_untracked e ph a b sa sb hno, fun n => Axis.motion_fields ?_, quadCame_encStat e ph a b sa sb,
      fun k hk hstat => quadCame_regs e ph a b sa sb hk hstat, ?_⟩
    · rw [(quadCame_sourced e ph a b sa sb s).motion, encLevels, State.setRegN_axis]
    · obtain ⟨_, _, h⟩ := quadCame_rest (s := s) e ph a b sa sb
      rw [h]
  · rw [exec_ssiPoll, execSsiPoll, ssiPoll_starts htracked hdue hframe, ok]
  · rw [exec_ssiFrameComplete, execSsiFrameComplete, ssiFrame_good htracked huse hframe hend, ok]
    refine congrArg (fun f => (.next (modSrc n alt f s) : Res)) (funext fun x => ?_)
    unfold SrcSt.ssiTaken SrcSt.unframed unwrap
    cases x.code
    · rfl
    · rfl
  · rw [exec_adcConversionDone, execAdcConversionDone]
    refine ⟨_, rfl, ?_, fun n hn alt htracked => ?_,
      fun n => Axis.motion_fields (adcDelivered_motion hconvs hdue huse n), fun k hdata hstamp hpend => ?_, ?_⟩
    · rw [State.regN, adcDelivered_regs hconvs hdue huse, ← State.regN, adcDone_data hconvs hdue]
    · dsimp only
      rw [adcDelivered_srcSt hconvs hdue huse c.isLt hn htracked]
      exact mainsTake_took _ _ _ _
    · rw [adcDelivered_regs hconvs hdue huse]
      exact adcDone_regsBut hconvs hdue k (by simp [hdata, hstamp, hpend])
    · obtain ⟨_, _, _, _, h⟩ := adcDelivered_rest hconvs hdue huse
      rw [h]
  · rw [exec_mainsCrossing, execMainsCrossing, mainsCrossing_eq htracked hinst huse hcross, State.mainsRise, ok]
    constructor
    · intro h
      rw [h, if_neg (by simp)]
    · intro h
      rw [if_pos (Bool.eq_not.mpr h)]
      rfl
  · rw [exec_zEdge, execZEdge, zEdge_in _ e.isLt hmoved huse hev, encZ, ok]
  · obtain ⟨ev, h⟩ := zEdge_quad sz.toNat e.isLt huse (lvl := lvl)
    rw [exec_zEdge, execZEdge, h]
    refine ⟨_, rfl, fun n hn hon hsrc => ?_, fun n hoff => ?_, fun n => Axis.motion_fields ?_, fun k hstat hpend => ?_, ?_⟩
    · have htook := zTaken_took (s := encZ e lvl s) (lvl := lvl) (sz := sz.toNat) (e := e) hn (by rwa [encZ_axis])
        (by rwa [encZ_srcOf e.isLt])
      have hqifilt : (encZ e lvl s).qifilt n = s.qifilt n := State.fld_of_reg (encZ_srcp e.isLt n) _
      rw [State.flag_of_reg (encZ_srcp e.isLt n), hqifilt, encZ_axis] at htook
      rw [zEvent_axis]
      exact htook
    · rw [zEvent_axis, zTaken_elsewhere (by rwa [encZ_axis, encZ_srcOf e.isLt]), encZ_axis]
    · rw [zEvent_axis, zTaken_motion, encZ_axis]
    · exact zEvent_zTaken_regsBut _ ev k (by simp [hstat, hpend])
    · obtain ⟨_, _, _, h⟩ := zEvent_zTaken_rest (s := s) (e := e) (lvl := lvl) sz.toNat ev
      rw [h]

end Sys2Proof.Machine
end

section
/-! Accesses of a gallery that are performed at once: to its own chamber over the gallery port, elsewhere over the
Junction (R183, R234). -/

namespace Sys2Proof.Machine

/-! ### The gallery's own chamber -/

theorem targetOf_chamAddr {g off : Nat} (hg : g < 16) (ho : off < 0x800000) : targetOf (chamAddr g off) = .cham g := by
  unfold targetOf chamAddr
  rw [if_neg (by omega), if_neg (by omega), if_pos (by omega)]
  exact congrArg Target.cham (by omega)

theorem chamAddr_mod {g off : Nat} (ho : off < 0x800000) : chamAddr g off % 0x800000 = off := by
  unfold chamAddr
  omega

theorem chamAddr_div {g off : Nat} (hal : off % 4 = 0) : chamAddr g off / 4 * 4 = chamAddr g off := by
  unfold chamAddr
  omega

/-- A chamber lies outside the boot ROM. -/
theorem chamAddr_notRom {g off : Nat} (hg : g < 16) (ho : off < 0x800000) : inRomRange (chamAddr g off / 4) = false := by
  unfold inRomRange romWord chamAddr
  simp only [Bool.and_eq_false_iff, decide_eq_false_iff_not]
  omega

/-- Where no march runs, no word is locked. -/
theorem State.lockedBy_noMarch {s : State} (h : s.noMarch) (w : Nat) : s.lockedBy w = none := by
  refine List.find?_eq_none.mpr fun k hk => ?_
  simp [h k (List.mem_range.mp hk)]

/-- Over its own port a gallery reaches every word of its chamber that no march holds. -/
theorem galAccess_own {s : State} {g a : Nat} (ht : targetOf a = .cham g) (hl : s.lockedBy (a / 4) = none) (lv : Level)
    (op : JOp) (se : Bool) :
    galAccess g lv a op s se = (.done (storageOp (16 + g) a op s).1, (storageOp (16 + g) a op s).2) := by
  simp [galAccess, storageAccess, ht, hl]

/-! ### Reads of clean words -/

/-- State u differs from s in what reads of clean words leave behind: free values taken, and ports. -/
def State.polled (s u : State) : Prop :=
  ∃ f c p, u = { s with fresh := f, chams := c, junc := { s.junc with ports := p } }

theorem State.polled.refl (s : State) : s.polled s := ⟨_, _, _, rfl⟩

theorem State.polled.trans {s t u : State} (h : s.polled t) (h' : t.polled u) : s.polled u := by
  obtain ⟨_, _, _, rfl⟩ := h
  obtain ⟨f, c, p, rfl⟩ := h'
  exact ⟨f, c, p, rfl⟩

theorem State.polled.galServes {s u : State} (h : s.polled u) (g a : Nat) : u.galServes g a = s.galServes g a := by
  obtain ⟨f, c, p, rfl⟩ := h
  unfold State.galServes
  rw [s.performs_rest s.mem f c p]
  rfl

theorem State.polled.cont {s u : State} (h : s.polled u) (w : Nat) : u.cont w = s.cont w := by
  obtain ⟨_, _, _, rfl⟩ := h
  rfl

theorem galAccess_read {s : State} {g a : Nat} {w : Word} (h : s.galServes g a = true) (hal : a % 4 = 0)
    (hw : decodeContainer (s.cont (a / 4)) = .clean w) (lv : Level) :
    ∃ u, s.polled u ∧ galAccess g lv a .rd s = (.done { st := .ok, w := w }, u) := by
  unfold State.galServes at h
  split at h
  · next ht =>
    simp only [Bool.and_eq_true, Option.isNone_iff_eq_none] at h
    obtain ⟨_, hl⟩ := h
    refine ⟨s, State.polled.refl s, ?_⟩
    rw [galAccess_own ht hl, storageOp_rd_clean _ hw]
  · next ht =>
    refine ⟨_, s.readBy_rest (16 + g) a, ?_⟩
    rw [galAccess, if_neg ht]
    exact busAccess_read noReg (16 + g) lv a w s false false h hal hw

theorem galReads_clean {g : Nat} (lv : Level) {is : List Nat} {f : Nat → Nat} {w : Nat → Word} {s : State}
    (h : ∀ i ∈ is, s.galServes g (f i) = true ∧ f i % 4 = 0 ∧ decodeContainer (s.cont (f i / 4)) = .clean (w i)) :
    ∃ u, s.polled u ∧ galReads g lv (is.map f) s = .got (is.map fun i => (w i, true, false)) u := by
  induction is generalizing s with
  | nil => exact ⟨s, State.polled.refl s, rfl⟩
  | cons i is ih =>
    obtain ⟨⟨hserves, hal, hw⟩, his⟩ := List.forall_mem_cons.mp h
    obtain ⟨t, ht, hread⟩ := galAccess_read hserves hal hw lv
    obtain ⟨u, hu, hreads⟩ := ih (s := t) fun j hj => by
      rw [ht.galServes, ht.cont]
      exact his j hj
    refine ⟨u, ht.trans hu, ?_⟩
    simp [galReads, hread, hreads]

/-! ### Words written into the gallery's own chamber -/

/-- The memory with words stored from a word index on. -/
def wordsAt (j : Nat) (ws : List Word) (m : List Host.Cell) : List Host.Cell :=
  (ws.zipIdx j).foldl (fun m x => contPut m x.2 (encodeWord x.1)) m

theorem wordsAt_cons (j : Nat) (w : Word) (ws : List Word) (m : List Host.Cell) :
    wordsAt j (w :: ws) m = wordsAt (j + 1) ws (contPut m j (encodeWord w)) := by
  rw [wordsAt, List.zipIdx_cons, List.foldl_cons, wordsAt]

theorem memByte_wordsAt_out {ws : List Word} {j i : Nat} (h : i < 8 * j ∨ 8 * (j + ws.length) ≤ i)
    (m : List Host.Cell) : memByte (wordsAt j ws m) i = memByte m i := by
  induction ws generalizing j m with
  | nil => rfl
  | cons w ws ih =>
    rw [List.length_cons] at h
    rw [wordsAt_cons, ih (by omega)]
    exact memByte_memPut_out 8 _ _ _ _ (by omega)

theorem contAt_wordsAt_out {ws : List Word} {j i : Nat} (h : i < j ∨ j + ws.length ≤ i) (m : List Host.Cell) :
    contAt (wordsAt j ws m) i = contAt m i := by
  unfold contAt
  rw [memBytes_congr 8 _ m (8 * i) fun k hk => memByte_wordsAt_out (by omega) m]

theorem contAt_wordsAt {ws : List Word} {j k : Nat} (h : k < ws.length) (x : Word) (m : List Host.Cell) :
    contAt (wordsAt j ws m) (j + k) = encodeWord (ws.getD k x) := by
  induction ws generalizing j k m with
  | nil => exact absurd h (Nat.not_lt_zero k)
  | cons w ws ih =>
    rw [wordsAt_cons]
    cases k with
    | zero => rw [contAt_wordsAt_out (by omega), Nat.add_zero, contAt_contPut_same, List.getD_cons_zero]
    | succ k =>
      rw [show j + (k + 1) = j + 1 + k by omega, ih (by simpa using h), List.getD_cons_succ]

theorem State.setMem_mem (s : State) (m : List Host.Cell) : (s.setMem m).mem = m := rfl

theorem State.setMem_setMem (s : State) (m m' : List Host.Cell) : (s.setMem m).setMem m' = s.setMem m' := rfl

theorem State.putWord_eq_setMem (s : State) (j : Nat) (w : Word) :
    s.putWord j w = s.setMem (contPut s.mem j (encodeWord w)) := by
  rw [State.putWord, State.setCont]

theorem State.setMem_noMarch {s : State} (h : s.noMarch) (m : List Host.Cell) : (s.setMem m).noMarch := h

theorem storageOp_wr (m a : Nat) (w : Word) (s : State) :
    storageOp m a (.wr w) s = ({ st := .ok }, s.putWord (a / 4) w) := rfl

/-- A gallery writes words into its chamber in turn; none of them waits. -/
theorem galWrites_own {g off : Nat} (hg : g < 16) {ws : List Word} (ho : off + 4 * ws.length ≤ 0x800000) {s : State}
    (h : s.noMarch) :
    galWrites g (chamAddr g off) ws s = .got true (s.setMem (wordsAt (chamAddr g off / 4) ws s.mem)) := by
  induction ws generalizing off s with
  | nil => rfl
  | cons w ws ih =>
    rw [List.length_cons] at ho
    have hwrite : galAccess g .m (chamAddr g off) (.wr w) s
        = (.done { st := .ok }, s.setMem (contPut s.mem (chamAddr g off / 4) (encodeWord w))) := by
      rw [galAccess_own (targetOf_chamAddr hg (by omega)) (s.lockedBy_noMarch h _), storageOp_wr,
        State.putWord_eq_setMem]
    have hnext : chamAddr g off / 4 + 1 = chamAddr g (off + 4) / 4 := by
      unfold chamAddr
      omega
    have hrest := ih (off := off + 4) (by omega) (s := s.setMem (contPut s.mem (chamAddr g off / 4) (encodeWord w)))
      (State.setMem_noMarch h _)
    rw [State.setMem_mem, State.setMem_setMem] at hrest
    rw [wordsAt_cons, hnext, galWrites, hwrite]
    simp [show chamAddr g off + 4 = chamAddr g (off + 4) from rfl, hrest]

end Sys2Proof.Machine
end
section
/-! One element of a gallery instruction whose streams are whole words of the chamber: read, taken through the chain,
stored and committed (R163, R181, R195, R230, R231). -/

namespace Sys2Proof.Machine

/-! ### The descriptor of such an instruction -/

/-- What `Desc.wordChain` says, field by field. -/
structure Desc.Whole (d : Desc) : Prop where
  formA : d.form 0 = 1
  spaceA : d.space 0 = 1
  formB : d.form 1 = 0
  formC : d.form 2 = 0
  formR : d.form 3 = 1
  spaceR : d.space 3 = 1
  msrc : d.msrc = 0
  pack : d.pack = 0
  redStep : d.redStep = none
  et : d.et.perWord = 1
  ft : d.ft.perWord = 1
  baseA : d.base 0 % 4 = 0
  baseR : d.base 3 % 4 = 0

theorem Desc.wordChain_whole {d : Desc} (h : d.wordChain = true) : d.Whole := by
  simp only [Desc.wordChain, Bool.and_eq_true, beq_iff_eq, Option.isNone_iff_eq_none] at h
  obtain ⟨⟨⟨⟨⟨⟨⟨⟨⟨⟨⟨⟨h1, h2⟩, h3⟩, h4⟩, h5⟩, h6⟩, h7⟩, h8⟩, h9⟩, h10⟩, h11⟩, h12⟩, h13⟩ := h
  exact ⟨h1, h2, h3, h4, h5, h6, h7, h8, h9, h10, h11, h12, h13⟩

/-- A type with one element per word fills it. -/
theorem EType.width_whole {t : EType} (h : t.perWord = 1) : t.width = 48 := by
  cases t with
  | i48 | fp | dec => rfl
  | _ => simp [EType.perWord] at h

theorem EType.tag_clean (t : EType) : t.tag.poisoned = false := by
  cases t <;> decide

/-- The value that a whole word gives stream A. -/
def Desc.taken (d : Desc) (w : Word) : Int :=
  if d.et = .i48 then signedOf 48 w.pay.toNat
  else if d.et = .fp then (w.pay.toNat % 2 ^ 32 : Nat) else (w.pay.toNat : Nat)

section whole
variable {d : Desc} (h : d.Whole)
include h

theorem Desc.Whole.isIndex (x : Nat) : d.isIndex x = false := by
  simp [Desc.isIndex, List.range_succ, h.formA, h.formB, h.formC, h.formR]

theorem Desc.Whole.fed : d.fed = 0 := by simp [Desc.fed, h.formA]

theorem Desc.Whole.on : d.on 0 = true ∧ d.on 1 = false ∧ d.on 2 = false ∧ d.on 3 = true := by
  simp [Desc.on, h.formA, h.formB, h.formC, h.formR]

/-- Stream A alone is read. -/
theorem Desc.Whole.reads : d.reads = [(false, 0, 3)] := by
  obtain ⟨hA, hB, hC, _⟩ := h.on
  simp [Desc.reads, h.isIndex, h.fed, hA, hB, hC]

theorem Desc.Whole.flows : d.flows = false := by simp [Desc.flows, h.spaceR]

theorem Desc.Whole.writes : d.writes = true := by
  obtain ⟨_, _, _, hR⟩ := h.on
  simp [Desc.writes, hR, h.redStep]

theorem Desc.Whole.perWord : d.perWord 3 = 1 := by simp [Desc.perWord, h.redStep, h.ft]

theorem Desc.Whole.value (w : Word) :
    (if d.et.fixed then valueOf d.et (fieldOf d.et w.pay.toNat 0)
      else if d.et = .fp then (w.pay.toNat % 2 ^ 32 : Nat) else (w.pay.toNat : Nat)) = d.taken w := by
  have het := h.et
  unfold Desc.taken
  cases ht : d.et with
  | i48 =>
    have hpay : w.pay.toNat % 281474976710656 = w.pay.toNat := Nat.mod_eq_of_lt w.pay.isLt
    simp [EType.fixed, valueOf, fieldOf, bits, EType.width, hpay]
  | fp => simp [EType.fixed]
  | dec => simp [EType.fixed]
  | _ => simp [ht, EType.perWord] at het

/-- The address of the word that element i writes. -/
def Desc.resWord (d : Desc) (i : Nat) : Nat := d.base 3 + 4 * i

theorem Desc.Whole.targets (i : Nat) (ix x : Int) (e : Elem) :
    d.targets i ix (some x) e = [(((d.resWord i : Nat) : Int), 0, some (d.pattern x))] := by
  have hplace : d.resPlace i ix 0 = (((d.resWord i : Nat) : Int), 0) := by
    simp [Desc.resPlace, h.flows, h.perWord, place, Desc.offset, h.formR, Desc.resWord]
  simp [Desc.targets, h.writes, h.pack, h.formR, hplace]

end whole

theorem setBits_whole {w n : Nat} (h : n < 2 ^ w) : setBits 0 0 w n = n := by
  simp [setBits, Nat.mod_eq_of_lt h]

theorem patternOf_lt (w : Nat) (x : Int) : patternOf w x < 2 ^ w := by
  have h : (0 : Int) < 2 ^ w := by positivity
  have := Int.emod_lt_of_pos x h
  have := Int.emod_nonneg x h.ne'
  unfold patternOf
  zify
  omega

theorem Desc.Whole.pattern_lt {d : Desc} (h : d.Whole) (x : Int) : d.pattern x < 2 ^ 48 := by
  rw [Desc.pattern, EType.width_whole h.ft]
  exact patternOf_lt 48 x

/-! ### Slots -/

section setSlot
variable (s : State) (g sl : Nat) (x : Slot)

theorem State.setSlot_slot (h i : Nat) :
    (s.setSlot g sl x).slot h i = if h = g ∧ i = sl then x else s.slot h i := by
  by_cases hh : h = g
  · subst hh
    simp [State.slot, State.setSlot, tget_tset]
  · simp [State.slot, State.setSlot, hh]

theorem State.setSlot_slot_same : (s.setSlot g sl x).slot g sl = x := by simp [State.setSlot_slot]

theorem State.setSlot_slotsBut : s.slotsBut (s.setSlot g sl x) g sl := fun i hi => by simp [State.setSlot_slot, hi]

theorem State.setSlot_noMarch (h : s.noMarch) : (s.setSlot g sl x).noMarch := h

end setSlot

theorem State.slot_of_gals {s t : State} (h : t.gals = s.gals) (g sl : Nat) : t.slot g sl = s.slot g sl := by
  simp [State.slot, State.gal, h]

/-! ### Reading the element -/

theorem readWord_resolved {c : GCtx} {s : State} {w : Word} {x key pa code : Nat} {k : TagKind} {a : Int} {r : RdSt}
    (hresolve : c.resolve x .load a code s = .got (pa, false) s) (hal : pa / 4 * 4 = pa)
    (hcache : tget (fun _ => none) r.cache key = none)
    (hread : galAccess c.g c.lv pa .rd s false = (.done { st := .ok, w := w }, s)) (htag : c.tagBad k w.tag = false) :
    c.readWord x key k a code r s
      = .got (w, { r with cache := tset (fun _ => none) r.cache key (some (pa, w, false)) }) s := by
  simp [GCtx.readWord, hresolve, hcache, hal, hread, GCtx.checkWord, htag]

theorem resolve_chamber {c : GCtx} {x a : Nat} (hspace : c.d.space x = 1) (ha : a < 0x800000) (k : AccKind) (code : Nat)
    (s : State) : c.resolve x k a code s = .got (chamAddr c.g a, false) s := by
  simp [GCtx.resolve, hspace, ha]

section reading
variable {c : GCtx} (hg : c.g < 16) {s : State} (hm : s.noMarch) {w : Word}
include hg hm

/-- A word of a chamber stream that is not held already is read. -/
theorem readWord_chamber {x key a : Nat} {k : TagKind} (hspace : c.d.space x = 1) (ha : a < 0x800000) (hal : a % 4 = 0)
    (hw : decodeContainer (s.cont (chamAddr c.g a / 4)) = .clean w) (htag : c.tagBad k w.tag = false) (code : Nat)
    {r : RdSt} (hcache : tget (fun _ => none) r.cache key = none) :
    c.readWord x key k a code r s
      = .got (w, { r with cache := tset (fun _ => none) r.cache key (some (chamAddr c.g a, w, false)) }) s := by
  refine readWord_resolved (resolve_chamber hspace ha .load code s) (chamAddr_div hal) hcache ?_ htag
  rw [galAccess_own (targetOf_chamAddr hg ha) (s.lockedBy_noMarch hm _), storageOp_rd_clean _ hw]

variable (hd : c.d.Whole) {i : Nat} (hi : c.d.base 0 + 4 * i < 0x800000)
  (hw : decodeContainer (s.cont (chamAddr c.g (c.d.base 0 + 4 * i) / 4)) = .clean w) (htag : w.tag = c.d.et.tag)
include hd hi hw htag

/-- What is remembered once the element has been read. -/
def GCtx.seen (c : GCtx) (i : Nat) (w : Word) : RdSt :=
  { cache := [(0, some (chamAddr c.g (c.d.base 0 + 4 * i), w, false))]
    val := [(0, some (c.d.taken w))]
    atag := w.tag }

theorem readElem_whole : c.readElem 0 3 i { cache := [] } s = .got (c.d.taken w, c.seen i w) s := by
  have hclean : c.tagBad .data w.tag = false := by
    simp [GCtx.tagBad, htag, c.d.et.tag_clean]
  have hal : (c.d.base 0 + 4 * i) % 4 = 0 := by
    have := hd.baseA
    omega
  have hword := readWord_chamber hg hm hd.spaceA hi hal hw hclean 3 (key := 0) (r := { cache := [] }) rfl
  have hplace (j : Nat) : place (c.d.base 0) c.d.et.perWord (c.d.offset 0 i 0 j) = (((c.d.base 0 + 4 * i : Nat) : Int), 0) := by
    simp [hd.et, place, Desc.offset, hd.formA]
  push_cast at hword
  unfold GCtx.readElem
  simp [hd.fed, hd.spaceA, hd.formA, tget, hplace, hword, ← hd.value w, GCtx.seen, tset, tdel, tins]

theorem readInputs_whole : c.readInputs i { cache := [] } s = .got (some { a := c.d.taken w }, c.seen i w) s := by
  simp [GCtx.readInputs, hd.msrc, hd.reads, GCtx.readAll, readElem_whole hg hm hd hi hw htag, GCtx.seen, tget]

/-- The word of the result that element i makes. -/
def GCtx.made (c : GCtx) (i : Nat) (w : Word) (q : ChainRes) : WRec :=
  { key := ((c.d.resWord i : Nat) : Int), mask := 1, pay := c.d.pattern q.x, lo := some (i, w.tag, 0) }

/-- The group that element i makes. -/
def GCtx.took (c : GCtx) (i : Nat) (w : Word) (q : ChainRes) (a : GroupSt) : GroupSt :=
  { a with next := i + 1, acc := q.acc, red := q.red, cache := (c.seen i w).cache, flags := a.flags.or q.flags }

variable {v : ChainEnv} {a : GroupSt} {q : ChainRes} (hnext : a.next = i) (hcache : a.cache = [])
  (hchain : chainElem v i { a := c.d.taken w } a.acc a.red = .ok q) (hactive : q.active = true)
include hnext hcache hchain hactive

theorem elemWork_whole : c.elemWork v [] a s = .got
    { ts := [(((c.d.resWord i : Nat) : Int), 0, some (c.d.pattern q.x))], atag := w.tag, newSe := false,
      g := c.took i w q a } s := by
  obtain ⟨hA, _, _, _⟩ := hd.on
  subst hnext
  simp [GCtx.elemWork, hcache, readInputs_whole hg hm hd hi hw htag, hchain, Desc.badStore, hd.formR, hactive, hd.targets,
    hd.pack, hA, noteSe, GCtx.took, GCtx.seen, Flg.or]

theorem gather_whole (hrecs : a.recs = []) (hse : (s.slot c.g c.sl).seOf i = []) {lim : Nat} (hlim : i < lim) (n : Nat) :
    c.gather v lim i (n + 1) a s = .got { c.took i w q a with recs := [c.made i w q] } s := by
  have hwork := elemWork_whole hg hm hd hi hw htag hnext hcache hchain hactive
  have hput : mergeTarget c.d i w.tag (((c.d.resWord i : Nat) : Int), 0, some (c.d.pattern q.x)) []
      = [c.made i w q] := by
    simp [mergeTarget, WRec.put, hd.pack, hd.perWord, EType.width_whole hd.ft, setBits_whole (hd.pattern_lt q.x),
      setBits_whole (w := 1) (n := 1), GCtx.made]
  have hfull : allFull c.d i [c.made i w q] = true := by
    simp [allFull, hd.pack, hd.perWord, GCtx.made]
  subst hnext
  simp [GCtx.gather, Nat.not_le.mpr hlim, hse, hwork, hrecs, hput, hfull, GCtx.took]

end reading

/-! ### The result word -/

/-- The result word of element i. -/
def GCtx.result (c : GCtx) (w : Word) (q : ChainRes) : Word :=
  ⟨if c.d.tcm = 2 then w.tag else c.d.ft.tag, BitVec.ofNat 48 (c.d.pattern q.x)⟩

theorem store_resolved {c : GCtx} {s t : State} {a : Int} {pa g : Nat} {w : Word}
    (hresolve : c.resolve 3 .store a 7 s = .got (pa, false) s) (ht : targetOf pa = .cham g)
    (hsave : pa % 0x800000 < 0x7F0000) (haccess : galAccess c.g c.lv pa (.wr w) s false = (.done { st := .ok }, t))
    (et elem smp : Nat) : c.store a w none et elem smp s = .got () t := by
  simp [GCtx.store, hresolve, ht, hsave, haccess]

theorem store_chamber {c : GCtx} (hg : c.g < 16) {s : State} (hm : s.noMarch) (hspace : c.d.space 3 = 1) {a : Nat}
    (ha : a < 0x7F0000) (w : Word) (et elem smp : Nat) :
    c.store a w none et elem smp s = .got () (s.putWord (chamAddr c.g a / 4) w) := by
  have ht := targetOf_chamAddr (off := a) hg (by omega)
  refine store_resolved (resolve_chamber hspace (by omega) .store 7 s) ht ?_ ?_ et elem smp
  · rwa [chamAddr_mod (by omega)]
  · rw [galAccess_own ht (s.lockedBy_noMarch hm _), storageOp_wr]

/-- A whole word that does not flow is stored, R196. -/
theorem writeRec_full {c : GCtx} {r : WRec} (hflows : c.d.flows = false) (hmask : r.mask = 2 ^ c.d.perWord 3 - 1)
    {l : Nat × Tag × Nat} (hlo : r.lo = some l) (last : Bool) (s : State) :
    ∃ et elem smp, c.writeRec last none r s = c.store r.key ⟨r.tag c.d, BitVec.ofNat 48 r.pay⟩ none et elem smp
      (s.setSlot c.g c.sl { s.slot c.g c.sl with part := none }) :=
  ⟨_, _, _, by simp [GCtx.writeRec, hflows, hmask, hlo]; rfl⟩

theorem writeRecs_whole {c : GCtx} (hg : c.g < 16) {s : State} (hm : s.noMarch) (hd : c.d.Whole) {i : Nat}
    (hi : c.d.resWord i < 0x7F0000) (w : Word) (q : ChainRes) (last : Bool) (j : Nat) :
    c.writeRecs last (c.d.cutAt j) s [c.made i w q] s = .got ()
      ((s.setSlot c.g c.sl { s.slot c.g c.sl with part := none }).putWord (chamAddr c.g (c.d.resWord i) / 4)
        (c.result w q)) := by
  obtain ⟨hA, _, _, _⟩ := hd.on
  have hcut : c.d.cutAt j = none := by simp [Desc.cutAt, hd.pack]
  have htag : (c.made i w q).tag c.d = if c.d.tcm = 2 then w.tag else c.d.ft.tag := by
    simp [WRec.tag, GCtx.made, hd.pack, hA]
  obtain ⟨et, elem, smp, hwrite⟩ := writeRec_full (r := c.made i w q) hd.flows (by simp [GCtx.made, hd.perWord]) rfl last s
  rw [htag, show (c.made i w q).key = c.d.resWord i from rfl, store_chamber hg (s.setSlot_noMarch _ _ _ hm) hd.spaceR hi] at hwrite
  rw [GCtx.writeRecs, hcut, hwrite]
  rfl

/-! ### The pass -/

/-- The slot as the context of its element. -/
def Slot.ctx (x : Slot) (g sl : Nat) : GCtx := { g := g, sl := sl, lv := x.lvl, d := x.desc }

/-- The chain of the slot. -/
def Slot.env (x : Slot) : ChainEnv := { d := x.desc, ftz := x.ftz, lut := x.lut }

/-- What the slot brings into the group of its next element. -/
def Slot.start (x : Slot) : GroupSt :=
  { next := x.done, recs := x.part.toList, acc := x.acc, red := x.red, flags := x.flags, cache := x.cache }

/-- A pass whose group is gathered and written commits it; no lane is flushed where the result goes to none. -/
theorem groupPass_got {g sl lim : Nat} {s t u : State} {x : Slot} {a : GroupSt} (hx : s.slot g sl = x)
    (hgather : (x.ctx g sl).gather x.env (min lim x.desc.len) x.done 48 x.start s = .got a t)
    (hseq : (t.sequencer g sl).1 = .rom)
    (hwrite : (x.ctx g sl).writeRecs (a.next == x.desc.len) (x.desc.cutAt a.next) t a.recs t = .got () u)
    (hspace : x.desc.space 3 ≠ 3) :
    ∃ upto, groupPass g sl lim s
      = .got () (relayRelease g sl x.desc upto (u.setSlot g sl (commitSlot a x.desc.len (u.slot g sl)))) := by
  subst hx
  simp only [Slot.ctx, Slot.env, Slot.start] at hgather hwrite
  simp [groupPass, hgather, hseq, hwrite, hspace]
  exact ⟨_, rfl⟩

/-- The slot after the commit of an element that takes the word w. -/
def Slot.committed (x : Slot) (g sl : Nat) (w : Word) (q : ChainRes) : Slot :=
  commitSlot ((x.ctx g sl).took x.done w q x.start) x.desc.len { x with part := none }

/-- The state after the commit of the next element, which takes the word w. -/
def State.committed (s : State) (g sl : Nat) (w : Word) (q : ChainRes) : State :=
  let x := s.slot g sl
  ((s.setSlot g sl { x with part := none }).putWord (chamAddr g (x.desc.resWord x.done) / 4)
    ((x.ctx g sl).result w q)).setSlot g sl (x.committed g sl w q)

theorem relayRelease_whole {d : Desc} (hd : d.Whole) (g sl upto : Nat) (s : State) : relayRelease g sl d upto s = s := by
  obtain ⟨_, hB, hC, _⟩ := hd.on
  simp [relayRelease, List.range_succ, hd.spaceA, hB, hC]

theorem sequencer_rom {s : State} {g sl : Nat} (hu : s.unpatched .sequencer = true) (hmv : (s.slot g sl).mv = false) :
    s.sequencer g sl = (.rom, s) := by
  simp [State.sequencer, hmv, runRoutine, hu]

section pass
variable {g sl : Nat} (hg : g < 16) {s : State} (hm : s.noMarch) {x : Slot} (hx : s.slot g sl = x) (hd : x.desc.Whole)
  (hu : s.unpatched .sequencer = true) (hmv : x.mv = false)
  (hpart : x.part = none) (hcache : x.cache = []) (hse : x.seWords = [])
  (hdone : x.done < x.desc.len) (hfrom : x.desc.base 0 + 4 * x.done < 0x800000) (hto : x.desc.resWord x.done < 0x7F0000)
  {w : Word} {q : ChainRes}
  (hw : decodeContainer (s.cont (chamAddr g (x.desc.base 0 + 4 * x.done) / 4)) = .clean w) (htag : w.tag = x.desc.et.tag)
  (hchain : chainElem { d := x.desc, ftz := x.ftz, lut := x.lut } x.done { a := x.desc.taken w } x.acc x.red = .ok q)
  (hactive : q.active = true)
include hg hm hx hd hu hmv hpart hcache hse hdone hfrom hto hw htag hchain hactive

theorem groupPass_whole : groupPass g sl x.desc.len s = .got () (s.committed g sl w q) := by
  subst hx
  have hgather := gather_whole (c := (s.slot g sl).ctx g sl) (v := (s.slot g sl).env) hg hm hd hfrom hw htag
    (a := (s.slot g sl).start) rfl hcache hchain hactive (by simp [Slot.start, hpart])
    (by simp [Slot.seOf, Slot.ctx, hse]) hdone 47
  rw [← Nat.min_self (s.slot g sl).desc.len] at hgather
  have hwrite := writeRecs_whole (c := (s.slot g sl).ctx g sl) hg hm hd hto w q
    ((s.slot g sl).done + 1 == (s.slot g sl).desc.len) ((s.slot g sl).done + 1)
  obtain ⟨upto, hpass⟩ := groupPass_got rfl hgather (congrArg Prod.fst (sequencer_rom hu hmv)) hwrite
    (by simp [hd.spaceR])
  rw [hpass, relayRelease_whole hd, State.slot_of_gals (State.putWord_gals ..), Slot.ctx, State.setSlot_slot_same]
  rfl

end pass

/-! ### The commit -/

theorem find?_unique {α : Type} {p : α → Bool} {l : List α} {x : α} (hmem : x ∈ l) (hx : p x = true)
    (h : ∀ y ∈ l, y ≠ x → p y = false) : l.find? p = some x := by
  induction l with
  | nil => cases hmem
  | cons y l ih =>
    by_cases hy : y = x
    · rw [hy, List.find?_cons_of_pos hx]
    · have hly := h y List.mem_cons_self hy
      rw [List.find?_cons_of_neg (by simp [hly])]
      exact ih ((List.mem_cons.mp hmem).resolve_left (Ne.symm hy)) fun z hz => h z (List.mem_cons_of_mem y hz)

theorem running_eq {s : State} {g sl : Nat} (hq : (s.gal g).quar = false) (hh : s.pf.halted = false) (hsl : sl < 32)
    (hrun : (s.slot g sl).st = .run) (hothers : ∀ i, i < 32 → i ≠ sl → (s.slot g i).st ≠ .run) :
    s.running g = some sl := by
  simp only [State.running, hq, hh, Bool.or_self, Bool.false_eq_true, if_false, State.runSlot]
  refine find?_unique (List.mem_range.mpr hsl) (by simp [hrun]) fun i hi hne => ?_
  simpa using hothers i (List.mem_range.mp hi) hne

theorem elementCommit_got {g sl : Nat} {s t : State} (hrun : s.running g = some sl)
    (hdone : (s.slot g sl).done < (s.slot g sl).desc.len) (hseq : s.sequencer g sl = (.rom, s))
    (hpass : groupPass g sl (s.slot g sl).desc.len s = .got () t) : elementCommit g s = t := by
  simp [elementCommit, hrun, Nat.not_le.mpr hdone, hseq, hpass]

section committed
variable (s : State) (g sl : Nat) (w : Word) (q : ChainRes)

theorem State.committed_slot : (s.committed g sl w q).slot g sl = (s.slot g sl).committed g sl w q :=
  State.setSlot_slot_same ..

theorem State.committed_slotsBut : s.slotsBut (s.committed g sl w q) g sl := fun i hi => by
  rw [State.committed, State.setSlot_slotsBut _ _ _ _ i hi, State.slot_of_gals (State.putWord_gals ..),
    State.setSlot_slotsBut _ _ _ _ i hi]

theorem State.committed_mem : (s.committed g sl w q).mem
    = contPut s.mem (chamAddr g ((s.slot g sl).desc.resWord (s.slot g sl).done) / 4)
        (encodeWord (((s.slot g sl).ctx g sl).result w q)) := by
  rw [State.committed, State.setSlot, State.setGal_mem, State.putWord_eq_setMem, State.setMem_mem, State.setSlot,
    State.setGal_mem]

theorem State.setSlot_setMem_setSlot (x y : Slot) (m : List Host.Cell) :
    ∃ r, ((s.setSlot g sl x).setMem m).setSlot g sl y = { s with gals := r, mem := m } := ⟨_, rfl⟩

theorem State.committed_rest : ∃ r m, s.committed g sl w q = { s with gals := r, mem := m } := by
  rw [State.committed, State.putWord_eq_setMem]
  exact (s.setSlot_setMem_setSlot g sl _ _ _).imp fun _ h => ⟨_, h⟩

theorem State.committed_sameBut :
    s.sameBut (s.committed g sl w q) (chamAddr g ((s.slot g sl).desc.resWord (s.slot g sl).done) / 4) := fun i hi => by
  rw [State.committed_mem]
  exact memByte_memPut_out 8 _ _ _ _ hi

theorem State.committed_cont (hg : g < 16) (hto : (s.slot g sl).desc.resWord (s.slot g sl).done < 0x7F0000) :
    (s.committed g sl w q).cont (chamAddr g ((s.slot g sl).desc.resWord (s.slot g sl).done) / 4)
      = encodeWord (((s.slot g sl).ctx g sl).result w q) := by
  rw [State.cont, if_neg (by rw [chamAddr_notRom hg (by omega)]; decide), State.committed_mem, contAt_contPut_same]

end committed

/-- R231: the next element of a chain of whole chamber words commits. -/
theorem elementCommit_commits (g : Fin 16) (sl : Nat) (w : Word) (q : ChainRes) (s : State)
    (hq : (s.gal g).quar = false) (hh : s.pf.halted = false) (hm : s.noMarch) (hsl : sl < 32)
    (hrun : (s.slot g sl).st = .run) (hothers : ∀ i, i < 32 → i ≠ sl → (s.slot g i).st ≠ .run)
    (hdone : (s.slot g sl).done < (s.slot g sl).desc.len) (hchain : (s.slot g sl).desc.wordChain = true)
    (hpart : (s.slot g sl).part = none) (hcache : (s.slot g sl).cache = []) (hse : (s.slot g sl).seWords = [])
    (hu : s.unpatched .sequencer = true) (hmv : (s.slot g sl).mv = false)
    (hfrom : (s.slot g sl).desc.base 0 + 4 * (s.slot g sl).done < 0x800000)
    (hto : (s.slot g sl).desc.resWord (s.slot g sl).done < 0x7F0000)
    (hw : decodeContainer (s.cont (chamAddr g ((s.slot g sl).desc.base 0 + 4 * (s.slot g sl).done) / 4)) = .clean w)
    (htag : w.tag = (s.slot g sl).desc.et.tag)
    (hres : chainElem (s.slot g sl).env (s.slot g sl).done { a := (s.slot g sl).desc.taken w } (s.slot g sl).acc
      (s.slot g sl).red = .ok q) (hactive : q.active = true) :
    exec (.elementCommit g) s = .next (s.committed g sl w q) := by
  have hpass := groupPass_whole g.isLt hm rfl (Desc.wordChain_whole hchain) hu hmv hpart hcache hse hdone hfrom hto hw htag
    hres hactive
  rw [exec_elementCommit, execElementCommit,
    elementCommit_got (running_eq hq hh hsl hrun hothers) hdone (sequencer_rom hu hmv) hpass]
  rfl

end Sys2Proof.Machine
end
section
/-! A fault of the running slot: its state goes to its save area, R232 to R236. -/

namespace Sys2Proof.Machine

/-! ### The save area -/

theorem saveWords_length (sl : Nat) (x : Slot) (cause : Nat) (se : List Word) (pre : Bool) (sw1 : Word)
    (mt : Option (BitVec 14 × Word × Word)) : (saveWords sl x cause se pre sw1 mt).length = 64 := by
  have := List.length_take_le 6 se
  simp only [saveWords, List.length_append, List.length_cons, List.length_nil, List.length_replicate]
  omega

theorem accWords_length (x : Slot) : (accWords x).length = 256 := by
  simp [accWords, List.length_flatMap]

/-- The memory after the state of slot x has been written out as `ws`. -/
def savedMem (g sl : Nat) (x : Slot) (ws : List Word) (m : List Host.Cell) : List Host.Cell :=
  let m := wordsAt (chamAddr g (saveOff sl) / 4) ws m
  if x.desc.hasMac then wordsAt (chamAddr g (accOff sl) / 4) (accWords x) m else m

section savedMem
variable {g sl : Nat} (hsl : sl < 32) (x : Slot) {ws : List Word} (hws : ws.length = 64) (m : List Host.Cell)
include hsl hws

/-- The save areas of a gallery hold all that is written out. -/
theorem memByte_savedMem_out {i : Nat}
    (h : i < 8 * (chamAddr g (saveOff 0) / 4) ∨ 8 * (chamAddr g 0x7FA000 / 4) ≤ i) :
    memByte (savedMem g sl x ws m) i = memByte m i := by
  have hsave : memByte (wordsAt (chamAddr g (saveOff sl) / 4) ws m) i = memByte m i :=
    memByte_wordsAt_out (by unfold chamAddr saveOff at *; omega) m
  unfold savedMem
  split
  · rw [memByte_wordsAt_out (by rw [accWords_length]; unfold chamAddr saveOff accOff at *; omega), hsave]
  · exact hsave

theorem contAt_savedMem {k : Nat} (hk : k < 64) (y : Word) :
    contAt (savedMem g sl x ws m) (chamAddr g (saveOff sl) / 4 + k) = encodeWord (ws.getD k y) := by
  have hsave := contAt_wordsAt (j := chamAddr g (saveOff sl) / 4) (by omega : k < ws.length) y m
  unfold savedMem
  split
  · rw [contAt_wordsAt_out (by unfold chamAddr saveOff accOff at *; omega), hsave]
  · exact hsave

end savedMem

/-- The definition is unfolded as a function and with the writes as a variable: the kernel would run them to compare the
application with its unfolding. So it is in the lemmas below. -/
theorem saveSlot_got {g sl cause : Nat} {se : List Word} {pre : Bool} {sw1 : Word}
    {mt : Option (BitVec 14 × Word × Word)} {s t u : State}
    (hsave : galWrites g (chamAddr g (saveOff sl)) (saveWords sl (s.slot g sl) cause se pre sw1 mt) s = .got true t)
    (hacc : galWrites g (chamAddr g (accOff sl)) (accWords (s.slot g sl)) t = .got true u) :
    saveSlot g sl cause se pre sw1 mt s = .got () (if (s.slot g sl).desc.hasMac then u else t) := by
  generalize hF : saveSlot = F
  delta saveSlot at hF
  subst hF
  obtain ⟨W, hW⟩ : ∃ W, galWrites = W := ⟨_, rfl⟩
  rw [hW] at hsave hacc ⊢
  simp only [hsave, hacc]
  split
  · rfl
  · rfl

theorem saveSlot_own {g sl : Nat} (hg : g < 16) (hsl : sl < 32) {s : State} (hm : s.noMarch) (cause : Nat)
    (se : List Word) (pre : Bool) (sw1 : Word) (mt : Option (BitVec 14 × Word × Word)) :
    saveSlot g sl cause se pre sw1 mt s = .got () (s.setMem
      (savedMem g sl (s.slot g sl) (saveWords sl (s.slot g sl) cause se pre sw1 mt) s.mem)) := by
  have hsave := galWrites_own hg (off := saveOff sl) (ws := saveWords sl (s.slot g sl) cause se pre sw1 mt)
    (by rw [saveWords_length]; unfold saveOff; omega) hm
  have hacc (m : List Host.Cell) := galWrites_own hg (off := accOff sl) (ws := accWords (s.slot g sl))
    (by rw [accWords_length]; unfold accOff; omega) (State.setMem_noMarch hm m)
  rw [saveSlot_got hsave (hacc _), State.setMem_setMem, State.setMem_mem]
  unfold savedMem
  split
  · rfl
  · rfl

/-! ### The fault -/

/-- The suspended slot, R232 to R236. -/
def Slot.suspended (x : Slot) (f : EFault) (mt : Option (BitVec 14 × Word × Word)) : Slot :=
  { x with
    st := .susp, saved := true, cache := [], seWords := f.se.take 6, mv := mt.isSome, mpc := (mt.map (·.1)).getD 0,
    seHeld := heldWith x.seHeld (f.ses.filter (f.elem < ·.1)),
    fault := { cause := f.cause, elem := f.elem, stream := f.stream, step := f.step, faddr := BitVec.ofNat 48 f.addr } }
theorem suspend_got {g sl : Nat} {f : EFault} {mt : Option (BitVec 14 × Word × Word)} {s t : State}
    (hsave : saveSlot g sl f.cause f.se false ⟨f.tag, BitVec.ofNat 48 f.addr⟩ mt s = .got () t)
    (hcause : ¬ (f.cause = 0x06 ∨ f.cause = 0x07 ∨ f.cause = 0x0A)) :
    suspend g sl f mt s = .got () (raise (100 + g) (t.setSlot g sl ((t.slot g sl).suspended f mt))) := by
  generalize hF : suspend = F
  delta suspend at hF
  subst hF
  obtain ⟨S, hS⟩ : ∃ S, saveSlot = S := ⟨_, rfl⟩
  rw [hS] at hsave ⊢
  simp only [hsave, if_neg hcause]
  rfl

/-- The state after a fault of slot sl. -/
def State.faulted (s : State) (g sl : Nat) (f : EFault) (mt : Option (BitVec 14 × Word × Word)) : State :=
  raise (100 + g) ((s.setMem (savedMem g sl (s.slot g sl)
    (saveWords sl (s.slot g sl) f.cause f.se false ⟨f.tag, BitVec.ofNat 48 f.addr⟩ mt) s.mem)).setSlot g sl
      ((s.slot g sl).suspended f mt))

theorem suspend_own {g sl : Nat} (hg : g < 16) (hsl : sl < 32) {s : State} (hm : s.noMarch) (f : EFault)
    (mt : Option (BitVec 14 × Word × Word)) (hcause : ¬ (f.cause = 0x06 ∨ f.cause = 0x07 ∨ f.cause = 0x0A)) :
    suspend g sl f mt s = .got () (s.faulted g sl f mt) := by
  rw [suspend_got (saveSlot_own hg hsl hm ..) hcause, State.slot_of_gals (State.setMem_gals ..), State.faulted]

/-- Without a fault of a lower element the first pass gives the fault, R232. -/
theorem faultRun_first {g sl : Nat} {f : EFault} {s t : State} (hdone : (s.slot g sl).done < (s.slot g sl).desc.len)
    (hpass : groupPass g sl (s.slot g sl).desc.len s = .bad f t) (helem : f.elem = (s.slot g sl).done) (n : Nat) :
    faultRun g sl (n + 1) (s.slot g sl).desc.len s = .fault f t := by
  simp [faultRun, Nat.not_le.mpr hdone, hpass, helem]

theorem elementFault_fault {g sl : Nat} {f : EFault} {mt : Option (BitVec 14 × Word × Word)} {s t u : State}
    (hrun : s.running g = some sl) (hmt : ∀ m ∈ mt, m.1.toNat < 0x2400) (hseq : s.sequencer g sl = (.rom, s))
    (hfault : faultRun g sl 100 (s.slot g sl).desc.len s = .fault f t) (hsusp : suspend g sl f mt t = .got () u) :
    elementFault g mt s = u := by
  have hhas : (mt.any fun m => !UcUnit.sequencer.has m.1.toNat) = false := by
    cases mt with
    | none => rfl
    | some m =>
      have hm : UcUnit.sequencer.has m.1.toNat = true := decide_eq_true (hmt m rfl)
      simp [hm]
  generalize hF : elementFault = F
  delta elementFault at hF
  subst hF
  beta_reduce
  obtain ⟨S, hS⟩ : ∃ S, suspend = S := ⟨_, rfl⟩
  rw [hS] at hsusp ⊢
  simp [hrun, hhas, hseq, hfault, hsusp]

section faulted
variable (s : State) (g sl : Nat) (f : EFault) (mt : Option (BitVec 14 × Word × Word))

theorem State.faulted_slot : (s.faulted g sl f mt).slot g sl = (s.slot g sl).suspended f mt := by
  rw [State.faulted, State.slot_of_gals (raise_gals ..), State.setSlot_slot_same]

theorem State.faulted_slotsBut : s.slotsBut (s.faulted g sl f mt) g sl := fun i hi => by
  rw [State.faulted, State.slot_of_gals (raise_gals ..), State.setSlot_slotsBut _ _ _ _ i hi,
    State.slot_of_gals (State.setMem_gals ..)]

theorem State.faulted_mem : (s.faulted g sl f mt).mem = savedMem g sl (s.slot g sl)
    (saveWords sl (s.slot g sl) f.cause f.se false ⟨f.tag, BitVec.ofNat 48 f.addr⟩ mt) s.mem := by
  rw [State.faulted, raise_mem, State.setSlot, State.setGal_mem, State.setMem_mem]

theorem State.setMem_setSlot_rest (m : List Host.Cell) (x : Slot) :
    ∃ r, (s.setMem m).setSlot g sl x = { s with gals := r, mem := m } := ⟨_, rfl⟩

theorem State.faulted_rest : ∃ r m k c, s.faulted g sl f mt = { s with gals := r, mem := m, regs := k, cores := c } := by
  obtain ⟨r, h⟩ := s.setMem_setSlot_rest g sl (savedMem g sl (s.slot g sl)
    (saveWords sl (s.slot g sl) f.cause f.se false ⟨f.tag, BitVec.ofNat 48 f.addr⟩ mt) s.mem) ((s.slot g sl).suspended f mt)
  rw [State.faulted, h, raise_frame]
  exact ⟨r, _, _, _, rfl⟩

theorem State.faulted_regsBut : s.regsBut (s.faulted g sl f mt) [R.EVC_PEND ((100 + g) / 32)] := fun k hk => by
  rw [State.faulted, raise_regsBut _ _ k hk, State.setSlot, State.setGal_reg, State.reg_congr (State.setMem_regs ..)]

theorem State.faulted_cont (hg : g < 16) (hsl : sl < 32) {i : Nat} (hi : i < 64) (x : Word) :
    (s.faulted g sl f mt).cont (chamAddr g (saveOff sl) / 4 + i) = encodeWord
      ((saveWords sl (s.slot g sl) f.cause f.se false ⟨f.tag, BitVec.ofNat 48 f.addr⟩ mt).getD i x) := by
  have hword : chamAddr g (saveOff sl) / 4 + i = chamAddr g (saveOff sl + 4 * i) / 4 := by
    unfold chamAddr
    omega
  have hrom := chamAddr_notRom hg (off := saveOff sl + 4 * i) (by unfold saveOff; omega)
  rw [State.cont, if_neg (by rw [hword, hrom]; decide), s.faulted_mem,
    contAt_savedMem hsl _ (saveWords_length ..) _ hi]

end faulted

/-- R232: the running slot takes the fault of its next element. -/
theorem elementFault_faults (g : Fin 16) (sl : Nat) (f : EFault) (mt : Option (BitVec 14 × Word × Word)) (s : State)
    (hrun : s.running g = some sl) (hm : s.noMarch) (hsl : sl < 32) (hdone : (s.slot g sl).done < (s.slot g sl).desc.len)
    (hpass : groupPass g sl (s.slot g sl).desc.len s = .bad f s) (helem : f.elem = (s.slot g sl).done)
    (hu : s.unpatched .sequencer = true) (hmv : (s.slot g sl).mv = false) (hmt : ∀ m ∈ mt, m.1.toNat < 0x2400)
    (hcause : ¬ (f.cause = 0x06 ∨ f.cause = 0x07 ∨ f.cause = 0x0A)) :
    exec (.elementFault g mt) s = .next (s.faulted g sl f mt) := by
  rw [exec_elementFault, execElementFault, elementFault_fault hrun hmt (sequencer_rom hu hmv)
    (faultRun_first hdone hpass helem 99) (suspend_own g.isLt hsl hm f mt hcause)]
  rfl

/-- Settles O39: an element of whole words commits by one pass, and a fault of the first element suspends the slot. -/
theorem elementRules : Obligations.ElementRules := by
  refine ⟨fun g sl w q s hq hh hm hsl hrun hothers hdone hchain hpart hcache hse hu hmv hfrom hto hw htag hres hactive =>
      ⟨s.committed g sl w q, ?_, ?_⟩,
    fun g sl f mt s hq hh hm hsl hrun hothers hdone hpass helem hu hmv hmt h6 h7 hA hside =>
      ⟨s.faulted g sl f mt, ?_, ?_⟩⟩
  · exact elementCommit_commits g sl w q s hq hh hm hsl hrun hothers hdone hchain hpart hcache hse hu hmv (by omega) hto hw
      htag hres hactive
  · obtain ⟨r, m, hrest⟩ := s.committed_rest g sl w q
    have hslot := s.committed_slot g sl w q
    refine ⟨s.committed_cont g sl w q g.isLt hto, s.committed_sameBut g sl w q, ?_, ?_, ?_, ?_, ?_,
      s.committed_slotsBut g sl w q, by rw [hrest]⟩
    · rw [hslot]; rfl
    · rw [hslot]; rfl
    · rw [hslot]; exact hrun
    · rw [hslot]; rfl
    · rw [hslot]; rfl
  · exact elementFault_faults g sl f mt s (running_eq hq hh hsl hrun hothers) hm hsl hdone hpass helem hu hmv hmt
      (by simp [h6, h7, hA])
  · obtain ⟨r, m, k, c, hrest⟩ := s.faulted_rest g sl f mt
    have hslot := s.faulted_slot g sl f mt
    have hlen := saveWords_length sl (s.slot g sl) f.cause f.se false ⟨f.tag, BitVec.ofNat 48 f.addr⟩ mt
    refine ⟨?_, ?_, ?_, ?_, raise_isPending _ _ hside, s.faulted_slotsBut g sl f mt, 
      fun i hi => s.faulted_cont g sl f mt g.isLt hsl hi _, fun i hi => ?_, s.faulted_regsBut g sl f mt,
      by rw [hrest]⟩
    · rw [hslot]; rfl
    · rw [hslot]; rfl
    · rw [hslot]; rfl
    · rw [hslot]; rfl
    · rw [s.faulted_mem, memByte_savedMem_out hsl _ hlen _ hi]

end Sys2Proof.Machine
end

section
/-! What the wrong path can leave (R440): caches, memory, counters and what accesses report, but no register of a core,
no niche memory and no gallery. -/

namespace Sys2Proof.Machine

/-! ### States that differ by wrong-path accesses -/

/-- Core d differs from core c in its caches, its return stack and whether it waits only. -/
def Core.strayed (c d : Core) : Prop := d = { c with l1d := d.l1d, l1i := d.l1i, ras := d.ras, waiting := d.waiting }

theorem Core.strayed.refl (c : Core) : c.strayed c := rfl

theorem Core.strayed.trans {c d e : Core} (h : c.strayed d) (h' : d.strayed e) : c.strayed e :=
  Eq.trans h' (congrArg (fun x : Core => { x with l1d := e.l1d, l1i := e.l1i, ras := e.ras, waiting := e.waiting }) h)

/-- State t differs from s in no niche memory, no gallery, and only so in its cores. -/
structure State.strayed (s t : State) : Prop where
  niche : t.niche = s.niche
  gals : t.gals = s.gals
  cores : ∀ m, (s.core m).strayed (t.core m)

theorem State.strayed.refl (s : State) : s.strayed s := ⟨rfl, rfl, fun m => Core.strayed.refl (s.core m)⟩

theorem State.strayed.trans {s t u : State} (h : s.strayed t) (h' : t.strayed u) : s.strayed u :=
  ⟨h'.niche.trans h.niche, h'.gals.trans h.gals, fun m => (h.cores m).trans (h'.cores m)⟩

theorem State.strayed_of_same {s t : State} (hniche : t.niche = s.niche) (hgals : t.gals = s.gals)
    (hcores : t.cores = s.cores) : s.strayed t := by
  refine ⟨hniche, hgals, fun m => ?_⟩
  rw [State.core_congr hcores]
  exact Core.strayed.refl (s.core m)

theorem State.setCore_strayed {s : State} {n : Nat} {c : Core} (h : (s.core n).strayed c) : s.strayed (s.setCore n
    c) := by
  refine ⟨rfl, rfl, fun m => ?_⟩
  rw [State.setCore_core]
  split
  · next hm => exact hm ▸ h
  · exact Core.strayed.refl (s.core m)

/-! ### Counting and reporting -/

section report
variable (s : State)

theorem setReg_strayed (o : Nat) (v : BitVec 48) : s.strayed (s.setReg o v) := State.strayed_of_same rfl rfl rfl

theorem setFld_strayed (o : Nat) (f : Fld) (v : Nat) : s.strayed (s.setFld o f v) := setReg_strayed ..

theorem bump_strayed (o : Nat) (f : Fld) (k : Nat) : s.strayed (s.bump o f k) := setFld_strayed ..

theorem freeNat_strayed : s.strayed s.freeNat.2 := State.strayed_of_same rfl rfl rfl

theorem raiseAtHub_strayed (n : Nat) : s.strayed (raiseAtHub n s) := by
  obtain ⟨t, ht, h | ⟨c, h⟩⟩ := raiseAtHub_cases s n
  · rw [h, ht]
    exact setReg_strayed ..
  · rw [h]
    have hset : s.strayed t := ht ▸ setReg_strayed ..
    exact hset.trans (State.setCore_strayed rfl)

theorem raiseOn_strayed (die n : Nat) : s.strayed (raiseOn die n s) := by
  unfold raiseOn
  split
  · exact State.strayed.refl s
  · exact raiseAtHub_strayed s n

theorem logCairn_strayed (src : Src) (code : Nat) (fs : List DF) : s.strayed (logCairn src code fs s) :=
  State.strayed_of_same (logCairn_niche ..) (logCairn_gals ..) (logCairn_cores ..)

theorem report_strayed (die n : Nat) (src : Src) (code : Nat) (fs : List DF) :
    s.strayed (logCairn src code fs (raiseOn die n s)) := (raiseOn_strayed s die n).trans (logCairn_strayed _ ..)

theorem countCorrection_strayed (u cnt last thrReg : Nat) (cntF lastF thrF : Fld) (thr lastV ev : Nat) (d : DF) :
    s.strayed (countCorrection u cnt last thrReg cntF lastF thrF thr lastV ev d s) := by
  have hcount := (bump_strayed s cnt cntF 1).trans (setFld_strayed _ last lastF lastV)
  unfold countCorrection
  extract_lets v w x
  split
  · have hthr : w.strayed x := State.strayed_of_same rfl rfl rfl
    exact ((hcount.trans (setFld_strayed v ..)).trans hthr).trans (report_strayed x (eventDie ev) ev ..)
  · exact hcount

theorem noteCorrected_strayed (w : Nat) : s.strayed (noteCorrected w s) := by
  unfold noteCorrected
  split
  · exact countCorrection_strayed ..
  · exact countCorrection_strayed ..
  · exact State.strayed.refl s

theorem noteUncorrectable_strayed (m w : Nat) : s.strayed (noteUncorrectable m w s) := by
  have hcount : s.strayed (countUncorrectable w s) := by
    unfold countUncorrectable
    split
    · exact (bump_strayed ..).trans (setFld_strayed ..)
    · exact (bump_strayed ..).trans (setFld_strayed ..)
    · exact State.strayed.refl s
  exact hcount.trans (report_strayed ..)

theorem defaultAccess_strayed (m a : Nat) (wr : Bool) (t : Option Target) : s.strayed (defaultAccess m a wr t s) := by
  unfold defaultAccess
  extract_lets np u v w
  have hset : s.strayed w := ((setFld_strayed s ..).trans (setReg_strayed u ..)).trans (bump_strayed v ..)
  exact hset.trans (report_strayed w (eventDie 165) ..)

end report

/-! ### Memory accesses -/

section access
variable (s : State)

theorem granted_strayed (t m : Nat) : s.strayed (s.granted t m) := State.strayed_of_same rfl rfl rfl

theorem setMarch_strayed (k : Nat) (x : March) : s.strayed (s.setMarch k x) :=
  State.strayed_of_same (State.setMarch_niche ..) (State.setMarch_gals ..) (State.setMarch_cores ..)

theorem refuseLocked_strayed (k m a : Nat) : s.strayed (refuseLocked k m a s) := by
  unfold refuseLocked
  extract_lets c v
  have hset : s.strayed v := setFld_strayed ..
  split
  · exact hset
  · exact (hset.trans (setMarch_strayed ..)).trans (logCairn_strayed _ ..)

theorem readWordAt_strayed (m w : Nat) : s.strayed (readWordAt m w s).2 := by
  unfold readWordAt
  split
  · exact State.strayed.refl s
  · exact noteCorrected_strayed ..
  · exact noteUncorrectable_strayed ..

theorem storageOp_rd_strayed (m a : Nat) : s.strayed (storageOp m a .rd s).2 := readWordAt_strayed s m (a / 4)

theorem storageOp_wr_strayed (m a : Nat) (x : Word) : s.strayed (storageOp m a (.wr x) s).2 := by
  rw [storageOp_wr]
  exact State.strayed_of_same (State.putWord_niche ..) (State.putWord_gals ..) (State.putWord_cores ..)

/-- A cache write-back, to whatever target. -/
theorem storageAccess_wr_strayed (m a : Nat) (x : Word) : s.strayed (storageAccess true m a (.wr x) s).2 := by
  unfold storageAccess
  dsimp only
  split
  · exact State.strayed.refl s
  · split
    · split
      · exact State.strayed.refl s
      · split
        · exact State.strayed.refl s
        · exact storageOp_wr_strayed s m a x
    · split
      · exact State.strayed.refl s
      · exact storageOp_wr_strayed s m a x
    · exact storageOp_wr_strayed s m a x

theorem writeBack_strayed (m a : Nat) (x : Word) : s.strayed (writeBack m a x s).2 := by
  have haccess := storageAccess_wr_strayed s m a x
  unfold writeBack
  generalize storageAccess true m a (.wr x) s = r at haccess ⊢
  obtain ⟨o, t⟩ := r
  dsimp only
  split
  · exact State.strayed.refl s
  · split
    · exact defaultAccess_strayed ..
    · split
      · exact State.strayed.refl s
      · cases o with
        | wait => exact haccess
        | done r => exact haccess.trans (granted_strayed ..)

/-- A read of a stack. -/
theorem storageAccess_rd_strayed (m : Nat) {a st : Nat} (ht : targetOf a = .hbm st) :
    s.strayed (storageAccess false m a .rd s).2 := by
  unfold storageAccess
  dsimp only
  split
  · exact refuseLocked_strayed ..
  · rw [ht]
    dsimp only
    split
    · exact State.strayed.refl s
    · split
      · exact State.strayed.refl s
      · exact storageOp_rd_strayed s m a

theorem busPerform_rd_strayed (m : Nat) (lv : Level) {a : Nat} (ha : cacheable a = true) (se ep : Bool) :
    s.strayed (busPerform regAccess m lv a .rd s se ep).2 := by
  unfold busPerform
  dsimp only
  split
  · exact defaultAccess_strayed ..
  · split
    · exact defaultAccess_strayed ..
    · split
      · exact State.strayed.refl s
      · split
        · exact State.strayed.refl s
        · unfold cacheable at ha
          split at ha
          · next ht =>
            rw [ht]
            exact storageAccess_rd_strayed s m ht
          · next ht =>
            rw [ht]
            exact storageOp_rd_strayed s m a
          · cases ha

theorem bus_rd_strayed (m : Nat) (lv : Level) {a : Nat} (ha : cacheable a = true) :
    s.strayed (bus m lv a .rd s).2 := by
  have hperform := busPerform_rd_strayed s m lv ha false false
  unfold bus busAccess
  generalize busPerform regAccess m lv a .rd s false false = r at hperform ⊢
  obtain ⟨o, t⟩ := r
  split
  · exact State.strayed.refl s
  · cases o with
    | wait => exact hperform
    | done r =>
      dsimp only
      split
      · exact hperform
      · exact hperform.trans (granted_strayed ..)

end access

/-! ### Cache lines -/

/-- The state in which several accesses end, whether one of them waits or not. -/
def Got.out {α : Type} : Got α → State
  | .wait s => s
  | .got _ s => s

theorem ite_cases {α : Type} {P : α → Prop} {c : Prop} [Decidable c] {x y : α} (hx : c → P x) (hy : ¬ c → P y) :
    P (if c then x else y) := by
  split
  · next h => exact hx h
  · next h => exact hy h

/-- The stacks and the boot ROM are the targets that R293 caches. -/
def Target.held : Target → Bool
  | .hbm _ => true
  | .rom => true
  | _ => false

theorem cacheable_eq_held (a : Nat) : cacheable a = (targetOf a).held := by
  unfold cacheable
  cases targetOf a <;> rfl

theorem targetOf_held {a : Nat} :
    (targetOf a).held = true → a < 0x012_0000_0000 ∨ (0x302_0000_0000 ≤ a ∧ a < 0x302_0010_0000) := by
  let P (t : Target) : Prop := t.held = true → a < 0x012_0000_0000 ∨ (0x302_0000_0000 ≤ a ∧ a < 0x302_0010_0000)
  have hno {t : Target} (ht : t.held = false) : P t := fun h => absurd (ht.symm.trans h) Bool.false_ne_true
  change P (targetOf a)
  unfold targetOf
  refine ite_cases (fun h _ => .inl h) fun _ => ?_
  iterate 3 refine ite_cases (fun _ => hno rfl) fun _ => ?_
  refine ite_cases (fun _ => ?_) fun _ => ?_
  · iterate 4 refine ite_cases (fun _ => hno rfl) fun _ => ?_
    exact hno rfl
  · iterate 2 refine ite_cases (fun _ => hno rfl) fun _ => ?_
    refine ite_cases (fun _ => hno rfl) fun hlo => ?_
    refine ite_cases (fun hhi _ => .inr ⟨Nat.not_lt.mp hlo, hhi⟩) fun _ => ?_
    iterate 5 refine ite_cases (fun _ => hno rfl) fun _ => ?_
    exact hno rfl

theorem targetOf_held_of {a : Nat} (h : a < 0x012_0000_0000 ∨ (0x302_0000_0000 ≤ a ∧ a < 0x302_0010_0000)) :
    (targetOf a).held = true := by
  unfold targetOf
  rcases h with h | ⟨hlo, hhi⟩
  · rw [if_pos h]
    rfl
  · iterate 8 rw [if_neg (by omega)]
    rw [if_pos hhi]
    rfl
/-- The words of a line lie at the line's target. -/
theorem cacheable_line {a i : Nat} (ha : cacheable a = true) (hi : i < 8) : cacheable (32 * lineOf a + 4 * i) = true
    := by
  rw [cacheable_eq_held] at ha ⊢
  have hrange := targetOf_held ha
  unfold lineOf
  exact targetOf_held_of (by omega)

section lines
variable (s : State) (n : Nat)

theorem putL2_strayed (a : Nat) (l : Option Line) : s.strayed (putL2 n a l s) :=
  State.strayed_of_same (State.setCluster_niche ..) (State.setCluster_gals ..) (State.setCluster_cores ..)

theorem putL1_strayed (a : Nat) (l : Option Line) : s.strayed (putL1 n a l s) := State.setCore_strayed rfl

theorem putL1i_strayed (a : Nat) (l : Option Line) : s.strayed (putL1i n a l s) := State.setCore_strayed rfl

theorem pickVictim_strayed (c : Nat) (t : Tab (Option Line)) : s.strayed (pickVictim c t s).2 :=
  State.strayed_of_same rfl rfl rfl

theorem dropL1s_strayed (a : Nat) : s.strayed (dropL1s n a none s) := by
  unfold dropL1s
  generalize List.range 4 = is
  induction is generalizing s with
  | nil => exact State.strayed.refl s
  | cons i is ih => exact (putL1_strayed s _ a none).trans (ih _)

theorem writeDirty_strayed (g : Nat) (l : Line) (is : List Nat) : s.strayed (writeDirty n g l is s).out := by
  induction is generalizing s with
  | nil => exact State.strayed.refl s
  | cons i is ih =>
    have hwrite := writeBack_strayed s n (32 * g + 4 * i) (l.word i)
    unfold writeDirty
    split
    · generalize writeBack n (32 * g + 4 * i) (l.word i) s = r at hwrite ⊢
      obtain ⟨o, t⟩ := r
      cases o with
      | wait => exact hwrite
      | done r => exact hwrite.trans (ih t)
    · exact ih s

theorem cleanLine_strayed (a : Nat) : s.strayed (cleanLine n a s).out := by
  unfold cleanLine
  split
  · exact State.strayed.refl s
  · next l _ =>
    have hwrite := writeDirty_strayed s n (lineOf a) l (List.range 8)
    generalize writeDirty n (lineOf a) l (List.range 8) s = r at hwrite ⊢
    cases r with
    | wait t => exact hwrite
    | got _ t => exact hwrite.trans (putL2_strayed ..)

theorem flushLine_strayed (a : Nat) : s.strayed (flushLine n a s).out := by
  have hclean := cleanLine_strayed s n a
  unfold flushLine
  generalize cleanLine n a s = r at hclean ⊢
  cases r with
  | wait t => exact hclean
  | got _ t => exact (hclean.trans (dropL1s_strayed t n a)).trans (putL2_strayed ..)

theorem makeRoom_strayed : s.strayed (makeRoom n s).out := by
  have hpick := pickVictim_strayed s (32 + clusterOf n) (s.cluster (clusterOf n)).l2
  unfold makeRoom
  generalize pickVictim (32 + clusterOf n) (s.cluster (clusterOf n)).l2 s = r at hpick ⊢
  obtain ⟨v, t⟩ := r
  cases v with
  | none => exact hpick
  | some g => exact hpick.trans (flushLine_strayed t n (32 * g))

theorem readLine_strayed (lv : Level) {g : Nat} {is : List Nat} (h : ∀ i ∈ is, cacheable (32 * g + 4 * i) = true) :
    s.strayed (readLine n lv g is s).out := by
  induction is generalizing s with
  | nil => exact State.strayed.refl s
  | cons i is ih =>
    obtain ⟨hi, his⟩ := List.forall_mem_cons.mp h
    have hread := bus_rd_strayed s n lv hi
    unfold readLine
    generalize bus n lv (32 * g + 4 * i) .rd s = r at hread ⊢
    obtain ⟨o, t⟩ := r
    cases o with
    | wait => exact hread
    | done r =>
      have hrest := ih t his
      dsimp only
      generalize readLine n lv g is t = q at hrest ⊢
      cases q with
      | wait u => exact hread.trans hrest
      | got _ u => exact hread.trans hrest

theorem fetchL2_strayed (lv : Level) {a : Nat} (ha : cacheable a = true) : s.strayed (fetchL2 n lv a s).out := by
  have hroom := makeRoom_strayed s n
  unfold fetchL2
  split
  · exact State.strayed.refl s
  · split
    · exact State.strayed.refl s
    · generalize makeRoom n s = r at hroom ⊢
      cases r with
      | wait t => exact hroom
      | got _ t =>
        have hread := readLine_strayed t n lv (g := lineOf a) (is := List.range 8) fun i hi =>
          cacheable_line ha (List.mem_range.mp hi)
        dsimp only
        generalize readLine n lv (lineOf a) (List.range 8) t = q at hread ⊢
        cases q with
        | wait u => exact hroom.trans hread
        | got rs u =>
          dsimp only
          split
          · exact (hroom.trans hread).trans (putL2_strayed ..)
          · exact hroom.trans hread

theorem fillL1_strayed {a : Nat} (ha : cacheable a = true) : s.strayed (fillL1 n a s).out := by
  have hfetch := fetchL2_strayed s n (s.core n).pl ha
  unfold fillL1
  generalize fetchL2 n (s.core n).pl a s = r at hfetch ⊢
  cases r with
  | wait t => exact hfetch
  | got r t =>
    obtain ⟨r, l⟩ := r
    cases l with
    | none => exact hfetch
    | some l =>
      have hpick := pickVictim_strayed t n (t.core n).l1d
      dsimp only
      generalize pickVictim n (t.core n).l1d t = v at hpick ⊢
      obtain ⟨v, u⟩ := v
      cases v with
      | none => exact (hfetch.trans hpick).trans (putL1_strayed ..)
      | some g => exact ((hfetch.trans hpick).trans (putL1_strayed ..)).trans (putL1_strayed ..)

theorem fillL1i_strayed {a : Nat} (ha : cacheable a = true) : s.strayed (fillL1i n a s).out := by
  have hfetch := fetchL2_strayed s n (s.core n).pl ha
  unfold fillL1i
  generalize fetchL2 n (s.core n).pl a s = r at hfetch ⊢
  cases r with
  | wait t => exact hfetch
  | got r t =>
    obtain ⟨r, l⟩ := r
    cases l with
    | none => exact hfetch
    | some l =>
      have hpick := pickVictim_strayed t (16 + n) (t.core n).l1i
      dsimp only
      split
      · exact hfetch
      · generalize pickVictim (16 + n) (t.core n).l1i t = v at hpick ⊢
        obtain ⟨v, u⟩ := v
        cases v with
        | none => exact (hfetch.trans hpick).trans (putL1i_strayed ..)
        | some g => exact ((hfetch.trans hpick).trans (putL1i_strayed ..)).trans (putL1i_strayed ..)

end lines

/-! ### The wrong path -/

section wrong
variable (s : State) (n : Nat)

/-- A path that the caches serve leads to a target that they hold. -/
theorem pathOf_cached {a cp : Nat} {se : Bool} (h : (pathOf n a cp se s).cached = true) : cacheable a = true := by
  simp only [pathOf, Bool.and_eq_true] at h
  obtain ⟨⟨⟨hcache, _⟩, _⟩, _⟩ := h
  exact hcache

theorem plainPath_cached {a : Nat} (h : (s.plainPath n a).cached = true) : cacheable (s.plainPath n a).a = true := by
  unfold State.plainPath at h ⊢
  dsimp only at h ⊢
  split at h
  · next hc => rwa [if_pos hc]
  · split at h
    · exact absurd (pathOf_cached s n h) (by assumption)
    · exact absurd (pathOf_cached s n h) (by assumption)

theorem untranslated_ok {k : AccKind} {a : Nat} {p : Path} {t : State} (h : untranslated n k a s = .ok p t) :
    p = s.plainPath n a := by
  unfold untranslated at h
  dsimp only at h
  iterate 4
    split at h
    · cases h
  split at h
  · cases h
  · injection h with hp
    exact hp.symm

theorem pathNow_cached {k : AccKind} {va : Nat} {p : Path} (h : s.pathNow n k va = some p) (hp : p.cached = true) :
    cacheable p.a = true := by
  unfold State.pathNow at h
  dsimp only at h
  split at h
  · split at h
    · cases h
    · split at h
      · obtain rfl := Option.some.inj h
        exact pathOf_cached s n hp
      · cases h
  · split at h
    · next hplain =>
      obtain rfl := Option.some.inj h
      rw [untranslated_ok s n hplain] at hp ⊢
      exact plainPath_cached s n hp
    · cases h

theorem wrongFill_strayed (code : Bool) (va : Nat) : s.strayed (wrongFill n code va s) := by
  unfold wrongFill
  extract_lets k
  split
  · exact State.strayed.refl s
  · next p hp =>
    obtain ⟨_, hpath⟩ := Option.ite_none_right_eq_some.mp hp
    extract_lets hit
    by_cases hstay : (!p.cached || hit || !(code || (s.core n).te)) = true
    · rw [if_pos hstay]
      exact State.strayed.refl s
    · rw [if_neg hstay]
      have hcached : p.cached = true := by
        cases hc : p.cached with
        | true => rfl
        | false => exact absurd (by rw [hc]; rfl) hstay
      have hheld := pathNow_cached s n hpath hcached
      have hfill : s.strayed (if code then fillL1i n p.a s else fillL1 n p.a s).out := by
        cases code with
        | true => exact fillL1i_strayed s n hheld
        | false => exact fillL1_strayed s n hheld
      generalize (if code then fillL1i n p.a s else fillL1 n p.a s) = r at hfill ⊢
      cases r with
      | wait t => exact State.strayed.refl s
      | got _ t => exact hfill

theorem wrongFills_strayed (code : Bool) (k : Nat) : s.strayed (wrongFills n code k s) := by
  induction k generalizing s with
  | zero => exact State.strayed.refl s
  | succ k ih => exact ((freeNat_strayed s).trans (wrongFill_strayed ..)).trans (ih _)

theorem scramble_strayed (l : List Payload) : s.strayed (scramble l s).2 := by
  induction l generalizing s with
  | nil => exact State.strayed.refl s
  | cons a l ih => exact (freeNat_strayed s).trans (ih _)

theorem wrongPath_strayed : s.strayed (wrongPath n s) := by
  unfold wrongPath
  split
  · exact State.strayed.refl s
  · extract_lets f u a v b w
    have hwrong : s.strayed w :=
      ((((freeNat_strayed s).trans (bump_strayed f.2 ..)).trans (freeNat_strayed u)).trans
        ((wrongFills_strayed ..).trans (freeNat_strayed v))).trans (wrongFills_strayed ..)
    split
    · exact hwrong
    · exact (hwrong.trans (scramble_strayed ..)).trans (State.setCore_strayed rfl)

/-- In deterministic mode nothing is issued on a wrong path, R441. -/
theorem wrongPath_det (h : (s.core n).det = true) : wrongPath n s = s := if_pos h

end wrong

end Sys2Proof.Machine
end

section
/-! The entry of a trap of a core whose frame lies in its niche memory (R467 to R470). -/

namespace Sys2Proof.Machine

/-! ### The quiet core -/

section quiet
variable {c : Core} (h : c.idle)
include h

/-- An advancing cycle changes no register of an idle core. -/
theorem Core.idle.endCycle : c.endCycle.idle ∧ c.sameRegs c.endCycle := by
  have hend : c.endCycle = { (c.addFlags {}) with
      inflight := [], branches := [], slot0 := none, divLeft := c.divLeft - 1 } := by
    simp only [Core.endCycle, h.inflight, h.branches, resolveDue, landDue]
    rfl
  rw [hend, h.divLeft]
  exact ⟨⟨h.delay, rfl, rfl, h.statPend, rfl, h.atBoundary, h.ucHeld, h.resume, rfl⟩, c.addFlags_none⟩

theorem Core.idle.cycles (k : Nat) : (c.cycles k).idle ∧ c.sameRegs (c.cycles k) := by
  induction k generalizing c with
  | zero => exact ⟨h, Core.sameRegs.refl c⟩
  | succ k ih =>
    obtain ⟨hidle, hsame⟩ := h.endCycle
    obtain ⟨hidle', hsame'⟩ := ih hidle
    exact ⟨hidle', hsame.trans hsame'⟩

theorem Core.idle.flush : c.flushStat.atBound = { c with statPend := [], atBoundary := [], ucHeld := [] } := by
  simp only [Core.flushStat, h.statPend, Core.atBound, h.atBoundary, List.foldl_nil]

/-- The core before an entry has the registers of the idle core. -/
theorem Core.idle.quiet : c.sameRegs c.quiet := by
  have hland : c.landAll = c := by
    rw [Core.landAll, Core.busy, h.inflight]
    rfl
  obtain ⟨hidle, hsame⟩ := h.cycles 12
  unfold Core.quiet
  rw [hland]
  generalize c.cycles 12 = x at hidle hsame
  rw [hidle.flush]
  exact hsame

end quiet

/-! ### The frame -/

section frame
variable {c d : Core} (h : c.sameRegs d)
include h

theorem Core.sameRegs.srN {j : Nat} (hj : j ≠ 19) : d.srN j = c.srN j := by
  obtain ⟨_, _, _, hsr, _⟩ := h
  exact congrArg (fun w : Word => w.pay.toNat) (hsr j hj)

theorem Core.sameRegs.stat : d.stat = c.stat := h.srN (by decide)

theorem Core.sameRegs.depth : d.depth = c.depth := by
  unfold Core.depth
  rw [h.srN (by decide)]

theorem frameWords_sameRegs (k : Trap) : frameWords d k = frameWords c k := by
  have hdepth := h.depth
  have hstat := h.stat
  obtain ⟨hw, _, _, hsr, _⟩ := h
  have hsrW (j : Nat) : d.srW (32 + j) = c.srW (32 + j) := hsr _ (by omega)
  simp only [frameWords, hdepth, hstat, hw, hsrW]

end frame

theorem frameWords_length (c : Core) (k : Trap) : (frameWords c k).length = 12 := by simp [frameWords]

theorem map_getD_range {α : Type} (l : List α) (x : α) : (List.range' 0 l.length).map (l.getD · x) = l := by
  refine List.ext_getElem (by simp) fun i _ hi => ?_
  simp [hi]

theorem frameStore_niche {n a : Nat} (ha : a % 4 = 0) (hn : inNiche a = true) (w : Word) (v : State) :
    frameStore n a w v = .got true (nichePut n a w v) := by
  have hcache := cacheable_niche hn
  have htop : a < 4398046511104 ∧ a % 4 = 0 := by
    obtain ⟨_, hhi⟩ := (inNiche_iff a).mp hn
    omega
  simp [frameStore, htop, State.plainPath, hcache, hn, pathOf, storeNow]

/-- Words pushed within the niche range are stored in it one by one. -/
theorem pushFrame_niche {n f : Nat} (hf : f % 4 = 0) (hlo : 0x303_0000_0000 ≤ f) (w : Nat → Word) {i k : Nat}
    (hhi : f + 4 * (i + k) ≤ 0x303_0004_0000) (v : State) :
    pushFrame n (f + 4 * i) ((List.range' i k).map w) v
      = .got none (v.setNiche (nicheStores n (fun j => f + 4 * j) w (List.range' i k) v.niche)) := by
  induction k generalizing i v with
  | zero => rfl
  | succ k ih =>
    have hnext : (f + 4 * i + 4) % 2 ^ 48 = f + 4 * (i + 1) := by omega
    rw [List.range'_succ, List.map_cons, pushFrame, frameStore_niche (by omega) ((inNiche_iff _).mpr (by omega))]
    dsimp only
    rw [hnext, ih (by omega), nicheStores_cons, nichePut_niche, nichePut_setNiche]

theorem nicheIx_frame {n f : Nat} (hf : f % 4 = 0) :
    ∀ i ∈ List.range' 0 12, ∀ j ∈ List.range' 0 12, nicheIx n (f + 4 * i) = nicheIx n (f + 4 * j) → i = j := by
  intro i hi j hj heq
  rw [List.mem_range'_1] at hi hj
  unfold nicheIx at heq
  omega

/-! ### The registers at entry -/

section entered
variable {c : Core} (f : Nat) {t : Trap} (hev : t.ev = none) (hmicro : t.micro = none)

theorem entered_rest (c : Core) (t : Trap) : (entered f t c).delay = c.delay ∧ (entered f t c).waiting = c.waiting
    ∧ (entered f t c).v = c.v ∧ (entered f t c).b = c.b
    ∧ (entered f t c).w = (c.putW (31 + lvlCode t.lvl) (Word.addr (BitVec.ofNat 48 f))).w
    ∧ (entered f t c).pc = BitVec.ofNat 48 ((entered f t c).srN 5 + 8 * t.hidx) := by
  obtain ⟨w, hput⟩ := c.putW_rest (31 + lvlCode t.lvl) (Word.addr (BitVec.ofNat 48 f))
  unfold entered emAtEntry
  rw [hput]
  split
  · exact ⟨rfl, rfl, rfl, rfl, rfl, rfl⟩
  · exact ⟨rfl, rfl, rfl, rfl, rfl, rfl⟩

include hmicro

theorem entered_srW (j : Nat) : (entered f t c).srW j = if j = 21 then ⟨(srReset 21).tag, BitVec.ofNat 48 0⟩
    else if j = 0 then ⟨(srReset 0).tag, BitVec.ofNat 48 (statAtEntry c t)⟩
    else if j = 4 then ⟨(srReset 4).tag, BitVec.ofNat 48 t.eval⟩
    else if j = 3 then ⟨(srReset 3).tag, BitVec.ofNat 48 (t.hidx + t.sub % 2 ^ 16 * 2 ^ 11)⟩
    else if j = 2 then ⟨(srReset 2).tag, BitVec.ofNat 48 (estatOf c t)⟩
    else if j = 1 then ⟨(srReset 1).tag, BitVec.ofNat 48 t.ra.toNat⟩
    else if j = 16 then ⟨(srReset 16).tag, BitVec.ofNat 48 (setBits (c.srN 16) 13 1 0)⟩
    else c.srW j := by
  obtain ⟨w, hput⟩ := c.putW_rest (31 + lvlCode t.lvl) (Word.addr (BitVec.ofNat 48 f))
  simp only [entered, emAtEntry, hmicro, hput, Core.setSr, Core.putSr, Core.srW, Core.srN, tget_tset]

end entered

/-! ### The entry -/

theorem Core.strayed.idle {c d : Core} (h : c.strayed d) (hc : c.idle) : d.idle := by
  rw [h]
  exact ⟨hc.delay, hc.slot0, hc.inflight, hc.statPend, hc.branches, hc.atBoundary, hc.ucHeld, hc.resume, hc.divLeft⟩

theorem Core.strayed.sameRegs {c d : Core} (h : c.strayed d) : c.sameRegs d := by
  rw [h]
  exact Core.sameRegs.refl c

/-- A trap that logs nothing. -/
theorem logTrap_none {k : Trap} (h : k.hidx ∉ [0x0D, 0x12, 0x20, 0x21, 0x22]) (n : Nat) (s : State) : logTrap n k s
    = s := by
  simp only [List.mem_cons, List.not_mem_nil, or_false, not_or] at h
  obtain ⟨hD, h12, h20, h21, h22⟩ := h
  unfold logTrap
  split
  · next e => exact absurd e h20
  · next e => exact absurd e h21
  · next e => exact absurd e h22
  · next e => exact absurd e h12
  · next e => exact absurd e hD
  · rfl

section entry
variable {v : State} {n : Nat} {k : Trap} (hev : k.ev = none)

/-- The core that the entry of a trap finds. -/
def State.stilled (v : State) (n : Nat) : Core := ((wrongPath n v).core n).quiet

/-- The niche memories after the frame of a trap has been stored. -/
def State.frameIn (v : State) (n : Nat) (k : Trap) : List Host.Cell :=
  nicheStores n (fun j => v.frameAt n k.lvl + 4 * j) (fun j => (frameWords (v.core n) k).getD j Word.uni0)
    (List.range' 0 12) v.niche

/-- The state after the entry. -/
def State.entry (v : State) (n : Nat) (k : Trap) : State :=
  (((wrongPath n v).setCore n (v.stilled n)).setNiche (v.frameIn n k)).setCore n
    (entered (v.frameAt n k.lvl) k (v.stilled n))

theorem State.stilled_sameRegs (hidle : (v.core n).idle) : (v.core n).sameRegs (v.stilled n) := by
  have hstray := (wrongPath_strayed v n).cores n
  exact hstray.sameRegs.trans (hstray.idle hidle).quiet

include hev

/-- A quiet core whose frame finds room enters at once. -/
theorem enterOnce_framed {c : Core} (hsame : (v.core n).sameRegs c) (hframed : v.framed n k.lvl) {u : State}
    (hu : u.core n = c) (hniche : u.niche = v.niche) : enterOnce n k u
      = .got none ((u.setNiche (v.frameIn n k)).setCore n (entered (v.frameAt n k.lvl) k c)) := by
  obtain ⟨htag, hal, hlo, hhi⟩ := hframed
  have hw : c.wAt (31 + lvlCode k.lvl) = (v.core n).wAt (31 + lvlCode k.lvl) := by
    obtain ⟨hw, _⟩ := hsame
    exact hw _
  have hpush := pushFrame_niche (n := n) hal hlo (fun j => (frameWords (v.core n) k).getD j Word.uni0) (i := 0) (k
      := 12)
    (by omega) u
  have hwords := map_getD_range (frameWords (v.core n) k) Word.uni0
  rw [frameWords_length] at hwords
  rw [hwords, hniche, Nat.mul_zero, Nat.add_zero] at hpush
  have haddr : ¬ (((v.core n).wAt (31 + lvlCode k.lvl)).tag ≠ Tags.addr
      ∧ ((v.core n).wAt (31 + lvlCode k.lvl)).tag ≠ Tags.raw) := by
    simpa [addrTags, or_iff_not_imp_left] using htag
  have hcore : (u.setNiche (v.frameIn n k)).core n = c := (State.core_congr (State.setNiche_cores ..) n).trans hu
  generalize hF : enterOnce = F
  delta enterOnce at hF
  subst hF
  obtain ⟨P, hP⟩ : ∃ P, pushFrame = P := ⟨_, rfl⟩
  rw [hP] at hpush ⊢
  simp only [hu, hw, if_neg haddr, frameWords_sameRegs hsame k]
  rw [← State.frameAt, hpush, hev]
  dsimp only
  rw [← State.frameIn, hcore]

theorem enterTrap_framed (hidle : (v.core n).idle) (hlog : k.hidx ∉ [0x0D, 0x12, 0x20, 0x21, 0x22])
    (hframed : v.framed n k.lvl) : enterTrap n k v = .got () (v.entry n k) := by
  have hstray := wrongPath_strayed v n
  have honce := enterOnce_framed hev (v.stilled_sameRegs hidle) hframed
    (u := (wrongPath n v).setCore n (v.stilled n)) (by rw [State.setCore_core, if_pos rfl])
    ((State.setCore_niche ..).trans hstray.niche)
  unfold enterTrap
  dsimp only
  rw [logTrap_none hlog, ← State.stilled, honce, State.entry]
end entry

/-! ### What the entry leaves -/

section left
variable {v : State} {n : Nat} {k : Trap}

theorem State.entry_core (v : State) (n : Nat) (k : Trap) :
    (v.entry n k).core n = entered (v.frameAt n k.lvl) k (v.stilled n) := by
  rw [State.entry, State.setCore_core, if_pos rfl]

theorem State.entry_niche (v : State) (n : Nat) (k : Trap) : (v.entry n k).niche = v.frameIn n k := by
  rw [State.entry, State.setCore_niche, State.setNiche]

theorem State.entry_gals (v : State) (n : Nat) (k : Trap) : (v.entry n k).gals = v.gals := by
  rw [State.entry, State.setCore_gals, State.setNiche_gals, State.setCore_gals, (wrongPath_strayed v n).gals]

theorem State.setNiche_rest (v : State) (n : Nat) (c d : Core) (m : List Host.Cell) :
    ∃ r, ((v.setCore n c).setNiche m).setCore n d = { v with cores := r, niche := m } := ⟨_, rfl⟩

/-- In deterministic mode an entry changes the core and the niche memories. -/
theorem State.entry_det (h : (v.core n).det = true) :
    (∃ r m, v.entry n k = { v with cores := r, niche := m }) ∧ ∀ m, m ≠ n → (v.entry n k).core m = v.core m := by
  rw [State.entry, wrongPath_det v n h]
  refine ⟨(v.setNiche_rest n _ _ _).imp fun _ h => ⟨_, h⟩, fun m hm => ?_⟩
  rw [State.setCore_core, if_neg hm, State.core_congr (State.setNiche_cores ..), State.setCore_core, if_neg hm]

/-- The frame lies in its 12 words of the niche memory. -/
theorem State.frameIn_nicheCont (hframed : v.framed n k.lvl) {i : Nat} (hi : i < 12) :
    (v.entry n k).nicheCont n (v.frameAt n k.lvl + 4 * i)
      = encodeWord ((frameWords (v.core n) k).getD i Word.uni0) := by
  obtain ⟨_, hal, _, _⟩ := hframed
  rw [State.nicheCont, State.entry_niche, State.frameIn,
    contAt_nicheStores_mem (nicheIx_frame hal) (List.mem_range'_1.mpr (by omega))]

theorem State.frameIn_nicheBut :
    v.nicheBut (v.entry n k) n ((List.range 12).map fun i => v.frameAt n k.lvl + 4 * i) := fun i hi => by
  rw [State.entry_niche, State.frameIn]
  refine contAt_nicheStores_ne (fun j hj => hi _ (List.mem_map.mpr ⟨j, ?_, rfl⟩)) _
  rw [List.mem_range'_1] at hj
  exact List.mem_range.mpr (by omega)

section regs
variable (hidle : (v.core n).idle) (hmicro : k.micro = none)
include hidle hmicro

/-- A special register that an entry does not write. -/
theorem State.entry_srW {j : Nat} (hj : 4 < j) (h16 : j ≠ 16) (h19 : j ≠ 19) (h21 : j ≠ 21) :
    ((v.entry n k).core n).srW j = (v.core n).srW j := by
  obtain ⟨_, _, _, hsr, _⟩ := v.stilled_sameRegs hidle
  rw [State.entry_core, entered_srW _ hmicro]
  iterate 7 rw [if_neg (by omega)]
  exact hsr j h19

end regs

theorem Core.srN_of_srW {c : Core} {j x : Nat} {tg : Tag} (h : c.srW j = ⟨tg, BitVec.ofNat 48 x⟩) (hx : x < 2 ^ 48) :
    c.srN j = x := by
  rw [Core.srN, h]
  exact (BitVec.toNat_ofNat ..).trans (Nat.mod_eq_of_lt hx)

theorem Core.sameRegs.statAtEntry {c d : Core} (h : c.sameRegs d) (k : Trap) : statAtEntry d k = statAtEntry c k := by
  unfold Machine.statAtEntry
  rw [h.stat]

theorem Core.sameRegs.estatOf {c d : Core} (h : c.sameRegs d) (k : Trap) : estatOf d k = estatOf c k := by
  unfold Machine.estatOf Core.pl Core.cpri Core.ie
  rw [h.stat]

theorem lvlCode_le (lv : Level) : lvlCode lv ≤ 2 := by cases lv <;> decide

theorem estatOf_lt {c : Core} {k : Trap} (hev : k.ev = none) : estatOf c k < 2 ^ 48 := by
  have hcpri : c.cpri < 2 ^ 6 := bits_lt ..
  have hpl := lvlCode_le c.pl
  have hlv := lvlCode_le k.lvl
  have hb (b : Bool) : b2n b ≤ 1 := by cases b <;> decide
  have hds := hb k.ds
  have hie := hb c.ie
  unfold estatOf
  rw [hev]
  dsimp only
  omega

theorem statAtEntry_lt {c : Core} {k : Trap} (hev : k.ev = none) : statAtEntry c k < 2 ^ 48 := by
  unfold statAtEntry
  rw [hev]
  exact setBits_lt _ _ _ _ _ (setBits_lt _ _ _ _ _ (c.srN_lt 0) (by decide)) (by decide)

/-- An entry without an event, from an instruction boundary, is the trap of R467 to R470. -/
theorem State.entry_trapped (hidle : (v.core n).idle) (hframed : v.framed n k.lvl) (hev : k.ev = none)
    (hmicro : k.micro = none) (hhidx : k.hidx < 2 ^ 11) : v.trapped (v.entry n k) n k := by
  have hsame := v.stilled_sameRegs hidle
  obtain ⟨hdelay, hwaiting, hv, hb, hw, hpc⟩ := entered_rest (v.frameAt n k.lvl) (v.stilled n) k
  have hsr := fun j => entered_srW (v.frameAt n k.lvl) (c := v.stilled n) hmicro j
  have h5 := v.entry_srW (k := k) hidle hmicro (j := 5) (by decide) (by decide) (by decide) (by decide)
  have hkept (j : Nat) (hj : 4 < j) (h16 : j ≠ 16) (_ : j ≠ 17) (_ : j ≠ 18) (h19 : j ≠ 19) (h21 : j ≠ 21) :=
    v.entry_srW (k := k) hidle hmicro hj h16 h19 h21
  have hcore := v.entry_core n k
  rw [← hcore] at hdelay hwaiting hv hb hw hpc hsr
  have hsub : k.hidx + k.sub % 2 ^ 16 * 2 ^ 11 < 2 ^ 48 := by omega
  have hwAt (r : Nat) : ((v.entry n k).core n).wAt r = ((v.stilled n).putW (31 + lvlCode k.lvl)
      (Word.addr (BitVec.ofNat 48 (v.frameAt n k.lvl)))).wAt r := by
    unfold Core.wAt
    rw [hw]
  have hstat := hsame.statAtEntry k
  have hestat := hsame.estatOf k
  obtain ⟨hsw, hsv, hsb, hss, hs19⟩ := hsame
  refine ⟨?_, ?_, ?_, ?_, ?_, ?_, ?_, hdelay.trans rfl, hwaiting.trans rfl, ?_, fun r hr => ?_, fun r j => ?_, fun j
      => ?_, hkept, ?_,
    fun i hi => v.frameIn_nicheCont hframed hi, v.frameIn_nicheBut, fun hdet => ?_⟩
  · rw [hpc, Core.srN, h5]
    rfl
  · rw [Core.srN_of_srW (hsr 0) (statAtEntry_lt hev), hstat, statAtEntry, hev]
  · exact Core.srN_of_srW (hsr 1) k.ra.isLt
  · rw [Core.srN_of_srW (hsr 2) (estatOf_lt hev), hestat]
  · exact Core.srN_of_srW (hsr 3) hsub
  · rw [Core.srN, hsr 4]
    exact BitVec.toNat_ofNat ..
  · rw [Core.depth, Core.srN_of_srW (hsr 21) (by decide)]
    rfl
  · rw [hwAt, Core.putW_wAt, if_pos ⟨rfl, by omega⟩]
  · rw [hwAt, Core.putW_wAt, if_neg (by simp [hr]), hsw]
  · rw [Core.getV, hv]
    exact hsv r j
  · rw [Core.getB, hb]
    exact hsb j
  · rw [Core.srN, hsr 19]
    iterate 7 rw [if_neg (by decide)]
    exact hs19
  · obtain ⟨⟨r, m, hrest⟩, hothers⟩ := v.entry_det (k := k) hdet
    refine ⟨by rw [hrest], hothers, fun _ _ => ⟨by rw [hrest]; rfl, fun o _ => by rw [hrest]; rfl⟩⟩

end left

/-! ### The trap of an instruction's exception -/

section aside
variable {s v : State} {n : Nat} (h : s.aside v n)
include h

theorem State.aside.idle (hidle : (s.core n).idle) : (v.core n).idle := by
  obtain ⟨f, hf⟩ := h.own
  rw [hf]
  exact ⟨hidle.delay, hidle.slot0, hidle.inflight, hidle.statPend, hidle.branches, hidle.atBoundary, hidle.ucHeld,
    hidle.resume, hidle.divLeft⟩

theorem State.aside.framed {lv : Level} (hframed : s.framed n lv) : v.framed n lv := by
  obtain ⟨f, hf⟩ := h.own
  unfold State.framed State.frameAt at hframed ⊢
  rw [hf]
  exact hframed

theorem State.aside.causeLevel (code : Nat) : v.causeLevel n code = s.causeLevel n code := by
  obtain ⟨f, hf⟩ := h.own
  have hreg : v.regN (R.LANTERN_XDELEG n) = s.regN (R.LANTERN_XDELEG n) := by
    refine congrArg BitVec.toNat (h.regs _ ?_)
    simp only [countRegs, List.mem_cons, List.not_mem_nil, or_false, R.LANTERN_XDELEG, R.LANTERN_ISSCNT,
      R.LANTERN_FETCHCNT, R.LANTERN_PAIRCNT, R.LANTERN_HOLDCNT, R.LANTERN_MISPCNT, R.LANTERN_FRZCNT]
    omega
  unfold State.causeLevel State.fld
  rw [hf, hreg]
  rfl

theorem State.aside.faultTrap (e : Exc) : v.faultTrap n e = s.faultTrap n e := by
  obtain ⟨f, hf⟩ := h.own
  unfold State.faultTrap excTrap
  rw [h.causeLevel, hf]
  rfl

/-- A trap of the core with other counters and CODE words fetched ahead is its trap. -/
theorem State.aside.trapped {t : State} {k : Trap} (ht : v.trapped t n k) : s.trapped t n k := by
  obtain ⟨f, hf⟩ := h.own
  have hniche := h.niche
  unfold State.trapped State.frameAt State.nicheBut at ht ⊢
  rw [hf, hniche] at ht
  obtain ⟨h1, h2, h3, h4, h5, h6, h7, h8, h9, h10, h11, h12, h13, h14, h15, h16, h17, hdet⟩ := ht
  refine ⟨h1, h2, h3, h4, h5, h6, h7, h8, h9, h10, h11, h12, h13, h14, h15, h16, h17, fun hd => ?_⟩
  obtain ⟨hmem, hothers, hrest⟩ := hdet hd
  refine ⟨hmem.trans (by rw [h.rest]; rfl), fun m hm => (hothers m hm).trans (h.others m hm), fun he hl => ?_⟩
  obtain ⟨hall, hregs⟩ := hrest he hl
  refine ⟨hall.trans ?_, fun o ho => (hregs o ho).trans (h.regs o ho)⟩
  rw [h.rest]
  rfl

end aside

/-- An exception of an instruction that is no routine, on an idle core whose frame finds room. -/
theorem instrExc_entry {i : Shape} (hi : i.routine = none) {u : State} {n : Nat} (hidle : (u.core n).idle) {e : Exc}
    (hlog : e.code ∉ [0x0D, 0x12, 0x20, 0x21, 0x22]) (hframed : u.framed n (u.causeLevel n e.code)) (s0 : State) :
    ∃ v, u.aside v n ∧ instrExc i n e s0 u = v.entry n (u.faultTrap n e) := by
  have hcount := countIssue_aside n (u.core n).slot0.isSome u
  refine ⟨_, hcount, ?_⟩
  unfold instrExc
  rw [hi]
  simp only [Option.isSome_none, Bool.false_eq_true, if_false]
  generalize countIssue n (u.core n).slot0.isSome u = v at hcount ⊢
  have hidle' := hcount.idle hidle
  have hentry := enterTrap_framed (v := v) (n := n) (k := u.faultTrap n e) rfl hidle' hlog (hcount.framed hframed)
  have htrap : excTrap n e (v.core n).pc false v = u.faultTrap n e := hcount.faultTrap e
  rw [raiseExc, Core.faultRa, hidle'.delay]
  dsimp only
  rw [htrap, trapTo, hentry]

end Sys2Proof.Machine
end

section
/-! How an instruction that issues alone goes through a core that is ready for it (R417, R432). -/

namespace Sys2Proof.Machine

/-! ### Issue -/

section issue
variable {s : State} {n : Nat} {i : Shape} (h : s.ready n i.sz = true) (hflush : i.flush = false)
  (hkind : i.kind.transfer = false) (hlvl : lvlCode i.lvl ≤ lvlCode (s.core n).pl)
include h hflush hkind hlvl

/-- Nothing holds the instruction back: it does its work, and ends as that comes out. -/
theorem issueWith_ready {α : Type} (go : State → α) (fin : α → State → State) :
    issueWith n i noEarly go fin s = fin (go (codeFreeze n (openCycle n i.kind (s.setCore n (s.core n))))) s := by
  have hidle := State.ready_idle h
  have hcore : (s.setCore n (s.core n)).core n = s.core n := by rw [State.setCore_core, if_pos rfl]
  have hmay : (s.setCore n (s.core n)).mayIssue n = true := by
    have hmay := State.ready_mayIssue h
    simpa [State.mayIssue, State.trapDue, State.heldAtTs, State.dueEvent, hcore, State.setCore_eventFor] using hmay
  have hcheck : i.check (s.core n) = none := by
    have halign := State.ready_aligned h
    simp only [Shape.check, hkind, hidle.delay, Option.isSome_none, Bool.or_self, Bool.false_and, Bool.false_eq_true,
      if_false, if_neg (Nat.not_lt.mpr hlvl)]
    exact if_neg fun ⟨hsz, hpc⟩ => hpc (halign hsz)
  have hstat : i.takeStat (s.core n) = s.core n := by
    rw [Shape.takeStat, hflush]
    exact hidle.dueStat
  unfold issueWith
  simp [hstat, hmay, hcore, Core.annulled, hidle.delay, noEarly, hcheck]

theorem runInstr_issued (hroutine : i.routine = none) (go : State → Out) :
    runInstr n i go s = (go (codeFreeze n (openCycle n i.kind (s.setCore n (s.core n))))).finish n i s := by
  have hout (u : State) : microOut n i go u = go u := by rw [microOut, hroutine]
  rw [runInstr, issueWith_ready h hflush hkind hlvl, hout]

end issue

/-! ### Completion -/

section cycles
variable {c x : Core} {ws : List RegWr} {fl : Flg}

theorem Core.cycles_dueIn (hb : c.branches = []) {j k : Nat} (h : c.dueIn ws fl (j + k) x) : c.dueIn ws fl k
    (x.cycles j) := by
  induction j generalizing x with
  | zero => rwa [Nat.zero_add] at h
  | succ j ih =>
    rw [Nat.succ_add] at h
    exact ih (Core.endCycle_dueIn hb h)

/-- An instruction that issues alone leaves its cycles behind; what is not due by then stays in flight. -/
theorem Core.idle.issue_alone (hc : c.idle) {k : Kind} (hk : k.alone = true) {e : Eff} (hdist : 1 ≤ e.dist) (hocc :
    1 ≤ e.occ)
    (seq : Nat) (endsT : Bool) : c.dueIn e.writes e.flags (e.dist - 1) (c.issue k seq endsT e).1 := by
  obtain ⟨j, hj⟩ := Nat.exists_eq_add_of_le' hdist
  obtain ⟨o, ho⟩ := Nat.exists_eq_add_of_le' hocc
  have hdue : c.dueIn e.writes e.flags (o + 1 + j) { c with
      inflight := [⟨o + 1 + j, e.writes, e.flags⟩], divLeft := if k.unit = UnitKind.div then j + 1 else 0 } := by
    rw [show o + 1 + j = o + j + 1 by omega]
    exact ⟨rfl, rfl, by dsimp only; split <;> omega, Core.sameRegs.refl c⟩
  have hissue : (c.issue k seq endsT e).1 = Core.cycles (o + 1) { c with
      inflight := [⟨o + 1 + j, e.writes, e.flags⟩], divLeft := if k.unit = UnitKind.div then j + 1 else 0 } := by
    simp only [Core.issue, hc.slot0, hc.inflight, hc.divLeft, hk, hj, ho, Option.isSome_none, Bool.false_eq_true,
        if_false,
      true_or, if_true, List.nil_append]
    rw [show o + 1 - 1 + (j + 1) = o + 1 + j by omega]
  rw [hissue, hj]
  exact Core.cycles_dueIn hc.branches hdue

end cycles

section complete
variable {u : State} {n sz : Nat} (hidle : (u.core n).idle)
  (hloop : ∀ k, k < (u.core n).depth → (u.core n).le k ≠ (u.core n).seqNext sz)
include hidle hloop

/-- An instruction that has issued alone completes as `State.ran` says, and keeps what no register holds at once. -/
theorem complete_alone {kd : Kind} (hkd : kd.alone = true) {e : Eff} (hocc : 1 ≤ e.occ) (hdist : 1 ≤ e.dist) :
    u.ran (complete n sz kd e u) n sz e.writes e.flags ∧ complete n sz kd e u = u.coresOf (complete n sz kd e u)
      ∧ ((complete n sz kd e u).core n).frozen = (u.core n).frozen := by
  have hissue := hidle.issue_alone hkd hdist hocc ((u.core n).seqNext sz) ((u.core n).endsActive ((u.core n).seqNext
      sz))
  obtain ⟨hdue, hpc⟩ := hidle.goOn_dueIn hissue (BitVec.ofNat 48 ((u.core n).seqNext sz)) true
  have hcheck := loopCheck_none hloop
  have ht : ∃ x p, (u.core n).dueIn e.writes e.flags (e.dist - 1) x ∧ x.pc = BitVec.ofNat 48 ((u.core n).seqNext sz)
      ∧ complete n sz kd e u = countIssue n p (u.setCore n x) := by
    refine ⟨_, ((u.core n).issue kd ((u.core n).seqNext sz) ((u.core n).endsActive ((u.core n).seqNext sz)) e).2,
        hdue, hpc,
      ?_⟩
    unfold Core.seqNext at hcheck ⊢
    unfold complete
    simp only [hidle.delay, hcheck]
  obtain ⟨x, p, hx, hpc, ht⟩ := ht
  have hcount := countIssue_aside n p (u.setCore n x)
  obtain ⟨g, hown⟩ := hcount.own
  rw [State.setCore_core, if_pos rfl] at hown
  have hdue' := Core.dueIn_congr (y := x.withCopies g) hx rfl rfl rfl rfl (Core.sameRegs.refl x)
  have hland := Core.landAll_dueIn hidle.branches hdue'
  have hrest := hidle.restSame_of_landed hland
  obtain ⟨_, _, _, _, hsame⟩ := hland
  have hfrozen : (x.withCopies g).frozen = (u.core n).frozen := by
    have hframe : (x.withCopies g).frame = (u.core n).frame := by
      generalize e.dist - 1 = j at hdue'
      cases j with
      | zero =>
        obtain ⟨hframe, _⟩ := hdue'
        exact hframe
      | succ j =>
        obtain ⟨hframe, _⟩ := hdue'
        exact hframe
    have hfrozen := congrArg (fun z : Core => z.frozen) hframe
    exact hfrozen
  rw [ht]
  refine ⟨⟨⟨⟨?_, ?_⟩, fun m hm => ?_, hcount.regs⟩, ?_⟩, ?_, ?_⟩
  · rw [hown]
    exact hpc
  · rw [hown]
    exact hsame
  · rw [hcount.others m hm, State.setCore_core, if_neg hm]
  · rw [hown]
    exact hrest
  · rw [hcount.rest]
    rfl
  · rw [hown]
    exact hfrozen

end complete

/-! ### What the work leaves of the core -/

/-- State u has the cores of s but for the CODE words fetched ahead of core n, and its registers but for the
counters. -/
structure State.near (s u : State) (n : Nat) : Prop where
  own : ∃ f, u.core n = (s.core n).withCopies f
  others : ∀ m, m ≠ n → u.core m = s.core m
  regs : s.regsBut u (countRegs n)

section near
variable {s u v : State} {n : Nat}

theorem State.aside.near (h : s.aside u n) : s.near u n := ⟨h.own, h.others, h.regs⟩

theorem State.near.trans (h : s.near u n) (h' : u.near v n) : s.near v n := by
  obtain ⟨f, hf⟩ := h.own
  obtain ⟨g, hg⟩ := h'.own
  refine ⟨⟨g, ?_⟩, fun m hm => (h'.others m hm).trans (h.others m hm), fun k hk => (h'.regs k hk).trans (h.regs k hk)⟩
  rw [hg, hf]
  rfl

/-- What keeps every core and every register. -/
theorem State.near_of_same (hcores : u.cores = s.cores) (hregs : ∀ k, u.reg k = s.reg k) : s.near u n :=
  ⟨⟨_, State.core_congr hcores n⟩, fun m _ => State.core_congr hcores m, fun k _ => hregs k⟩

theorem Core.idle.withCopies {c : Core} (h : c.idle) (f : List (Nat × Nat × Word)) : (c.withCopies f).idle :=
  ⟨h.delay, h.slot0, h.inflight, h.statPend, h.branches, h.atBoundary, h.ucHeld, h.resume, h.divLeft⟩

/-- What runs from there runs from the state itself. -/
theorem State.near.ran (h : s.near u n) {t : State} {sz : Nat} {ws : List RegWr} {fl : Flg} (ht : u.ran t n sz ws fl) :
    s.ran t n sz ws fl := by
  obtain ⟨f, hf⟩ := h.own
  obtain ⟨⟨⟨hpc, hsame⟩, hothers, hregs⟩, hrest⟩ := ht
  rw [hf] at hpc hsame hrest
  have hcopies : (s.core n).sameRegs ((s.core n).withCopies f) := Core.sameRegs.refl (s.core n)
  exact ⟨⟨⟨hpc, (Core.addFlags_sameRegs (landWrites_sameRegs hcopies ws) fl).trans hsame⟩,
    fun m hm => (hothers m hm).trans (h.others m hm), fun k hk => (hregs k hk).trans (h.regs k hk)⟩, hrest⟩

/-- An instruction that has issued alone and has kept the core completes as `State.ran` says. -/
theorem State.near.completes (h : s.near u n) {sz : Nat} (hready : s.ready n sz = true) {kd : Kind} (hkd : kd.alone
    = true)
    {e : Eff} (hocc : 1 ≤ e.occ) (hdist : 1 ≤ e.dist) :
    s.ran (complete n sz kd e u) n sz e.writes e.flags ∧ complete n sz kd e u = u.coresOf (complete n sz kd e u) := by
  obtain ⟨f, hf⟩ := h.own
  have hidle : (u.core n).idle := by
    rw [hf]
    exact (State.ready_idle hready).withCopies f
  have hloop : ∀ k, k < (u.core n).depth → (u.core n).le k ≠ (u.core n).seqNext sz := by
    rw [hf]
    exact State.ready_noLoop hready
  obtain ⟨hran, hrest, _⟩ := complete_alone hidle hloop hkd hocc hdist
  exact ⟨h.ran hran, hrest⟩

end near

end Sys2Proof.Machine
end

section
/-! The instructions of a core on a gallery that need no reply: GRESUME, GTLBW, GTLBI and GTLBIA (R237, R419, R420). -/

namespace Sys2Proof.Machine

/-! ### Registers and the log -/

/-- The counters of a core lie below the registers of the galleries. -/
theorem galReg_notCount {n o : Nat} (hn : n < 16) (ho : 0x1000000 ≤ o) : o ∉ countRegs n := by
  simp only [countRegs, List.mem_cons, List.not_mem_nil, or_false, R.LANTERN_ISSCNT, R.LANTERN_FETCHCNT,
    R.LANTERN_PAIRCNT, R.LANTERN_HOLDCNT, R.LANTERN_MISPCNT, R.LANTERN_FRZCNT]
  omega

theorem State.near.fld {s u : State} {n : Nat} (h : s.near u n) {o : Nat} (ho : o ∉ countRegs n) (f : Fld) :
    u.fld o f = s.fld o f := State.fld_of_reg (h.regs o ho) f

theorem State.near.galOwner {s u : State} {n : Nat} (h : s.near u n) (hn : n < 16) (g : Nat) :
    u.galOwner g = s.galOwner g := h.fld (galReg_notCount hn (Nat.le_add_right ..)) _

theorem packDetail_length (fs : List DF) (at' acc : Nat) : (packDetail fs at' acc).length ≤ fs.length + 1 := by
  induction fs generalizing at' acc with
  | nil => exact Nat.le_refl 1
  | cons f fs ih =>
    unfold packDetail
    split
    · exact (ih ..).trans (Nat.le_succ _)
    · exact Nat.succ_le_succ (ih ..)

/-- While the log's input has room, an entry discards none. -/
theorem logCairn_roomy {s : State} {fs : List DF} (h : s.cairn.queue.length + fs.length < 256) (src : Src) (code :
    Nat) :
    ∃ k, logCairn src code fs s = { s with cairn := k } := by
  have hlen : (cairnEntries s src code fs).length ≤ fs.length + 1 := by
    rw [cairnEntries, List.length_mapIdx]
    exact packDetail_length fs 0 0
  unfold logCairn logOn logAtHub
  by_cases hdown : s.sideDown (entryDie src code fs) = true
  · exact ⟨_, if_pos hdown⟩
  by_cases hfrozen : s.cairn.frozen = true
  · exact ⟨_, (if_neg hdown).trans (if_pos hfrozen)⟩
  · exact ⟨_, (if_neg hdown).trans ((if_neg hfrozen).trans (if_pos (by omega)))⟩

theorem freeze_aside (n : Nat) (s : State) : s.aside (freeze n s) n :=
  (s.freeNat_aside n).trans (State.bump_aside _ (by simp [countRegs]) _ _)

/-! ### What the work may change -/

/-- State v differs from s in registers, cores, galleries, the log and the free values taken only; the galleries are
G. -/
def State.galled (s v : State) (G : Tab Gallery) : Prop :=
  v = { s with regs := v.regs, cores := v.cores, gals := G, cairn := v.cairn, fresh := v.fresh }

theorem State.galled.gals {s v : State} {G : Tab Gallery} (h : s.galled v G) : v.gals = G := by rw [h]

theorem State.galled_of_coresOf {s u v : State} {G : Tab Gallery} (h : u = s.coresOf u) (h' : u.galled v G) :
    s.galled v G := by
  have hu : u.galled v G = State.galled (s.coresOf u) v G := by rw [← h]
  rw [hu] at h'
  exact h'

theorem State.galled.coresOf {s v t : State} {G : Tab Gallery} (h : s.galled v G) (h' : t = v.coresOf t) : s.galled
    t G := by
  have ht : t = State.coresOf { s with regs := v.regs, cores := v.cores, gals := G, cairn := v.cairn, fresh :=
      v.fresh } t :=
    h'.trans (congrArg (fun x => State.coresOf x t) h)
  have hcairn : t.cairn = v.cairn := by
    rw [h']
    rfl
  rw [State.galled, hcairn]
  exact ht

/-- An instruction that issues alone and whose work changes galleries and the log at most runs. -/
theorem runInstr_alone {s : State} {n : Nat} {i : Shape} (h : s.ready n i.sz = true) (hflush : i.flush = false)
    (hkind : i.kind.transfer = false) (hlvl : lvlCode i.lvl ≤ lvlCode (s.core n).pl) (hroutine : i.routine = none)
    (halone : i.kind.alone = true) {c : Instr} {go : State → Out} (hc : exec c s = ok (runInstr n i go s))
    {ws : List RegWr} {occ : Nat} (hocc : 1 ≤ occ) {G : Tab Gallery}
    (hgo : ∀ u, s.aside u n → ∃ v, u.near v n ∧ u.galled v G ∧ go u = .done { writes := ws, occ := occ } v) :
    ∃ t, exec c s = .next t ∧ s.ran t n i.sz ws {} ∧ s.galled t G := by
  have hu := openCycle_aside h i.kind
  obtain ⟨v, hnear, hgalled, hdone⟩ := hgo _ hu
  obtain ⟨hran, hrest⟩ := (hu.near.trans hnear).completes h halone (e := { writes := ws, occ := occ }) hocc
      (Nat.le_refl 1)
  refine ⟨_, hc, ?_⟩
  rw [runInstr_issued h hflush hkind hlvl hroutine, hdone]
  exact ⟨hran, (State.galled_of_coresOf hu.rest hgalled).coresOf hrest⟩

theorem State.setGal_galled (s : State) (g : Nat) (y : Gallery) : s.galled (s.setGal g y) (s.setGal g y).gals := rfl

theorem logCairn_galled (s : State) (src : Src) (code : Nat) (fs : List DF) :
    s.galled (logCairn src code fs s) s.gals := by
  obtain ⟨r, k, hrest⟩ := logCairn_rest s src code fs
  rw [hrest]
  rfl

/-- An entry for the log is near while there is room. -/
theorem logCairn_near {s : State} {fs : List DF} (h : s.cairn.queue.length + fs.length < 256) (src : Src) (code n :
    Nat) :
    s.near (logCairn src code fs s) n := by
  obtain ⟨k, hrest⟩ := logCairn_roomy h src code
  refine State.near_of_same (logCairn_cores ..) fun o => ?_
  rw [hrest]
  rfl

theorem State.setGal_near (s : State) (g : Nat) (y : Gallery) (n : Nat) : s.near (s.setGal g y) n :=
  State.near_of_same rfl fun _ => rfl

section fetched
variable {s u : State} {n : Nat} (h : s.aside u n)
include h

theorem State.aside.gals : u.gals = s.gals := by
  rw [h.rest]
  rfl

theorem State.aside.gal (g : Nat) : u.gal g = s.gal g := by rw [State.gal, h.gals, State.gal]

theorem State.aside.slot (g sl : Nat) : u.slot g sl = s.slot g sl := State.slot_of_gals h.gals g sl

theorem State.aside.cairn : u.cairn = s.cairn := by
  rw [h.rest]
  rfl

theorem State.aside.junc : u.junc = s.junc := by
  rw [h.rest]
  rfl

theorem State.aside.getW (r : RegNo) : (u.core n).getW r = (s.core n).getW r := by
  obtain ⟨f, hf⟩ := h.own
  rw [hf]
  rfl

theorem State.aside.setGal_gals (g : Nat) (y : Gallery) : (u.setGal g y).gals = (s.setGal g y).gals := by
  simp only [State.setGal, h.gals]

end fetched

/-! ### The TLB of a gallery -/

/-- The galleries of s, with gallery g replaced where core n owns it. -/
def State.galsIf (s : State) (g n : Nat) (y : Gallery) : Tab Gallery :=
  if s.galOwner g = n then (s.setGal g y).gals else s.gals

theorem State.galled.gal_galsIf {s t : State} {g n : Nat} {y : Gallery} (h : s.galled t (s.galsIf g n y)) :
    (t.gal g = if s.galOwner g = n then y else s.gal g) ∧ ∀ i, i ≠ g → t.gal i = s.gal i := by
  have hgals := h.gals
  unfold State.galsIf at hgals
  split at hgals
  · next howner =>
    have hgal (i : Nat) : t.gal i = if i = g then y else s.gal i := by
      rw [State.gal, hgals, ← State.gal, State.setGal_gal]
    refine ⟨?_, fun i hi => ?_⟩
    · rw [hgal, if_pos rfl, if_pos howner]
    · rw [hgal, if_neg hi]
  · next howner =>
    have hgal (i : Nat) : t.gal i = s.gal i := by rw [State.gal, hgals, State.gal]
    refine ⟨?_, fun i _ => hgal i⟩
    rw [hgal, if_neg howner]

section tlb
variable {s u : State} {n g : Nat} (hn : n < 16) (hroom : s.cairn.queue.length ≤ 200) (h : s.aside u n)
include hn hroom h

/-- Work on the TLB of a gallery, which the owner alone does. -/
theorem galTlb_work (y : Gallery) {v : State}
    (hv : v = if n ≠ u.galOwner g then galTlbRefuse g n u else u.setGal g y) :
    u.near v n ∧ u.galled v (s.galsIf g n y) := by
  have howner := h.near.galOwner hn g
  unfold State.galsIf
  rw [← howner]
  split at hv
  · next hne =>
    rw [if_neg (Ne.symm hne), hv, ← h.gals]
    refine ⟨logCairn_near ?_ .gallery 3 n, logCairn_galled ..⟩
    rw [h.cairn]
    simp only [List.length_cons, List.length_nil]
    omega
  · next heq =>
    rw [if_pos (not_not.mp heq).symm, hv, ← h.setGal_gals]
    exact ⟨u.setGal_near g y n, u.setGal_galled g y⟩

theorem galTlbLoad_work (a b c : Payload) {r : Tab TlbE × Nat × Nat}
    (hr : r = tlbLoad 512 (s.fld (R.GAL_TLBCFG g) F.GAL_TLBCFG_WIRED) (s.gal g).next (tlbNew a b c) (s.gal g).tlb) :
    u.near (galTlbLoad g n a b c u) n
      ∧ u.galled (galTlbLoad g n a b c u) (s.galsIf g n { s.gal g with tlb := r.1, next := r.2.1 }) := by
  refine galTlb_work hn hroom h _ ?_
  have hwired : u.fld (R.GAL_TLBCFG g) F.GAL_TLBCFG_WIRED = s.fld (R.GAL_TLBCFG g) F.GAL_TLBCFG_WIRED :=
    h.near.fld (galReg_notCount hn (Nat.le_trans (by decide : 0x1000000 ≤ 0x1000040) (Nat.le_add_right ..))) _
  rw [hr, galTlbLoad, hwired, h.gal]

theorem galTlbInval_some_work (a : Nat) :
    u.near (galTlbInval g n (some a) u) n
      ∧ u.galled (galTlbInval g n (some a) u) (s.galsIf g n { s.gal g with tlb := tlbInval a (s.gal g).tlb }) := by
  rw [← h.gal]
  exact galTlb_work hn hroom h _ rfl

theorem galTlbInval_none_work :
    u.near (galTlbInval g n none u) n
      ∧ u.galled (galTlbInval g n none u) (s.galsIf g n { s.gal g with tlb := tlbInvalAll (s.gal g).tlb }) := by
  rw [← h.gal]
  exact galTlb_work hn hroom h _ rfl

end tlb

/-- The operands of a TLB load pass its checks. -/
theorem tlbExc_none (c : Core) {x y z : Word} (hx : x.tag = Tags.pte) (hy : y.tag ∈ addrTags) (hz : z.tag ∈ wordTags)
    (hcp : bits x.pay.toNat 8 2 ≠ 3) (hbig : bit x.pay.toNat 12 = true → bits x.pay.toNat 16 8 = 0)
    (htop : z.pay.toNat < 2 ^ 42) (hal : z.pay.toNat % 4 = 0) : tlbExc c x y z = none := by
  have hcheck : tlbCheck x y z = none := by
    have hy' : ¬ (y.tag ≠ Tags.addr ∧ y.tag ≠ Tags.raw) := fun ⟨h, h'⟩ => by simp [addrTags, h, h'] at hy
    have hz' : ¬ (z.tag ≠ Tags.addr ∧ z.tag ≠ Tags.int ∧ z.tag ≠ Tags.raw) := fun ⟨h, h', h''⟩ => by
      simp [wordTags, h, h', h''] at hz
    have hpte : ¬ (bits x.pay.toNat 8 2 = 3 ∨ (bit x.pay.toNat 12 = true ∧ bits x.pay.toNat 16 8 ≠ 0)) := fun hbad =>
      hbad.elim hcp fun ⟨h, h'⟩ => h' (hbig h)
    rw [tlbCheck, if_neg (not_not.mpr hx), if_neg hy', if_neg hz', if_neg hpte, if_neg (Nat.not_le.mpr htop),
      if_neg (not_not.mpr hal)]
  rw [tlbExc, hcheck]

theorem operand_ok {ok : List Tag} {w : Word} (h : w.tag ∈ ok) (k : Nat) : operand ok k w = .ok w.pay := if_pos h

/-- The level that the TLB instructions need. -/
theorem lvlCode_tlb48 {lv : Level} (h : lv ≠ .u) : lvlCode tlb48.lvl ≤ lvlCode lv := by
  cases lv with
  | u => exact absurd rfl h
  | s => exact Nat.le_refl 1
  | m => exact Nat.le_succ 1

section instrs
variable {s : State} {n g : Fin 16} (h : s.ready n 4 = true) (hpl : (s.core n).pl ≠ .u)
include h hpl

/-- An instruction on the TLB of a gallery runs, and changes it for the owner. -/
theorem tlb48_runs {c : Instr} {go : State → Out} (hc : exec c s = ok (runInstr n tlb48 go s)) {y : Gallery}
    {work : State → State} (hgo : ∀ u, s.aside u n → go u = .done { occ := 2 } (work u))
    (hwork : ∀ u, s.aside u n → u.near (work u) n ∧ u.galled (work u) (s.galsIf g n y)) :
    ∃ t, exec c s = .next t ∧ s.ran t n 4 [] {} ∧ (t.gal g = if s.galOwner g = n then y else s.gal g)
      ∧ (∀ i, i ≠ g.val → t.gal i = s.gal i)
      ∧ t = { s with regs := t.regs, cores := t.cores, gals := t.gals, cairn := t.cairn, fresh := t.fresh } := by
  obtain ⟨t, hnext, hran, hgalled⟩ := runInstr_alone (i := tlb48) h rfl rfl (lvlCode_tlb48 hpl) rfl rfl hc
    (ws := []) (occ := 2) (by decide) (G := s.galsIf g n y) fun u hu =>
      ⟨work u, (hwork u hu).1, (hwork u hu).2, hgo u hu⟩
  obtain ⟨hgal, hothers⟩ := hgalled.gal_galsIf
  have hgals := hgalled.gals
  refine ⟨t, hnext, hran, hgal, hothers, ?_⟩
  rw [hgals]
  exact hgalled

variable (hroom : s.cairn.queue.length ≤ 200)
include hroom

theorem gtlbw_runs {a b e : RegNo} {x y z : Word} (hx : x = (s.core n).getW a) (hy : y = (s.core n).getW b)
    (hz : z = (s.core n).getW e) (hpte : x.tag = Tags.pte) (hva : y.tag ∈ addrTags) (htab : z.tag ∈ wordTags)
    (hcp : bits x.pay.toNat 8 2 ≠ 3) (hbig : bit x.pay.toNat 12 = true → bits x.pay.toNat 16 8 = 0)
    (htop : z.pay.toNat < 2 ^ 42) (hal : z.pay.toNat % 4 = 0) {r : Tab TlbE × Nat × Nat}
    (hr : r = tlbLoad 512 (s.fld (R.GAL_TLBCFG g) F.GAL_TLBCFG_WIRED) (s.gal g).next (tlbNew x.pay y.pay z.pay)
      (s.gal g).tlb) :
    ∃ t, exec (.gtlbw n g a b e) s = .next t ∧ s.ran t n 4 [] {}
      ∧ (t.gal g = if s.galOwner g = n then { s.gal g with tlb := r.1, next := r.2.1 } else s.gal g)
      ∧ (∀ i, i ≠ g.val → t.gal i = s.gal i)
      ∧ t = { s with regs := t.regs, cores := t.cores, gals := t.gals, cairn := t.cairn, fresh := t.fresh } := by
  subst hx hy hz
  refine tlb48_runs h hpl rfl (work := galTlbLoad g n ((s.core n).getW a).pay ((s.core n).getW b).pay
    ((s.core n).getW e).pay) (fun u hu => ?_) fun u hu => galTlbLoad_work n.isLt hroom hu _ _ _ hr
  dsimp only
  rw [hu.getW, hu.getW, hu.getW, tlbExc_none _ hpte hva htab hcp hbig htop hal]

theorem gtlbi_runs {a : RegNo} {x : Word} (hx : x = (s.core n).getW a) (htag : x.tag ∈ addrTags) :
    ∃ t, exec (.gtlbi n g a) s = .next t ∧ s.ran t n 4 [] {}
      ∧ (t.gal g = if s.galOwner g = n then { s.gal g with tlb := tlbInval x.pay.toNat (s.gal g).tlb } else s.gal g)
      ∧ (∀ i, i ≠ g.val → t.gal i = s.gal i)
      ∧ t = { s with regs := t.regs, cores := t.cores, gals := t.gals, cairn := t.cairn, fresh := t.fresh } := by
  subst hx
  refine tlb48_runs h hpl rfl (work := galTlbInval g n (some ((s.core n).getW a).pay.toNat)) (fun u hu => ?_)
    fun u hu => galTlbInval_some_work n.isLt hroom hu _
  rw [hu.getW, operand_ok htag]

theorem gtlbia_runs : ∃ t, exec (.gtlbia n g) s = .next t ∧ s.ran t n 4 [] {}
    ∧ (t.gal g = if s.galOwner g = n then { s.gal g with tlb := tlbInvalAll (s.gal g).tlb } else s.gal g)
    ∧ (∀ i, i ≠ g.val → t.gal i = s.gal i)
    ∧ t = { s with regs := t.regs, cores := t.cores, gals := t.gals, cairn := t.cairn, fresh := t.fresh } :=
  tlb48_runs h hpl rfl (work := galTlbInval g n none) (fun _ _ => rfl)
    fun _ hu => galTlbInval_none_work n.isLt hroom hu

end instrs

/-! ### GRESUME -/

/-- No scoreboard write of the core is on its way. -/
theorem tokensInOrder_done {s : State} {n g : Nat} (h : s.tokensDone n g) : tokensInOrder n g s = .got () s := by
  obtain ⟨hstores, hwaiting⟩ := h
  have hs : ((s.core n).stores.any fun e => isTokenWrite g e.pa (.wr e.w)) = false :=
    List.any_eq_false.mpr fun e he => by simp [hstores e he]
  have hw : (s.junc.waiting.any fun r => r.m == n && isTokenWrite g r.a r.op) = false :=
    List.any_eq_false.mpr fun r hr => by
      by_cases hm : r.m = n
      · simp [hwaiting r hr hm]
      · simp [hm]
  rw [tokensInOrder, hs, hw]
  rfl

theorem State.aside.tokensDone {s u : State} {n : Nat} (h : s.aside u n) {g : Nat} (hs : s.tokensDone n g) :
    u.tokensDone n g := by
  obtain ⟨f, hf⟩ := h.own
  unfold State.tokensDone
  rw [hf, h.junc]
  exact hs

/-- A gallery that has counted one more entry into READY. -/
def State.readied (s : State) (g : Nat) : State := s.setGal g { s.gal g with readies := (s.gal g).readies + 1 }

theorem enterReady_eq (g sl : Nat) (s : State) : enterReady g sl s
    = (s.readied g).setSlot g sl { s.slot g sl with st := .ready, since := (s.gal g).readies } := rfl

theorem State.readied_slot (s : State) (g h i : Nat) : (s.readied g).slot h i = s.slot h i := by
  by_cases hh : h = g
  · subst hh
    simp [State.readied, State.slot]
  · simp [State.readied, State.slot, hh]

/-- The slot of gallery g that has entered READY. -/
theorem enterReady_slot (g sl h i : Nat) (s : State) : (enterReady g sl s).slot h i
    = if h = g ∧ i = sl then { s.slot g sl with st := .ready, since := (s.gal g).readies } else s.slot h i := by
  rw [enterReady_eq, State.setSlot_slot, s.readied_slot]

/-- The state of s with a suspended slot READY again. -/
def State.unsuspended (s : State) (g sl : Nat) : State :=
  enterReady g sl (s.setSlot g sl { s.slot g sl with fault := {} })

theorem State.unsuspended_rest (s : State) (g sl : Nat) : ∃ G, s.unsuspended g sl = { s with gals := G } := by
  unfold State.unsuspended enterReady State.setSlot State.setGal
  exact ⟨_, rfl⟩

/-- To end a suspension changes the galleries alone. -/
theorem State.unsuspended_work (s : State) (g sl n : Nat) :
    s.near (s.unsuspended g sl) n ∧ s.galled (s.unsuspended g sl) (s.unsuspended g sl).gals := by
  obtain ⟨G, hG⟩ := s.unsuspended_rest g sl
  rw [hG]
  exact ⟨State.near_of_same rfl fun _ => rfl, rfl⟩

theorem State.unsuspended_gals {s u : State} (h : u.gals = s.gals) (g sl : Nat) :
    (u.unsuspended g sl).gals = (s.unsuspended g sl).gals := by
  simp only [State.unsuspended, enterReady, State.setSlot, State.setGal, State.gal, State.slot, h]

/-- The galleries after a GRESUME that is answered with the word w. -/
def State.resumed (s : State) (g sl : Nat) (w : Word) : Tab Gallery :=
  if w = giReply 0 sl then (s.unsuspended g sl).gals else s.gals

theorem giReply_ne {st sl : Nat} (hst : st ≠ 0) (hlt : st < 8) (hsl : sl < 32) : giReply st 0 ≠ giReply 0 sl := fun
    h => by
  have hpay := congrArg (fun w : Word => w.pay.toNat) h
  simp only [giReply, Word.int, BitVec.toNat_ofNat] at hpay
  omega

theorem State.resumed_slots {s t : State} {g sl : Nat} {w : Word} (h : t.gals = s.resumed g sl w) :
    s.slotsBut t g sl ∧ (t.slot g sl).desc = (s.slot g sl).desc
      ∧ (t.slot g sl).st = if w = giReply 0 sl then SlotSt.ready else (s.slot g sl).st := by
  unfold State.resumed at h
  split at h
  · next hw =>
    have hslot (i : Nat) : t.slot g i = (s.unsuspended g sl).slot g i := State.slot_of_gals h g i
    rw [if_pos hw]
    refine ⟨fun i hi => ?_, ?_, ?_⟩
    · rw [hslot, State.unsuspended, enterReady_slot, if_neg (by simp [hi]), State.setSlot_slot, if_neg (by simp [hi])]
    · rw [hslot, State.unsuspended, enterReady_slot, if_pos ⟨rfl, rfl⟩, State.setSlot_slot_same]
    · rw [hslot, State.unsuspended, enterReady_slot, if_pos ⟨rfl, rfl⟩]
  · next hw =>
    rw [if_neg hw, State.slot_of_gals h]
    exact ⟨fun i _ => State.slot_of_gals h g i, rfl, rfl⟩

/-- The cases of a judged GRESUME with the word that answers each. -/
def State.resumeWord (s : State) (g sl n : Nat) (w : Word) : Prop :=
  ((s.gal g).quar = true ∧ w = giReply 2 0)
    ∨ ((s.gal g).quar = false ∧ s.galOwner g ≠ n ∧ w = giReply 3 0)
    ∨ ((s.gal g).quar = false ∧ s.galOwner g = n ∧ (s.slot g sl).st ≠ .susp ∧ w = giReply 4 0)
    ∨ ((s.gal g).quar = false ∧ s.galOwner g = n ∧ (s.slot g sl).st = .susp ∧ w = giReply 0 sl)

/-- A refusal is logged, and changes nothing else here. -/
theorem refused_work {s : State} {n : Nat} {fs : List DF} (h : s.cairn.queue.length + fs.length < 256) (src : Src)
    (code : Nat) : s.near (logCairn src code fs s) n ∧ s.galled (logCairn src code fs s) s.gals :=
  ⟨logCairn_near h src code n, logCairn_galled ..⟩

theorem judgeResume_work {s u : State} {g sl n : Nat} {w : Word} (hn : n < 16) (hsl : sl < 32)
    (hroom : s.cairn.queue.length ≤ 200) (h : s.aside u n) (hw : s.resumeWord g sl n w) :
    ∃ v, judgeResume g n sl u = (w, v) ∧ u.near v n ∧ u.galled v (s.resumed g sl w) := by
  have howner := h.near.galOwner hn g
  have hlen (fs : List DF) (hfs : fs.length ≤ 3) : u.cairn.queue.length + fs.length < 256 := by
    rw [h.cairn]
    omega
  unfold judgeResume State.resumed
  rw [h.gal, howner]
  rw [State.resumeWord, ← h.slot] at hw
  obtain ⟨hq, rfl⟩ | ⟨hq, ho, rfl⟩ | ⟨hq, ho, hst, rfl⟩ | ⟨hq, ho, hst, rfl⟩ := hw
  · rw [if_pos hq, if_neg (giReply_ne (by decide) (by decide) hsl), ← h.gals]
    exact ⟨_, rfl, refused_work (hlen _ (by simp)) _ _⟩
  · rw [if_neg (by simp [hq]), if_pos (Ne.symm ho), if_neg (giReply_ne (by decide) (by decide) hsl), ← h.gals]
    exact ⟨_, rfl, refused_work (hlen _ (by simp)) _ _⟩
  · rw [if_neg (by simp [hq]), if_neg (not_not.mpr ho.symm), if_pos hst,
      if_neg (giReply_ne (by decide) (by decide) hsl), ← h.gals]
    have hnat := u.freeNat_aside n
    have hqueue := congrArg (fun k : Cairn => k.queue.length) hnat.cairn
    refine ⟨_, rfl, ?_⟩
    obtain ⟨hnear, hgalled⟩ := refused_work (s := u.freeNat.2) (n := n)
      (fs := [⟨4, g⟩, ⟨5, sl⟩, ⟨26, u.freeNat.1⟩]) (hlen _ (Nat.le_refl 3)) .gallery 1
    exact ⟨hnat.near.trans hnear, State.galled_of_coresOf hnat.rest hgalled⟩
  · rw [if_neg (by simp [hq]), if_neg (not_not.mpr ho.symm), if_neg (not_not.mpr hst), if_pos rfl,
      ← State.unsuspended_gals h.gals]
    exact ⟨_, rfl, u.unsuspended_work g sl n⟩

theorem gresume_runs {s : State} {n g : Fin 16} {d sl : RegNo} {w : Word} (h : s.ready n 4 = true)
    (hiso : s.junc.isolated = false) (htokens : s.tokensDone n g) (hroom : s.cairn.queue.length ≤ 200)
    (hw : s.resumeWord g sl.toNat n w) :
    ∃ t, exec (.gresume n d g sl) s = .next t ∧ s.ran t n 4 (resW (s.core n) d w) {}
      ∧ s.galled t (s.resumed g sl.toNat w) := by
  refine runInstr_alone (i := giss48) h rfl rfl (Nat.zero_le _) rfl rfl rfl (occ := 1) (Nat.le_refl 1) fun u hu => ?_
  obtain ⟨v, hjudge, hnear, hgalled⟩ := judgeResume_work n.isLt sl.isLt hroom hu hw
  have hfreeze := freeze_aside n v
  have hwrites : resW (u.core n) d w = resW (s.core n) d w := by
    obtain ⟨f, hf⟩ := hu.own
    rw [hf]
    rfl
  refine ⟨freeze n v, hnear.trans hfreeze.near, hgalled.coresOf hfreeze.rest, ?_⟩
  dsimp only
  rw [hu.junc, hiso, tokensInOrder_done (hu.tokensDone htokens)]
  simp only [Bool.false_eq_true, if_false, hjudge, hwrites]

end Sys2Proof.Machine
end

section
/-! GISS and GISSR: the address of the descriptor judged and translated, and the request sent (R416, R417). -/

namespace Sys2Proof.Machine

/-! ### The exception of an instruction -/

/-- An exception of the instruction at the PC of an idle core, raised in the cycle in which it issues. -/
theorem instrExc_trapped {s u : State} {n : Nat} (hu : s.aside u n) (hidle : (s.core n).idle) {i : Shape}
    (hi : i.routine = none) {e : Exc} (hlog : e.code ∉ [0x0D, 0x12, 0x20, 0x21, 0x22]) (hcode : e.code < 2 ^ 11)
    (hframed : s.framed n (s.causeLevel n e.code)) (s0 : State) :
    s.trapped (instrExc i n e s0 u) n (s.faultTrap n e) := by
  have hframed' : u.framed n (u.causeLevel n e.code) := by
    rw [hu.causeLevel]
    exact hu.framed hframed
  obtain ⟨v, hv, hentry⟩ := instrExc_entry hi (hu.idle hidle) hlog hframed' s0
  rw [hentry, hu.faultTrap]
  exact hu.trapped (hv.trapped (State.entry_trapped (hv.idle (hu.idle hidle)) (hv.framed (hu.framed hframed)) rfl
      rfl hcode))

/-! ### The descriptor's address -/

/-- The physical address pa of the descriptor at va, in a page of 2^k samples, that core n may read without an
update. -/
def State.descPlace (s : State) (n va pa k : Nat) : Prop :=
  ((s.core n).te = false ∧ ((s.core n).pl = .m ∨ ((s.core n).pl = .s ∧ s.inWindow n va = true)) ∧ cacheable va = true
      ∧ k = 16 ∧ pa = va)
    ∨ (∃ i e, (s.core n).te = true ∧ tlbFind (s.core n).tlb va = some i ∧ e = tlbAt (s.core n).tlb i
        ∧ levelGrants (s.core n).pl (s.core n).sg e.pte.toNat = true ∧ bit e.pte.toNat 1 = true ∧ e.se = false
        ∧ bit e.pte.toNat 10 = true ∧ k = e.shift ∧ pa = e.phys va)

theorem State.aside.descPlace {s u : State} {n : Nat} (h : s.aside u n) {va pa k : Nat} (hs : s.descPlace n va pa k) :
    u.descPlace n va pa k := by
  obtain ⟨f, hf⟩ := h.own
  unfold State.descPlace
  rw [hf, h.inWindow]
  exact hs

section place
variable {s : State} {n va pa k : Nat}

theorem descPage_eq (h : s.descPlace n va pa k) : descPage (s.core n) va = k := by
  obtain ⟨hte, _, _, rfl, _⟩ | ⟨i, e, hte, hfind, rfl, _, _, _, _, rfl, _⟩ := h
  · simp [descPage, hte]
  · simp [descPage, hte, hfind]

theorem cacheable_lt {a : Nat} (h : cacheable a = true) : a < 2 ^ 42 := by
  rw [cacheable_eq_held] at h
  have hrange := targetOf_held h
  omega

/-- An untranslated address that the caches may hold is passed through. -/
theorem untranslated_desc (hpl : (s.core n).pl = .m ∨ ((s.core n).pl = .s ∧ s.inWindow n va = true))
    (hc : cacheable va = true) : ∃ p, untranslated n .desc va s = .ok p s ∧ p.a = va := by
  have hlt := cacheable_lt hc
  have hplain : s.plainPath n va
      = pathOf n va (s.fld (R.LANTERN_TLBCFG n) F.LANTERN_TLBCFG_PCP) false s := if_pos hc
  refine ⟨s.plainPath n va, ?_, by rw [hplain, pathOf]⟩
  have huser : (s.core n).pl ≠ .u := by
    rcases hpl with h | ⟨h, _⟩ <;> simp [h]
  have hwindow : ¬ ((s.core n).pl = .s ∧ ¬ s.inWindow n (va % 2 ^ 42) = true) := by
    rw [Nat.mod_eq_of_lt hlt]
    rcases hpl with h | ⟨_, h⟩ <;> simp [h]
  have hse : (s.plainPath n va).se = false := by rw [hplain, pathOf]
  unfold untranslated
  dsimp only
  rw [if_neg huser, if_neg fun h => Nat.not_le.mpr hlt h.1, if_neg hwindow, if_neg (Nat.not_le.mpr hlt),
    if_neg (by simp [hse])]

theorem granted_desc {e : TlbE} (hr : bit e.pte.toNat 1 = true) (hse : e.se = false) :
    AccKind.desc.granted e.pte.toNat = true := by
  unfold TlbE.se at hse
  simp [AccKind.granted, hr, hse]

theorem needsUpdate_desc {e : TlbE} (ha : bit e.pte.toNat 10 = true) : AccKind.desc.needsUpdate e.pte.toNat = false
    := by
  simp [AccKind.needsUpdate, AccKind.writes, ha]

/-- An entry that grants the read, and has its A bit, translates without an update. -/
theorem translated_desc {i : Nat} {e : TlbE} (hfind : tlbFind (s.core n).tlb va = some i)
    (he : e = tlbAt (s.core n).tlb i) (hlv : levelGrants (s.core n).pl (s.core n).sg e.pte.toNat = true)
    (hr : bit e.pte.toNat 1 = true) (hse : e.se = false) (ha : bit e.pte.toNat 10 = true) :
    ∃ p, translated n .desc va s = .ok p s ∧ p.a = e.phys va := by
  subst he
  refine ⟨pathOf n (TlbE.phys va (tlbAt (s.core n).tlb i)) (bits (tlbAt (s.core n).tlb i).pte.toNat 8 2)
    (tlbAt (s.core n).tlb i).se s, ?_, rfl⟩
  simp [translated, hfind, hlv, granted_desc hr hse, needsUpdate_desc ha]

theorem translate_desc (h : s.descPlace n va pa k) : ∃ p, translate n .desc va s = .ok p s ∧ p.a = pa := by
  obtain ⟨hte, hpl, hc, _, rfl⟩ | ⟨i, e, hte, hfind, he, hlv, hr, hse, ha, _, rfl⟩ := h
  · rw [translate, hte]
    exact untranslated_desc hpl hc
  · rw [translate, hte]
    exact translated_desc hfind he hlv hr hse ha

/-! ### The request -/

theorem gissSend_sent {g : Nat} (h : s.descPlace n va pa k) (hiso : s.junc.isolated = false) (htokens : s.tokensDone
    n g)
    (hal : va % 4 = 0) (hpage : (va + 63) / 2 ^ k = va / 2 ^ k) (d : RegNo) :
    gissSend n d g va s = .sent (sendGiss n d g va pa s) := by
  obtain ⟨p, htrans, rfl⟩ := translate_desc h
  have hk := descPage_eq h
  unfold gissSend
  dsimp only
  rw [hk, if_neg (by simp [hal, hpage]), htrans]
  dsimp only
  rw [hiso, tokensInOrder_done htokens]
  rfl

theorem gissSend_align {g : Nat} (h : s.descPlace n va pa k) (hbad : va % 4 ≠ 0 ∨ (va + 63) / 2 ^ k ≠ va / 2 ^ k)
    (d : RegNo) : gissSend n d g va s = .exc (excAlign va) s := by
  have hk := descPage_eq h
  unfold gissSend
  dsimp only
  rw [hk, if_pos hbad]

end place

/-- The request of a GISS of core n. -/
def State.request (s : State) (n : Nat) (va : Payload) (pa : Nat) : GReq := ⟨n, (s.core n).pl, (s.core n).ftz, va, pa⟩

/-- What core n waits for once its GISS is sent. -/
def State.awaits (s : State) (n : Nat) (d : RegNo) (g : Nat) (va : Payload) : Frozen :=
  ⟨wKey (s.core n).pl d.toNat, (s.core n).pc, va, g⟩

/-- What the sending of a GISS leaves. -/
structure State.gissSent (s t : State) (n : Nat) (d : RegNo) (g : Nat) (va : Payload) (pa : Nat) : Prop where
  reqs : (t.gal g).reqs = (s.gal g).reqs ++ [s.request n va pa]
  own : t.core n = { s.core n with frozen := some (s.awaits n d g va), fbuf := (t.core n).fbuf }
  others : ∀ m, m ≠ n → t.core m = s.core m
  gals : ∀ i, i ≠ g → t.gal i = s.gal i
  regs : s.regsBut t (countRegs n)
  rest : t = { s with regs := t.regs, cores := t.cores, gals := t.gals, fresh := t.fresh }

/-- State u with the request at the gallery and core n frozen. -/
def State.posted (s u : State) (n : Nat) (d : RegNo) (g : Nat) (va : Payload) (pa : Nat) : State :=
  (u.setGal g { u.gal g with reqs := (u.gal g).reqs ++ [s.request n va pa] }).setCore n
    { u.core n with frozen := some (s.awaits n d g va) }

theorem sendGiss_sent {s u : State} {n : Nat} (h : s.aside u n) (d : RegNo) (g pa : Nat) (va : Payload) :
    s.gissSent (sendGiss n d g va.toNat pa u) n d g va pa := by
  obtain ⟨f, hf⟩ := h.own
  have hsend : sendGiss n d g va.toNat pa u = freeze n (s.posted u n d g va pa) := by
    rw [State.posted, State.request, State.awaits, sendGiss, hf, BitVec.ofNat_toNat, BitVec.setWidth_eq]
    rfl
  have hgal (i : Nat) : (s.posted u n d g va pa).gal i
      = if i = g then { s.gal g with reqs := (s.gal g).reqs ++ [s.request n va pa] } else s.gal i := by
    rw [State.posted, State.setCore_gal, State.setGal_gal, h.gal, h.gal]
  have hcore (m : Nat) : (s.posted u n d g va pa).core m
      = if m = n then { (s.core n).withCopies f with frozen := some (s.awaits n d g va) } else u.core m := by
    rw [State.posted, State.setCore_core, State.setGal_core, hf]
  have hrest : s.posted u n d g va pa = { s with
      regs := u.regs, cores := (s.posted u n d g va pa).cores, gals := (s.posted u n d g va pa).gals, fresh :=
          u.fresh } := by
    rw [State.posted, h.rest]
    rfl
  have hregs : (s.posted u n d g va pa).regs = u.regs := by rw [hrest]
  have hfreeze := freeze_aside n (s.posted u n d g va pa)
  rw [hsend]
  generalize freeze n (s.posted u n d g va pa) = t at hfreeze
  generalize s.posted u n d g va pa = w at hgal hcore hrest hregs hfreeze
  obtain ⟨f', hf'⟩ := hfreeze.own
  rw [hcore, if_pos rfl] at hf'
  refine ⟨?_, ?_, fun m hm => ?_, fun i hi => ?_, fun o ho => ?_, ?_⟩
  · rw [hfreeze.gal, hgal, if_pos rfl]
  · rw [hf']
    rfl
  · rw [hfreeze.others m hm, hcore, if_neg hm, h.others m hm]
  · rw [hfreeze.gal, hgal, if_neg hi]
  · rw [hfreeze.regs o ho, State.reg_congr hregs, h.regs o ho]
  · have ht := hfreeze.rest
    rw [hfreeze.gals]
    rw [hrest] at ht
    exact ht

/-! ### The instructions -/

section giss
variable {s : State} {n : Fin 16} (h : s.ready n 4 = true) {c : Instr} {go : State → GOut}
  (hc : exec c s = ok (issueWith n giss48 noEarly go (GOut.finish n giss48) s))
include h hc

/-- A GISS that sends its request. -/
theorem giss_sends {d : RegNo} {g pa : Nat} {va : Payload}
    (hgo : ∀ u, s.aside u n → go u = .sent (sendGiss n d g va.toNat pa u)) :
    ∃ t, exec c s = .next t ∧ s.gissSent t n d g va pa := by
  have hu := openCycle_aside (i := giss48) h giss48.kind
  refine ⟨_, hc, ?_⟩
  rw [issueWith_ready (i := giss48) h rfl rfl (Nat.zero_le _), hgo _ hu]
  exact sendGiss_sent hu d g pa va

/-- A GISS that raises its exception. -/
theorem giss_raises {e : Exc} (hlog : e.code ∉ [0x0D, 0x12, 0x20, 0x21, 0x22]) (hcode : e.code < 2 ^ 11)
    (hframed : s.framed n (s.causeLevel n e.code)) (hgo : ∀ u, s.aside u n → go u = .exc e u) :
    ∃ t, exec c s = .next t ∧ s.trapped t n (s.faultTrap n e) := by
  have hu := openCycle_aside (i := giss48) h giss48.kind
  refine ⟨_, hc, ?_⟩
  rw [issueWith_ready (i := giss48) h rfl rfl (Nat.zero_le _), hgo _ hu]
  exact instrExc_trapped hu (State.ready_idle h) rfl hlog hcode hframed s

end giss

/-- What GISS or GISSR to gallery g comes to, on a core whose operands pass. -/
theorem giss_exec {s : State} {n g : Fin 16} {d a b : RegNo} (htag : ((s.core n).getW a).tag ∈ addrTags) {i : Instr}
    (hi : i = .giss n d a g ∨ (i = .gissr n d a b ∧ ((s.core n).getW b).tag ∈ intTags ∧ ((s.core n).getW
        b).pay.toNat = g)) :
    ∃ go, exec i s = ok (issueWith n giss48 noEarly go (GOut.finish n giss48) s)
      ∧ ∀ u, s.aside u n → go u = gissSend n d g ((s.core n).getW a).pay.toNat u := by
  obtain rfl | ⟨rfl, hint, hpay⟩ := hi
  · refine ⟨_, rfl, fun u hu => ?_⟩
    rw [hu.getW, operand_ok htag]
  · refine ⟨_, rfl, fun u hu => ?_⟩
    have hgal : gissGallery ((s.core n).getW b) = some g.val := by
      rw [gissGallery, if_pos ⟨hint, by rw [hpay]; exact g.isLt⟩, hpay]
    dsimp only
    rw [hu.getW, hu.getW, operand_ok htag, hgal]

/-- GISSR with no gallery in its operand. -/
theorem gissr_ill {s : State} {n : Fin 16} {a b : RegNo} (h : s.ready n 4 = true)
    (hbad : ¬ (((s.core n).getW b).tag ∈ intTags ∧ ((s.core n).getW b).pay.toNat < 16))
    (hframed : s.framed n (s.causeLevel n 1)) (d : RegNo) :
    ∃ t, exec (.gissr n d a b) s = .next t
      ∧ s.trapped t n (s.faultTrap n { code := 1, eval := (s.core n).pc.toNat }) := by
  refine giss_raises h rfl (e := excIll (s.core n).pc.toNat) (by simp [excIll]) (by simp [excIll]) hframed fun u hu
      => ?_
  have hgal : gissGallery ((s.core n).getW b) = none := if_neg hbad
  have hpc : (u.core n).pc = (s.core n).pc := by
    obtain ⟨f, hf⟩ := hu.own
    rw [hf]
    rfl
  dsimp only
  rw [hu.getW, hgal, hpc]

end Sys2Proof.Machine
end

section
/-! What the acceptance of an instruction leaves in its slot, in the scoreboards and in the links (R203, R210, R211,
R213 to R217). -/

namespace Sys2Proof.Machine

/-! ### Changes of galleries -/

/-- State t has other galleries than s, each as P allows, and nothing else. -/
def State.touches (P : Gallery → Gallery → Prop) (s t : State) : Prop :=
  (∃ G, t = { s with gals := G }) ∧ ∀ i, P (s.gal i) (t.gal i)

/-- The relay inputs alone differ. -/
def Gallery.relayed (a b : Gallery) : Prop := b = { a with relay := b.relay }

/-- The scoreboard alone differs. -/
def Gallery.boarded (a b : Gallery) : Prop := b = { a with sb := b.sb }

/-- The slots and the count of entries into READY alone differ. -/
def Gallery.slotted (a b : Gallery) : Prop := b = { a with slots := b.slots, readies := b.readies }

/-- A kind of change that may be made again. -/
structure Gallery.Change (P : Gallery → Gallery → Prop) : Prop where
  refl : ∀ a, P a a
  trans : ∀ a b c, P a b → P b c → P a c

theorem Gallery.relayed_change : Gallery.Change Gallery.relayed :=
  ⟨fun _ => rfl, fun _ _ c h h' => Eq.trans h' (congrArg (fun x : Gallery => { x with relay := c.relay }) h)⟩

theorem Gallery.boarded_change : Gallery.Change Gallery.boarded :=
  ⟨fun _ => rfl, fun _ _ c h h' => Eq.trans h' (congrArg (fun x : Gallery => { x with sb := c.sb }) h)⟩

theorem Gallery.slotted_change : Gallery.Change Gallery.slotted :=
  ⟨fun _ => rfl, fun _ _ c h h' =>
    Eq.trans h' (congrArg (fun x : Gallery => { x with slots := c.slots, readies := c.readies }) h)⟩

theorem State.touches.gal {P : Gallery → Gallery → Prop} {s t : State} (h : s.touches P t) (i : Nat) :
    P (s.gal i) (t.gal i) := by
  obtain ⟨_, hgal⟩ := h
  exact hgal i

section touches
variable {P : Gallery → Gallery → Prop} (hP : Gallery.Change P)
include hP

theorem State.touches.refl (s : State) : s.touches P s := ⟨⟨_, rfl⟩, fun i => hP.refl (s.gal i)⟩

theorem State.touches.trans {s t u : State} (h : s.touches P t) (h' : t.touches P u) : s.touches P u := by
  obtain ⟨⟨G, rfl⟩, hs⟩ := h
  obtain ⟨⟨H, hu⟩, ht⟩ := h'
  exact ⟨⟨H, hu⟩, fun i => hP.trans _ _ _ (hs i) (ht i)⟩

theorem State.touches_fold {α : Type} {f : State → α → State} (hf : ∀ (s : State) x, s.touches P (f s x)) (l : List α)
    (s : State) : s.touches P (l.foldl f s) := by
  induction l generalizing s with
  | nil => exact State.touches.refl hP s
  | cons x l ih => exact (hf s x).trans hP (ih (f s x))

theorem State.setGal_touches {s : State} {g : Nat} {y : Gallery} (h : P (s.gal g) y) : s.touches P (s.setGal g y) := by
  refine ⟨⟨_, rfl⟩, fun i => ?_⟩
  rw [State.setGal_gal]
  split
  · next he => rwa [he]
  · exact hP.refl _

end touches

/-! ### The relay inputs of an accepted instruction -/

theorem setRelayIn_relayed (s : State) (g x : Nat) (r : RelayIn) : s.touches Gallery.relayed (s.setRelayIn g x r) :=
  State.setGal_touches Gallery.relayed_change rfl

theorem relaySender_relayed (g sl dst x : Nat) (s : State) : s.touches Gallery.relayed (relaySender g sl dst x s) :=
  setRelayIn_relayed ..

theorem relayReceiver_relayed (g sl x src : Nat) (s : State) : s.touches Gallery.relayed (relayReceiver g sl x src
    s) := by
  unfold relayReceiver
  dsimp only
  split
  · exact setRelayIn_relayed ..
  · exact setRelayIn_relayed ..

theorem relayIssue_relayed (g sl : Nat) (d : Desc) (s : State) : s.touches Gallery.relayed (relayIssue g sl d s) := by
  refine State.touches.trans Gallery.relayed_change (t := if d.on 3 && d.space 3 == 2
    then relaySender g sl (d.loc 3 % 16) (bits (d.loc 3) 4 2) s else s) ?_ ?_
  · split
    · exact relaySender_relayed ..
    · exact State.touches.refl Gallery.relayed_change s
  · refine State.touches_fold Gallery.relayed_change (fun s x => ?_) _ _
    split
    · exact relayReceiver_relayed ..
    · exact State.touches.refl Gallery.relayed_change s

/-! ### The token of an accepted instruction -/

theorem putToken_boarded (g k : Nat) (b : Bool) (s : State) : s.touches Gallery.boarded (putToken g k b s) := by
  unfold putToken
  split
  · exact State.touches.refl Gallery.boarded_change s
  · exact State.setGal_touches Gallery.boarded_change rfl

/-- A scoreboard bit after a write. Token 0 is always posted. -/
theorem putToken_token (g k : Nat) (b : Bool) (s : State) (i j : Nat) :
    (putToken g k b s).token i j = if i = g ∧ j = k ∧ k ≠ 0 then b else s.token i j := by
  unfold putToken
  by_cases hk : k = 0
  · simp [hk]
  by_cases hi : i = g
  · subst hi
    by_cases hj : j = k
    · subst hj
      simp [State.token, hk]
    · simp [State.token, hk, hj, tget_tset]
  · simp [State.token, hk, hi]

/-- OWN cleared in the scoreboards that a path leads to, R213. -/
def State.ownCleared (s : State) (g k : Nat) : State :=
  (List.range 16).foldl (fun s i => if s.pathDown (galDie g) (galDie i) then s else putToken i k false s) s

theorem State.touches.pathDown {P : Gallery → Gallery → Prop} {s t : State} (h : s.touches P t) (a b : Nat) :
    t.pathDown a b = s.pathDown a b := by
  obtain ⟨⟨G, rfl⟩, _⟩ := h
  rfl

/-- One scoreboard of the clearing. -/
theorem clearStep_boarded (g k : Nat) (s : State) (i : Nat) :
    s.touches Gallery.boarded (if s.pathDown (galDie g) (galDie i) then s else putToken i k false s) := by
  split
  · exact State.touches.refl Gallery.boarded_change s
  · exact putToken_boarded ..

theorem State.ownCleared_boarded (s : State) (g k : Nat) : s.touches Gallery.boarded (s.ownCleared g k) :=
  State.touches_fold Gallery.boarded_change (clearStep_boarded g k) _ s

theorem clearStep_token (g k : Nat) (l : List Nat) (s : State) (i j : Nat) :
    (l.foldl (fun s i => if s.pathDown (galDie g) (galDie i) then s else putToken i k false s) s).token i j
      = if j = k ∧ k ≠ 0 ∧ i ∈ l ∧ s.pathDown (galDie g) (galDie i) = false then false else s.token i j := by
  induction l generalizing s with
  | nil => simp
  | cons x l ih =>
    rw [List.foldl_cons, ih, (clearStep_boarded g k s x).pathDown]
    by_cases hi : i = x
    · subst hi
      cases hdown : s.pathDown (galDie g) (galDie i) with
      | true => simp
      | false =>
        by_cases hj : j = k ∧ k ≠ 0
        · simp [putToken_token, hj]
        · have hno : ¬ (j = k ∧ k ≠ 0 ∧ i ∈ l ∧ false = false) := fun ⟨h, h', _⟩ => hj ⟨h, h'⟩
          have hno' : ¬ (j = k ∧ k ≠ 0 ∧ i ∈ i :: l ∧ false = false) := fun ⟨h, h', _⟩ => hj ⟨h, h'⟩
          rw [if_neg hno, if_neg hno', if_neg Bool.false_ne_true, putToken_token, if_neg fun h => hj h.2]
    · have hstep : (if s.pathDown (galDie g) (galDie x) then s else putToken x k false s).token i j = s.token i j := by
        split
        · rfl
        · simp [putToken_token, hi]
      simp [hstep, hi]

/-! ### The slot of an accepted instruction -/

theorem State.setSlot_slotted (s : State) (g sl : Nat) (x : Slot) : s.touches Gallery.slotted (s.setSlot g sl x) :=
  State.setGal_touches Gallery.slotted_change rfl

theorem State.readied_slotted (s : State) (g : Nat) : s.touches Gallery.slotted (s.readied g) := by
  rw [State.readied]
  exact State.setGal_touches Gallery.slotted_change rfl

theorem State.setSlot_readies (s : State) (g sl : Nat) (x : Slot) :
    ((s.setSlot g sl x).gal g).readies = (s.gal g).readies := by simp [State.setSlot]

theorem enterReady_slotted (g sl : Nat) (s : State) : s.touches Gallery.slotted (enterReady g sl s) := by
  rw [enterReady_eq]
  exact State.touches.trans Gallery.slotted_change (s.readied_slotted g) (State.setSlot_slotted ..)

theorem State.touches.slot_relayed {s t : State} (h : s.touches Gallery.relayed t) (g i : Nat) :
    t.slot g i = s.slot g i := by
  unfold State.slot
  rw [h.gal g]

theorem State.touches.slot_boarded {s t : State} (h : s.touches Gallery.boarded t) (g i : Nat) :
    t.slot g i = s.slot g i := by
  unfold State.slot
  rw [h.gal g]

theorem State.touches.token_relayed {s t : State} (h : s.touches Gallery.relayed t) (g k : Nat) :
    t.token g k = s.token g k := by
  unfold State.token
  rw [h.gal g]

theorem State.touches.token_slotted {s t : State} (h : s.touches Gallery.slotted t) (g k : Nat) :
    t.token g k = s.token g k := by
  unfold State.token
  rw [h.gal g]

/-- The slot after its judgement, R217 and R221: it keeps waiting, or is READY. -/
def Slot.judged (x : Slot) (t0 t1 : Bool) (since : Nat) : Slot :=
  if (x.aw0 && !t0) || (x.aw1 && !t1) || x.sbw then { x with aw0 := x.aw0 && !t0, aw1 := x.aw1 && !t1 }
  else { x with aw0 := x.aw0 && !t0, aw1 := x.aw1 && !t1, st := .ready, since := since }

section judged
variable {s : State} {g sl : Nat} {x : Slot} (hx : s.slot g sl = x) (hst : x.st = .wait) (hlen : x.desc.len ≠ 0)
include hx hst hlen

/-- The judgement of a slot in WAIT with elements. -/
theorem judgeWait_eq : judgeWait g sl s
    = let y := { x with aw0 := x.aw0 && !s.token g x.desc.await0, aw1 := x.aw1 && !s.token g x.desc.await1 }
      if y.aw0 || y.aw1 || y.sbw then s.setSlot g sl y else enterReady g sl (s.setSlot g sl y) := by
  have hzero (y : Slot) (hy : y.desc = x.desc) :
      zeroWith setToken g sl (enterReady g sl (s.setSlot g sl y)) = enterReady g sl (s.setSlot g sl y) := by
    have hslot : ((enterReady g sl (s.setSlot g sl y)).slot g sl).desc.len ≠ 0 := by
      rw [enterReady_slot, if_pos ⟨rfl, rfl⟩, State.setSlot_slot_same, hy]
      exact hlen
    exact if_neg fun h => hslot h.1
  unfold judgeWait judgeWith
  rw [hx, if_neg (not_not.mpr hst)]
  dsimp only
  split
  · rfl
  · exact hzero _ rfl

theorem judgeWait_slotted : s.touches Gallery.slotted (judgeWait g sl s) := by
  rw [judgeWait_eq hx hst hlen]
  dsimp only
  split
  · exact State.setSlot_slotted ..
  · exact State.touches.trans Gallery.slotted_change (State.setSlot_slotted ..) (enterReady_slotted ..)

theorem judgeWait_slot (h i : Nat) : ∃ k, (judgeWait g sl s).slot h i = if h = g ∧ i = sl
    then x.judged (s.token g x.desc.await0) (s.token g x.desc.await1) k else s.slot h i := by
  rw [judgeWait_eq hx hst hlen]
  unfold Slot.judged
  dsimp only
  split
  · exact ⟨0, State.setSlot_slot ..⟩
  · refine ⟨(s.gal g).readies, ?_⟩
    rw [enterReady_slot, State.setSlot_slot_same, State.setSlot_slot, State.setSlot_readies]
    split
    · rfl
    · rfl

end judged

end Sys2Proof.Machine
end

section
/-! The acceptance of an instruction without a start that is not yet due, whole (R203, R210, R211, R213). -/

namespace Sys2Proof.Machine

/-- The slot as an accepted instruction finds it. -/
def State.newSlot (s : State) (g sl : Nat) (d : Desc) (lut : List (Word × Bool)) (q : GReq) (prio : Nat) : Slot :=
  { st := .wait, desc := d, daddr := q.va, lvl := q.lv, core := q.core, ftz := q.ftz, prio := prio, lut := lut,
    aw0 := d.await0 != 0, aw1 := d.await1 != 0, sbw := d.sben, watched := d.dpol != 0,
    recs := (s.slot g sl).recs, owes := (s.slot g sl).owes }

/-- The link of an accepted instruction, R203. -/
def Desc.link (d : Desc) (q : GReq) : List GReq := if d.w 15 = 0 then [] else [{ q with va := BitVec.ofNat 48 (d.w
    15) }]

/-- A state with the link noted. -/
def State.linked (s : State) (g : Nat) (d : Desc) (q : GReq) : State :=
  if d.w 15 = 0 then s
  else s.setGal g { s.gal g with links := (s.gal g).links ++ [{ q with va := BitVec.ofNat 48 (d.w 15) }] }

/-- The state in which an accepted instruction is judged. -/
def State.taking (s : State) (g sl : Nat) (d : Desc) (lut : List (Word × Bool)) (q : GReq) (prio : Nat) : State :=
  (relayIssue g sl d ((s.ownCleared g d.own).setSlot g sl ((s.ownCleared g d.own).newSlot g sl d lut q
      prio))).linked g d q

theorem galAccept_eq (g sl : Nat) (d : Desc) (lut : List (Word × Bool)) (q : GReq) (prio : Nat) (s : State) :
    galAccept g sl d lut q false prio s = judgeWait g sl (s.taking g sl d lut q prio) := rfl

/-- A change that the acceptance makes to a gallery. -/
def Gallery.accepting (a b : Gallery) : Prop :=
  b = { a with slots := b.slots, sb := b.sb, links := b.links, readies := b.readies, relay := b.relay }

theorem Gallery.accepting_change : Gallery.Change Gallery.accepting :=
  ⟨fun _ => rfl, fun _ _ c h h' => Eq.trans h' (congrArg (fun x : Gallery => { x with
    slots := c.slots, sb := c.sb, links := c.links, readies := c.readies, relay := c.relay }) h)⟩

theorem State.touches.mono {P Q : Gallery → Gallery → Prop} {s t : State} (h : s.touches P t)
    (hPQ : ∀ a b, P a b → Q a b) : s.touches Q t := by
  obtain ⟨hrest, hgal⟩ := h
  exact ⟨hrest, fun i => hPQ _ _ (hgal i)⟩

theorem Gallery.relayed.accepting (a b : Gallery) (h : a.relayed b) : a.accepting b := by
  unfold Gallery.relayed at h
  rw [h]
  rfl

theorem Gallery.boarded.accepting (a b : Gallery) (h : a.boarded b) : a.accepting b := by
  unfold Gallery.boarded at h
  rw [h]
  rfl

theorem Gallery.slotted.accepting (a b : Gallery) (h : a.slotted b) : a.accepting b := by
  unfold Gallery.slotted at h
  rw [h]
  rfl

/-! ### The link -/

section linked
variable (s : State) (g : Nat) (d : Desc) (q : GReq)

theorem State.linked_accepting : s.touches Gallery.accepting (s.linked g d q) := by
  unfold State.linked
  split
  · exact State.touches.refl Gallery.accepting_change s
  · exact State.setGal_touches Gallery.accepting_change rfl

theorem State.linked_links : ((s.linked g d q).gal g).links = (s.gal g).links ++ d.link q := by
  unfold State.linked Desc.link
  split
  · exact (List.append_nil _).symm
  · rw [State.setGal_gal, if_pos rfl]

theorem State.linked_slot (h i : Nat) : (s.linked g d q).slot h i = s.slot h i := by
  unfold State.linked
  split
  · rfl
  · by_cases hh : h = g
    · subst hh
      simp [State.slot]
    · simp [State.slot, hh]

theorem State.linked_token (h k : Nat) : (s.linked g d q).token h k = s.token h k := by
  unfold State.linked
  split
  · rfl
  · by_cases hh : h = g
    · subst hh
      simp [State.token]
    · simp [State.token, hh]

end linked

/-! ### The whole -/

section taking
variable (s : State) (g sl : Nat) (d : Desc) (lut : List (Word × Bool)) (q : GReq) (prio : Nat)

theorem State.taking_accepting : s.touches Gallery.accepting (s.taking g sl d lut q prio) := by
  have hown := (s.ownCleared_boarded g d.own).mono Gallery.boarded.accepting
  have hslot := ((s.ownCleared g d.own).setSlot_slotted g sl
    ((s.ownCleared g d.own).newSlot g sl d lut q prio)).mono Gallery.slotted.accepting
  have hrelay := (relayIssue_relayed g sl d ((s.ownCleared g d.own).setSlot g sl
    ((s.ownCleared g d.own).newSlot g sl d lut q prio))).mono Gallery.relayed.accepting
  have htrans := fun {s t u : State} => State.touches.trans Gallery.accepting_change (s := s) (t := t) (u := u)
  exact htrans (htrans (htrans hown hslot) hrelay) (State.linked_accepting ..)

theorem State.taking_slot (h i : Nat) : (s.taking g sl d lut q prio).slot h i
    = if h = g ∧ i = sl then s.newSlot g sl d lut q prio else s.slot h i := by
  have hown := (s.ownCleared_boarded g d.own).slot_boarded
  have hnew : (s.ownCleared g d.own).newSlot g sl d lut q prio = s.newSlot g sl d lut q prio := by
    rw [State.newSlot, hown, State.newSlot]
  rw [State.taking, State.linked_slot, (relayIssue_relayed ..).slot_relayed, State.setSlot_slot, hnew, hown]

theorem State.taking_token (i j : Nat) : (s.taking g sl d lut q prio).token i j
    = if j = d.own ∧ d.own ≠ 0 ∧ i < 16 ∧ s.pathDown (galDie g) (galDie i) = false then false else s.token i j := by
  rw [State.taking, State.linked_token, (relayIssue_relayed ..).token_relayed, (State.setSlot_slotted ..).token_slotted,
    State.ownCleared, clearStep_token]
  simp only [List.mem_range]

theorem State.taking_links : ((s.taking g sl d lut q prio).gal g).links = (s.gal g).links ++ d.link q := by
  have hown : ((s.ownCleared g d.own).gal g).links = (s.gal g).links := by
    rw [(s.ownCleared_boarded g d.own).gal g]
  have hrelay := (relayIssue_relayed g sl d ((s.ownCleared g d.own).setSlot g sl
    ((s.ownCleared g d.own).newSlot g sl d lut q prio))).gal g
  rw [State.taking, State.linked_links, hrelay, State.setSlot, State.setGal_gal, if_pos rfl, hown]

end taking

theorem Slot.judged_st {x : Slot} (hx : x.st = .wait) (t0 t1 : Bool) (k : Nat) : (x.judged t0 t1 k).st
    = if (x.aw0 = true → t0 = true) ∧ (x.aw1 = true → t1 = true) ∧ x.sbw = false then .ready else .wait := by
  have hcond : ((x.aw0 && !t0) || (x.aw1 && !t1) || x.sbw) = true
      ↔ ¬ ((x.aw0 = true → t0 = true) ∧ (x.aw1 = true → t1 = true) ∧ x.sbw = false) := by
    simp only [Bool.or_eq_true, Bool.and_eq_true, Bool.not_eq_true', not_and_or, Classical.not_imp, Bool.not_eq_true,
      Bool.not_eq_false, or_assoc]
  unfold Slot.judged
  by_cases h : (x.aw0 = true → t0 = true) ∧ (x.aw1 = true → t1 = true) ∧ x.sbw = false
  · rw [if_pos h, if_neg fun h' => hcond.mp h' h]
  · rw [if_neg h, if_pos (hcond.mpr h)]
    exact hx

theorem Slot.judged_rest (x : Slot) (t0 t1 : Bool) (k : Nat) : ∃ st a0 a1 j,
    x.judged t0 t1 k = { x with st := st, aw0 := a0, aw1 := a1, since := j } := by
  unfold Slot.judged
  split
  · exact ⟨_, _, _, _, rfl⟩
  · exact ⟨_, _, _, _, rfl⟩

section accept
variable {s : State} {g sl : Nat} {d : Desc} (hlen : d.len ≠ 0) (lut : List (Word × Bool)) (q : GReq) (prio : Nat)
include hlen

theorem galAccept_slotted :
    (s.taking g sl d lut q prio).touches Gallery.slotted (galAccept g sl d lut q false prio s) := by
  have hslot := s.taking_slot g sl d lut q prio g sl
  rw [if_pos ⟨rfl, rfl⟩] at hslot
  rw [galAccept_eq]
  exact judgeWait_slotted hslot rfl hlen

/-- The acceptance changes galleries only, and of each at most what it may. -/
theorem galAccept_accepting : s.touches Gallery.accepting (galAccept g sl d lut q false prio s) :=
  State.touches.trans Gallery.accepting_change (s.taking_accepting g sl d lut q prio)
    ((galAccept_slotted hlen lut q prio).mono Gallery.slotted.accepting)

theorem galAccept_token (i k : Nat) : (galAccept g sl d lut q false prio s).token i k
    = if k = d.own ∧ d.own ≠ 0 ∧ i < 16 ∧ s.pathDown (galDie g) (galDie i) = false then false else s.token i k := by
  rw [(galAccept_slotted hlen lut q prio).token_slotted, s.taking_token]

theorem galAccept_slot (h i : Nat) : ∃ k, (galAccept g sl d lut q false prio s).slot h i = if h = g ∧ i = sl
    then (s.newSlot g sl d lut q prio).judged ((galAccept g sl d lut q false prio s).token g d.await0)
      ((galAccept g sl d lut q false prio s).token g d.await1) k
    else s.slot h i := by
  have hslot := s.taking_slot g sl d lut q prio g sl
  rw [if_pos ⟨rfl, rfl⟩] at hslot
  obtain ⟨k, hjudge⟩ := judgeWait_slot hslot rfl hlen h i
  refine ⟨k, ?_⟩
  rw [(galAccept_slotted hlen lut q prio).token_slotted, (galAccept_slotted hlen lut q prio).token_slotted,
      galAccept_eq,
    hjudge, s.taking_slot]
  split
  · rfl
  · rfl

/-- The slot takes the instruction as `State.accepted` says. -/
theorem galAccept_accepted :
    s.accepted (galAccept g sl d lut q false prio s) g sl d q (s.gal g).links := by
  have htouch := galAccept_accepting (s := s) (g := g) (sl := sl) hlen lut q prio
  have htoken := galAccept_token (s := s) (g := g) (sl := sl) hlen lut q prio
  have hslots := galAccept_slot (s := s) (g := g) (sl := sl) hlen lut q prio
  have hlinks : ((galAccept g sl d lut q false prio s).gal g).links = (s.gal g).links ++ d.link q := by
    rw [(galAccept_slotted hlen lut q prio).gal g]
    exact s.taking_links g sl d lut q prio
  generalize galAccept g sl d lut q false prio s = t at htouch htoken hslots hlinks
  obtain ⟨⟨G, hrest⟩, hgal⟩ := htouch
  obtain ⟨k, hslot⟩ := hslots g sl
  rw [if_pos ⟨rfl, rfl⟩] at hslot
  have hst := Slot.judged_st (x := s.newSlot g sl d lut q prio) rfl (t.token g d.await0) (t.token g d.await1) k
  rw [← hslot] at hst
  obtain ⟨_, _, _, _, hjudged⟩ := (s.newSlot g sl d lut q prio).judged_rest (t.token g d.await0) (t.token g d.await1) k
  rw [hjudged] at hslot
  refine ⟨by rw [hslot]; rfl, by rw [hslot]; rfl, by rw [hslot]; rfl, by rw [hslot]; rfl, by rw [hslot]; rfl,
    by rw [hslot]; rfl, ?_, fun hown i hi hpath => ?_, fun i hi => ?_, fun i k hi hk => ?_, hlinks, by rw [hrest],
    by rw [hrest]⟩
  · rw [hst]
    have haw (a : Nat) (b : Prop) : ((a != 0) = true → b) ↔ (a = 0 ∨ b) := by
      by_cases h : a = 0 <;> simp [h]
    simp only [State.newSlot, haw]
  · rw [htoken, if_pos ⟨rfl, hown, hi, hpath⟩]
  · obtain ⟨_, hother⟩ := hslots g i
    rw [hother, if_neg fun h => hi h.2]
  · rw [htoken, if_neg fun h => hk h.1]

end accept

end Sys2Proof.Machine
end

section
/-! Descriptors read and checked by a gallery, and the issue of a link (R203, R204, R211). -/

namespace Sys2Proof.Machine

/-! ### Reading a descriptor -/

theorem copyLut_none {d : Desc} (h : d.hasLut = false) (g : Nat) (s : State) : copyLut g d s = .got [] s := by
  have hwords : lutWords g d = [] := by simp [lutWords, h]
  rw [copyLut, hwords]
  rfl

theorem any_never {α : Type} (l : List α) : (l.any fun _ => false) = false :=
  List.any_eq_false.mpr fun _ _ => Bool.false_ne_true

/-- A descriptor that the gallery finds clean passes as it stands. -/
theorem checkDesc_got {s : State} {g : Nat} {at_ : Nat → Nat} {d : Desc} (h : s.descAt g at_ d) (lv : Level) :
    ∃ u, s.polled u ∧ checkDesc g lv ((List.range 16).map at_) s = .got d [] u := by
  obtain ⟨hlen, hcheck, _, hwords⟩ := h
  obtain ⟨u, hu, hreads⟩ := galReads_clean (g := g) (s := s) lv (is := List.range 16) (f := at_)
    (w := fun i => ⟨Tags.desc, d.getD i 0⟩) fun i hi => hwords i (List.mem_range.mp hi)
  have hd : (List.range 16).map (fun i => d.getD i 0) = d := by
    rw [List.range_eq_range', ← hlen]
    exact map_getD_range d 0
  refine ⟨u, hu, ?_⟩
  rw [checkDesc, hreads]
  simp only [List.any_map, List.map_map, Function.comp_def, Bool.not_true, any_never, bne_self_eq_false,
    Bool.false_eq_true, if_false, hd, hcheck]

theorem fetchDesc_got {s : State} {g : Nat} {at_ : Nat → Nat} {d : Desc} (h : s.descAt g at_ d) (lv : Level) :
    ∃ u, s.polled u ∧ fetchDesc g lv ((List.range 16).map at_) s = .got d [] u := by
  obtain ⟨u, hu, hgot⟩ := checkDesc_got h lv
  obtain ⟨_, _, hlut, _⟩ := h
  refine ⟨u, hu, ?_⟩
  rw [fetchDesc, hgot, DescGet.withLut, copyLut_none hlut]

/-- Words of which one is no descriptor word are refused with 0x10. -/
theorem fetchDesc_tag {s : State} {g : Nat} {at_ : Nat → Nat} {w : Nat → Word}
    (hwords : ∀ i, i < 16 → s.galServes g (at_ i) = true ∧ at_ i % 4 = 0 ∧ decodeContainer (s.cont (at_ i / 4)) =
        .clean (w i))
    {i : Nat} (hi : i < 16) (htag : (w i).tag ≠ Tags.desc) (lv : Level) :
    ∃ u, s.polled u ∧ fetchDesc g lv ((List.range 16).map at_) s = .bad 0x10 u := by
  obtain ⟨u, hu, hreads⟩ := galReads_clean (g := g) (s := s) lv (is := List.range 16) (f := at_) (w := w)
    fun i hi => hwords i (List.mem_range.mp hi)
  have hany : ((List.range 16).any fun i => (w i).tag != Tags.desc) = true :=
    List.any_eq_true.mpr ⟨i, List.mem_range.mpr hi, bne_iff_ne.mpr htag⟩
  have hcheck : checkDesc g lv ((List.range 16).map at_) s = .bad 0x10 u := by
    rw [checkDesc, hreads]
    simp only [List.any_map, Function.comp_def, Bool.not_true, any_never, Bool.false_eq_true, if_false,
      hany, if_true]
  refine ⟨u, hu, ?_⟩
  rw [fetchDesc, hcheck, DescGet.withLut]
  exact fun _ _ _ h => DescGet.noConfusion h

/-! ### What the acceptance goes by -/

/-- The acceptance goes by the slots, the scoreboards, the paths, the memory and the log. -/
theorem State.accepted_congr {s v t t' : State} {g sl : Nat} {d : Desc} {q : GReq} {links : List GReq}
    (h : v.accepted t g sl d q links) (hslot : ∀ i, v.slot g i = s.slot g i) (htoken : ∀ i k, v.token i k = s.token i k)
    (hpath : ∀ a b, v.pathDown a b = s.pathDown a b) (hmem : v.mem = s.mem) (hcairn : v.cairn = s.cairn)
    (hgals : t'.gals = t.gals) (hmem' : t'.mem = t.mem) (hcairn' : t'.cairn = t.cairn) :
    s.accepted t' g sl d q links := by
  have hslot' (i : Nat) : t'.slot g i = t.slot g i := State.slot_of_gals hgals g i
  have hgal (i : Nat) : t'.gal i = t.gal i := by rw [State.gal, hgals, State.gal]
  have htoken' (i k : Nat) : t'.token i k = t.token i k := by rw [State.token, hgal, State.token]
  obtain ⟨h1, h2, h3, h4, h5, h6, h7, h8, hslots, htokens, h11, h12, h13⟩ := h
  unfold State.accepted State.slotsBut
  simp only [hslot', htoken', hgal, hmem', hcairn']
  refine ⟨h1, h2, h3, h4, h5, h6, h7, fun hown i hi hp => h8 hown i hi ((hpath ..).trans hp), fun i hi => ?_,
    fun i k hi hk => ?_, h11, h12.trans hmem, h13.trans hcairn⟩
  · exact (hslots i hi).trans (hslot i)
  · exact (htokens i k hi hk).trans (htoken i k)

section gallery
variable {s v : State} {g : Nat}

theorem State.slot_congr (h : (v.gal g).slots = (s.gal g).slots) (i : Nat) : v.slot g i = s.slot g i := by
  rw [State.slot, h, State.slot]

theorem State.freeSlot_congr (h : (v.gal g).slots = (s.gal g).slots) : v.freeSlot g = s.freeSlot g := by
  unfold State.freeSlot State.slot
  rw [h]

theorem State.token_congr {i : Nat} (h : (v.gal i).sb = (s.gal i).sb) (k : Nat) : v.token i k = s.token i k := by
  rw [State.token, h, State.token]

end gallery

theorem State.polled.gals {s u : State} (h : s.polled u) : u.gals = s.gals := by
  obtain ⟨_, _, _, rfl⟩ := h
  rfl

theorem State.polled.gal {s u : State} (h : s.polled u) (g : Nat) : u.gal g = s.gal g := by
  rw [State.gal, h.gals, State.gal]

section polled
variable {s u : State} (h : s.polled u)
include h

theorem State.polled.cores : u.cores = s.cores := by
  obtain ⟨_, _, _, rfl⟩ := h
  rfl

theorem State.polled.mem : u.mem = s.mem := by
  obtain ⟨_, _, _, rfl⟩ := h
  rfl

theorem State.polled.cairn : u.cairn = s.cairn := by
  obtain ⟨_, _, _, rfl⟩ := h
  rfl

theorem State.polled.pathDown (a b : Nat) : u.pathDown a b = s.pathDown a b := by
  obtain ⟨_, _, _, rfl⟩ := h
  rfl

end polled

/-! ### The issue of a link -/

/-- The gallery's TLB translates each of the 16 addresses of a linked descriptor without an update. -/
def State.linkPlaces (s : State) (g : Nat) (lv : Level) (va : Nat) (at_ : Nat → Nat) : Prop :=
  ∀ i, i < 16 → ∃ k e, tlbFind (s.gal g).tlb ((va + 4 * i) % 2 ^ 48) = some k ∧ e = tlbAt (s.gal g).tlb k
    ∧ levelGrants lv false e.pte.toNat = true ∧ bit e.pte.toNat 1 = true ∧ e.se = false ∧ bit e.pte.toNat 10 = true
    ∧ at_ i = e.phys ((va + 4 * i) % 2 ^ 48)

section link
variable {s : State} {g : Nat} {lv : Level} {va : Nat} {at_ : Nat → Nat} (h : s.linkPlaces g lv va at_)
include h

theorem galTranslate_link {i : Nat} (hi : i < 16) :
    galTranslate g lv .desc ((va + 4 * i) % 2 ^ 48) 0 s = .got (at_ i, false) s := by
  obtain ⟨k, e, hfind, rfl, hlv, hr, hse, ha, hat⟩ := h i hi
  rw [galTranslate, hfind]
  simp only [hlv, granted_desc hr hse, needsUpdate_desc ha, hse, hat, Bool.not_true, Bool.not_false, Bool.or_self,
    Bool.false_eq_true, if_false, if_true]

theorem transDesc_link {n j : Nat} (hn : j + n ≤ 16) :
    transDesc g lv (va + 4 * j) n s = .got ((List.range' j n).map at_) s := by
  induction n generalizing j with
  | zero => rfl
  | succ n ih =>
    have hnext := ih (j := j + 1) (by omega)
    rw [show va + 4 * (j + 1) = va + 4 * j + 4 by omega] at hnext
    rw [transDesc, galTranslate_link h (by omega)]
    dsimp only
    rw [hnext, List.range'_succ, List.map_cons]

theorem fetchVirtual_got (hal : va % 4 = 0) {d : Desc} (hd : s.descAt g at_ d) :
    ∃ u, s.polled u ∧ fetchVirtual g lv va s = .got d [] u := by
  obtain ⟨u, hu, hgot⟩ := checkDesc_got hd lv
  have htrans := transDesc_link h (j := 0) (n := 16) (by decide)
  rw [Nat.mul_zero, Nat.add_zero, ← List.range_eq_range'] at htrans
  refine ⟨u, hu, ?_⟩
  rw [fetchVirtual, if_neg (not_not.mpr hal), htrans]
  exact hgot

end link

/-- Where no fallback waits, a link alone is issued. -/
theorem linkedDescriptorIssue_eq {s : State} {g : Fin 16} (hquar : (s.gal g).quar = false)
    (hfb : ∀ x ∈ (s.gal g).slots, x.2.fbWait = none) :
    exec (.linkedDescriptorIssue g) s = .next (issueLink g s) := by
  have hlist : (s.gal g).slots.filter (fun x => x.2.fbWait.isSome) = [] :=
    List.filter_eq_nil_iff.mpr fun x hx => by simp [hfb x hx]
  rw [exec_linkedDescriptorIssue, execLinkedDescriptorIssue, hquar, hlist]
  rfl

/-- The gallery with its oldest link taken. -/
def State.unlinked (s : State) (g : Nat) (qs : List GReq) : State :=
  s.setGal g { s.gal g with links := qs, linkWait := none }

/-- A link whose descriptor is in order takes the FREE slot at once. -/
theorem issueLink_accepts {s u : State} {g sl : Nat} {q : GReq} {qs : List GReq} {d : Desc}
    (hwait : (s.gal g).linkWait = none) (hlinks : (s.gal g).links = q :: qs) (hfree : s.freeSlot g = some sl)
    (hu : s.polled u) (hfetch : fetchVirtual g q.lv q.va.toNat s = .got d [] u) (hlut : d.hasLut = false) :
    issueLink g s = galAccept g sl d [] q false d.prio (u.unlinked g qs) := by
  have hfree' : (u.setGal g { u.gal g with links := qs, linkWait := some (q, d) }).freeSlot g = some sl := by
    rw [State.freeSlot_congr (s := s), hfree]
    rw [State.setGal_gal, if_pos rfl, hu.gal]
  have hset : (u.setGal g { u.gal g with links := qs, linkWait := some (q, d) }).setGal g
      { (u.setGal g { u.gal g with links := qs, linkWait := some (q, d) }).gal g with linkWait := none }
      = u.unlinked g qs := by
    rw [State.setGal_setGal, State.setGal_gal, if_pos rfl]
    rfl
  unfold issueLink
  rw [hwait, hlinks]
  dsimp only
  rw [hfetch]
  dsimp only
  unfold placeLink
  rw [hfree', State.setGal_gal, if_pos rfl]
  dsimp only
  rw [copyLut_none hlut]
  dsimp only
  rw [hset]

theorem linkedDescriptorIssue_accepts {s : State} {g : Fin 16} {q : GReq} {qs : List GReq} {sl : Nat} {d : Desc}
    {at_ : Nat → Nat} (hquar : (s.gal g).quar = false) (hfb : ∀ x ∈ (s.gal g).slots, x.2.fbWait = none)
    (hwait : (s.gal g).linkWait = none) (hlinks : (s.gal g).links = q :: qs) (hal : q.va.toNat % 4 = 0)
    (hfree : s.freeSlot g = some sl) (hplaces : s.linkPlaces g q.lv q.va.toNat at_) (hd : s.descAt g at_ d)
    (hlen : d.len ≠ 0) :
    ∃ t, exec (.linkedDescriptorIssue g) s = .next t ∧ s.accepted t g sl d q qs ∧ ∀ n, t.core n = s.core n := by
  obtain ⟨u, hu, hfetch⟩ := fetchVirtual_got hplaces hal hd
  obtain ⟨_, _, hlut, _⟩ := hd
  refine ⟨_, linkedDescriptorIssue_eq hquar hfb, ?_⟩
  rw [issueLink_accepts hwait hlinks hfree hu hfetch hlut]
  have hgal (i : Nat) : (u.unlinked g qs).gal i
      = if i = g then { s.gal g with links := qs, linkWait := none } else s.gal i := by
    rw [State.unlinked, State.setGal_gal, hu.gal, hu.gal]
  have hslots : ((u.unlinked g qs).gal g).slots = (s.gal g).slots := by rw [hgal, if_pos rfl]
  have hsb (i : Nat) : ((u.unlinked g qs).gal i).sb = (s.gal i).sb := by
    rw [hgal]
    split
    · next hi => rw [hi]
    · rfl
  have haccept := galAccept_accepted (s := u.unlinked g qs) (g := g) (sl := sl) hlen [] q d.prio
  have htouch := galAccept_accepting (s := u.unlinked g qs) (g := g) (sl := sl) hlen [] q d.prio
  rw [hgal, if_pos rfl] at haccept
  obtain ⟨⟨G, hrest⟩, _⟩ := htouch
  obtain ⟨_, _, _, rfl⟩ := hu
  refine ⟨State.accepted_congr haccept (State.slot_congr hslots) (fun i => State.token_congr (hsb i)) (fun _ _ =>
      rfl) rfl rfl
    rfl rfl rfl, fun n => ?_⟩
  rw [hrest]
  rfl

end Sys2Proof.Machine
end

section
/-! The judgement of a GISS (R206, R208, R209): the reply that the core goes on with, or the fault that it takes. -/

namespace Sys2Proof.Machine

/-! ### A core that leaves its wait -/

/-- A core that waits for no reply any more. -/
def Core.freed (c : Core) : Core := { c with frozen := none }

theorem Core.freed_sameRegs (c : Core) : c.sameRegs c.freed := Core.sameRegs.refl c

theorem State.calm_idle {s : State} {n : Nat} (h : s.calm n = true) : (s.core n).idle := by
  simp only [State.calm, Bool.and_eq_true, Option.isNone_iff_eq_none, List.isEmpty_iff, beq_iff_eq] at h
  obtain ⟨⟨⟨⟨⟨⟨⟨⟨⟨⟨_, _⟩, hdelay⟩, hslot⟩, hfl⟩, hstat⟩, hbr⟩, hbound⟩, hheld⟩, hres⟩, hdiv⟩ := h
  exact ⟨hdelay, hslot, hfl, hstat, hbr, hbound, hheld, hres, hdiv⟩

section frozen
variable {s v : State} {n : Nat} {f : Frozen} (hf : (s.core n).frozen = some f)
  (hidle : (s.core n).freed.idle) (hcore : v.core n = s.core n)
include hf hidle hcore

/-- The reply lands, and the core goes on. -/
theorem gissReply_replied (hloop : ∀ k, k < (s.core n).depth → (s.core n).le k ≠ (s.core n).seqNext 4) (w : Word) :
    (s.core n).replied ((gissReply n w v).core n) f w ∧ v.regsBut (gissReply n w v) (countRegs n)
      ∧ gissReply n w v = v.coresOf (gissReply n w v) := by
  have hfreed : (v.setCore n (s.core n).freed).core n = (s.core n).freed := by rw [State.setCore_core, if_pos rfl]
  have hreply : gissReply n w v
      = complete n 4 giss48.kind { writes := [.w f.dst w] } (v.setCore n (s.core n).freed) := by
    rw [gissReply, hcore, hf]
    rfl
  obtain ⟨⟨⟨⟨hpc, hsame⟩, _, hregs⟩, hrest⟩, hcores, hfrozen⟩ := complete_alone
    (u := v.setCore n (s.core n).freed) (n := n) (sz := 4) (by rw [hfreed]; exact hidle) (by rw [hfreed]; exact hloop)
    (kd := giss48.kind) rfl (e := { writes := [.w f.dst w] }) (Nat.le_refl 1) (Nat.le_refl 1)
  rw [← hreply, hfreed] at hpc hsame hrest hfrozen
  rw [← hreply] at hcores hregs
  refine ⟨⟨hfrozen, hpc, ?_, hrest⟩, hregs, hcores⟩
  exact (landWrites_sameRegs (s.core n).freed_sameRegs _).trans ((Core.addFlags_none _).trans hsame)

end frozen

/-! ### The fault of a GISS -/

section beside
variable {u v : State} {n : Nat} (hcores : v.cores = u.cores) (hregs : v.regs = u.regs) (hniche : v.niche = u.niche)
include hcores hregs

theorem State.faultTrap_congr (e : Exc) : v.faultTrap n e = u.faultTrap n e := by
  have hcore := State.core_congr hcores n
  unfold State.faultTrap excTrap State.causeLevel
  rw [hcore, State.fld_congr hregs]

include hniche

/-- A trap reads nothing but cores, registers and niche memories; what else the state has does not change it. -/
theorem State.trapped_congr {t : State} {k : Trap} (h : v.trapped t n k) (hv : v = { u with
      gals := v.gals, fresh := v.fresh, chams := v.chams, junc := v.junc }) :
    u.trapped { t with gals := u.gals, junc := u.junc, chams := u.chams } n k := by
  have hcore := fun m => State.core_congr hcores m
  have hreg := fun o => State.reg_congr hregs o
  unfold State.trapped State.frameAt State.nicheBut State.regsBut at h ⊢
  rw [hcore, hniche] at h
  obtain ⟨h1, h2, h3, h4, h5, h6, h7, h8, h9, h10, h11, h12, h13, h14, h15, h16, h17, hdet⟩ := h
  refine ⟨h1, h2, h3, h4, h5, h6, h7, h8, h9, h10, h11, h12, h13, h14, h15, h16, h17, fun hd => ?_⟩
  obtain ⟨hmem, hothers, hrest⟩ := hdet hd
  have hmem' : v.mem = u.mem := by rw [hv]
  refine ⟨hmem.trans hmem', fun m hm => (hothers m hm).trans (hcore m), fun he hl => ?_⟩
  obtain ⟨hall, hbut⟩ := hrest he hl
  refine ⟨?_, fun o ho => (hbut o ho).trans (hreg o)⟩
  rw [hv] at hall
  rw [hall]
  rfl

end beside

/-- An exception of an instruction changes no gallery. -/
theorem instrExc_gals {i : Shape} (hi : i.routine = none) {u : State} {n : Nat} (hidle : (u.core n).idle) {e : Exc}
    (hlog : e.code ∉ [0x0D, 0x12, 0x20, 0x21, 0x22]) (hframed : u.framed n (u.causeLevel n e.code)) (s0 : State) :
    (instrExc i n e s0 u).gals = u.gals := by
  obtain ⟨v, hv, hentry⟩ := instrExc_entry hi hidle hlog hframed s0
  rw [hentry, State.entry_gals, hv.gals]

end Sys2Proof.Machine
end

section
/-! The outcomes of a judged GISS (R206, R208, R209). -/

namespace Sys2Proof.Machine

/-- The gallery with its oldest request taken. -/
def State.dequeued (s : State) (g : Nat) (qs : List GReq) : State := s.setGal g { s.gal g with reqs := qs }

section dequeued
variable (s : State) (g : Nat) (qs : List GReq)

theorem State.dequeued_gal (i : Nat) : (s.dequeued g qs).gal i = if i = g then { s.gal g with reqs := qs } else
    s.gal i := by
  rw [State.dequeued, State.setGal_gal]

theorem State.dequeued_same : (s.dequeued g qs).gal g = { s.gal g with reqs := qs } := by
  rw [State.dequeued_gal, if_pos rfl]

theorem State.dequeued_sb (i : Nat) : ((s.dequeued g qs).gal i).sb = (s.gal i).sb := by
  rw [State.dequeued_gal]
  split
  · next hi => rw [hi]
  · rfl

theorem State.dequeued_slots : ((s.dequeued g qs).gal g).slots = (s.gal g).slots := by rw [State.dequeued_same]

theorem State.dequeued_core (n : Nat) : (s.dequeued g qs).core n = s.core n := State.setGal_core ..

theorem State.dequeued_rest : ∃ G, s.dequeued g qs = { s with gals := G } := s.setGal_rest ..

theorem State.dequeued_galServes (a : Nat) : (s.dequeued g qs).galServes g a = s.galServes g a := by
  obtain ⟨G, hG⟩ := s.dequeued_rest g qs
  rw [hG]
  unfold State.galServes
  rw [State.performs_congr (s := s) (t := { s with gals := G }) rfl rfl rfl rfl rfl rfl rfl rfl]
  rfl

theorem State.dequeued_pathDown (a b : Nat) : (s.dequeued g qs).pathDown a b = s.pathDown a b := rfl

theorem State.dequeued_cont (w : Nat) : (s.dequeued g qs).cont w = s.cont w := by
  obtain ⟨G, hG⟩ := s.dequeued_rest g qs
  rw [hG]
  rfl

end dequeued

/-- What a judgement of a request of a core leaves. -/
def Judged.finish (s : State) (core : Nat) : Judged → State
  | .wait s2 => keepWaiting s s2
  | .reply w s2 => gissReply core w s2
  | .fault sub s2 => gissFault core sub s s2

/-- The oldest request is judged: no waiting link goes first. -/
theorem gissJudge_eq {s : State} {g : Nat} {q : GReq} {qs : List GReq} (hreqs : (s.gal g).reqs = q :: qs)
    (hiso : s.junc.isolated = false)
    (hlink : (s.gal g).links = [] ∧ (s.gal g).linkWait = none ∨ s.freeSlot g = none) :
    gissJudge g s = (judgeGiss g q (s.dequeued g qs)).finish s q.core := by
  have hno : ¬ (s.junc.isolated = true ∨ (((s.gal g).links ≠ [] ∨ (s.gal g).linkWait.isSome = true)
      ∧ (s.freeSlot g).isSome = true)) := by
    rintro (h | ⟨h, hfree⟩)
    · simp [hiso] at h
    · rcases hlink with ⟨hl, hw⟩ | hf
      · simp [hl, hw] at h
      · simp [hf] at hfree
  rw [gissJudge, hreqs]
  dsimp only
  rw [if_neg hno]
  rfl

theorem galRefuse_cores (g core st : Nat) (s : State) : (galRefuse g core st s).cores = s.cores := logCairn_cores ..

theorem galRefuse_gals (g core st : Nat) (s : State) : (galRefuse g core st s).gals = s.gals := logCairn_gals ..

section judge
variable {s : State} {g : Nat} {q : GReq} {qs : List GReq}

/-! ### Refusals -/

theorem judgeGiss_quar (hquar : (s.gal g).quar = true) : judgeGiss g q (s.dequeued g qs)
    = .reply (giReply 2 0) (galRefuse g q.core 2 (s.dequeued g qs)) := by
  rw [judgeGiss, State.dequeued_same]
  exact if_pos hquar

theorem judgeGiss_notOwner (hquar : (s.gal g).quar = false) (howner : q.core ≠ s.galOwner g) :
    judgeGiss g q (s.dequeued g qs) = .reply (giReply 3 0) (galRefuse g q.core 3 (s.dequeued g qs)) := by
  rw [judgeGiss, State.dequeued_same, if_neg (by simp [hquar])]
  exact if_pos howner

section owner
variable (hquar : (s.gal g).quar = false) (howner : q.core = s.galOwner g)
include hquar howner

/-- The owner's request finds no FREE slot. -/
theorem judgeGiss_full (hfree : s.freeSlot g = none) : judgeGiss g q (s.dequeued g qs)
    = .reply (giReply 1 0) ((s.dequeued g qs).bump (R.GAL_FULLCNT g) F.GAL_FULLCNT_FULLCNT) := by
  have hnone : (s.dequeued g qs).freeSlot g = none := by rw [State.freeSlot_congr (State.dequeued_slots ..), hfree]
  rw [judgeGiss, State.dequeued_same, if_neg (by simp [hquar]), hnone]
  exact if_neg (not_not.mpr howner)

variable {sl : Nat} (hfree : s.freeSlot g = some sl) {as : List Nat}
  (has : as = (List.range 16).map fun i => q.pa + 4 * i)
include hfree has

theorem judgeGiss_accept {u : State} {d : Desc} {lut : List (Word × Bool)}
    (hfetch : fetchDesc g q.lv as (s.dequeued g qs) = .got d lut u) :
    judgeGiss g q (s.dequeued g qs) = .reply (giReply 0 sl) (galAccept g sl d lut q false d.prio u) := by
  have hsome : (s.dequeued g qs).freeSlot g = some sl := by rw [State.freeSlot_congr (State.dequeued_slots ..), hfree]
  rw [judgeGiss, State.dequeued_same, if_neg (by simp [hquar]), hsome, ← has, hfetch]
  exact if_neg (not_not.mpr howner)

theorem judgeGiss_fault {u : State} {code : Nat} (hfetch : fetchDesc g q.lv as (s.dequeued g qs) = .bad code u) :
    judgeGiss g q (s.dequeued g qs) = .fault (code + 256 * g) u := by
  have hsome : (s.dequeued g qs).freeSlot g = some sl := by rw [State.freeSlot_congr (State.dequeued_slots ..), hfree]
  rw [judgeGiss, State.dequeued_same, if_neg (by simp [hquar]), hsome, ← has, hfetch]
  exact if_neg (not_not.mpr howner)

end owner

end judge

/-- A trap of the core finds its room whether or not the core waits for a reply. -/
theorem State.framed.freed {s v : State} {n code : Nat} (h : s.framed n (s.causeLevel n code))
    (hcore : v.core n = (s.core n).freed) (hregs : v.regs = s.regs) : v.framed n (v.causeLevel n code) := by
  unfold State.framed State.frameAt State.causeLevel
  rw [hcore, State.fld_congr hregs]
  exact h

/-! ### Replies -/

section reply
variable {s : State} {g : Fin 16} {q : GReq} {qs : List GReq} {f : Frozen} (hreqs : (s.gal g).reqs = q :: qs)
  (hiso : s.junc.isolated = false) (hlink : (s.gal g).links = [] ∧ (s.gal g).linkWait = none ∨ s.freeSlot g = none)
include hreqs hiso hlink

section replied
variable (hf : (s.core q.core).frozen = some f) (hidle : (s.core q.core).freed.idle)
  (hloop : ∀ k, k < (s.core q.core).depth → (s.core q.core).le k ≠ (s.core q.core).seqNext 4)
include hf hidle hloop

/-- A judgement that is answered: the galleries and the log stay as it has left them. -/
theorem gissJudgement_replies {w : Word} {v : State} (hjudge : judgeGiss g q (s.dequeued g qs) = .reply w v)
    (hcore : v.core q.core = s.core q.core) :
    ∃ t, exec (.gissJudgement g) s = .next t ∧ (s.core q.core).replied (t.core q.core) f w
      ∧ v.regsBut t (countRegs q.core) ∧ t.gals = v.gals ∧ t.mem = v.mem ∧ t.cairn = v.cairn := by
  obtain ⟨hreplied, hregs, hrest⟩ := gissReply_replied hf hidle hcore hloop w
  refine ⟨_, rfl, ?_⟩
  rw [gissJudge_eq hreqs hiso hlink, hjudge, Judged.finish]
  generalize gissReply q.core w v = t at hreplied hregs hrest
  rw [hrest] at hreplied hregs ⊢
  exact ⟨hreplied, hregs, rfl, rfl, rfl⟩

theorem gissJudgement_refuses {w : Word} {st : Nat}
    (hjudge : judgeGiss g q (s.dequeued g qs) = .reply w (galRefuse g q.core st (s.dequeued g qs))) :
    ∃ t, exec (.gissJudgement g) s = .next t ∧ (s.core q.core).replied (t.core q.core) f w
      ∧ (t.gal g).reqs = qs ∧ (t.gal g).slots = (s.gal g).slots := by
  have hcore : (galRefuse g q.core st (s.dequeued g qs)).core q.core = s.core q.core := by
    rw [State.core_congr (galRefuse_cores ..), State.dequeued_core]
  obtain ⟨t, hnext, hreplied, _, hgals, _⟩ := gissJudgement_replies hreqs hiso hlink hf hidle hloop hjudge hcore
  have hgal : t.gal g = { s.gal g with reqs := qs } := by
    rw [State.gal, hgals, galRefuse_gals, ← State.gal, State.dequeued_same]
  refine ⟨t, hnext, hreplied, ?_, ?_⟩
  · rw [hgal]
  · rw [hgal]

theorem gissJudgement_full (hcoreLt : q.core < 16) (hquar : (s.gal g).quar = false) (howner : q.core = s.galOwner g)
    (hfree : s.freeSlot g = none) :
    ∃ t, exec (.gissJudgement g) s = .next t ∧ (s.core q.core).replied (t.core q.core) f (giReply 1 0)
      ∧ (t.gal g).reqs = qs ∧ (t.gal g).slots = (s.gal g).slots
      ∧ t.fld (R.GAL_FULLCNT g) F.GAL_FULLCNT_FULLCNT
        = (s.fld (R.GAL_FULLCNT g) F.GAL_FULLCNT_FULLCNT + 1) % 2 ^ F.GAL_FULLCNT_FULLCNT.w ∧ t.cairn = s.cairn := by
  have hjudge := judgeGiss_full (qs := qs) hquar howner hfree
  have hcore : ((s.dequeued g qs).bump (R.GAL_FULLCNT g) F.GAL_FULLCNT_FULLCNT).core q.core = s.core q.core := by
    rw [State.bump_core, State.dequeued_core]
  obtain ⟨t, hnext, hreplied, hregs, hgals, _, hcairn⟩ :=
    gissJudgement_replies hreqs hiso hlink hf hidle hloop hjudge hcore
  have hgal : t.gal g = { s.gal g with reqs := qs } := by
    rw [State.gal, hgals, State.bump_gals, ← State.gal, State.dequeued_same]
  have hcount : R.GAL_FULLCNT g ∉ countRegs q.core :=
    galReg_notCount hcoreLt (Nat.le_trans (by decide : 0x1000000 ≤ 0x1000024) (Nat.le_add_right ..))
  refine ⟨t, hnext, hreplied, ?_, ?_, ?_, ?_⟩
  · rw [hgal]
  · rw [hgal]
  · rw [State.fld_of_reg (hregs _ hcount), State.bump, State.setFld_fld_same _ _ _ _ (by decide)]
    rfl
  · rw [hcairn, State.bump_cairn, State.dequeued, State.setGal_cairn]

/-- An instruction with elements, whose descriptor is in order, is accepted. -/
theorem gissJudgement_accepts {sl : Nat} {d : Desc} (hquar : (s.gal g).quar = false) (howner : q.core = s.galOwner g)
    (hfree : s.freeSlot g = some sl) (hd : s.descAt g (fun i => q.pa + 4 * i) d) (hlen : d.len ≠ 0) :
    ∃ t, exec (.gissJudgement g) s = .next t ∧ (s.core q.core).replied (t.core q.core) f (giReply 0 sl)
      ∧ (t.gal g).reqs = qs ∧ s.accepted t g sl d q (s.gal g).links := by
  have hd' : (s.dequeued g qs).descAt g (fun i => q.pa + 4 * i) d := by
    obtain ⟨h16, hcheck, hlut, hwords⟩ := hd
    refine ⟨h16, hcheck, hlut, fun i hi => ?_⟩
    rw [State.dequeued_galServes, State.dequeued_cont]
    exact hwords i hi
  obtain ⟨u, hu, hfetch⟩ := fetchDesc_got hd' q.lv
  have hjudge := judgeGiss_accept hquar howner hfree rfl hfetch
  have haccept := galAccept_accepted (s := u) (g := g) (sl := sl) hlen [] q d.prio
  obtain ⟨⟨G, htouch⟩, hgal⟩ := galAccept_accepting (s := u) (g := g) (sl := sl) hlen [] q d.prio
  generalize galAccept g sl d [] q false d.prio u = v at hjudge haccept htouch hgal
  have hcores : v.cores = s.cores := by
    rw [htouch]
    exact hu.cores.trans (State.setGal_cores ..)
  obtain ⟨t, hnext, hreplied, _, hgals, hmem, hcairn⟩ :=
    gissJudgement_replies hreqs hiso hlink hf hidle hloop hjudge (State.core_congr hcores _)
  refine ⟨t, hnext, hreplied, ?_, ?_⟩
  · rw [State.gal, hgals, ← State.gal, hgal g, hu.gal, State.dequeued_same]
  · rw [hu.gal, State.dequeued_same] at haccept
    refine State.accepted_congr haccept (fun i => ?_) (fun i k => ?_) (fun a b => ?_) ?_ ?_ hgals hmem hcairn
    · rw [State.slot_of_gals hu.gals, State.slot_congr (State.dequeued_slots ..)]
    · rw [State.token, hu.gal, ← State.token, State.token_congr (State.dequeued_sb ..)]
    · rw [hu.pathDown, State.dequeued_pathDown]
    · exact hu.mem.trans (State.setGal_mem ..)
    · exact hu.cairn.trans (State.setGal_cairn ..)

end replied

/-! ### The fault -/

/-- A word that is no descriptor word makes the core take its fault. -/
theorem gissJudgement_faults {sl : Nat} {w : Word} {u : State} (hf : (s.core q.core).frozen = some f)
    (hidle : (s.core q.core).freed.idle) (hu : u = s.setCore q.core (s.core q.core).freed)
    (hquar : (s.gal g).quar = false) (howner : q.core = s.galOwner g) (hfree : s.freeSlot g = some sl)
    (hserves : ∀ i, i < 16 → s.galServes g (q.pa + 4 * i) = true) (hal : q.pa % 4 = 0)
    (hw : ∀ i, i < 16 → decodeContainer (s.cont ((q.pa + 4 * i) / 4)) = .clean w) (htag : w.tag ≠ Tags.desc)
    (hframed : s.framed q.core (s.causeLevel q.core 0x0F)) :
    ∃ t, exec (.gissJudgement g) s = .next t
      ∧ u.trapped { t with gals := u.gals, junc := u.junc, chams := u.chams } q.core
          (u.faultTrap q.core { code := 0x0F, sub := 0x10 + 256 * g, eval := f.descVa.toNat })
      ∧ (t.gal g).slots = (s.gal g).slots := by
  obtain ⟨p, hp, hfetch⟩ := fetchDesc_tag (s := s.dequeued g qs) (g := g) (at_ := fun i => q.pa + 4 * i) (w := fun _
      => w)
    (fun i hi => ⟨by rw [State.dequeued_galServes]; exact hserves i hi, by omega,
      by rw [State.dequeued_cont]; exact hw i hi⟩) (i := 0) (by decide) htag q.lv
  have hjudge := judgeGiss_fault hquar howner hfree rfl hfetch
  have hp' : p.setCore q.core (s.core q.core).freed = { u with
      gals := (p.setCore q.core (s.core q.core).freed).gals
      fresh := (p.setCore q.core (s.core q.core).freed).fresh
      chams := (p.setCore q.core (s.core q.core).freed).chams
      junc := (p.setCore q.core (s.core q.core).freed).junc } := by
    obtain ⟨G, hG⟩ := s.dequeued_rest g qs
    obtain ⟨_, _, _, rfl⟩ := hp
    rw [hu, hG]
    rfl
  have hcore : p.core q.core = s.core q.core := by
    rw [State.core_congr hp.cores, State.dequeued_core]
  have hgal : (p.gal g).slots = (s.gal g).slots := by rw [hp.gal, State.dequeued_slots]
  have hfault (sub : Nat) : gissFault q.core sub s p = instrExc giss48 q.core
      { code := 0x0F, sub := sub, eval := f.descVa.toNat } s (p.setCore q.core (s.core q.core).freed) := by
    rw [gissFault, hcore, hf]
    rfl
  have hjudged : gissJudge g s = instrExc giss48 q.core
      { code := 0x0F, sub := 0x10 + 256 * g, eval := f.descVa.toNat } s (p.setCore q.core (s.core q.core).freed) := by
    rw [gissJudge_eq hreqs hiso hlink, hjudge]
    exact hfault _
  refine ⟨_, rfl, ?_⟩
  rw [hjudged]
  have hslots : ((p.setCore q.core (s.core q.core).freed).gal g).slots = (s.gal g).slots := by
    rw [State.setCore_gal, hgal]
  generalize p.setCore q.core (s.core q.core).freed = v at hp' hslots
  have hcores : v.cores = u.cores := by rw [hp']
  have hregs : v.regs = u.regs := by rw [hp']
  have hfreed : v.core q.core = (s.core q.core).freed := by
    rw [State.core_congr hcores, hu, State.setCore_core, if_pos rfl]
  have hidle' : (v.core q.core).idle := by
    rw [hfreed]
    exact hidle
  have hframed' := hframed.freed hfreed (hregs.trans (by rw [hu, State.setCore_regs]))
  have hlog : 0x0F ∉ [0x0D, 0x12, 0x20, 0x21, 0x22] := by decide
  have hcode : 0x0F < 2 ^ 11 := by decide
  refine ⟨?_, ?_⟩
  · rw [← State.faultTrap_congr hcores hregs]
    exact State.trapped_congr hcores hregs (by rw [hp'])
      (instrExc_trapped (State.aside.refl v q.core) hidle' rfl hlog hcode hframed' s) hp'
  · rw [State.gal, instrExc_gals rfl hidle' hlog hframed' s, ← State.gal, hslots]

end reply

end Sys2Proof.Machine
end

section
/-! Gallery requests of a core: the clauses put together (R203, R206, R208 to R211, R237, R416, R417, R419, R420). -/

namespace Sys2Proof.Machine

/-- A GISS is sent, or raises the ALIGN of its address. -/
theorem giss_clause {s : State} {n g : Fin 16} {d a b : RegNo} {va pa k : Nat} (h : s.ready n 4 = true)
    (hiso : s.junc.isolated = false) (htokens : s.tokensDone n g) (htag : ((s.core n).getW a).tag ∈ addrTags)
    (hva : va = ((s.core n).getW a).pay.toNat) (hplace : s.descPlace n va pa k) {i : Instr}
    (hi : i = .giss n d a g ∨ (i = .gissr n d a b ∧ ((s.core n).getW b).tag ∈ intTags ∧ ((s.core n).getW
        b).pay.toNat = g)) :
    (va % 4 = 0 → (va + 63) / 2 ^ k = va / 2 ^ k → ∃ t, exec i s = .next t
        ∧ s.gissSent t n d g ((s.core n).getW a).pay pa)
      ∧ ((va % 4 ≠ 0 ∨ (va + 63) / 2 ^ k ≠ va / 2 ^ k) → s.framed n (s.causeLevel n 6) → ∃ t, exec i s = .next t
        ∧ s.trapped t n (s.faultTrap n { code := 6, eval := va })) := by
  subst hva
  obtain ⟨go, hexec, hgo⟩ := giss_exec htag hi
  refine ⟨fun hal hpage => ?_, fun hbad hframed => ?_⟩
  · refine giss_sends h hexec fun u hu => ?_
    rw [hgo u hu]
    exact gissSend_sent (hu.descPlace hplace) (by rw [hu.junc, hiso]) (hu.tokensDone htokens) hal hpage d
  · refine giss_raises h hexec (e := excAlign _) (by simp [excAlign]) (by simp [excAlign]) hframed fun u hu => ?_
    rw [hgo u hu]
    exact gissSend_align (hu.descPlace hplace) hbad d

/-- Settles O56: the request of a GISS goes through a core that is ready; its judgement, the issue of a link, a GRESUME
and the TLB instructions are each followed to their end. -/
theorem galleryRequests : Obligations.GalleryRequests := by
  refine ⟨?_, ?_, ?_, ?_, ?_⟩
  · rintro n g d a b s c va pa k rfl h hiso htokens htag hva hplace
    refine ⟨fun i hi => ?_, fun hbad hframed => gissr_ill h hbad hframed d⟩
    obtain ⟨hsent, hraised⟩ := giss_clause h hiso htokens htag hva hplace hi
    refine ⟨fun hal hpage => ?_, hraised⟩
    obtain ⟨t, hnext, hs⟩ := hsent hal hpage
    exact ⟨t, hnext, hs.reqs, hs.own, fun m hm => hs.others m (Fin.val_ne_of_ne hm), hs.gals, hs.regs, hs.rest⟩
  · rintro g q qs s u c f hlt hreqs hiso hlink rfl hf hu hcalm hloop
    have hidle : (s.core q.core).freed.idle := by
      have hidle := State.calm_idle hcalm
      rwa [hu, State.setCore_core, if_pos rfl] at hidle
    refine ⟨fun hquar => ?_, fun hquar hne => ?_, fun hquar howner hfree => ?_,
      fun sl d hquar howner hfree hd hlen => ?_, fun sl w hquar howner hfree hserves hal hw htag hframed => ?_⟩
    · exact gissJudgement_refuses hreqs hiso hlink hf hidle hloop (judgeGiss_quar hquar)
    · exact gissJudgement_refuses hreqs hiso hlink hf hidle hloop (judgeGiss_notOwner hquar hne)
    · exact gissJudgement_full hreqs hiso hlink hf hidle hloop hlt hquar howner hfree
    · exact gissJudgement_accepts hreqs hiso hlink hf hidle hloop hquar howner hfree hd hlen
    · exact gissJudgement_faults hreqs hiso hlink hf hidle hu hquar howner hfree hserves hal hw htag hframed
  · rintro g q qs sl d at_ s hquar hfb hwait hlinks hal hfree hplaces hd hlen
    exact linkedDescriptorIssue_accepts hquar hfb hwait hlinks hal hfree hplaces hd hlen
  · rintro n g d sl s c w rfl h hiso htokens hroom hw
    obtain ⟨t, hnext, hran, hgalled⟩ := gresume_runs (d := d) h hiso htokens hroom hw
    obtain ⟨hslots, hdesc, hst⟩ := State.resumed_slots hgalled.gals
    refine ⟨t, hnext, hran, hslots, hdesc, hst, ?_⟩
    rw [hgalled.gals]
    exact hgalled
  · rintro n g a b e s c x y z r rfl h hpl hx hy hz hroom
    refine ⟨fun hpte hva htab hcp hbig htop hal hr => ?_, fun p hp htag => ?_⟩
    · exact gtlbw_runs h hpl hroom hx hy hz hpte hva htab hcp hbig htop hal hr
    · obtain rfl | rfl := List.mem_pair.mp hp
      · exact gtlbi_runs h hpl hroom hx htag
      · exact gtlbia_runs h hpl hroom

end Sys2Proof.Machine
end

section
/-! Tokens and the start of an instruction (R214 to R217 and R220): a scoreboard bit that is set lets the slots in WAIT
go on. -/

namespace Sys2Proof.Machine

/-! ### A slot judged -/

/-- Only an instruction without elements completes as it becomes READY. -/
theorem zeroWith_of_len {set : Nat → Nat → State → State} {g sl : Nat} {s : State} (h : (s.slot g sl).desc.len ≠ 0) :
    zeroWith set g sl s = s := if_neg fun hz => h hz.1

theorem judgeWith_of_not_wait {g sl : Nat} {s : State} (h : (s.slot g sl).st ≠ .wait)
    (set : Nat → Nat → State → State) : judgeWith set g sl s = s := if_pos h

/-- For a slot with elements it does not matter how the tokens of others would be posted. -/
theorem judgeWith_congr {g sl : Nat} {s : State} (h : (s.slot g sl).st = .wait → (s.slot g sl).desc.len ≠ 0)
    (set set' : Nat → Nat → State → State) : judgeWith set g sl s = judgeWith set' g sl s := by
  by_cases hst : (s.slot g sl).st = .wait
  · have hzero (f : Nat → Nat → State → State) (y : Slot) (hy : y.desc = (s.slot g sl).desc) :
        zeroWith f g sl (enterReady g sl (s.setSlot g sl y)) = enterReady g sl (s.setSlot g sl y) := by
      refine zeroWith_of_len ?_
      rw [enterReady_slot, if_pos ⟨rfl, rfl⟩, State.setSlot_slot_same, hy]
      exact h hst
    unfold judgeWith
    rw [if_neg (not_not.mpr hst), if_neg (not_not.mpr hst)]
    dsimp only
    split
    · rfl
    · refine Eq.trans (hzero set _ ?_) (hzero set' _ ?_).symm
      · rfl
      · rfl
  · rw [judgeWith_of_not_wait hst, judgeWith_of_not_wait hst]

theorem judgeWith_eq_judgeWait {g sl : Nat} {s : State} (h : (s.slot g sl).st = .wait → (s.slot g sl).desc.len ≠ 0)
    (set : Nat → Nat → State → State) : judgeWith set g sl s = judgeWait g sl s := by
  rw [judgeWait, judgeWith_congr h set setToken]

/-- What judgements in gallery g leave alone. -/
structure State.judgedIn (s t : State) (g : Nat) : Prop where
  rest : t = { s with gals := t.gals }
  others : ∀ h, h ≠ g → t.gal h = s.gal h
  own : (s.gal g).slotted (t.gal g)

theorem State.judgedIn.refl (s : State) (g : Nat) : s.judgedIn s g := ⟨rfl, fun _ _ => rfl, rfl⟩

theorem State.judgedIn.trans {s t u : State} {g : Nat} (h : s.judgedIn t g) (h' : t.judgedIn u g) : s.judgedIn u g := by
  refine ⟨?_, fun i hi => (h'.others i hi).trans (h.others i hi), Gallery.slotted_change.trans _ _ _ h.own h'.own⟩
  rw [h'.rest, h.rest]

theorem State.judgedIn.token {s t : State} {g : Nat} (h : s.judgedIn t g) (k : Nat) : t.token g k = s.token g k := by
  unfold State.token
  rw [h.own]

theorem State.setSlot_gal_ne (s : State) {g h : Nat} (hh : h ≠ g) (sl : Nat) (x : Slot) :
    (s.setSlot g sl x).gal h = s.gal h := by rw [State.setSlot, State.setGal_gal, if_neg hh]

theorem State.setSlot_judgedIn (s : State) (g sl : Nat) (x : Slot) : s.judgedIn (s.setSlot g sl x) g :=
  ⟨rfl, fun _ hh => s.setSlot_gal_ne hh sl x, (s.setSlot_slotted g sl x).gal g⟩

theorem enterReady_judgedIn (g sl : Nat) (s : State) : s.judgedIn (enterReady g sl s) g := by
  refine ⟨rfl, fun h hh => ?_, (enterReady_slotted g sl s).gal g⟩
  rw [enterReady_eq, State.setSlot_gal_ne _ hh, State.readied, State.setGal_gal, if_neg hh]

/-- A slot that is judged under a state's scoreboard, if it waits. -/
def Slot.heard (s : State) (g : Nat) (x y : Slot) : Prop :=
  if x.st = .wait then ∃ k, y = x.judged (s.token g x.desc.await0) (s.token g x.desc.await1) k else y = x

theorem Slot.waitsNot_iff (s : State) (g : Nat) (x : Slot) : x.waitsNot s g = true ↔
    (x.aw0 = true → s.token g x.desc.await0 = true) ∧ (x.aw1 = true → s.token g x.desc.await1 = true)
      ∧ x.sbw = false := by
  cases h0 : x.aw0 <;> cases h1 : x.aw1 <;> cases hb : x.sbw <;> simp [Slot.waitsNot, h0, h1, hb]

/-- A judged slot is READY if it waits for nothing, and has its state else. -/
theorem Slot.heard.st {s : State} {g : Nat} {x y : Slot} (h : x.heard s g y) :
    y.st = if x.st = .wait ∧ x.waitsNot s g = true then .ready else x.st := by
  unfold Slot.heard at h
  split at h
  · next hst =>
    obtain ⟨k, rfl⟩ := h
    rw [Slot.judged_st hst, hst]
    simp only [← Slot.waitsNot_iff, true_and]
  · next hst =>
    rw [h, if_neg fun hw => hst hw.1]

theorem Slot.heard_of_over {s : State} {g : Nat} {x y : Slot} (h : x.heard s g y) (hx : x.st ≠ .wait) : y = x := by
  rwa [Slot.heard, if_neg hx] at h

theorem judgeWait_judgedIn {g sl : Nat} {s : State} (h : (s.slot g sl).st = .wait → (s.slot g sl).desc.len ≠ 0) :
    s.judgedIn (judgeWait g sl s) g := by
  by_cases hst : (s.slot g sl).st = .wait
  · rw [judgeWait_eq rfl hst (h hst)]
    dsimp only
    split
    · exact s.setSlot_judgedIn g sl _
    · exact (s.setSlot_judgedIn g sl _).trans (enterReady_judgedIn g sl _)
  · rw [judgeWait, judgeWith_of_not_wait hst]
    exact State.judgedIn.refl s g

theorem judgeWait_heard {g sl : Nat} {s : State} (h : (s.slot g sl).st = .wait → (s.slot g sl).desc.len ≠ 0) :
    (s.slot g sl).heard s g ((judgeWait g sl s).slot g sl) := by
  unfold Slot.heard
  split
  · next hst =>
    obtain ⟨k, hk⟩ := judgeWait_slot rfl hst (h hst) g sl
    rw [if_pos ⟨rfl, rfl⟩] at hk
    exact ⟨k, hk⟩
  · next hst => rw [judgeWait, judgeWith_of_not_wait hst]

theorem judgeWait_slotsBut {g sl : Nat} {s : State} (h : (s.slot g sl).st = .wait → (s.slot g sl).desc.len ≠ 0) :
    s.slotsBut (judgeWait g sl s) g sl := fun i hi => by
  by_cases hst : (s.slot g sl).st = .wait
  · obtain ⟨_, hk⟩ := judgeWait_slot rfl hst (h hst) g i
    rw [hk, if_neg fun hh => hi hh.2]
  · rw [judgeWait, judgeWith_of_not_wait hst]

/-- Slots judged one after the other, each of them with elements if it waits. -/
theorem judgeWith_fold (set : Nat → Nat → State → State) (g : Nat) {l : List Nat} (hl : l.Nodup) {s : State}
    (h : ∀ i ∈ l, (s.slot g i).st = .wait → (s.slot g i).desc.len ≠ 0) :
    s.judgedIn (l.foldl (fun s sl => judgeWith set g sl s) s) g
      ∧ ∀ i, if i ∈ l then (s.slot g i).heard s g ((l.foldl (fun s sl => judgeWith set g sl s) s).slot g i)
        else (l.foldl (fun s sl => judgeWith set g sl s) s).slot g i = s.slot g i := by
  induction l generalizing s with
  | nil => exact ⟨State.judgedIn.refl s g, fun i => by simp⟩
  | cons sl l ih =>
    obtain ⟨hsl, hl⟩ := List.nodup_cons.mp hl
    obtain ⟨hhead, htail⟩ := List.forall_mem_cons.mp h
    have hin := judgeWait_judgedIn hhead
    have hbut := judgeWait_slotsBut hhead
    have hheard := judgeWait_heard hhead
    rw [List.foldl_cons, judgeWith_eq_judgeWait hhead]
    generalize judgeWait g sl s = t at hin hbut hheard
    have hne {i : Nat} (hi : i ∈ l) : i ≠ sl := fun he => hsl (he ▸ hi)
    obtain ⟨hrest, hslots⟩ := ih hl (s := t) fun i hi => by
      rw [hbut i (hne hi)]
      exact htail i hi
    refine ⟨hin.trans hrest, fun i => ?_⟩
    have hi := hslots i
    by_cases hmem : i ∈ l
    · rw [if_pos hmem, hbut i (hne hmem), Slot.heard, hin.token, hin.token] at hi
      rw [if_pos (List.mem_cons_of_mem sl hmem)]
      exact hi
    · rw [if_neg hmem] at hi
      by_cases he : i = sl
      · rw [if_pos (he ▸ List.mem_cons_self), hi, he]
        exact hheard
      · rw [if_neg (by simp [he, hmem]), hi, hbut i he]

/-! ### A token set -/

/-- State t is s with token k set in gallery g and the slots there that wait judged. -/
structure State.tokenSet (s t : State) (g k : Nat) : Prop where
  rest : t = { s with gals := t.gals }
  others : ∀ h, h ≠ g → t.gal h = s.gal h
  token : ∀ j, t.token g j = if j = k then true else s.token g j
  slot : ∀ i, if i < 32 then (s.slot g i).heard t g (t.slot g i) else t.slot g i = s.slot g i

theorem putToken_gal_ne {g h : Nat} (hh : h ≠ g) (k : Nat) (b : Bool) (s : State) :
    (putToken g k b s).gal h = s.gal h := by
  unfold putToken
  split
  · rfl
  · rw [State.setGal_gal, if_neg hh]

theorem putToken_rest (g k : Nat) (b : Bool) (s : State) :
    putToken g k b s = { s with gals := (putToken g k b s).gals } := by
  obtain ⟨⟨G, hG⟩, _⟩ := putToken_boarded g k b s
  rw [hG]

theorem State.token_zero (s : State) (g : Nat) : s.token g 0 = true := rfl

theorem putToken_set (g k j : Nat) (s : State) :
    (putToken g k true s).token g j = if j = k then true else s.token g j := by
  rw [putToken_token]
  by_cases hj : j = k
  · by_cases hk : k = 0
    · simp [hj, hk, State.token_zero]
    · simp [hj, hk]
  · simp [hj]

theorem setTokens_succ (n g k : Nat) (s : State) : setTokens (n + 1) g k s
    = (List.range 32).foldl (fun s sl => judgeWith (setTokens n) g sl s) (putToken g k true s) := rfl

/-- R215 and R217: setting a token judges the slots in WAIT. -/
theorem setToken_tokenSet {s : State} (hh : s.pf.halted = false) {g : Nat} (he : s.noEmptyWait g) (k : Nat) :
    s.tokenSet (setToken g k s) g k := by
  have hset : setToken g k s = setTokens (32 + 1) g k s := if_neg (by simp [hh])
  have hput := (putToken_boarded g k true s).slot_boarded g
  have hrest := putToken_rest g k true s
  have hothers (h : Nat) (hne : h ≠ g) := putToken_gal_ne hne k true s
  have htoken (j : Nat) := putToken_set g k j s
  rw [hset, setTokens_succ]
  generalize putToken g k true s = u at hput hrest hothers htoken
  obtain ⟨hin, hslots⟩ := judgeWith_fold (setTokens 32) g (l := List.range 32) List.nodup_range (s := u)
    fun i hi hst => by
      rw [hput] at hst ⊢
      exact he i (List.mem_range.mp hi) hst
  generalize (List.range 32).foldl (fun s sl => judgeWith (setTokens 32) g sl s) u = t at hin hslots
  refine ⟨?_, fun h hne => (hin.others h hne).trans (hothers h hne), fun j => (hin.token j).trans (htoken j),
    fun i => ?_⟩
  · rw [hin.rest, hrest]
  · have hi := hslots i
    simp only [List.mem_range, Slot.heard, hput, ← hin.token] at hi
    exact hi

section tokenSet
variable {s t : State} {g k : Nat} (h : s.tokenSet t g k)
include h

theorem State.tokenSet.set : t.token g k = true := by rw [h.token, if_pos rfl]

theorem State.tokenSet.slot_st {i : Nat} (hi : i < 32) : (t.slot g i).st
    = if (s.slot g i).st = .wait ∧ (s.slot g i).waitsNot t g = true then .ready else (s.slot g i).st := by
  have hslot := h.slot i
  rw [if_pos hi] at hslot
  exact hslot.st

/-- A slot that does not wait stays as it is. -/
theorem State.tokenSet.slot_same {i : Nat} (hi : (s.slot g i).st ≠ .wait) : t.slot g i = s.slot g i := by
  have hslot := h.slot i
  split at hslot
  · exact Slot.heard_of_over hslot hi
  · exact hslot

end tokenSet

/-- R215: a write of TOKPOST. -/
theorem exec_tokpost_tokenSet (g : Fin 16) (v : Payload) {s : State} (hh : s.pf.halted = false) (he : s.noEmptyWait g) :
    ∃ t, exec (.tokpost g v) s = .next t ∧ s.tokenSet t g (v.toNat % 65536) :=
  ⟨_, rfl, setToken_tokenSet hh he _⟩

/-! ### A token on its way -/

/-- The step of R216 for one scoreboard. -/
def tokenReach (m : TokenMove) (s : State) (g : Nat) : State :=
  if g = m.src ∨ s.pathDown (galDie m.src) (galDie g) then s else setToken g m.token s

theorem propagateToken_eq {s : State} {m : TokenMove} {ms : List TokenMove} (h : s.moves = m :: ms) :
    propagateToken s = (List.range 16).foldl (tokenReach m) { s with moves := ms } := by
  unfold propagateToken
  rw [h]
  rfl

/-- What a token on its way leaves in the galleries of a list. -/
structure State.tokenReached (s t : State) (m : TokenMove) (l : List Nat) : Prop where
  rest : t = { s with gals := t.gals }
  set : ∀ g ∈ l, g ≠ m.src → s.pathDown (galDie m.src) (galDie g) = false → t.token g m.token = true
  same : ∀ g, (g ∈ l → g = m.src ∨ s.pathDown (galDie m.src) (galDie g) = true) → t.gal g = s.gal g

theorem State.noEmptyWait_congr {s t : State} {g : Nat} (h : t.gal g = s.gal g) (he : s.noEmptyWait g) :
    t.noEmptyWait g := by
  unfold State.noEmptyWait State.slot
  rw [h]
  exact he

/-- A scoreboard that is not reached is left alone; one that is reached has the token set. -/
theorem tokenReach_reached (m : TokenMove) {g : Nat} {s : State} (hh : s.pf.halted = false) (he : s.noEmptyWait g) :
    s.tokenReached (tokenReach m s g) m [g] := by
  unfold tokenReach
  split
  · next hskip =>
    refine ⟨rfl, fun i hi hsrc hup => ?_, fun _ _ => rfl⟩
    rw [List.mem_singleton.mp hi] at hsrc hup
    exact absurd hskip (by simp [hsrc, hup])
  · next hgo =>
    have hset := setToken_tokenSet hh he m.token
    refine ⟨hset.rest, fun i hi _ _ => ?_, fun i hi => hset.others i fun he => hgo ?_⟩
    · rw [List.mem_singleton.mp hi]
      exact hset.set
    · rw [← he]
      exact hi (he ▸ List.mem_singleton_self g)

theorem tokenReach_fold (m : TokenMove) {l : List Nat} (hl : l.Nodup) {s : State} (hh : s.pf.halted = false)
    (he : ∀ g ∈ l, s.noEmptyWait g) : s.tokenReached (l.foldl (tokenReach m) s) m l := by
  induction l generalizing s with
  | nil => exact ⟨rfl, fun g hg => absurd hg List.not_mem_nil, fun _ _ => rfl⟩
  | cons g l ih =>
    obtain ⟨hg, hl⟩ := List.nodup_cons.mp hl
    obtain ⟨hhead, htail⟩ := List.forall_mem_cons.mp he
    have hstep := tokenReach_reached m hh hhead
    rw [List.foldl_cons]
    generalize tokenReach m s g = u at hstep
    have hpath (a b : Nat) : u.pathDown a b = s.pathDown a b := by rw [hstep.rest]; rfl
    have hsame {i : Nat} (hi : i ≠ g) : u.gal i = s.gal i :=
      hstep.same i fun hm => absurd (List.mem_singleton.mp hm) hi
    have hrest := ih hl (s := u) (by rw [hstep.rest]; exact hh) fun i hi =>
      State.noEmptyWait_congr (hsame fun he => hg (he ▸ hi)) (htail i hi)
    refine ⟨by rw [hrest.rest, hstep.rest], fun i hi hsrc hup => ?_, fun i hi => ?_⟩
    · rcases List.mem_cons.mp hi with rfl | hi
      · have hkeep := hrest.same i fun hm => absurd hm hg
        rw [State.token, hkeep, ← State.token]
        exact hstep.set i (List.mem_singleton_self i) hsrc hup
      · exact hrest.set i hi hsrc ((hpath ..).trans hup)
    · have htl := hrest.same i fun hm => by
        rw [hpath]
        exact hi (List.mem_cons_of_mem g hm)
      exact htl.trans (hstep.same i fun hm => hi (List.mem_singleton.mp hm ▸ List.mem_cons_self))

/-! ### The start condition -/

/-- R220: a start condition that is met is taken back, and the slot judged. -/
theorem startMet_eq {g sl : Nat} {s : State} (hst : (s.slot g sl).st = .wait) (hsb : (s.slot g sl).sbw = true)
    (hmet : (s.slot g sl).sbmet = true) :
    startMet g sl s = judgeWait g sl (s.setSlot g sl { s.slot g sl with sbw := false }) := if_pos ⟨hst, hsb, hmet⟩

/-- The slot is READY if it waits for no token, and waits on else. -/
theorem startMet_slot {g sl : Nat} {s : State} (hst : (s.slot g sl).st = .wait) (hsb : (s.slot g sl).sbw = true)
    (hmet : (s.slot g sl).sbmet = true) (hlen : (s.slot g sl).desc.len ≠ 0) :
    ((startMet g sl s).slot g sl).st
        = (if ({ s.slot g sl with sbw := false } : Slot).waitsNot s g = true then .ready else .wait)
      ∧ ((startMet g sl s).slot g sl).sbw = false ∧ s.slotsBut (startMet g sl s) g sl
      ∧ startMet g sl s = { s with gals := (startMet g sl s).gals } := by
  have hx := s.setSlot_slot_same g sl { s.slot g sl with sbw := false }
  have hbut := s.setSlot_slotsBut g sl { s.slot g sl with sbw := false }
  have hin := s.setSlot_judgedIn g sl { s.slot g sl with sbw := false }
  rw [startMet_eq hst hsb hmet]
  generalize s.setSlot g sl { s.slot g sl with sbw := false } = u at hx hbut hin
  have hlen' : (u.slot g sl).st = .wait → (u.slot g sl).desc.len ≠ 0 := fun _ => by
    rw [hx]
    exact hlen
  have hheard := judgeWait_heard hlen'
  have hbut' := judgeWait_slotsBut hlen'
  have hin' := hin.trans (judgeWait_judgedIn hlen')
  generalize judgeWait g sl u = t at hheard hbut' hin'
  rw [hx, Slot.heard, hin.token, hin.token] at hheard
  have hheard' : ({ s.slot g sl with sbw := false } : Slot).heard s g (t.slot g sl) := hheard
  refine ⟨?_, ?_, fun i hi => (hbut' i hi).trans (hbut i hi), hin'.rest⟩
  · rw [hheard'.st]
    simp only [hst, true_and]
  · rw [if_pos hst] at hheard
    obtain ⟨k, hk⟩ := hheard
    obtain ⟨_, _, _, _, hrest⟩ :=
      Slot.judged_rest { s.slot g sl with sbw := false } (s.token g (s.slot g sl).desc.await0)
      (s.token g (s.slot g sl).desc.await1) k
    rw [hk, hrest]

/-- Settles O36: a token that is set judges the slots in WAIT of its gallery one after the other, so that each is READY
exactly if it waits for nothing under the new scoreboard. -/
theorem tokenRules : Obligations.TokenRules := by
  refine ⟨fun g v s hh he => ?_, fun g v s => ?_, fun m ms s hm hh he => ?_, fun g sl s hst hsb hmet hlen => ?_⟩
  · obtain ⟨t, hnext, ht⟩ := exec_tokpost_tokenSet g v hh he
    exact ⟨t, hnext, ht.set, fun k hk => by rw [ht.token, if_neg hk], fun sl hsl => ht.slot_st hsl, ht.others, ht.rest⟩
  · refine ⟨putToken g (v.toNat % 65536) false s, rfl, ?_, fun k hk => ?_, (putToken_boarded ..).slot_boarded g,
      fun h hh => putToken_gal_ne hh _ _ _, putToken_rest ..⟩
    · by_cases hv : v.toNat % 65536 = 0
      · rw [hv]
        rfl
      · rw [putToken_token, if_pos ⟨rfl, rfl, hv⟩, decide_eq_false hv]
    · rw [putToken_token, if_neg fun h => hk h.2.1]
  · have ht := tokenReach_fold m (l := List.range 16) List.nodup_range (s := { s with moves := ms }) hh
      fun g hg => he g (List.mem_range.mp hg)
    refine ⟨_, congrArg ok (propagateToken_eq hm), ?_, fun g hg => ht.set g (List.mem_range.mpr hg),
      fun g hg => ht.same g fun _ => .inr hg, ht.same _ fun _ => .inl rfl, ?_⟩
    · rw [ht.rest]
    · rw [ht.rest]
  · obtain ⟨hslot, hsbw, hbut, hrest⟩ := startMet_slot hst hsb hmet hlen
    refine ⟨fun hnot => ⟨startMet g sl s, rfl, ?_, hbut, hrest⟩,
      fun hnot => ⟨startMet g sl s, rfl, ?_, hsbw, hbut, hrest⟩⟩
    · rw [hslot, if_pos hnot]
    · rw [hslot, if_neg (by simp [hnot])]

end Sys2Proof.Machine
end

section
/-! The slot that runs: its selection, its preemption, and the relay words that reach it (R188, R221, R222, R235). -/

namespace Sys2Proof.Machine

/-! ### Selection -/

theorem State.runSlot_none {s : State} {g : Nat} (h : ∀ i, i < 32 → (s.slot g i).st ≠ .run) : s.runSlot g = none :=
  List.find?_eq_none.mpr fun i hi => by simp [h i (List.mem_range.mp hi)]

theorem State.runSlot_some {s : State} {g sl : Nat} (hsl : sl < 32) (hrun : (s.slot g sl).st = .run)
    (hothers : ∀ i, i < 32 → i ≠ sl → (s.slot g i).st ≠ .run) : s.runSlot g = some sl :=
  find?_unique (List.mem_range.mpr hsl) (by simp [hrun]) fun i hi hne => by
    simpa using hothers i (List.mem_range.mp hi) hne

/-- No two slots go before each other. -/
theorem Slot.before_asymm {a b : Slot} (h : a.before b = true) : b.before a = false := by
  simp only [Slot.before, Bool.or_eq_true, Bool.and_eq_true, decide_eq_true_eq, beq_iff_eq] at h
  simp only [Slot.before, Bool.or_eq_false_iff, Bool.and_eq_false_iff, decide_eq_false_iff_not, beq_eq_false_iff_ne]
  omega

/-- The step of the selection: the better of the slot found so far and the next. -/
def State.better (s : State) (g : Nat) (b : Option Nat) (sl : Nat) : Option Nat :=
  match b with
  | none => some sl
  | some c => if (s.slot g sl).before (s.slot g c) then some sl else some c

theorem State.pickSlot_eq_foldl (s : State) (g : Nat) : s.pickSlot g
    = ((List.range 32).filter fun sl => (s.slot g sl).st == .ready).foldl (s.better g) none := rfl

section better
variable {s : State} {g sl : Nat}

/-- A slot that goes before every other holds its place. -/
theorem State.better_first {j : Nat} (h : j ≠ sl → (s.slot g sl).before (s.slot g j) = true) :
    s.better g (some sl) j = some sl := by
  by_cases hj : j = sl
  · simp [State.better, hj]
  · simp [State.better, Slot.before_asymm (h hj)]

/-- A slot that goes before every other takes the place. -/
theorem State.better_takes {b : Option Nat} (h : ∀ c ∈ b, c ≠ sl → (s.slot g sl).before (s.slot g c) = true) :
    s.better g b sl = some sl := by
  cases b with
  | none => rfl
  | some c =>
    by_cases hc : c = sl
    · simp [State.better, hc]
    · simp [State.better, h c rfl hc]

theorem State.better_mem {b : Option Nat} {j c : Nat} (h : c ∈ s.better g b j) : c = j ∨ c ∈ b := by
  cases b with
  | none => exact .inl (Option.some.inj h).symm
  | some d =>
    simp only [State.better] at h
    split at h
    · exact .inl (Option.some.inj h).symm
    · exact .inr h

theorem State.better_foldl {l : List Nat} {b : Option Nat}
    (hl : ∀ j ∈ l, j ≠ sl → (s.slot g sl).before (s.slot g j) = true)
    (hb : ∀ c ∈ b, c ≠ sl → (s.slot g sl).before (s.slot g c) = true) (hin : sl ∈ l ∨ b = some sl) :
    l.foldl (s.better g) b = some sl := by
  induction l generalizing b with
  | nil => exact hin.resolve_left List.not_mem_nil
  | cons j l ih =>
    obtain ⟨hj, hl⟩ := List.forall_mem_cons.mp hl
    refine ih hl (fun c hc hne => ?_) ?_
    · rcases State.better_mem hc with rfl | hc
      · exact hj hne
      · exact hb c hc hne
    · rcases hin with hmem | rfl
      · rcases List.mem_cons.mp hmem with rfl | hmem
        · exact .inr (State.better_takes hb)
        · exact .inl hmem
      · exact .inr (State.better_first hj)

theorem State.pickSlot_first (hsl : sl < 32) (hst : (s.slot g sl).st = .ready)
    (h : ∀ i, i < 32 → i ≠ sl → (s.slot g i).st = .ready → (s.slot g sl).before (s.slot g i) = true) :
    s.pickSlot g = some sl := by
  rw [State.pickSlot_eq_foldl]
  refine State.better_foldl (fun j hj hne => ?_) (fun c hc => absurd hc (Option.not_mem_none c)) (.inl ?_)
  · obtain ⟨hlt, hready⟩ := List.mem_filter.mp hj
    exact h j (List.mem_range.mp hlt) hne (by simpa using hready)
  · simp [hsl, hst]

end better

theorem selectSlot_first {s : State} {g sl : Nat} (hq : (s.gal g).quar = false)
    (hnone : ∀ i, i < 32 → (s.slot g i).st ≠ .run) (hpick : s.pickSlot g = some sl)
    (hsaved : (s.slot g sl).saved = false) :
    selectSlot g s = s.setSlot g sl { s.slot g sl with st := .run, cache := [] } := by
  simp [selectSlot, hq, State.runSlot_none hnone, hpick, hsaved]

/-! ### Preemption -/

/-- The state once slot sl has made way, R222. -/
def State.preempted (s : State) (g sl : Nat) : State :=
  (s.setMem (savedMem g sl (s.slot g sl)
    (saveWords sl (s.slot g sl) 0 (s.slot g sl).seWords true (Word.raw 0) none) s.mem)).setSlot g sl
      { s.slot g sl with st := .ready, saved := true, cache := [], mv := false }

/-- The save is a variable here as in `saveSlot_got`. -/
theorem preempt_got {g sl : Nat} {s t : State} (hrun : s.runSlot g = some sl)
    (hpren : s.flag (R.GAL_CFG g) F.GAL_CFG_PREN = true) (hdone : (s.slot g sl).done < (s.slot g sl).desc.len)
    (hhigher : ((List.range 32).any fun i => (s.slot g i).st == .ready
      && decide ((s.slot g sl).prio < (s.slot g i).prio)) = true)
    (hsave : saveSlot g sl 0 (s.slot g sl).seWords true (Word.raw 0) none s = .got () t) :
    preempt g s = t.setSlot g sl { t.slot g sl with st := .ready, saved := true, cache := [], mv := false } := by
  generalize hF : preempt = F
  delta preempt at hF
  subst hF
  beta_reduce
  obtain ⟨S, hS⟩ : ∃ S, saveSlot = S := ⟨_, rfl⟩
  rw [hS] at hsave ⊢
  simp only [hrun, hpren, hhigher, hsave, Bool.not_true, Bool.false_or, decide_eq_true_eq, Nat.not_le.mpr hdone,
    if_false]

theorem preempt_preempted {g sl hi : Nat} (hg : g < 16) {s : State} (hsl : sl < 32) (hhi : hi < 32)
    (hrun : (s.slot g sl).st = .run) (hothers : ∀ i, i < 32 → i ≠ sl → (s.slot g i).st ≠ .run)
    (hready : (s.slot g hi).st = .ready) (hprio : (s.slot g sl).prio < (s.slot g hi).prio)
    (hdone : (s.slot g sl).done < (s.slot g sl).desc.len) (hpren : s.flag (R.GAL_CFG g) F.GAL_CFG_PREN = true)
    (hm : s.noMarch) : preempt g s = s.preempted g sl := by
  have hhigher : ((List.range 32).any fun i => (s.slot g i).st == .ready
      && decide ((s.slot g sl).prio < (s.slot g i).prio)) = true :=
    List.any_eq_true.mpr ⟨hi, List.mem_range.mpr hhi, by simp [hready, hprio]⟩
  rw [preempt_got (State.runSlot_some hsl hrun hothers) hpren hdone hhigher (saveSlot_own hg hsl hm ..),
    State.slot_of_gals (State.setMem_gals ..), State.preempted]

section preempted
variable (s : State) (g sl : Nat)

theorem State.preempted_slot : (s.preempted g sl).slot g sl
    = { s.slot g sl with st := .ready, saved := true, cache := [], mv := false } := State.setSlot_slot_same ..

theorem State.preempted_slotsBut : s.slotsBut (s.preempted g sl) g sl := fun i hi => by
  rw [State.preempted, State.setSlot_slotsBut _ _ _ _ i hi, State.slot_of_gals (State.setMem_gals ..)]

theorem State.preempted_mem : (s.preempted g sl).mem = savedMem g sl (s.slot g sl)
    (saveWords sl (s.slot g sl) 0 (s.slot g sl).seWords true (Word.raw 0) none) s.mem := by
  rw [State.preempted, State.setSlot, State.setGal_mem, State.setMem_mem]

theorem State.preempted_rest :
    s.preempted g sl = { s with gals := (s.preempted g sl).gals, mem := (s.preempted g sl).mem } := by
  obtain ⟨r, h⟩ := s.setMem_setSlot_rest g sl (savedMem g sl (s.slot g sl)
    (saveWords sl (s.slot g sl) 0 (s.slot g sl).seWords true (Word.raw 0) none) s.mem)
    { s.slot g sl with st := .ready, saved := true, cache := [], mv := false }
  rw [State.preempted, h]

end preempted

/-- The save area of a slot, as memory that holds it reads. -/
theorem State.cont_savedMem {s : State} {g sl : Nat} (hg : g < 16) (hsl : sl < 32) {x : Slot} {ws : List Word}
    (hws : ws.length = 64) {m : List Host.Cell} (hmem : s.mem = savedMem g sl x ws m) {i : Nat} (hi : i < 64)
    (y : Word) :
    s.cont (chamAddr g (saveOff sl) / 4 + i) = encodeWord (ws.getD i y) := by
  have hword : chamAddr g (saveOff sl) / 4 + i = chamAddr g (saveOff sl + 4 * i) / 4 := by
    unfold chamAddr
    omega
  have hrom := chamAddr_notRom hg (off := saveOff sl + 4 * i) (by unfold saveOff; omega)
  rw [State.cont, if_neg (by rw [hword, hrom]; decide), hmem, contAt_savedMem hsl _ hws _ hi]

/-! ### Relay words -/

theorem find?_append_cons {α : Type} {p : α → Bool} {l : List α} {x : α} (hl : ∀ y ∈ l, p y = false) (hx : p x = true)
    (r : List α) : (l ++ x :: r).find? p = some x := by
  rw [List.find?_append, List.find?_eq_none.mpr fun y hy => by simp [hl y hy], List.find?_cons_of_pos hx]
  rfl

theorem modFirst_append_cons {p : RPair → Bool} {l : List RPair} {x : RPair} (hl : ∀ y ∈ l, p y = false)
    (hx : p x = true) (f : RPair → RPair) (r : List RPair) : modFirst p f (l ++ x :: r) = l ++ f x :: r := by
  induction l with
  | nil => simp [modFirst, hx]
  | cons y l ih =>
    obtain ⟨hy, hl⟩ := List.forall_mem_cons.mp hl
    simp [modFirst, hy, ih hl]

theorem State.setRelayIn_relayIn (s : State) (g x y : Nat) (r : RelayIn) :
    (s.setRelayIn g x r).relayIn g y = if y = x then r else s.relayIn g y := by
  rw [State.relayIn, State.setRelayIn, State.setGal_gal, if_pos rfl]
  exact tget_tset ..

/-- A pair is needed as long as a side is open or words are on their way. -/
def RPair.needed (p : RPair) : Bool := !(p.sDone && p.rDone && p.flight.isEmpty)

theorem RelayIn.tidy_pairs (r : RelayIn) : r.tidy = { r with pairs := r.pairs.filter RPair.needed } := rfl

/-- The state once the first word on its way has arrived at an input, before a late one is logged. -/
def State.arrived (s : State) (g x : Nat) (l r : List RPair) (p : RPair) : State :=
  s.setRelayIn g x (RelayIn.tidy { s.relayIn g x with pairs := l ++ p :: r })

section arrived
variable {s : State} {g x : Nat} {l r : List RPair}

theorem relayArrive_eq {p : RPair} {w : Word} {ws : List Word} (hpairs : (s.relayIn g x).pairs = l ++ p :: r)
    (hl : ∀ q ∈ l, q.flight = []) (hp : p.flight = w :: ws) :
    (p.rDone = false → relayArrive g x s = s.arrived g x l r { p with buf := p.buf ++ [w], flight := ws })
      ∧ (p.rDone = true → relayArrive g x s = relayDiscard g x (s.arrived g x l r { p with flight := ws })) := by
  have hno : ∀ q ∈ l, (!q.flight.isEmpty) = false := fun q hq => by simp [hl q hq]
  have hyes : (!p.flight.isEmpty) = true := by simp [hp]
  simp only [relayArrive, hpairs, find?_append_cons hno hyes, modFirst_append_cons hno hyes, hp, Option.any_some,
    List.take_succ_cons, List.take_zero, List.drop_succ_cons, List.drop_zero, State.arrived]
  refine ⟨fun hrcv => ?_, fun hrcv => ?_⟩
  · simp [hrcv]
  · simp [hrcv]

variable (hneed : ∀ q ∈ l ++ r, (q.sDone && q.rDone && q.flight.isEmpty) = false)
include hneed

theorem State.arrived_relayIn (p : RPair) : (s.arrived g x l r p).relayIn g x
    = { s.relayIn g x with pairs := l ++ (if p.needed then [p] else []) ++ r } := by
  have hkeep {k : List RPair} (hk : k ⊆ l ++ r) : k.filter RPair.needed = k :=
    List.filter_eq_self.mpr fun q hq => by simp [RPair.needed, hneed q (hk hq)]
  rw [State.arrived, State.setRelayIn_relayIn, if_pos rfl, RelayIn.tidy_pairs]
  dsimp only
  rw [List.filter_append, List.filter_cons, hkeep (List.subset_append_left l r), hkeep (List.subset_append_right l r)]
  split
  · simp
  · simp

omit hneed

theorem State.arrived_slot (p : RPair) (sl : Nat) : (s.arrived g x l r p).slot g sl = s.slot g sl :=
  (setRelayIn_relayed ..).slot_relayed g sl

theorem State.arrived_rest (p : RPair) : s.arrived g x l r p = { s with gals := (s.arrived g x l r p).gals } := rfl

end arrived

/-- Settles O37: the READY slot that goes before every other keeps its place through the selection's fold; a preemption
is a save of the RUN slot; a relay word moves from the first pair with words on their way. -/
theorem slotSelection : Obligations.SlotSelection := by
  refine ⟨fun g sl s hq hnone hsl hst hsaved hfirst => ?_,
    fun g sl hi s hsl hhi hrun hothers hready hprio hdone hpren hm => ?_,
    fun g x l r p w ws s hpairs hl hp hneed => ⟨fun hrcv => ?_, fun hrcv => ?_⟩⟩
  · refine ⟨s.setSlot g sl { s.slot g sl with st := .run, cache := [] }, ?_, State.setSlot_slot_same ..,
      State.setSlot_slotsBut _ _ _ _, fun h hh => ?_, rfl⟩
    · rw [exec_slotSelect, execSlotSelect, selectSlot_first hq hnone (State.pickSlot_first hsl hst hfirst) hsaved, ok]
    · rw [State.setSlot, State.setGal_gal, if_neg hh]
  · have hmem := s.preempted_mem g sl
    have hlen := saveWords_length sl (s.slot g sl) 0 (s.slot g sl).seWords true (Word.raw 0) none
    refine ⟨s.preempted g sl, ?_, s.preempted_slot g sl, s.preempted_slotsBut g sl,
      fun i hi' => State.cont_savedMem g.isLt hsl hlen hmem hi' _, fun i hi' => ?_, s.preempted_rest g sl⟩
    · rw [exec_preempt, execPreempt,
        preempt_preempted g.isLt hsl hhi hrun hothers hready hprio hdone hpren hm, ok]
    · rw [hmem, memByte_savedMem_out hsl _ hlen _ hi']
  · refine ⟨s.arrived g x l r { p with buf := p.buf ++ [w], flight := ws }, ?_, ?_, State.arrived_slot _,
      State.arrived_rest _⟩
    · obtain ⟨hjoins, _⟩ := relayArrive_eq hpairs hl hp
      rw [exec_relayWordReceive, execRelayWordReceive, hjoins hrcv, ok]
    · rw [State.arrived_relayIn hneed]
      simp [RPair.needed, hrcv]
  · refine ⟨s.arrived g x l r { p with flight := ws }, ?_, ?_, State.arrived_slot _, State.arrived_rest _⟩
    · obtain ⟨_, hlate⟩ := relayArrive_eq hpairs hl hp
      rw [exec_relayWordReceive, execRelayWordReceive, hlate hrcv, ok]
    · rw [State.arrived_relayIn hneed]
      cases hs : p.sDone && ws.isEmpty <;> simp [RPair.needed, hrcv, hs]

end Sys2Proof.Machine
end

section
/-! Endings of instructions and their completion records (R213, R225 to R229 and R238): the ring of a gallery and its
registers. -/

namespace Sys2Proof.Machine

/-! ### Words that a gallery writes -/

/-- State u is s with memory m and what writes leave behind: free values taken, and ports. -/
def State.wrote (s u : State) (m : List Host.Cell) : Prop :=
  ∃ f c p, u = { s with mem := m, fresh := f, chams := c, junc := { s.junc with ports := p } }

section wrote
variable {s t u : State} {m : List Host.Cell}

theorem State.wrote.trans {m' : List Host.Cell} (h : s.wrote t m) (h' : t.wrote u m') : s.wrote u m' := by
  obtain ⟨_, _, _, rfl⟩ := h
  obtain ⟨f, c, p, rfl⟩ := h'
  exact ⟨f, c, p, rfl⟩

variable (h : s.wrote u m)
include h

theorem State.wrote.mem : u.mem = m := by
  obtain ⟨_, _, _, rfl⟩ := h
  rfl

theorem State.wrote.regs : u.regs = s.regs := by
  obtain ⟨_, _, _, rfl⟩ := h
  rfl

theorem State.wrote.gals : u.gals = s.gals := by
  obtain ⟨_, _, _, rfl⟩ := h
  rfl

theorem State.wrote.sideDown (die : Nat) : u.sideDown die = s.sideDown die := by
  obtain ⟨_, _, _, rfl⟩ := h
  rfl

theorem State.wrote.galServes (g a : Nat) : u.galServes g a = s.galServes g a := by
  obtain ⟨f, c, p, rfl⟩ := h
  unfold State.galServes
  rw [s.performs_rest m f c p]
  rfl

end wrote

theorem State.putWord_wrote (s : State) (j : Nat) (w : Word) :
    s.wrote (s.putWord j w) (contPut s.mem j (encodeWord w)) :=
  ⟨_, _, _, s.putWord_eq_setMem j w⟩

theorem State.storedBy_wrote (s : State) (m a : Nat) (w : Word) :
    s.wrote (s.storedBy m a w) (contPut s.mem (a / 4) (encodeWord w)) := by
  have hmem : (s.storedBy m a w).mem = contPut s.mem (a / 4) (encodeWord w) := by
    rw [State.storedBy, State.granted_mem, State.putWord_eq_setMem, State.setMem_mem, State.presented_mem]
  obtain ⟨x, f, c, p, hrest⟩ := s.storedBy_rest m a w
  rw [hrest] at hmem ⊢
  exact ⟨f, c, p, by rw [← hmem]⟩

theorem galAccess_write {s : State} {g a : Nat} (h : s.galServes g a = true) (hal : a % 4 = 0) (lv : Level) (w : Word) :
    ∃ u, s.wrote u (contPut s.mem (a / 4) (encodeWord w)) ∧ galAccess g lv a (.wr w) s = (.done { st := .ok }, u) := by
  unfold State.galServes at h
  split at h
  · next ht =>
    simp only [Bool.and_eq_true, Option.isNone_iff_eq_none] at h
    obtain ⟨_, hl⟩ := h
    refine ⟨_, s.putWord_wrote (a / 4) w, ?_⟩
    rw [galAccess_own ht hl, storageOp_wr]
  · next ht =>
    refine ⟨_, s.storedBy_wrote (16 + g) a w, ?_⟩
    rw [galAccess, if_neg ht]
    exact busAccess_write noReg (16 + g) lv a w s false false h hal

/-- Words that are all served are written in turn. -/
theorem galWrites_serves {g a : Nat} (hal : a % 4 = 0) {ws : List Word} {s : State}
    (h : ∀ i, i < ws.length → s.galServes g (a + 4 * i) = true) :
    ∃ u, s.wrote u (wordsAt (a / 4) ws s.mem) ∧ galWrites g a ws s = .got true u := by
  induction ws generalizing a s with
  | nil => exact ⟨s, ⟨_, _, _, rfl⟩, rfl⟩
  | cons w ws ih =>
    obtain ⟨t, ht, hwrite⟩ := galAccess_write (h 0 (Nat.zero_lt_succ _)) hal .m w
    obtain ⟨u, hu, hwrites⟩ := ih (a := a + 4) (by omega) (s := t) fun i hi => by
      rw [ht.galServes, show a + 4 + 4 * i = a + 4 * (i + 1) by omega]
      exact h (i + 1) (Nat.succ_lt_succ hi)
    rw [ht.mem, show (a + 4) / 4 = a / 4 + 1 by omega] at hu
    refine ⟨u, ?_, ?_⟩
    · rw [wordsAt_cons]
      exact ht.trans hu
    · rw [galWrites, show a = a + 4 * 0 from rfl, hwrite]
      dsimp only
      rw [Nat.mul_zero, Nat.add_zero, hwrites]
      rfl

/-- What a gallery is served lies outside the boot ROM. -/
theorem galServes_notRom {s : State} {g a : Nat} (h : s.galServes g a = true) : inRomRange (a / 4) = false := by
  unfold State.galServes at h
  split at h
  · next ht =>
    have hno : ¬ (0x302_0000_0000 ≤ a ∧ a < 0x302_0010_0000) := fun hrom => by
      have hheld := targetOf_held_of (.inr hrom)
      rw [ht] at hheld
      exact Bool.false_ne_true hheld
    unfold inRomRange romWord
    simp only [Bool.and_eq_false_iff, decide_eq_false_iff_not]
    omega
  · exact performs_notRom s _ a h

/-! ### The record at HEAD -/

theorem GAL_CR_fits : F.GAL_CRHEAD_HEAD.lo + F.GAL_CRHEAD_HEAD.w ≤ 48 ∧ F.GAL_CRHEAD_PH.lo + F.GAL_CRHEAD_PH.w ≤ 48
    ∧ F.GAL_CRTAIL_TAIL.lo + F.GAL_CRTAIL_TAIL.w ≤ 48 := by decide

theorem State.crlen_lt (s : State) (g : Nat) : s.crlen g < 2 ^ 16 := bits_lt ..

theorem State.crlen_congr {s t : State} {g : Nat} (h : t.reg (R.GAL_CRCTL g) = s.reg (R.GAL_CRCTL g)) :
    t.crlen g = s.crlen g := State.fld_of_reg h _

section headNext
variable (g : Nat) (s : State)

theorem headNext_rest : ∃ r, headNext g s = { s with regs := r } := by
  unfold headNext
  dsimp only
  generalize (s.fld (R.GAL_CRHEAD g) F.GAL_CRHEAD_HEAD + 1) % s.crlen g = h
  obtain ⟨r, hr⟩ := s.setFld_rest (R.GAL_CRHEAD g) F.GAL_CRHEAD_HEAD h
  split
  · obtain ⟨r', hr'⟩ := (s.setFld (R.GAL_CRHEAD g) F.GAL_CRHEAD_HEAD h).setFld_rest (R.GAL_CRHEAD g) F.GAL_CRHEAD_PH
      (1 - (s.setFld (R.GAL_CRHEAD g) F.GAL_CRHEAD_HEAD h).fld (R.GAL_CRHEAD g) F.GAL_CRHEAD_PH)
    rw [hr', hr]
    exact ⟨r', rfl⟩
  · exact ⟨r, hr⟩

theorem headNext_regsBut : s.regsBut (headNext g s) [R.GAL_CRHEAD g] := by
  unfold headNext
  dsimp only
  split
  · exact ((s.setFld_regsBut _ _ _).trans (State.setFld_regsBut _ _ _ _)).mono (by simp)
  · exact s.setFld_regsBut _ _ _

theorem headNext_head {n : Nat} (hn : s.crlen g = n) (hpos : 0 < n) :
    (headNext g s).fld (R.GAL_CRHEAD g) F.GAL_CRHEAD_HEAD = (s.fld (R.GAL_CRHEAD g) F.GAL_CRHEAD_HEAD + 1) % n := by
  obtain ⟨hhead, hph, _⟩ := GAL_CR_fits
  have hlt := s.crlen_lt g
  have hfits : (s.fld (R.GAL_CRHEAD g) F.GAL_CRHEAD_HEAD + 1) % n % 2 ^ F.GAL_CRHEAD_HEAD.w
      = (s.fld (R.GAL_CRHEAD g) F.GAL_CRHEAD_HEAD + 1) % n :=
    Nat.mod_eq_of_lt ((Nat.mod_lt _ hpos).trans (hn ▸ hlt))
  have hset := s.setFld_fld_same (R.GAL_CRHEAD g) F.GAL_CRHEAD_HEAD
    ((s.fld (R.GAL_CRHEAD g) F.GAL_CRHEAD_HEAD + 1) % n) hhead
  unfold headNext
  rw [hn]
  dsimp only
  split
  · rw [State.setFld_fld_other _ _ _ _ _ hph (.inl (by decide)), hset, hfits]
  · rw [hset, hfits]

end headNext

section recordGone
variable {g sl : Nat} {s : State} {r : CRec} {l : List Nat} (hrecs : (s.slot g sl).recs = [r])
  (hst : (s.slot g sl).st = .retire) (hret : (s.gal g).retiring = sl :: l)
include hrecs hst hret

/-- The last record of a slot in RETIRE has gone. -/
theorem recordGone_last : ∃ b, recordGone g sl s
    = (s.setSlot g sl { s.slot g sl with recs := [], st := .free }).setGal g
    { (s.setSlot g sl { s.slot g sl with recs := [], st := .free }).gal g with retiring := l, fullNoted := b } := by
  have hret' (x : Slot) : ((s.setSlot g sl x).gal g).retiring = sl :: l := by
    rw [State.setSlot, State.setGal_gal, if_pos rfl]
    exact hret
  refine ⟨((s.setSlot g sl { s.slot g sl with recs := [], st := .free }).gal g).fullNoted && !l.isEmpty, ?_⟩
  simp only [recordGone, hrecs, hst, List.drop_one, List.tail_cons, and_self, if_true, hret']

theorem recordGone_spec : ((recordGone g sl s).slot g sl).st = .free ∧ ((recordGone g sl s).gal g).retiring = l
    ∧ s.slotsBut (recordGone g sl s) g sl ∧ recordGone g sl s = { s with gals := (recordGone g sl s).gals } := by
  obtain ⟨b, hgone⟩ := recordGone_last hrecs hst hret
  have hslot (i : Nat) : (recordGone g sl s).slot g i
      = (s.setSlot g sl { s.slot g sl with recs := [], st := .free }).slot g i := by
    refine State.slot_congr ?_ i
    rw [hgone, State.setGal_gal, if_pos rfl]
  refine ⟨?_, ?_, fun i hi => ?_, ?_⟩
  · rw [hslot, State.setSlot_slot_same]
  · rw [hgone, State.setGal_gal, if_pos rfl]
  · rw [hslot, State.setSlot_slotsBut _ _ _ _ i hi]
  · rw [hgone]
    rfl

end recordGone

/-- The state once a record is in the ring, and HEAD and the event tell of it. -/
def State.noted (s : State) (g : Nat) (r : CRec) : State :=
  if r.cev then raise (84 + g) (headNext g s) else headNext g s

section noted
variable (s : State) (g : Nat) (r : CRec)

theorem State.noted_rest : ∃ k c, s.noted g r = { s with regs := k, cores := c } := by
  obtain ⟨k, hk⟩ := headNext_rest g s
  unfold State.noted
  split
  · obtain ⟨k', c, hr⟩ := raise_rest (headNext g s) (84 + g)
    rw [hr, hk]
    exact ⟨k', c, rfl⟩
  · rw [hk]
    exact ⟨k, s.cores, rfl⟩

theorem State.noted_regsBut : s.regsBut (s.noted g r) [R.GAL_CRHEAD g, R.EVC_PEND ((84 + g) / 32)] := by
  unfold State.noted
  split
  · exact (headNext_regsBut g s).trans (raise_regsBut _ _)
  · exact (headNext_regsBut g s).mono (by simp)

theorem State.noted_head {n : Nat} (hn : s.crlen g = n) (hpos : 0 < n) :
    (s.noted g r).fld (R.GAL_CRHEAD g) F.GAL_CRHEAD_HEAD = (s.fld (R.GAL_CRHEAD g) F.GAL_CRHEAD_HEAD + 1) % n := by
  have hhead := headNext_head g s hn hpos
  unfold State.noted
  split
  · rw [State.fld_of_reg (raise_reg_ne _ _ (by unfold R.GAL_CRHEAD R.EVC_PEND; omega)), hhead]
  · exact hhead

theorem State.noted_isPending (h : s.sideDown (eventDie (84 + g)) = false) (hr : r.cev = true) :
    (s.noted g r).isPending (84 + g) = true := by
  obtain ⟨k, hk⟩ := headNext_rest g s
  rw [State.noted, if_pos hr]
  refine raise_isPending _ _ ?_
  rw [hk]
  exact h

end noted

/-- A record that the ring takes is written, and leaves its slot. -/
theorem writeRecord_takes {g sl : Nat} {r : CRec} {l : List Nat} {s : State} (hret : (s.gal g).retiring = sl :: l)
    (hrecs : (s.slot g sl).recs = [r]) (htakes : s.ringTakes g) (hal : s.ringAt g % 4 = 0) :
    ∃ u, s.wrote u (wordsAt (s.ringAt g / 4) (recordWords g sl (s.fld (R.GAL_CRHEAD g) F.GAL_CRHEAD_PH) r) s.mem)
      ∧ writeRecord g s = recordGone g sl (u.noted g r) := by
  obtain ⟨hlen, hspace, hhalt, hserves⟩ := htakes
  obtain ⟨u, hu, hwrites⟩ := galWrites_serves (g := g) hal
    (ws := recordWords g sl (s.fld (R.GAL_CRHEAD g) F.GAL_CRHEAD_PH) r) (s := s) hserves
  have hno : ¬ (s.crlen g < 2 ∨ s.crSpace g = 0 ∨ s.pf.halted = true) := by
    simp [Nat.not_lt.mpr hlen, hspace, hhalt]
  refine ⟨u, hu, ?_⟩
  unfold State.ringAt at hwrites
  simp only [writeRecord, hret, hrecs, if_neg hno, hwrites, if_true]
  rfl

/-! ### The ring's registers -/

/-- CRBASE and CRCTL are each one field, open to every level. -/
theorem regAt_ring (g : Fin 16) :
    regAt (R.GAL_CRBASE g) = some (⟨0x100000c, [(16, 262144)], [⟨0, 42, .rw, 0⟩]⟩, [g.val])
    ∧ regAt (R.GAL_CRCTL g) = some (⟨0x1000010, [(16, 262144)], [⟨0, 16, .rw, 0⟩]⟩, [g.val]) := by
  decide +revert

/-- The ring as its configuration leaves it empty, R228. -/
def State.ringEmptied (s : State) (g : Nat) : State :=
  ((s.setFld (R.GAL_CRHEAD g) F.GAL_CRHEAD_HEAD 0).setFld (R.GAL_CRHEAD g) F.GAL_CRHEAD_PH 1).setFld (R.GAL_CRTAIL g)
    F.GAL_CRTAIL_TAIL 0

theorem ringConfig_free {g off : Nat} {lv : Level} {v : Nat} {s : State} (h : (s.gal g).busy = false) :
    ringConfig g off lv v s = (s.writeCodes lv off v).ringEmptied g := by
  rw [ringConfig, h]
  rfl

theorem ringConfig_busy {g off : Nat} {lv : Level} {v : Nat} {s : State} (h : (s.gal g).busy = true) :
    ringConfig g off lv v s = galStateReject g off s := by
  rw [ringConfig, if_pos h]

section ringEmptied
variable (s : State) (g : Nat)

theorem State.ringEmptied_regsBut : s.regsBut (s.ringEmptied g) [R.GAL_CRHEAD g, R.GAL_CRTAIL g] :=
  (((s.setFld_regsBut _ _ _).trans (State.setFld_regsBut _ _ _ _)).trans (State.setFld_regsBut _ _ _ _)).mono (by simp)

theorem State.ringEmptied_rest : ∃ r, s.ringEmptied g = { s with regs := r } := by
  obtain ⟨r, hr⟩ := s.setFld_rest (R.GAL_CRHEAD g) F.GAL_CRHEAD_HEAD 0
  obtain ⟨r', hr'⟩ := (s.setFld (R.GAL_CRHEAD g) F.GAL_CRHEAD_HEAD 0).setFld_rest (R.GAL_CRHEAD g) F.GAL_CRHEAD_PH 1
  obtain ⟨r'', hr''⟩ := ((s.setFld (R.GAL_CRHEAD g) F.GAL_CRHEAD_HEAD 0).setFld (R.GAL_CRHEAD g) F.GAL_CRHEAD_PH
    1).setFld_rest (R.GAL_CRTAIL g) F.GAL_CRTAIL_TAIL 0
  rw [State.ringEmptied, hr'', hr', hr]
  exact ⟨r'', rfl⟩

theorem State.ringEmptied_fields : (s.ringEmptied g).fld (R.GAL_CRHEAD g) F.GAL_CRHEAD_HEAD = 0
    ∧ (s.ringEmptied g).fld (R.GAL_CRHEAD g) F.GAL_CRHEAD_PH = 1
    ∧ (s.ringEmptied g).fld (R.GAL_CRTAIL g) F.GAL_CRTAIL_TAIL = 0 := by
  obtain ⟨hhead, hph, htail⟩ := GAL_CR_fits
  have hne : R.GAL_CRHEAD g ≠ R.GAL_CRTAIL g := by
    unfold R.GAL_CRHEAD R.GAL_CRTAIL
    omega
  refine ⟨?_, ?_, ?_⟩
  · rw [State.ringEmptied, State.setFld_fld_ne _ _ _ hne, State.setFld_fld_other _ _ _ _ _ hph (.inl (by decide)),
      State.setFld_fld_same _ _ _ _ hhead, Nat.zero_mod]
  · rw [State.ringEmptied, State.setFld_fld_ne _ _ _ hne, State.setFld_fld_same _ _ _ _ hph]
    rfl
  · rw [State.ringEmptied, State.setFld_fld_same _ _ _ _ htail, Nat.zero_mod]

end ringEmptied

/-! ### Endings -/

/-- An instruction without relay streams leaves the relay inputs alone. -/
theorem relayEnd_none {d : Desc} (h : ∀ x, x < 4 → d.on x = true → d.space x ≠ 2) (g sl : Nat) (s : State) :
    relayEnd g sl d s = s := by
  have hno {x : Nat} (hx : x < 4) : (d.on x && d.space x == 2) = false := by
    cases ho : d.on x with
    | false => rfl
    | true => simp [h x hx ho]
  simp only [relayEnd, hno (show 3 < 4 by decide), hno (show 2 < 4 by decide), hno (show 1 < 4 by decide),
    hno (show 0 < 4 by decide), List.range_succ, List.range_zero, List.nil_append, List.cons_append, List.foldl_cons,
    List.foldl_nil, Bool.false_eq_true, if_false]

/-- ENDCNT counted, and the slot in RETIRE. -/
def State.endCounted (s : State) (g sl : Nat) (st : EndSt) : State :=
  (s.bump (R.GAL_ENDCNT g) F.GAL_ENDCNT_ENDCNT).setSlot g sl
    { slotEnded ((s.slot g sl).desc.len == 0 && (st == .complete || st == .late)) (s.slot g sl) with owes := 0 }

theorem galLeave_eq {g sl : Nat} {st : EndSt} (hst : st ≠ .substituted) {s : State}
    (h : ∀ x, x < 4 → (s.slot g sl).desc.on x = true → (s.slot g sl).desc.space x ≠ 2) :
    galLeave g sl st s = s.endCounted g sl st := by
  rw [galLeave, relayEnd_none h, if_neg hst]
  rfl

section endCounted
variable (s : State) (g sl : Nat) (st : EndSt)

theorem State.endCounted_slot : (s.endCounted g sl st).slot g sl
    = { slotEnded ((s.slot g sl).desc.len == 0 && (st == .complete || st == .late)) (s.slot g sl) with owes := 0 } :=
  State.setSlot_slot_same ..

theorem State.endCounted_slotsBut : s.slotsBut (s.endCounted g sl st) g sl := fun i hi => by
  rw [State.endCounted, State.setSlot_slotsBut _ _ _ _ i hi, State.slot_of_gals (State.bump_gals ..)]

theorem State.endCounted_rest : ∃ G r, s.endCounted g sl st = { s with gals := G, regs := r } := by
  obtain ⟨r, hr⟩ := s.bump_rest (R.GAL_ENDCNT g) F.GAL_ENDCNT_ENDCNT 1
  rw [State.endCounted, hr]
  exact ⟨_, r, rfl⟩

theorem State.endCounted_regs : (s.endCounted g sl st).regs = (s.bump (R.GAL_ENDCNT g) F.GAL_ENDCNT_ENDCNT).regs := by
  rw [State.endCounted, State.setSlot, State.setGal_regs]

end endCounted

/-- State t is s once gallery g has posted token k. -/
structure State.tokenPosted (s t : State) (g k : Nat) : Prop where
  rest : t = { s with gals := t.gals, moves := s.moves ++ if k = 0 then [] else [{ token := k, src := g }] }
  set : t.token g k = true
  st : ∀ i, (t.slot g i).st = .ready ∨ (t.slot g i).st = (s.slot g i).st
  same : ∀ i, (s.slot g i).st ≠ .wait → t.slot g i = s.slot g i

theorem Slot.heard.ready_or {s : State} {g : Nat} {x y : Slot} (h : x.heard s g y) : y.st = .ready ∨ y.st = x.st := by
  rw [h.st]
  split
  · exact .inl rfl
  · exact .inr rfl

/-- R216 and R226. -/
theorem postToken_tokenPosted {s : State} (hh : s.pf.halted = false) {g : Nat} (he : s.noEmptyWait g) (k : Nat) :
    s.tokenPosted (postToken g k s) g k := by
  by_cases hk : k = 0
  · subst hk
    exact ⟨by simp [postToken, postWith], rfl, fun _ => .inr rfl, fun _ _ => rfl⟩
  · have hset := setToken_tokenSet hh he k
    have hpost : postToken g k s
        = { setToken g k s with moves := (setToken g k s).moves ++ [{ token := k, src := g }] } := if_neg hk
    rw [hpost]
    generalize setToken g k s = t at hset
    refine ⟨?_, hset.set, fun i => ?_, fun i hi => hset.slot_same hi⟩
    · rw [if_neg hk, hset.rest]
    · have hslot := hset.slot i
      split at hslot
      · exact hslot.ready_or
      · exact .inr (congrArg Slot.st hslot)

theorem galEnd_eq {g sl : Nat} {st : EndSt} (hst : st ≠ .substituted) {s : State} (howes : (s.slot g sl).owes = 0) :
    galEnd g sl st s
      = galRecord g sl (s.recordOf g sl st) (postToken g (s.slot g sl).desc.own (galLeave g sl st s)) := by
  unfold galEnd galEndWith postToken
  dsimp only
  rw [if_neg hst, howes]
  rfl

/-- Without a ring an instruction that ends leaves its slot FREE, R229. -/
theorem galRecord_noRing {g sl : Nat} {r : CRec} {s : State} (hlen : s.crlen g < 2) (hcev : r.cev = false)
    (hrecs : (s.slot g sl).recs = []) : galRecord g sl r s = s.setSlot g sl { s.slot g sl with st := .free } := by
  rw [galRecord, if_pos hlen, hcev]
  simp [hrecs]

/-- State t is s after the instruction of slot sl has ended without a record, perhaps with an entry in the log. -/
structure State.endedAs (s t : State) (g sl : Nat) : Prop where
  st : (t.slot g sl).st = .free
  done : (t.slot g sl).done = (s.slot g sl).done
  own : t.token g (s.slot g sl).desc.own = true
  moves : t.moves = s.moves
    ++ if (s.slot g sl).desc.own = 0 then [] else [{ token := (s.slot g sl).desc.own, src := g }]
  count : t.fld (R.GAL_ENDCNT g) F.GAL_ENDCNT_ENDCNT
    = (s.fld (R.GAL_ENDCNT g) F.GAL_ENDCNT_ENDCNT + 1) % 2 ^ F.GAL_ENDCNT_ENDCNT.w
  others : ∀ i, i ≠ sl → (t.slot g i).st = .ready ∨ (t.slot g i).st = (s.slot g i).st
  regs : s.regsBut t [R.GAL_ENDCNT g, R.CAIRN_DROPCNT]
  rest : t = { s with gals := t.gals, regs := t.regs, cairn := t.cairn, moves := t.moves }

/-- The instruction of slot sl ends without a record, a relay stream or a token owed. -/
structure State.endsPlain (s : State) (g sl : Nat) : Prop where
  crlen : s.crlen g < 2
  halted : s.pf.halted = false
  recs : (s.slot g sl).recs = []
  owes : (s.slot g sl).owes = 0
  cev : (s.slot g sl).desc.cev = false
  wait : s.noEmptyWait g
  relay : ∀ x, x < 4 → (s.slot g sl).desc.on x = true → (s.slot g sl).desc.space x ≠ 2

section endedAs
variable {g sl : Nat} {s : State}

theorem State.endCounted_reg_ne {st : EndSt} {k : Nat} (hk : k ≠ R.GAL_ENDCNT g) :
    (s.endCounted g sl st).reg k = s.reg k := by
  rw [State.reg_congr (s.endCounted_regs g sl st)]
  exact s.setFld_regsBut _ _ _ k (by simpa using hk)

theorem State.endCounted_count (st : EndSt) : (s.endCounted g sl st).fld (R.GAL_ENDCNT g) F.GAL_ENDCNT_ENDCNT
    = (s.fld (R.GAL_ENDCNT g) F.GAL_ENDCNT_ENDCNT + 1) % 2 ^ F.GAL_ENDCNT_ENDCNT.w := by
  rw [State.fld_of_reg (State.reg_congr (s.endCounted_regs g sl st) _), State.bump]
  generalize s.fld (R.GAL_ENDCNT g) F.GAL_ENDCNT_ENDCNT = n
  exact s.setFld_fld_same _ _ _ (by decide)

theorem State.endCounted_noEmptyWait (hwait : s.noEmptyWait g) (st : EndSt) :
    (s.endCounted g sl st).noEmptyWait g := fun i hi hst => by
  by_cases h : i = sl
  · rw [h, State.endCounted_slot] at hst
    exact SlotSt.noConfusion hst
  · rw [State.endCounted_slotsBut s g sl st i h] at hst ⊢
    exact hwait i hi hst

/-- R213, R225, R226 and R229 where no ring is set up. -/
theorem galEnd_endedAs (h : s.endsPlain g sl) {st : EndSt} (hst : st ≠ .substituted) :
    s.endedAs (galEnd g sl st s) g sl := by
  obtain ⟨hlen, hhalt, hrecs, howes, hcev, hwait, hrelay⟩ := h
  obtain ⟨G, r, hrest⟩ := s.endCounted_rest g sl st
  have hslot := s.endCounted_slot g sl st
  have hbut := s.endCounted_slotsBut g sl st
  have hcount := State.endCounted_count (s := s) (g := g) (sl := sl) st
  have hne (k : Nat) (hk : k ≠ R.GAL_ENDCNT g) := State.endCounted_reg_ne (s := s) (sl := sl) (st := st) hk
  generalize hu : s.endCounted g sl st = u at hrest hslot hbut hcount hne
  have hpost := postToken_tokenPosted (s := u) (by rw [hrest]; exact hhalt)
    (hu ▸ State.endCounted_noEmptyWait hwait st) (s.slot g sl).desc.own
  generalize ht : postToken g (s.slot g sl).desc.own u = t at hpost
  have hslott : t.slot g sl = u.slot g sl := hpost.same sl (by rw [hslot]; exact SlotSt.noConfusion)
  have hregt : t.regs = u.regs := by rw [hpost.rest]
  have hcrlen : t.crlen g = s.crlen g := State.crlen_congr <| by
    rw [State.reg_congr hregt]
    exact hne _ (by unfold R.GAL_CRCTL R.GAL_ENDCNT; omega)
  have hfree : galEnd g sl st s = t.setSlot g sl { t.slot g sl with st := .free } := by
    rw [galEnd_eq hst howes, galLeave_eq hst hrelay, hu, ht]
    exact galRecord_noRing (hcrlen ▸ hlen) hcev (by rw [hslott, hslot]; exact hrecs)
  have hregs : (galEnd g sl st s).regs = u.regs := by rw [hfree, State.setSlot, State.setGal_regs, hregt]
  refine ⟨?_, ?_, ?_, ?_, ?_, fun i hi => ?_, fun k hk => ?_, ?_⟩
  · rw [hfree, State.setSlot_slot_same]
  · rw [hfree, State.setSlot_slot_same, hslott, hslot]
    rfl
  · rw [hfree, State.token, State.setSlot, State.setGal_gal, if_pos rfl]
    exact hpost.set
  · rw [hfree, State.setSlot, State.setGal_moves, hpost.rest, hrest]
  · rw [State.fld_of_reg (State.reg_congr hregs _), hcount]
  · rw [hfree, State.setSlot_slotsBut _ _ _ _ i hi, ← hbut i hi]
    exact hpost.st i
  · rw [State.reg_congr hregs]
    exact hne k (List.ne_of_not_mem_cons hk)
  · rw [hfree, State.setSlot, hpost.rest, hrest]
    rfl

/-- An entry in the log leaves an instruction's ending as it was. -/
theorem State.endsPlain.logged (hg : g < 16) (h : s.endsPlain g sl) (src : Src) (code : Nat) (fs : List DF) :
    (logCairn src code fs s).endsPlain g sl := by
  have hslot : (logCairn src code fs s).slot g sl = s.slot g sl := State.slot_of_gals (logCairn_gals ..) g sl
  obtain ⟨hlen, hhalt, hrecs, howes, hcev, hwait, hrelay⟩ := h
  refine ⟨?_, ?_, ?_, ?_, ?_, fun i => ?_, ?_⟩
  · have hreg : (logCairn src code fs s).reg (R.GAL_CRCTL g) = s.reg (R.GAL_CRCTL g) :=
      logCairn_reg_ne _ _ _ _ (by unfold R.GAL_CRCTL R.CAIRN_DROPCNT; omega)
    rwa [State.crlen_congr hreg]
  · rwa [logCairn_pf]
  · rwa [hslot]
  · rwa [hslot]
  · rwa [hslot]
  · rw [State.slot_of_gals (logCairn_gals ..)]
    exact hwait i
  · rwa [hslot]

theorem State.endedAs.ofLogged {t : State} {src : Src} {code : Nat} {fs : List DF} (hg : g < 16)
    (h : (logCairn src code fs s).endedAs t g sl) : s.endedAs t g sl := by
  have hslot (i : Nat) : (logCairn src code fs s).slot g i = s.slot g i := State.slot_of_gals (logCairn_gals ..) g i
  have hcount : (logCairn src code fs s).reg (R.GAL_ENDCNT g) = s.reg (R.GAL_ENDCNT g) :=
    logCairn_reg_ne _ _ _ _ (by unfold R.GAL_ENDCNT R.CAIRN_DROPCNT; omega)
  obtain ⟨r, c, hlog⟩ := logCairn_rest s src code fs
  refine ⟨h.st, ?_, ?_, ?_, ?_, fun i hi => ?_, ?_, ?_⟩
  · rw [h.done, hslot]
  · exact hslot sl ▸ h.own
  · rw [h.moves, logCairn_moves, hslot]
  · rw [h.count, State.fld_of_reg hcount]
  · exact hslot i ▸ h.others i hi
  · exact ((logCairn_regsBut _ _ _ _).trans h.regs).mono (by simp)
  · rw [h.rest, hlog]

end endedAs

/-! ### Commands that the state forbids -/

/-- STERR set, and an entry in the log. -/
def State.stateError (s : State) (g : Nat) (fs : List DF) : State :=
  logCairn .gallery 0x01 fs (s.setFld (R.GAL_ERR g) F.GAL_ERR_STERR 1)

theorem State.stateError_spec (s : State) (g : Nat) (fs : List DF) :
    (s.stateError g fs).flag (R.GAL_ERR g) F.GAL_ERR_STERR = true
      ∧ s.regsBut (s.stateError g fs) [R.GAL_ERR g, R.CAIRN_DROPCNT]
      ∧ ∃ r c, s.stateError g fs = { s with regs := r, cairn := c } := by
  have hset := s.setFld_fld_same (R.GAL_ERR g) F.GAL_ERR_STERR 1 (by decide)
  have hbut := s.setFld_regsBut (R.GAL_ERR g) F.GAL_ERR_STERR 1
  obtain ⟨r, hrest⟩ := s.setFld_rest (R.GAL_ERR g) F.GAL_ERR_STERR 1
  unfold State.stateError
  generalize s.setFld (R.GAL_ERR g) F.GAL_ERR_STERR 1 = u at hset hbut hrest
  have hne : R.GAL_ERR g ≠ R.CAIRN_DROPCNT := by
    unfold R.GAL_ERR R.CAIRN_DROPCNT
    omega
  refine ⟨?_, hbut.trans (logCairn_regsBut _ _ _ _), ?_⟩
  · rw [State.flag_of_reg (logCairn_reg_ne _ _ _ _ hne), State.flag, hset]
    rfl
  · obtain ⟨r', c, hlog⟩ := logCairn_rest u .gallery 0x01 fs
    rw [hlog, hrest]
    exact ⟨r', c, rfl⟩

/-- A write that the state of the gallery forbids sets STERR, is logged, and changes nothing else, R207 and R228. -/
theorem galStateReject_spec (g off : Nat) (s : State) :
    (galStateReject g off s).flag (R.GAL_ERR g) F.GAL_ERR_STERR = true
      ∧ s.regsBut (galStateReject g off s) [R.GAL_ERR g, R.CAIRN_DROPCNT]
      ∧ ∃ r c f, galStateReject g off s = { s with regs := r, cairn := c, fresh := f } := by
  obtain ⟨hflag, hbut, r, c, hrest⟩ := s.freeNat.2.stateError_spec g [⟨4, g⟩, ⟨5, s.freeNat.1⟩, dfOff off]
  exact ⟨hflag, hbut, r, c, _, hrest⟩

/-! ### Commands that end an instruction -/

/-- ABORT of an instruction that has not ended is logged, and the instruction ends, R238. -/
theorem abortSlot_eq {g sl : Nat} {s : State} (h : (s.slot g sl).st.over = false) : abortSlot g sl s
    = galEnd g sl .aborted (logCairn .gallery 0x09 [⟨4, g⟩, ⟨5, sl⟩, ⟨24, (s.slot g sl).done⟩] s) := by
  have hno : ¬ ((s.slot g sl).st = .free ∨ (s.slot g sl).st = .retire) := by
    cases hst : (s.slot g sl).st <;> simp [SlotSt.over, hst] at h ⊢
  exact if_neg hno

/-- ABORT of a slot without an instruction is refused, R238. -/
theorem abortSlot_over {g sl : Nat} {s : State} (h : (s.slot g sl).st.over = true) : abortSlot g sl s
    = s.stateError g [⟨4, g⟩, ⟨5, sl⟩, dfOff (R.SLOT_CMD g sl)] := by
  have hover : (s.slot g sl).st = .free ∨ (s.slot g sl).st = .retire := by
    simpa [SlotSt.over] using h
  exact if_pos hover

/-- An instruction without a reduction whose elements have all committed ends, R225. -/
theorem instructionComplete_eq {g sl : Nat} {s : State} (hrun : s.running g = some sl)
    (hdone : (s.slot g sl).desc.len ≤ (s.slot g sl).done) (hred : (s.slot g sl).desc.redStep = none) :
    instructionComplete g s = galEnd g sl (if (s.slot g sl).late then .late else .complete) s := by
  have hword : redWrite g sl s = .got () s := by simp [redWrite, redWord, hred]
  simp [instructionComplete, hrun, Nat.not_lt.mpr hdone, hword]

/-! ### A record written -/

/-- The record at the head of the retirement order is written, HEAD and the event tell of it, and its slot is FREE,
R227 to R229. -/
theorem writeRecord_spec {g sl : Nat} {r : CRec} {l : List Nat} {s : State} (hret : (s.gal g).retiring = sl :: l)
    (hrecs : (s.slot g sl).recs = [r]) (hst : (s.slot g sl).st = .retire) (htakes : s.ringTakes g)
    (hal : s.ringAt g % 4 = 0) (hup : s.sideDown (eventDie (84 + g)) = false) :
    ((writeRecord g s).slot g sl).st = .free ∧ ((writeRecord g s).gal g).retiring = l
      ∧ (writeRecord g s).mem
        = wordsAt (s.ringAt g / 4) (recordWords g sl (s.fld (R.GAL_CRHEAD g) F.GAL_CRHEAD_PH) r) s.mem
      ∧ (writeRecord g s).fld (R.GAL_CRHEAD g) F.GAL_CRHEAD_HEAD
        = (s.fld (R.GAL_CRHEAD g) F.GAL_CRHEAD_HEAD + 1) % s.crlen g
      ∧ (r.cev = true → (writeRecord g s).isPending (84 + g) = true) ∧ s.slotsBut (writeRecord g s) g sl
      ∧ s.regsBut (writeRecord g s) [R.GAL_CRHEAD g, R.EVC_PEND ((84 + g) / 32)]
      ∧ writeRecord g s = { s.stores (writeRecord g s) with gals := (writeRecord g s).gals } := by
  obtain ⟨u, hu, hwrite⟩ := writeRecord_takes hret hrecs htakes hal
  have hcrlen : u.crlen g = s.crlen g := State.crlen_congr (State.reg_congr hu.regs _)
  have hhead := u.noted_head g r hcrlen (Nat.zero_lt_two.trans_le htakes.1)
  have hpend := u.noted_isPending g r ((hu.sideDown _).trans hup)
  have hbut := u.noted_regsBut g r
  obtain ⟨k, c, hnoted⟩ := u.noted_rest g r
  rw [hwrite]
  generalize u.noted g r = n at *
  have hgals : n.gals = s.gals := by rw [hnoted, ← hu.gals]
  have hslot (i : Nat) : n.slot g i = s.slot g i := State.slot_of_gals hgals g i
  have hgal : n.gal g = s.gal g := by rw [State.gal, hgals, ← State.gal]
  obtain ⟨hfree, hl, hslots, hrest⟩ := recordGone_spec (g := g) (sl := sl) (s := n) (r := r) (l := l)
    (by rw [hslot, hrecs]) (by rw [hslot, hst]) (by rw [hgal, hret])
  generalize recordGone g sl n = t at *
  have hregs : t.regs = n.regs := by rw [hrest]
  refine ⟨hfree, hl, ?_, ?_, fun hr => ?_, fun i hi => ?_, ?_, ?_⟩
  · rw [hrest, hnoted, ← hu.mem]
  · rw [State.fld_of_reg (State.reg_congr hregs _), hhead, State.fld_of_reg (State.reg_congr hu.regs _)]
  · rw [State.isPending, State.regN_congr hregs]
    exact hpend hr
  · rw [hslots i hi, hslot]
  · exact ((State.regsBut_of_regs hu.regs []).trans hbut).trans (State.regsBut_of_regs hregs [])
  · obtain ⟨f, ch, p, hu⟩ := hu
    rw [hrest, hnoted, hu]
    rfl

/-! ### A ring-configuration write -/

section ringConfig
variable {s : State}

/-- A register of one field open to every level holds what is written. -/
theorem State.writeCodes_one {off base w : Nat} {dims : List (Nat × Nat)} {ix : List Nat}
    (h : regAt off = some (⟨base, dims, [⟨0, w, .rw, 0⟩]⟩, ix)) (lv : Level) (v : Nat) :
    (s.writeCodes lv off v).fld off ⟨0, w⟩ = bits v 0 w ∧ s.regsBut (s.writeCodes lv off v) [off]
      ∧ ∃ r, s.writeCodes lv off v = { s with regs := r } :=
  ⟨s.writeCodes_field lv v h (List.mem_singleton_self _),
    fun _ hk => s.writeCodes_reg_ne lv v h (List.ne_of_not_mem_cons hk), _, s.writeCodes_frame lv v h⟩

/-- A ring-configuration write with every slot FREE stores its register and empties the ring, R228. -/
theorem ringConfig_spec {g off base w : Nat} {dims : List (Nat × Nat)} {ix : List Nat}
    (h : regAt off = some (⟨base, dims, [⟨0, w, .rw, 0⟩]⟩, ix)) (hoff : off < R.GAL_CRHEAD g)
    (hfree : (s.gal g).busy = false) (lv : Level) (v : Nat) :
    (ringConfig g off lv v s).fld off ⟨0, w⟩ = bits v 0 w
      ∧ (ringConfig g off lv v s).fld (R.GAL_CRHEAD g) F.GAL_CRHEAD_HEAD = 0
      ∧ (ringConfig g off lv v s).fld (R.GAL_CRHEAD g) F.GAL_CRHEAD_PH = 1
      ∧ (ringConfig g off lv v s).fld (R.GAL_CRTAIL g) F.GAL_CRTAIL_TAIL = 0
      ∧ s.regsBut (ringConfig g off lv v s) [off, R.GAL_CRHEAD g, R.GAL_CRTAIL g]
      ∧ ringConfig g off lv v s = { s with regs := (ringConfig g off lv v s).regs } := by
  obtain ⟨hfld, hbut, r, hrest⟩ := State.writeCodes_one (s := s) h lv v
  rw [ringConfig_free hfree]
  generalize s.writeCodes lv off v = u at *
  obtain ⟨hhead, hph, htail⟩ := u.ringEmptied_fields g
  have hempty := u.ringEmptied_regsBut g
  obtain ⟨r', hrest'⟩ := u.ringEmptied_rest g
  have hne : off ∉ [R.GAL_CRHEAD g, R.GAL_CRTAIL g] := by
    unfold R.GAL_CRHEAD at *
    unfold R.GAL_CRTAIL
    simp only [List.mem_cons, List.not_mem_nil, or_false, not_or]
    omega
  generalize u.ringEmptied g = t at *
  refine ⟨?_, hhead, hph, htail, hbut.trans hempty, ?_⟩
  · rw [State.fld_of_reg (hempty off hne), hfld]
  · rw [hrest', hrest]

end ringConfig

/-- Settles O40: an ending in four steps, leaving, posting, and the slot freed without a record; and the ring's rules
from what one record written, one register written and one refusal do. -/
theorem endingRules : Obligations.EndingRules := by
  unfold Obligations.EndingRules
  refine ⟨fun g sl c s hlen hhalt hrecs howes hcev hwait hrelay hc => ?_, fun g sl s hover => ?_,
    fun g sl r l s hret hrecs hst htakes hal hup => ?_, fun g v s hlen => ?_,
    fun g ctl v s => ⟨fun hfree => ?_, fun hbusy => ?_⟩⟩
  · have h : s.endsPlain g sl := ⟨hlen, hhalt, hrecs, howes, hcev, hwait, hrelay⟩
    have hended : ∃ t, exec c s = .next t ∧ s.endedAs t g sl := by
      rcases hc with ⟨rfl, hover⟩ | ⟨rfl, hq, hrun, hothers, hdone, hred⟩
      · refine ⟨_, congrArg ok (abortSlot_eq hover), ?_⟩
        exact State.endedAs.ofLogged g.isLt (galEnd_endedAs (h.logged g.isLt ..) EndSt.noConfusion)
      · refine ⟨_, congrArg ok (instructionComplete_eq (running_eq hq hhalt sl.isLt hrun hothers) hdone hred), ?_⟩
        exact galEnd_endedAs h (by split <;> exact EndSt.noConfusion)
    obtain ⟨t, hexec, hst, hdone, hown, hmoves, hcount, hothers, hregs, hrest⟩ := hended
    exact ⟨t, hexec, hst, hdone, hown, hmoves, hcount, hothers, hregs, hrest⟩
  · refine ⟨abortSlot g sl s, rfl, ?_⟩
    rw [abortSlot_over hover]
    obtain ⟨hflag, hbut, r, c, hrest⟩ := s.stateError_spec g [⟨4, g⟩, ⟨5, sl⟩, dfOff (R.SLOT_CMD g sl)]
    exact ⟨hflag, hbut, by rw [hrest]⟩
  · have hexec : exec (.retireRecordWrite g sl) s = .next (writeRecord g s) :=
      congrArg ok (if_pos (by rw [hret, List.head?_cons]))
    obtain ⟨hfree, hl, hmem, hhead, hpend, hslots, hregs, hrest⟩ := writeRecord_spec hret hrecs hst htakes hal hup
    refine ⟨_, hexec, hfree, hl, fun i hi => ?_, fun i hi => ?_, hhead, hpend, hslots, hregs, hrest⟩
    · have hrom : inRomRange (s.ringAt g / 4 + i) = false := by
        have hserves := galServes_notRom (htakes.2.2.2 i hi)
        rwa [show (s.ringAt g + 4 * i) / 4 = s.ringAt g / 4 + i by omega] at hserves
      rw [State.cont, hrom, hmem]
      exact contAt_wordsAt hi ..
    · rw [hmem]
      exact memByte_wordsAt_out hi _
  · rw [exec_crtailWrite, execCrtailWrite, ok, crTailWrite, if_neg hlen]
    rfl
  · obtain ⟨hbase, hctl⟩ := regAt_ring g
    cases ctl with
    | false =>
      obtain ⟨hfld, hrest⟩ := ringConfig_spec hbase (Nat.add_lt_add_right (by decide) _) hfree .m v.toNat
      exact ⟨_, rfl, nofun, fun _ => hfld, hrest⟩
    | true =>
      obtain ⟨hfld, hrest⟩ := ringConfig_spec hctl (Nat.add_lt_add_right (by decide) _) hfree .m v.toNat
      exact ⟨_, rfl, fun _ => hfld, nofun, hrest⟩
  · refine ⟨_, congrArg ok (ringConfig_busy hbusy), ?_⟩
    obtain ⟨hflag, hbut, r, c, f, hrest⟩ := galStateReject_spec g (if ctl then R.GAL_CRCTL g else R.GAL_CRBASE g) s
    exact ⟨hflag, hbut, by rw [hrest]⟩

end Sys2Proof.Machine
end

section
/-! What an ending leaves alone: its accesses keep every slot, and neither it nor what its tokens release brings an
ended slot back to life (R213 to R217, R225 and R226). -/

namespace Sys2Proof.Machine

/-! ### Accesses leave the galleries -/

section access
variable (s : State)

theorem readWordAt_gals (m w : Nat) : (readWordAt m w s).2.gals = s.gals := (readWordAt_strayed s m w).gals

theorem rmw_gals (m w : Nat) (f : Word → Option Word × Ans) : (rmw m w f s).2.gals = s.gals := by
  have hread := readWordAt_gals s m w
  unfold rmw
  generalize readWordAt m w s = r at hread ⊢
  obtain ⟨⟨x, bad⟩, t⟩ := r
  cases bad with
  | true => exact hread
  | false =>
    dsimp only
    split
    · exact (State.putWord_gals ..).trans hread
    · exact hread

theorem storageOp_gals (m a : Nat) (op : JOp) : (storageOp m a op s).2.gals = s.gals := by
  unfold storageOp
  dsimp only
  split
  · exact readWordAt_gals ..
  · exact State.putWord_gals ..
  · split
    · rfl
    · exact rmw_gals ..

theorem chamberPort_gals (n a : Nat) (wr : Bool) : (chamberPort n a wr s).gals = s.gals := by
  obtain ⟨f, c, hport⟩ := chamberPort_rest n a wr s
  rw [hport]

theorem storageAccess_gals (own : Bool) (m a : Nat) (op : JOp) : (storageAccess own m a op s).2.gals = s.gals := by
  unfold storageAccess
  dsimp only
  split
  · split
    · rfl
    · exact (refuseLocked_strayed ..).gals
  · split
    · split
      · rfl
      · split
        · rfl
        · exact storageOp_gals ..
    · split
      · rfl
      · rw [storageOp_gals]
        split
        · rfl
        · exact chamberPort_gals ..
    · exact storageOp_gals ..

theorem windowRequest_gals (x m : Nat) (lv : Level) (a : Nat) (q : WinReq) (se ep : Bool) :
    (windowRequest x m lv a q se ep s).2.gals = s.gals := by
  unfold windowRequest
  dsimp only
  repeat' split
  all_goals rfl

theorem windowAccess_gals (x m : Nat) (lv : Level) (a : Nat) (op : JOp) (se ep : Bool) :
    (windowAccess x m lv a op se ep s).2.gals = s.gals := by
  have hrequest := windowRequest_gals s x m lv a op.request se ep
  unfold windowAccess
  generalize windowRequest x m lv a op.request se ep s = r at hrequest ⊢
  obtain ⟨o, t⟩ := r
  cases o <;> exact hrequest

theorem ite_gals {s : State} {c : Prop} [Decidable c] {x y : BusOut × State} (hx : x.2.gals = s.gals)
    (hy : y.2.gals = s.gals) : (if c then x else y).2.gals = s.gals := by
  split
  · exact hx
  · exact hy

/-- An access of a master that reaches no register, once granted. -/
theorem busPerform_gals (m : Nat) (lv : Level) (a : Nat) (op : JOp) (se ep : Bool) :
    (busPerform noReg m lv a op s se ep).2.gals = s.gals := by
  unfold busPerform
  refine ite_gals (defaultAccess_strayed ..).gals (ite_gals (defaultAccess_strayed ..).gals ?_)
  refine ite_gals rfl (ite_gals rfl ?_)
  cases targetOf a with
  | win x => exact windowAccess_gals ..
  | hbm | cham | lbuf => exact storageAccess_gals ..
  | nvs => exact storageOp_gals ..
  | rom => exact ite_gals rfl (storageOp_gals ..)
  | default | relay => rfl
  | reg | trav | evc | sec | cairn =>
    refine ite_gals rfl ?_
    cases op <;> rfl

theorem memAccess_gals (m : Nat) (lv : Level) (a : Nat) (op : JOp) (se ep : Bool) :
    (memAccess m lv a op s se ep).2.gals = s.gals := by
  have hperform := busPerform_gals s m lv a op se ep
  unfold memAccess busAccess
  generalize busPerform noReg m lv a op s se ep = r at hperform ⊢
  obtain ⟨o, t⟩ := r
  split
  · rfl
  · cases o with
    | wait => exact hperform
    | done q =>
      dsimp only
      split
      · exact hperform
      · exact (granted_strayed ..).gals.trans hperform

theorem galAccess_gals (g : Nat) (lv : Level) (a : Nat) (op : JOp) (se : Bool) :
    (galAccess g lv a op s se).2.gals = s.gals := by
  unfold galAccess
  split
  · exact storageAccess_gals ..
  · exact memAccess_gals ..

end access

theorem galWrites_gals (g : Nat) (ws : List Word) :
    ∀ (a : Nat) (s : State), (galWrites g a ws s).out.gals = s.gals := by
  induction ws with
  | nil => exact fun _ _ => rfl
  | cons w ws ih =>
    intro a s
    have haccess := galAccess_gals s g .m a (.wr w) false
    unfold galWrites
    generalize galAccess g .m a (.wr w) s = r at haccess ⊢
    obtain ⟨o, t⟩ := r
    cases o with
    | wait => exact haccess
    | done q =>
      have hrest := ih (a + 4) t
      dsimp only
      generalize galWrites g (a + 4) ws t = r at hrest ⊢
      cases r <;> exact hrest.trans haccess

theorem adUpdate_gals {acc : Nat → JOp → State → BusOut × State} (hacc : ∀ a op s, (acc a op s).2.gals = s.gals)
    (k : AccKind) (e : TlbE) (s : State) : (adUpdate acc k e s).2.gals = s.gals := by
  have haccess := hacc e.ptea.toNat (.pteupd (Word.int (e.pte &&& 0x3FFFFFF1000)) (Word.int k.adBits)) s
  unfold adUpdate
  dsimp only
  generalize acc e.ptea.toNat (.pteupd (Word.int (e.pte &&& 0x3FFFFFF1000)) (Word.int k.adBits)) s = r at haccess ⊢
  obtain ⟨o, t⟩ := r
  split
  · rfl
  · cases o with
    | wait => exact haccess
    | done q =>
      dsimp only
      repeat' split
      all_goals exact haccess

theorem keepWaiting_gals (s t : State) : (keepWaiting s t).gals = s.gals := by
  simp [keepWaiting, List.range_succ]

/-! ### Slots that a step leaves -/

/-- Every gallery's slots, and whether it is quarantined, are the same in t. -/
structure State.slotsKept (s t : State) : Prop where
  quar : ∀ g, (t.gal g).quar = (s.gal g).quar
  slots : ∀ g, (t.gal g).slots = (s.gal g).slots

theorem State.slotsKept_of_gals {s t : State} (h : t.gals = s.gals) : s.slotsKept t := by
  have hgal (g : Nat) : t.gal g = s.gal g := by rw [State.gal, h, ← State.gal]
  exact ⟨fun g => by rw [hgal], fun g => by rw [hgal]⟩

theorem State.slotsKept.refl (s : State) : s.slotsKept s := ⟨fun _ => rfl, fun _ => rfl⟩

theorem State.slotsKept.trans {s t u : State} (h : s.slotsKept t) (h' : t.slotsKept u) : s.slotsKept u :=
  ⟨fun g => (h'.quar g).trans (h.quar g), fun g => (h'.slots g).trans (h.slots g)⟩

theorem State.setGal_slotsKept {s : State} {g : Nat} {y : Gallery} (hquar : y.quar = (s.gal g).quar)
    (hslots : y.slots = (s.gal g).slots) : s.slotsKept (s.setGal g y) := by
  have hgal (h : Nat) : ((s.setGal g y).gal h).quar = (s.gal h).quar
      ∧ ((s.setGal g y).gal h).slots = (s.gal h).slots := by
    rw [State.setGal_gal]
    split
    · next he => exact he ▸ ⟨hquar, hslots⟩
    · exact ⟨rfl, rfl⟩
  exact ⟨fun h => (hgal h).1, fun h => (hgal h).2⟩

theorem galTlbPut_slotsKept (g i : Nat) (e : TlbE) (s : State) : s.slotsKept (galTlbPut g i e s) :=
  State.setGal_slotsKept rfl rfl

theorem setRelayIn_slotsKept (s : State) (g x : Nat) (r : RelayIn) : s.slotsKept (s.setRelayIn g x r) :=
  State.setGal_slotsKept rfl rfl

/-- The state with which a piece of an element's work ends. -/
def Acc.out {α : Type} : Acc α → State
  | .wait s => s
  | .bad _ s => s
  | .got _ s => s

theorem galPteloc_gals (g ptea va : Nat) (s : State) : (galPteloc g ptea va s).gals = s.gals := logCairn_gals ..

theorem galTranslate_slotsKept (g : Nat) (lv : Level) (k : AccKind) (va stream : Nat) (s : State) :
    s.slotsKept (galTranslate g lv k va stream s).out := by
  unfold galTranslate
  dsimp only
  split
  · exact State.slotsKept.refl s
  · next i _ =>
    split
    · exact State.slotsKept.refl s
    · split
      · exact State.slotsKept.refl s
      · have hupdate := State.slotsKept_of_gals (adUpdate_gals (acc := fun a op s => galAccess g lv a op s)
          (fun a op s => galAccess_gals s g lv a op false) k (tlbAt (s.gal g).tlb i) s)
        generalize adUpdate (fun a op s => galAccess g lv a op s) k (tlbAt (s.gal g).tlb i) s = r at hupdate ⊢
        obtain ⟨o, t⟩ := r
        cases o with
        | wait => exact hupdate
        | done => exact hupdate.trans (galTlbPut_slotsKept ..)
        | stale => exact hupdate.trans (galTlbPut_slotsKept ..)
        | loc => exact (hupdate.trans (galTlbPut_slotsKept ..)).trans (State.slotsKept_of_gals (galPteloc_gals ..))
        | bad st => exact hupdate.trans (State.slotsKept_of_gals (logCairn_gals ..))

theorem GCtx.resolve_slotsKept (c : GCtx) (x : Nat) (k : AccKind) (a : Int) (stream : Nat) (s : State) :
    s.slotsKept (c.resolve x k a stream s).out := by
  unfold GCtx.resolve
  dsimp only
  split
  · split
    · exact State.slotsKept.refl s
    · exact galTranslate_slotsKept ..
  · split
    · exact State.slotsKept.refl s
    · exact State.slotsKept.refl s

theorem GCtx.store_slotsKept (c : GCtx) (a : Int) (w : Word) (mask : Option Nat) (et elem smp : Nat) (s : State) :
    s.slotsKept (c.store a w mask et elem smp s).out := by
  have hresolve := c.resolve_slotsKept 3 .store a 7 s
  unfold GCtx.store
  dsimp only
  generalize c.resolve 3 .store a 7 s = r at hresolve ⊢
  cases r with
  | wait t => exact hresolve
  | bad f t => exact hresolve
  | got x t =>
    obtain ⟨pa, se⟩ := x
    refine ite_cases (P := fun r : Acc Unit => s.slotsKept r.out) (fun _ => hresolve) fun _ => ?_
    refine ite_cases (P := fun r : Acc Unit => s.slotsKept r.out) (fun _ => hresolve) fun _ => ?_
    have haccess {op : JOp} {o : BusOut} {u : State} (h : galAccess c.g c.lv pa op t se = (o, u)) : s.slotsKept u :=
      hresolve.trans (State.slotsKept_of_gals
        ((congrArg (State.gals ∘ Prod.snd) h).symm.trans (galAccess_gals t c.g c.lv pa op se)))
    split
    · next hwait => exact haccess hwait
    · next hdone =>
      split
      · exact haccess hdone
      · exact haccess hdone

theorem redWrite_slotsKept (g sl : Nat) (s : State) : s.slotsKept (redWrite g sl s).out := by
  unfold redWrite
  dsimp only
  split
  · exact State.slotsKept.refl s
  · split
    · exact GCtx.store_slotsKept ..
    · exact State.slotsKept.refl s

/-! ### Slots that have ended stay so -/

/-- Slot y has ended if x had, and waits for no fallback that x did not wait for. -/
structure Slot.ebbs (x y : Slot) : Prop where
  ended : x.st.over = true → y.st.over = true
  fbWait : y.fbWait.isSome = true → x.fbWait.isSome = true

theorem Slot.ebbs.refl (x : Slot) : x.ebbs x := ⟨id, id⟩

theorem Slot.ebbs.trans {x y z : Slot} (h : x.ebbs y) (h' : y.ebbs z) : x.ebbs z :=
  ⟨h'.ended ∘ h.ended, h.fbWait ∘ h'.fbWait⟩

theorem Slot.ebbs_of_same {x y : Slot} (hst : y.st = x.st) (hwait : y.fbWait = x.fbWait) : x.ebbs y :=
  ⟨fun h => hst ▸ h, fun h => hwait ▸ h⟩

/-- The slots of t are those of s further on towards their ends; the same galleries are quarantined. -/
structure State.ebbs (s t : State) : Prop where
  quar : ∀ g, (t.gal g).quar = (s.gal g).quar
  slots : ∀ g i, (s.slot g i).ebbs (t.slot g i)

theorem State.ebbs.trans {s t u : State} (h : s.ebbs t) (h' : t.ebbs u) : s.ebbs u :=
  ⟨fun g => (h'.quar g).trans (h.quar g), fun g i => (h.slots g i).trans (h'.slots g i)⟩

theorem State.slotsKept.ebbs {s t : State} (h : s.slotsKept t) : s.ebbs t := by
  refine ⟨h.quar, fun g i => ?_⟩
  have hslot : t.slot g i = s.slot g i := State.slot_congr (h.slots g) i
  rw [hslot]
  exact Slot.ebbs.refl _

theorem State.ebbs.refl (s : State) : s.ebbs s := (State.slotsKept.refl s).ebbs

theorem State.ebbs_of_gals {s t : State} (h : t.gals = s.gals) : s.ebbs t := (State.slotsKept_of_gals h).ebbs

section ebbs
variable {s : State} {g sl : Nat}

theorem State.setSlot_ebbs {x : Slot} (h : (s.slot g sl).ebbs x) : s.ebbs (s.setSlot g sl x) := by
  refine ⟨fun k => ?_, fun k i => ?_⟩
  · rw [State.setSlot, State.setGal_gal]
    split
    · next hk => rw [hk]
    · rfl
  · by_cases hk : k = g
    · subst hk
      by_cases hi : i = sl
      · rw [hi, State.setSlot_slot_same]
        exact h
      · rw [State.setSlot_slotsBut _ _ _ _ i hi]
        exact Slot.ebbs.refl _
    · have hslot : (s.setSlot g sl x).slot k i = s.slot k i := State.slot_congr (by rw [State.setSlot_gal_ne _ hk]) i
      rw [hslot]
      exact Slot.ebbs.refl _

theorem recordGone_ebbs : s.ebbs (recordGone g sl s) := by
  unfold recordGone
  extract_lets x y z t v w
  have hslot : (s.slot g sl).ebbs z := by
    refine ite_cases (P := (s.slot g sl).ebbs) (fun _ => ⟨fun _ => rfl, id⟩) fun _ => Slot.ebbs_of_same rfl rfl
  have hset : s.ebbs t := State.setSlot_ebbs hslot
  have hgone : t.slotsKept (t.setGal g { w with fullNoted := w.fullNoted && !w.retiring.isEmpty }) :=
    State.setGal_slotsKept (show v.quar = (t.gal g).quar from rfl) (show v.slots = (t.gal g).slots from rfl)
  exact hset.trans hgone.ebbs

theorem State.noted_gals (s : State) (g : Nat) (r : CRec) : (s.noted g r).gals = s.gals := by
  obtain ⟨k, c, hnoted⟩ := s.noted_rest g r
  rw [hnoted]

theorem writeRecord_ebbs : s.ebbs (writeRecord g s) := by
  unfold writeRecord
  split
  · exact State.ebbs.refl s
  · next sl l _ =>
    split
    · exact recordGone_ebbs
    · next r rs _ =>
      extract_lets o a
      split
      · exact State.ebbs.refl s
      · split
        · exact State.ebbs_of_gals (keepWaiting_gals ..)
        · next good t hgot =>
          have hgals : t.gals = s.gals :=
            (congrArg (fun r => r.out.gals) hgot).symm.trans (galWrites_gals g _ (a % 2 ^ 42) s)
          extract_lets v w x
          have hv : v.gals = s.gals :=
            ite_cases (P := fun u => State.gals u = s.gals) (fun _ => hgals) fun _ => 
              ((logCairn_gals ..).trans (State.setFld_gals ..)).trans hgals
          have hx : x.gals = s.gals := (State.noted_gals v g r).trans hv
          exact (State.ebbs_of_gals hx).trans recordGone_ebbs

theorem queueRecord_ebbs (r : CRec) : s.ebbs (queueRecord g sl r s) := by
  unfold queueRecord
  extract_lets y full _ t _ u
  have hslot : s.ebbs t := State.setSlot_ebbs (Slot.ebbs_of_same rfl rfl)
  have hgal : t.ebbs u := by
    refine State.slotsKept.ebbs (State.setGal_slotsKept ?_ ?_)
    · rfl
    · rfl
  refine (hslot.trans hgal).trans ?_
  split
  · split
    · exact State.ebbs_of_gals (State.setFld_gals ..)
    · exact State.ebbs_of_gals ((logCairn_gals ..).trans (State.setFld_gals ..))
  · exact writeRecord_ebbs

theorem galRecord_ebbs (r : CRec) : s.ebbs (galRecord g sl r s) := by
  unfold galRecord
  split
  · extract_lets t y
    have hraise : s.ebbs t := State.ebbs_of_gals (by unfold t; split; exact raise_gals ..; rfl)
    refine hraise.trans (State.setSlot_ebbs ⟨fun _ => ?_, id⟩)
    dsimp only
    split
    · rfl
    · rfl
  · exact queueRecord_ebbs r

theorem relayEnd_slotsKept (d : Desc) : s.slotsKept (relayEnd g sl d s) := by
  unfold relayEnd
  extract_lets dst x r t
  have hsender : s.slotsKept t := by
    refine ite_cases (P := s.slotsKept) (fun _ => setRelayIn_slotsKept ..) fun _ => State.slotsKept.refl s
  refine hsender.trans (List.foldlRecOn (motive := t.slotsKept) _ _ (State.slotsKept.refl t) fun u hu x _ => ?_)
  split
  · dsimp only
    split
    · exact hu
    · exact hu.trans (setRelayIn_slotsKept ..)
  · exact hu

theorem galLeave_ebbs (st : EndSt) : s.ebbs (galLeave g sl st s) := by
  unfold galLeave
  extract_lets x t
  have hrelay : s.ebbs t := (relayEnd_slotsKept x.desc).ebbs.trans (State.ebbs_of_gals (State.bump_gals ..))
  exact hrelay.trans (State.setSlot_ebbs ⟨fun _ => rfl, fun h => Bool.noConfusion h⟩)

theorem galLeave_over (st : EndSt) : ((galLeave g sl st s).slot g sl).st.over = true := by
  unfold galLeave
  rw [State.setSlot_slot_same]
  rfl

theorem putToken_ebbs (k : Nat) (b : Bool) : s.ebbs (putToken g k b s) := by
  unfold putToken
  split
  · exact State.ebbs.refl s
  · refine State.slotsKept.ebbs (State.setGal_slotsKept ?_ ?_)
    · rfl
    · rfl

theorem enterReady_ebbs (h : (s.slot g sl).st = .wait) : s.ebbs (enterReady g sl s) := by
  unfold enterReady
  extract_lets y
  have hgal : s.slotsKept (s.setGal g { y with readies := y.readies + 1 }) := State.setGal_slotsKept rfl rfl
  refine hgal.ebbs.trans (State.setSlot_ebbs ?_)
  rw [State.slot_congr (hgal.slots g)]
  refine ⟨fun hover => ?_, id⟩
  rw [h] at hover
  exact Bool.noConfusion hover

/-! ### Endings, and the tokens that they post -/

section posting
variable {set : Nat → Nat → State → State} (hset : ∀ (g k : Nat) (s : State), s.ebbs (set g k s))
include hset

theorem postWith_ebbs (k : Nat) : s.ebbs (postWith set g k s) := by
  unfold postWith
  split
  · exact State.ebbs.refl s
  · exact (hset g k s).trans (State.ebbs_of_gals rfl)

/-- An instruction that ends has left its slot, whatever its tokens release. -/
theorem galEndWith_ebbs (st : EndSt) :
    s.ebbs (galEndWith set g sl st s) ∧ ((galEndWith set g sl st s).slot g sl).st.over = true := by
  unfold galEndWith
  extract_lets x r t u
  have hleave : s.ebbs t := galLeave_ebbs st
  have hpost : t.ebbs u := by
    refine ite_cases (P := t.ebbs) (fun _ => State.ebbs.refl t) fun _ => ?_
    exact (postWith_ebbs hset _).trans (postWith_ebbs hset _)
  have hover : (u.slot g sl).st.over = true := (hpost.slots g sl).ended (galLeave_over st)
  have hrecord : u.ebbs (galRecord g sl r u) := galRecord_ebbs r
  exact ⟨(hleave.trans hpost).trans hrecord, (hrecord.slots g sl).ended hover⟩

theorem zeroWith_ebbs : s.ebbs (zeroWith set g sl s) := by
  have hred := redWrite_slotsKept g sl s
  unfold zeroWith
  extract_lets x
  split
  · generalize redWrite g sl s = r at hred ⊢
    cases r with
    | got y t => exact hred.ebbs.trans (galEndWith_ebbs hset _).1
    | wait t => exact State.ebbs_of_gals (keepWaiting_gals ..)
    | bad f t => exact State.ebbs.refl s
  · exact State.ebbs.refl s

theorem judgeWith_ebbs : s.ebbs (judgeWith set g sl s) := by
  unfold judgeWith
  extract_lets x y t
  split
  · exact State.ebbs.refl s
  · next hwait =>
    have hslot : s.ebbs t := State.setSlot_ebbs (Slot.ebbs_of_same rfl rfl)
    split
    · exact hslot
    · have hst : (t.slot g sl).st = .wait := by
        unfold t
        rw [State.setSlot_slot_same]
        exact not_not.mp hwait
      exact (hslot.trans (enterReady_ebbs hst)).trans (zeroWith_ebbs hset)

end posting

theorem setTokens_ebbs (n : Nat) : ∀ (g k : Nat) (s : State), s.ebbs (setTokens n g k s) := by
  induction n with
  | zero => exact fun _ _ _ => putToken_ebbs ..
  | succ n ih =>
    intro g k s
    exact List.foldlRecOn (motive := s.ebbs) _ _ (putToken_ebbs k true) fun t ht sl _ => ht.trans (judgeWith_ebbs ih)

theorem setToken_ebbs (g k : Nat) (s : State) : s.ebbs (setToken g k s) := by
  unfold setToken
  split
  · exact State.ebbs.refl s
  · exact setTokens_ebbs 33 g k s

theorem fbFail_ebbs (w : FbWait) : s.ebbs (fbFail g sl w s) := by
  unfold fbFail
  extract_lets x t
  have hslot : s.ebbs t := State.setSlot_ebbs ⟨id, fun h => Bool.noConfusion h⟩
  have hpost := hslot.trans (postWith_ebbs (g := g) setToken_ebbs x.owes)
  exact hpost.trans (galRecord_ebbs _)

end ebbs

end Sys2Proof.Machine
end

section
/-! Quarantine and the ownership of a gallery (R206, R207, R244 to R246 and R255). -/

namespace Sys2Proof.Machine

/-! ### What quarantine does before and after it ends the instructions, R244 and R245 -/

/-- The event and the log tell of the quarantine. -/
def State.quarantineTold (s : State) (g why : Nat) : State :=
  logCairn .gallery 0x04 [⟨4, g⟩, ⟨2, why⟩, ⟨5, (s.runSlot g).getD 0⟩] (raise (116 + g) s)

/-- A gallery out of service. -/
def Gallery.out (y : Gallery) (why : Nat) : Gallery :=
  { y with quar := true, ierr := why != 0, links := [], linkWait := none }

/-- The owner of a gallery hears of its internal error. -/
def State.ownerTold (s : State) (g why : Nat) : State :=
  if why = 0 then s
  else s.setCore (s.galOwner g) { s.core (s.galOwner g) with
    mcheck := (s.core (s.galOwner g)).mcheck ++ [{ sub := 3, eval := BitVec.ofNat 48 g }] }

/-- The quarantine as it is told and takes the gallery out of service. -/
def State.quarantined (s : State) (g why : Nat) : State :=
  ((s.quarantineTold g why).setGal g (((s.quarantineTold g why).gal g).out why)).ownerTold g why

/-- What quarantine makes of a slot. -/
def quarantineSlot (g sl : Nat) (s : State) : State :=
  match (s.slot g sl).fbWait with
  | some w => fbFail g sl w s
  | none => if (s.slot g sl).st = .free ∨ (s.slot g sl).st = .retire then s else galEnd g sl .quarantined s

/-- A relay input whose receivers have ended. -/
def RelayIn.shut (r : RelayIn) (g : Nat) : RelayIn := RelayIn.tidy
  { pairs := r.pairs.map fun p =>
      { p with rDone := true, buf := [], flight := if crossDie p.src g then p.flight else [] }
    order := [] }

/-- The relay inputs of a gallery shut. -/
def relaysShut (g : Nat) (s : State) : State :=
  (List.range 3).foldl (fun s x => s.setRelayIn g x ((s.relayIn g x).shut g)) s

theorem quarantine_eq {g : Nat} {s : State} (h : (s.gal g).quar = false) (why : Nat) : quarantine g why s
    = relaysShut g ((List.range 32).foldl (fun s sl => quarantineSlot g sl s) (s.quarantined g why)) := by
  rw [quarantine, h]
  rfl

section quarantined
variable (s : State) (g why : Nat)

theorem State.quarantineTold_rest :
    ∃ r c k, s.quarantineTold g why = { s with regs := r, cores := c, cairn := k } := by
  obtain ⟨r, c, hraise⟩ := raise_rest s (116 + g)
  obtain ⟨r', k, hlog⟩ := logCairn_rest (raise (116 + g) s) .gallery 0x04 [⟨4, g⟩, ⟨2, why⟩, ⟨5, (s.runSlot g).getD 0⟩]
  rw [State.quarantineTold, hlog, hraise]
  exact ⟨r', c, k, rfl⟩

theorem State.quarantineTold_gals : (s.quarantineTold g why).gals = s.gals := by
  obtain ⟨r, c, k, hrest⟩ := s.quarantineTold_rest g why
  rw [hrest]

theorem State.quarantineTold_regsBut :
    s.regsBut (s.quarantineTold g why) [R.EVC_PEND ((116 + g) / 32), R.CAIRN_DROPCNT] :=
  (raise_regsBut s (116 + g)).trans (logCairn_regsBut _ _ _ _)

theorem State.quarantineTold_galOwner (hg : g < 16) : (s.quarantineTold g why).galOwner g = s.galOwner g := by
  refine State.fld_of_reg (s.quarantineTold_regsBut g why (R.GAL_CFG g) ?_) _
  unfold R.GAL_CFG R.EVC_PEND R.CAIRN_DROPCNT
  simp only [List.mem_cons, List.not_mem_nil, or_false, not_or]
  omega

theorem State.quarantineTold_isPending (hg : g < 16) (hup : s.sideDown (eventDie (116 + g)) = false) :
    (s.quarantineTold g why).isPending (116 + g) = true := by
  rw [State.quarantineTold, logCairn_isPending _ _ _ _ (by omega)]
  exact raise_isPending s (116 + g) hup

/-- A core that an event wakes keeps its machine checks. -/
theorem State.quarantineTold_mcheck (hg : g < 16) (hup : s.sideDown (eventDie (116 + g)) = false) (k : Nat) :
    ((s.quarantineTold g why).core k).mcheck = (s.core k).mcheck := by
  rw [State.quarantineTold, State.core_congr (logCairn_cores ..), raise_core s (by omega) hup]
  split
  · rfl
  · rfl

theorem State.ownerTold_rest : ∃ c, s.ownerTold g why = { s with cores := c } := by
  unfold State.ownerTold
  split
  · exact ⟨s.cores, rfl⟩
  · exact ⟨_, rfl⟩

theorem State.ownerTold_mcheck (h : why ≠ 0) : ((s.ownerTold g why).core (s.galOwner g)).mcheck
    = (s.core (s.galOwner g)).mcheck ++ [{ sub := 3, eval := BitVec.ofNat 48 g }] := by
  rw [State.ownerTold, if_neg h, State.setCore_core, if_pos rfl]

/-- State t is s with gallery g out of service. -/
structure State.outOfService (s t : State) (g why : Nat) : Prop where
  gal : t.gal g = (s.gal g).out why
  others : ∀ h, h ≠ g → t.gal h = s.gal h
  regs : s.regsBut t [R.EVC_PEND ((116 + g) / 32), R.CAIRN_DROPCNT]
  pending : s.sideDown (eventDie (116 + g)) = false → t.isPending (116 + g) = true
  mcheck : s.sideDown (eventDie (116 + g)) = false → why ≠ 0 → (t.core (s.galOwner g)).mcheck
    = (s.core (s.galOwner g)).mcheck ++ [{ sub := 3, eval := BitVec.ofNat 48 g }]
  rest : t = { s with regs := t.regs, gals := t.gals, cores := t.cores, cairn := t.cairn }

theorem State.quarantined_outOfService (hg : g < 16) : s.outOfService (s.quarantined g why) g why := by
  have hgals := s.quarantineTold_gals g why
  have hbut := s.quarantineTold_regsBut g why
  have hpend := s.quarantineTold_isPending g why hg
  have hmcheck := s.quarantineTold_mcheck g why hg
  have howner := s.quarantineTold_galOwner g why hg
  obtain ⟨r, c, k, hrest⟩ := s.quarantineTold_rest g why
  unfold State.quarantined
  generalize s.quarantineTold g why = u at *
  have hgal (h : Nat) : u.gal h = s.gal h := by rw [State.gal, hgals, ← State.gal]
  have htold (h : why ≠ 0) := (u.setGal g ((u.gal g).out why)).ownerTold_mcheck g why h
  obtain ⟨c', hout⟩ := (u.setGal g ((u.gal g).out why)).ownerTold_rest g why
  have hregs : ((u.setGal g ((u.gal g).out why)).ownerTold g why).regs = u.regs := by rw [hout]; rfl
  have hgalst (h : Nat) : ((u.setGal g ((u.gal g).out why)).ownerTold g why).gal h
      = if h = g then (u.gal g).out why else u.gal h := by
    rw [← State.setGal_gal, hout]
    rfl
  refine ⟨?_, fun h hne => ?_, ?_, fun hup => ?_, fun hup hwhy => ?_, ?_⟩
  · rw [hgalst, if_pos rfl, hgal]
  · rw [hgalst, if_neg hne, hgal]
  · exact fun k hk => (State.reg_congr hregs k).trans (hbut k hk)
  · rw [State.isPending, State.regN_congr hregs]
    exact hpend hup
  · have hown : (u.setGal g ((u.gal g).out why)).galOwner g = s.galOwner g := howner
    rw [hown] at htold
    rw [htold hwhy, State.setGal_core, hmcheck hup]
  · rw [hout, hrest]
    rfl

end quarantined

/-! ### Relay inputs shut -/

section relaysShut
variable (s : State) (g : Nat)

/-- State t is s but for the relay inputs of gallery g. -/
structure State.relaysBut (s t : State) (g : Nat) : Prop where
  gal : ∃ r, t.gal g = { s.gal g with relay := r }
  others : ∀ h, h ≠ g → t.gal h = s.gal h
  rest : t = { s with gals := t.gals }

theorem State.relaysBut.trans {s t u : State} {g : Nat} (h : s.relaysBut t g) (h' : t.relaysBut u g) :
    s.relaysBut u g := by
  obtain ⟨r, hr⟩ := h.gal
  obtain ⟨r', hr'⟩ := h'.gal
  exact ⟨⟨r', by rw [hr', hr]⟩, fun k hk => (h'.others k hk).trans (h.others k hk), by rw [h'.rest, h.rest]⟩

theorem State.setRelayIn_relaysBut (x : Nat) (r : RelayIn) : s.relaysBut (s.setRelayIn g x r) g := by
  refine ⟨⟨tset (fun _ => {}) (s.gal g).relay x r, ?_⟩, fun h hne => ?_, rfl⟩
  · rw [State.setRelayIn, State.setGal_gal, if_pos rfl]
  · rw [State.setRelayIn, State.setGal_gal, if_neg hne]

theorem relaysShut_relaysBut : s.relaysBut (relaysShut g s) g :=
  List.foldlRecOn (motive := fun t => s.relaysBut t g) _ _ ⟨⟨_, rfl⟩, fun _ _ => rfl, rfl⟩
    fun t ht x _ => ht.trans (t.setRelayIn_relaysBut g x _)

theorem relaysShut_relayIn {x : Nat} (hx : x < 3) : (relaysShut g s).relayIn g x = (s.relayIn g x).shut g := by
  have hcases : x = 0 ∨ x = 1 ∨ x = 2 := by omega
  rcases hcases with rfl | rfl | rfl <;> simp [relaysShut, List.range_succ, State.setRelayIn_relayIn]

end relaysShut

/-- The pairs of an input that is shut take no more words, but for those on their way from another die. -/
theorem RelayIn.shut_pairs {r : RelayIn} {g : Nat} {p : RPair} (h : p ∈ (r.shut g).pairs) :
    p.rDone = true ∧ p.buf = [] ∧ (crossDie p.src g = false → p.flight = []) := by
  rw [RelayIn.shut, RelayIn.tidy_pairs] at h
  obtain ⟨q, _, rfl⟩ := List.mem_map.mp (List.mem_filter.mp h).1
  exact ⟨rfl, rfl, fun hdie => if_neg (by simp [hdie])⟩

/-! ### The entry and the endings -/

/-- The state in which quarantine takes effect: CFG.QUAR set by its write, or a fault of the control store logged. -/
def State.quarantineCause (s : State) (g why : Nat) (ma : Bool) (mpc : Nat) : State :=
  if why = 0 then s.setFld (R.GAL_CFG g) F.GAL_CFG_QUAR 1 else if why = 2 then microEntry g ma mpc s else s

section logOn
variable (s : State) (die : Nat) (src : Src) (code : Nat) (fs : List DF)

theorem logOn_spec : s.regsBut (logOn die src code fs s) [R.CAIRN_DROPCNT]
    ∧ ∃ r c, logOn die src code fs s = { s with regs := r, cairn := c } := by
  unfold logOn logAtHub
  split
  · exact ⟨fun _ _ => rfl, _, _, rfl⟩
  · split
    · exact ⟨fun _ _ => rfl, _, _, rfl⟩
    · dsimp only
      split
      · exact ⟨fun _ _ => rfl, _, _, rfl⟩
      · obtain ⟨r, hbump⟩ := s.bump_rest R.CAIRN_DROPCNT F.CAIRN_DROPCNT_DROPCNT 1
        have hbut : s.regsBut (s.bump R.CAIRN_DROPCNT F.CAIRN_DROPCNT_DROPCNT) [R.CAIRN_DROPCNT] :=
          s.setFld_regsBut _ _ _
        rw [hbump] at hbut ⊢
        exact ⟨hbut, r, _, rfl⟩

end logOn

theorem microEntry_spec (g : Nat) (ma : Bool) (mpc : Nat) (s : State) :
    s.regsBut (microEntry g ma mpc s) [R.CAIRN_DROPCNT]
      ∧ ∃ r c f, microEntry g ma mpc s = { s with regs := r, cairn := c, fresh := f } := by
  obtain ⟨hbut, r, c, hrest⟩ := logOn_spec s.freeNat.2 (galDie g) .ucode (if ma then 0x04 else 0x05)
    [⟨16, s.freeNat.1⟩, ⟨14, mpc⟩]
  exact ⟨hbut, r, c, _, hrest⟩

/-- State t is s but for the cause of a quarantine. -/
structure State.causeOnly (s t : State) (g why : Nat) : Prop where
  regs : s.regsBut t [R.GAL_CFG g, R.CAIRN_DROPCNT]
  quar : why = 0 → t.flag (R.GAL_CFG g) F.GAL_CFG_QUAR = true
  owner : t.galOwner g = s.galOwner g
  rest : ∃ r c f, t = { s with regs := r, cairn := c, fresh := f }

theorem State.quarantineCause_causeOnly (s : State) {g : Nat} (hg : g < 16) (why : Nat) (ma : Bool) (mpc : Nat) :
    s.causeOnly (s.quarantineCause g why ma mpc) g why := by
  have hne : R.GAL_CFG g ≠ R.CAIRN_DROPCNT := by
    unfold R.GAL_CFG R.CAIRN_DROPCNT
    omega
  unfold State.quarantineCause
  split
  · have hset := s.setFld_fld_same (R.GAL_CFG g) F.GAL_CFG_QUAR 1 (by decide)
    have hother := s.setFld_fld_other (R.GAL_CFG g) F.GAL_CFG_QUAR F.GAL_CFG_OWNER 1 (by decide) (.inl (by decide))
    obtain ⟨r, hrest⟩ := s.setFld_rest (R.GAL_CFG g) F.GAL_CFG_QUAR 1
    refine ⟨(s.setFld_regsBut _ _ _).mono (by simp), fun _ => ?_, hother, r, s.cairn, s.fresh, hrest⟩
    rw [State.flag, hset]
    rfl
  · next hwhy =>
    split
    · obtain ⟨hbut, hrest⟩ := microEntry_spec g ma mpc s
      refine ⟨hbut.mono (by simp), fun h => absurd h hwhy, ?_, hrest⟩
      exact State.fld_of_reg (hbut (R.GAL_CFG g) (by simpa using hne)) _
    · exact ⟨fun _ _ => rfl, fun h => absurd h hwhy, rfl, _, _, _, rfl⟩

/-- A quarantine that its cause brings about, R244 and R255. -/
theorem execQuarantineEnter_eq {g : Fin 16} {why : Fin 4} {ma : Bool} {mpc : BitVec 14} {s : State}
    (hq : (s.gal g).quar = false) (hma : why.val = 2 → (ma = true ↔ 0x2400 ≤ mpc.toNat)) :
    exec (.quarantineEnter g why ma mpc) s = ok (quarantine g why (s.quarantineCause g why ma mpc.toNat)) := by
  have hno : ¬ (why.val = 2 ∧ ma = UcUnit.sequencer.has mpc.toNat) := by
    rintro ⟨htwo, hhas⟩
    have hma := hma htwo
    rw [hhas, UcUnit.has, decide_eq_true_eq] at hma
    change mpc.toNat < 0x2400 ↔ _ at hma
    omega
  rw [exec_quarantineEnter, execQuarantineEnter, hq, if_neg hno]
  rfl

/-- A micro-address that its fault does not fit does nothing, R255. -/
theorem execQuarantineEnter_unfit {g : Fin 16} {ma : Bool} {mpc : BitVec 14} {s : State}
    (hma : ma = true ↔ mpc.toNat < 0x2400) : exec (.quarantineEnter g 2 ma mpc) s = .next s := by
  have hhas : (2 : Fin 4).val = 2 ∧ ma = UcUnit.sequencer.has mpc.toNat := by
    refine ⟨rfl, Bool.eq_iff_iff.mpr (hma.trans ?_)⟩
    rw [UcUnit.has, decide_eq_true_eq]
    rfl
  rw [exec_quarantineEnter, execQuarantineEnter, if_pos hhas, ite_self]
  rfl

/-! ### Every instruction ends -/

section quarantineSlot
variable {s : State} {g sl : Nat}

theorem quarantineSlot_free (hst : (s.slot g sl).st = .free) (hwait : (s.slot g sl).fbWait = none) :
    quarantineSlot g sl s = s := by
  rw [quarantineSlot, hwait, hst]
  rfl

theorem quarantineSlot_ebbs : s.ebbs (quarantineSlot g sl s) := by
  unfold quarantineSlot
  split
  · exact fbFail_ebbs _
  · split
    · exact State.ebbs.refl s
    · exact (galEndWith_ebbs setToken_ebbs _).1

/-- A slot that waits for a fallback has ended. -/
def State.waitsEnded (s : State) (g : Nat) : Prop :=
  ∀ i, (s.slot g i).fbWait.isSome = true → (s.slot g i).st.over = true

theorem State.waitsEnded.ebbs {t : State} (h : s.waitsEnded g) (hebbs : s.ebbs t) : t.waitsEnded g := fun i hi =>
  (hebbs.slots g i).ended (h i ((hebbs.slots g i).fbWait hi))

theorem quarantineSlot_over (h : s.waitsEnded g) : ((quarantineSlot g sl s).slot g sl).st.over = true := by
  unfold quarantineSlot
  split
  · next w hw => exact ((fbFail_ebbs w).slots g sl).ended (h sl (by rw [hw]; rfl))
  · split
    · next hover => simpa [SlotSt.over] using hover
    · exact (galEndWith_ebbs setToken_ebbs _).2

theorem quarantineSlots_over (l : List Nat) : ∀ s : State, s.waitsEnded g →
    s.ebbs (l.foldl (fun s sl => quarantineSlot g sl s) s)
      ∧ ∀ sl ∈ l, ((l.foldl (fun s sl => quarantineSlot g sl s) s).slot g sl).st.over = true := by
  induction l with
  | nil => exact fun s _ => ⟨State.ebbs.refl s, fun _ h => absurd h List.not_mem_nil⟩
  | cons i l ih =>
    intro s h
    have hstep : s.ebbs (quarantineSlot g i s) := quarantineSlot_ebbs
    obtain ⟨hrest, hover⟩ := ih (quarantineSlot g i s) (h.ebbs hstep)
    refine ⟨hstep.trans hrest, fun sl hsl => ?_⟩
    rcases List.mem_cons.mp hsl with rfl | hsl
    · exact (hrest.slots g sl).ended (quarantineSlot_over h)
    · exact hover sl hsl

end quarantineSlot

theorem relaysShut_slotsKept (g : Nat) (s : State) : s.slotsKept (relaysShut g s) :=
  List.foldlRecOn (motive := s.slotsKept) _ _ (State.slotsKept.refl s) fun _ ht _ _ =>
    ht.trans (setRelayIn_slotsKept ..)

/-- Quarantine ends every instruction of its gallery, R244. -/
theorem quarantine_over {g : Nat} (hg : g < 16) {s : State} (hq : (s.gal g).quar = false) (h : s.waitsEnded g)
    (why : Nat) : ((quarantine g why s).gal g).quar = true
      ∧ ∀ sl, sl < 32 → ((quarantine g why s).slot g sl).st.over = true := by
  have hout := s.quarantined_outOfService g why hg
  have hslot (i : Nat) : (s.quarantined g why).slot g i = s.slot g i := State.slot_congr (by rw [hout.gal]; rfl) i
  obtain ⟨hebbs, hover⟩ := quarantineSlots_over (g := g) (List.range 32) (s.quarantined g why)
    fun i => by rw [hslot]; exact h i
  rw [quarantine_eq hq]
  generalize (List.range 32).foldl (fun s sl => quarantineSlot g sl s) (s.quarantined g why) = t at *
  have hshut := (relaysShut_slotsKept g t).ebbs
  refine ⟨?_, fun sl hsl => (hshut.slots g sl).ended (hover sl (List.mem_range.mpr hsl))⟩
  rw [hshut.quar, hebbs.quar, hout.gal]
  rfl

/-- Quarantine of a gallery without instructions. -/
theorem quarantine_free {g : Nat} {s : State} (hg : g < 16) (hq : (s.gal g).quar = false)
    (h : ∀ i, (s.slot g i).st = .free ∧ (s.slot g i).fbWait = none) (why : Nat) :
    quarantine g why s = relaysShut g (s.quarantined g why) := by
  have hout := s.quarantined_outOfService g why hg
  have hslot (i : Nat) : (s.quarantined g why).slot g i = s.slot g i := State.slot_congr (by rw [hout.gal]; rfl) i
  have hkeep (i : Nat) : quarantineSlot g i (s.quarantined g why) = s.quarantined g why :=
    quarantineSlot_free (by rw [hslot, (h i).1]) (by rw [hslot, (h i).2])
  rw [quarantine_eq hq, List.foldl_fixed' hkeep]

/-! ### Ownership, and the way out of quarantine -/

/-- The way out of quarantine of a gallery in service does nothing but clear CFG.QUAR, R246. -/
theorem leaveQuarantine_inService {g : Nat} {s : State} (h : (s.gal g).quar = false) :
    leaveQuarantine g s = s.setFld (R.GAL_CFG g) F.GAL_CFG_QUAR 0 := by
  refine if_neg ?_
  rw [State.setFld_gal, h]
  exact Bool.false_ne_true

theorem leaveQuarantine_out {g : Nat} {s : State} (h : (s.gal g).quar = true) : leaveQuarantine g s
    = (s.setFld (R.GAL_CFG g) F.GAL_CFG_QUAR 0).setGal g { s.gal g with resetting := true } := by
  refine (if_pos ?_).trans ?_
  · rw [State.setFld_gal, h]
  · rw [State.setFld_gal]

/-- Leaving quarantine starts the reset of the gallery, R246. -/
theorem leaveQuarantine_spec {g : Nat} {s : State} (h : (s.gal g).quar = true) :
    (leaveQuarantine g s).gal g = { s.gal g with resetting := true }
      ∧ (leaveQuarantine g s).flag (R.GAL_CFG g) F.GAL_CFG_QUAR = false ∧ s.regsBut (leaveQuarantine g s) [R.GAL_CFG g]
      ∧ (∀ k, k ≠ g → (leaveQuarantine g s).gal k = s.gal k)
      ∧ leaveQuarantine g s = { s with regs := (leaveQuarantine g s).regs, gals := (leaveQuarantine g s).gals } := by
  have hset := s.setFld_fld_same (R.GAL_CFG g) F.GAL_CFG_QUAR 0 (by decide)
  have hbut := s.setFld_regsBut (R.GAL_CFG g) F.GAL_CFG_QUAR 0
  have hgal (k : Nat) := s.setFld_gal (R.GAL_CFG g) F.GAL_CFG_QUAR 0 k
  obtain ⟨r, hrest⟩ := s.setFld_rest (R.GAL_CFG g) F.GAL_CFG_QUAR 0
  rw [leaveQuarantine_out h]
  generalize s.setFld (R.GAL_CFG g) F.GAL_CFG_QUAR 0 = u at *
  refine ⟨?_, ?_, fun k hk => ?_, fun k hk => ?_, ?_⟩
  · rw [State.setGal_gal, if_pos rfl]
  · rw [State.flag_of_reg (State.setGal_reg ..), State.flag, hset, Nat.zero_mod]
    rfl
  · rw [State.setGal_reg, hbut k hk]
  · rw [State.setGal_gal, if_neg hk, hgal]
  · rw [State.setGal, hrest]

/-- A gallery after the reset that ends its quarantine, R246. -/
def Gallery.reset (y : Gallery) : Gallery :=
  { y with
    slots := [], sb := [], tlb := tlbInvalAll y.tlb, quar := false, resetting := false, ierr := false, retiring := [],
    fullNoted := false, links := [], linkWait := none }

theorem quarantineDone_eq {g : Nat} {s : State} (h : (s.gal g).resetting = true) :
    quarantineDone g s = logCairn .gallery 0x05 [⟨4, g⟩] (s.setGal g (s.gal g).reset) := if_pos h

/-- The reset ends with the gallery as after reset, and an entry in the log, R246. -/
theorem quarantineDone_spec {g : Nat} {s : State} (h : (s.gal g).resetting = true) :
    (quarantineDone g s).gal g = (s.gal g).reset ∧ s.regsBut (quarantineDone g s) [R.CAIRN_DROPCNT]
      ∧ (∀ k, k ≠ g → (quarantineDone g s).gal k = s.gal k)
      ∧ quarantineDone g s = { s with
        regs := (quarantineDone g s).regs
        gals := (quarantineDone g s).gals
        cairn := (quarantineDone g s).cairn } := by
  have hgals := logCairn_gals (s.setGal g (s.gal g).reset) .gallery 0x05 [⟨4, g⟩]
  have hbut := logCairn_regsBut (s.setGal g (s.gal g).reset) .gallery 0x05 [⟨4, g⟩]
  obtain ⟨r, c, hrest⟩ := logCairn_rest (s.setGal g (s.gal g).reset) .gallery 0x05 [⟨4, g⟩]
  rw [quarantineDone_eq h]
  generalize logCairn .gallery 0x05 [⟨4, g⟩] (s.setGal g (s.gal g).reset) = t at *
  have hgal (k : Nat) : t.gal k = if k = g then (s.gal g).reset else s.gal k := by
    rw [State.gal, hgals, ← State.gal, State.setGal_gal]
  refine ⟨by rw [hgal, if_pos rfl], fun k hk => ?_, fun k hk => by rw [hgal, if_neg hk], ?_⟩
  · rw [hbut k hk, State.setGal_reg]
  · rw [hrest]
    rfl

/-- The gallery as its owner register names an owner. -/
def State.ownedBy (s : State) (g o : Nat) : State :=
  if o = s.galOwner g then s
  else (s.setFld (R.GAL_CFG g) F.GAL_CFG_OWNER o).setGal g { s.gal g with tlb := tlbInvalAll (s.gal g).tlb }

theorem State.ownedBy_quar (s : State) (g o : Nat) : ((s.ownedBy g o).gal g).quar = (s.gal g).quar := by
  unfold State.ownedBy
  split
  · rfl
  · rw [State.setGal_gal, if_pos rfl]

theorem galCfgWrite_owner {g v : Nat} {s : State} (hq : (s.gal g).quar = false) (hv : bit v 4 = false)
    (hok : (s.gal g).busy = false ∨ v % 16 = s.galOwner g) : galCfgWrite g .m v s
    = ((s.ownedBy g (v % 16)).setFld (R.GAL_CFG g) F.GAL_CFG_PREN (bits v 5 1)).setFld (R.GAL_CFG g)
      F.GAL_CFG_QUAR 0 := by
  have hbusy : ¬ (v % 16 ≠ s.galOwner g ∧ (s.gal g).busy = true) := by
    rintro ⟨hne, hbusy⟩
    rcases hok with hfree | hsame
    · exact absurd hbusy (by simp [hfree])
    · exact hne hsame
  have hclear : ¬ bit v 4 = true := by simp [hv]
  have hquar : (((s.ownedBy g (v % 16)).setFld (R.GAL_CFG g) F.GAL_CFG_PREN (bits v 5 1)).gal g).quar = false := by
    rw [State.setFld_gal, State.ownedBy_quar, hq]
  rw [← leaveQuarantine_inService hquar]
  unfold galCfgWrite
  extract_lets o owner t u
  rw [if_neg (not_not.mpr rfl), if_neg hbusy, if_neg hclear]
  rfl

/-- State t is s with gallery g owned by core o. -/
structure State.owned (s t : State) (g o : Nat) : Prop where
  owner : t.galOwner g = o
  gal : t.gal g = if o = s.galOwner g then s.gal g else { s.gal g with tlb := tlbInvalAll (s.gal g).tlb }
  others : ∀ h, h ≠ g → t.gal h = s.gal h
  regs : s.regsBut t [R.GAL_CFG g]
  rest : t = { s with regs := t.regs, gals := t.gals }

theorem State.galOwner_of_reg {s t : State} {g : Nat} (h : t.reg (R.GAL_CFG g) = s.reg (R.GAL_CFG g)) :
    t.galOwner g = s.galOwner g := State.fld_of_reg h _

theorem State.ownedBy_owned (s : State) (g : Nat) {o : Nat} (ho : o < 16) : s.owned (s.ownedBy g o) g o := by
  unfold State.ownedBy
  split
  · next h => exact ⟨h.symm, by rw [if_pos h], fun _ _ => rfl, fun _ _ => rfl, rfl⟩
  · next h =>
    have hset := s.setFld_fld_same (R.GAL_CFG g) F.GAL_CFG_OWNER o (by decide)
    have hbut := s.setFld_regsBut (R.GAL_CFG g) F.GAL_CFG_OWNER o
    have hgal (k : Nat) := s.setFld_gal (R.GAL_CFG g) F.GAL_CFG_OWNER o k
    obtain ⟨r, hrest⟩ := s.setFld_rest (R.GAL_CFG g) F.GAL_CFG_OWNER o
    generalize s.setFld (R.GAL_CFG g) F.GAL_CFG_OWNER o = u at *
    refine ⟨?_, ?_, fun k hk => ?_, fun k hk => ?_, ?_⟩
    · rw [State.galOwner_of_reg (State.setGal_reg ..)]
      exact hset.trans (Nat.mod_eq_of_lt ho)
    · rw [State.setGal_gal, if_pos rfl, if_neg h]
    · rw [State.setGal_gal, if_neg hk, hgal]
    · rw [State.setGal_reg, hbut k hk]
    · rw [State.setGal, hrest]

/-- The other fields of CFG leave the ownership. -/
theorem State.owned.setFld {s t : State} {g o : Nat} (h : s.owned t g o) {f : Fld}
    (hf : f.lo + f.w ≤ 48 ∧ F.GAL_CFG_OWNER.lo + F.GAL_CFG_OWNER.w ≤ f.lo) (v : Nat) :
    s.owned (t.setFld (R.GAL_CFG g) f v) g o := by
  have hother := t.setFld_fld_other (R.GAL_CFG g) f F.GAL_CFG_OWNER v hf.1 (.inl hf.2)
  have hbut := t.setFld_regsBut (R.GAL_CFG g) f v
  have hgal (k : Nat) := t.setFld_gal (R.GAL_CFG g) f v k
  obtain ⟨r, hrest⟩ := t.setFld_rest (R.GAL_CFG g) f v
  generalize t.setFld (R.GAL_CFG g) f v = u at *
  refine ⟨hother.trans h.owner, (hgal g).trans h.gal, fun k hk => (hgal k).trans (h.others k hk),
    (h.regs.trans hbut).mono (by simp), ?_⟩
  rw [hrest, h.rest]

section ownerWrite
variable {g o : Fin 16} {s : State}

/-- The value that an owner write stores: CFG with another owner. -/
theorem ownerValue (s : State) (g o : Fin 16) : setBits (s.regN (R.GAL_CFG g)) 0 4 o % 16 = o.val
    ∧ bit (setBits (s.regN (R.GAL_CFG g)) 0 4 o) 4 = s.flag (R.GAL_CFG g) F.GAL_CFG_QUAR := by
  have howner := bits_setBits_same (s.regN (R.GAL_CFG g)) 0 4 o
  have hquar := bits_setBits_high (s.regN (R.GAL_CFG g)) 0 4 o 4 1 (by decide)
  refine ⟨?_, ?_⟩
  · rw [bits, Nat.pow_zero, Nat.div_one] at howner
    exact howner.trans (Nat.mod_eq_of_lt o.isLt)
  · rw [bit_eq_bits, hquar]
    rfl

theorem execGalOwnerWrite_owned (hq : (s.gal g).quar = false) (hflag : s.flag (R.GAL_CFG g) F.GAL_CFG_QUAR = false)
    (hok : (s.gal g).busy = false ∨ o.val = s.galOwner g) :
    ∃ t, exec (.galOwnerWrite g o) s = .next t ∧ s.owned t g o := by
  obtain ⟨hval, hbit⟩ := ownerValue s g o
  have hwrite := galCfgWrite_owner hq (hbit.trans hflag) (by rwa [hval])
  rw [hval] at hwrite
  refine ⟨_, congrArg ok hwrite, ?_⟩
  exact ((s.ownedBy_owned g o.isLt).setFld (by decide) _).setFld (by decide) _

theorem execGalOwnerWrite_refused (hbusy : (s.gal g).busy = true) (ho : o.val ≠ s.galOwner g) :
    exec (.galOwnerWrite g o) s = .next (galStateReject g (R.GAL_CFG g) s) := by
  have hno : setBits (s.regN (R.GAL_CFG g)) 0 4 o % 16 ≠ s.galOwner g ∧ (s.gal g).busy = true := by
    rw [(ownerValue s g o).1]
    exact ⟨ho, hbusy⟩
  rw [exec_galOwnerWrite, execGalOwnerWrite, galCfgWrite]
  dsimp only
  rw [if_neg (not_not.mpr rfl), if_pos hno]
  rfl

end ownerWrite

/-! ### The obligation -/

/-- What quarantine does to a gallery whose slots are all FREE, R244 and R245. -/
theorem quarantineEnter_free {g : Nat} (hg : g < 16) {why mpc : Nat} {ma : Bool} {s : State}
    (hq : (s.gal g).quar = false) (hfree : ∀ sl, (s.slot g sl).st = .free ∧ (s.slot g sl).fbWait = none)
    (hup : s.sideDown (eventDie (116 + g)) = false) :
    ∃ t, quarantine g why (s.quarantineCause g why ma mpc) = t ∧ (t.gal g).quar = true
      ∧ (t.gal g).ierr = decide (why ≠ 0) ∧ (t.gal g).links = [] ∧ (t.gal g).linkWait = none
      ∧ t.isPending (116 + g) = true ∧ (∀ sl, t.slot g sl = s.slot g sl)
      ∧ (∀ x, x < 3 → ∀ p ∈ (t.relayIn g x).pairs,
        p.rDone = true ∧ p.buf = [] ∧ (crossDie p.src g = false → p.flight = []))
      ∧ (why = 0 → t.flag (R.GAL_CFG g) F.GAL_CFG_QUAR = true)
      ∧ (why ≠ 0 → (t.core (s.galOwner g)).mcheck
          = (s.core (s.galOwner g)).mcheck ++ [{ sub := 3, eval := BitVec.ofNat 48 g }])
      ∧ (∀ h, h ≠ g → t.gal h = s.gal h)
      ∧ s.regsBut t [R.GAL_CFG g, R.EVC_PEND ((116 + g) / 32), R.CAIRN_DROPCNT]
      ∧ t = { s with regs := t.regs, gals := t.gals, cores := t.cores, cairn := t.cairn, fresh := t.fresh } := by
  obtain ⟨hcause, hflag, howner, r, c, f, hu⟩ := s.quarantineCause_causeOnly hg why ma mpc
  generalize s.quarantineCause g why ma mpc = u at *
  have hgal (k : Nat) : u.gal k = s.gal k := by rw [hu]; rfl
  have hslot (i : Nat) : u.slot g i = s.slot g i := State.slot_congr (by rw [hgal]) i
  have hcore (k : Nat) : u.core k = s.core k := by rw [hu]; rfl
  have hupu : u.sideDown (eventDie (116 + g)) = false := by rw [hu]; exact hup
  have hout := u.quarantined_outOfService g why hg
  have hend := quarantine_free hg (by rw [hgal, hq]) (fun i => by rw [hslot]; exact hfree i) why
  generalize u.quarantined g why = v at *
  obtain ⟨⟨relay, hgalt⟩, hothers, hrest⟩ := relaysShut_relaysBut v g
  have hrelay {x : Nat} (hx : x < 3) := relaysShut_relayIn v g hx
  have hkept := relaysShut_slotsKept g v
  refine ⟨_, hend, ?_⟩
  generalize relaysShut g v = t at *
  have hregs : t.regs = v.regs := by rw [hrest]
  have hcfg : t.reg (R.GAL_CFG g) = u.reg (R.GAL_CFG g) := by
    rw [State.reg_congr hregs]
    refine hout.regs _ ?_
    unfold R.GAL_CFG R.EVC_PEND R.CAIRN_DROPCNT
    simp only [List.mem_cons, List.not_mem_nil, or_false, not_or]
    omega
  refine ⟨?_, ?_, ?_, ?_, ?_, fun sl => ?_, fun x hx p hp => ?_, fun h => ?_, fun h => ?_, fun k hk => ?_, ?_, ?_⟩
  · rw [hgalt, hout.gal]
    rfl
  · rw [hgalt, hout.gal]
    exact Bool.eq_iff_iff.mpr (by simp [Gallery.out])
  · rw [hgalt, hout.gal]
    rfl
  · rw [hgalt, hout.gal]
    rfl
  · rw [State.isPending, State.regN_congr hregs]
    exact hout.pending hupu
  · rw [State.slot_congr (hkept.slots g), State.slot_congr (s := u) (by rw [hout.gal]; rfl), hslot]
  · rw [hrelay hx] at hp
    exact RelayIn.shut_pairs hp
  · rw [State.flag_of_reg hcfg]
    exact hflag h
  · rw [← howner, hrest]
    exact (hout.mcheck hupu h).trans (by rw [hcore])
  · rw [hothers k hk, hout.others k hk, hgal]
  · exact ((hcause.trans hout.regs).trans (State.regsBut_of_regs hregs [])).mono (by simp)
  · rw [hrest, hout.rest, hu]

/-- Settles O41: the endings that quarantine brings about keep every slot that has ended, so that after the fold over
the slots none is left; the rest is what the owner's write, the cause, the way out and the reset each do. -/
theorem quarantineRules : Obligations.QuarantineRules := by
  unfold Obligations.QuarantineRules
  refine ⟨fun g o s hq hflag => ⟨fun hok => ?_, fun hbusy ho => ?_⟩, fun g why ma mpc s hq hfree hma hup => ?_,
    fun g why ma mpc s hq hma hwaits => ?_, fun g ma mpc s hma => execQuarantineEnter_unfit hma, fun g s hq => ?_,
    fun g s hreset => ?_⟩
  · obtain ⟨t, hexec, howner, hgal, hothers, hregs, hrest⟩ := execGalOwnerWrite_owned hq hflag hok
    exact ⟨t, hexec, howner, hgal, hothers, hregs, hrest⟩
  · obtain ⟨hflag, hbut, r, c, f, hrest⟩ := galStateReject_spec g (R.GAL_CFG g) s
    refine ⟨_, execGalOwnerWrite_refused hbusy ho, State.galOwner_of_reg (hbut _ ?_), hflag, hbut, by rw [hrest]⟩
    unfold R.GAL_CFG R.GAL_ERR R.CAIRN_DROPCNT
    simp only [List.mem_cons, List.not_mem_nil, or_false, not_or]
    omega
  · obtain ⟨t, ht, hrest⟩ := quarantineEnter_free g.isLt (why := why) (mpc := mpc.toNat) (ma := ma) hq hfree hup
    exact ⟨t, by rw [execQuarantineEnter_eq hq hma, ht]; rfl, hrest⟩
  · have hgals : (s.quarantineCause g why ma mpc.toNat).gals = s.gals := by
      obtain ⟨r, c, f, hrest⟩ := (s.quarantineCause_causeOnly g.isLt why ma mpc.toNat).rest
      rw [hrest]
    have hkept := State.slotsKept_of_gals hgals
    refine ⟨_, execQuarantineEnter_eq hq hma, quarantine_over g.isLt ((hkept.quar g).trans hq) (fun i => ?_) why⟩
    rw [State.slot_of_gals hgals]
    exact hwaits i
  · exact ⟨leaveQuarantine g s, rfl, leaveQuarantine_spec hq⟩
  · obtain ⟨hgal, hbut, hothers, hrest⟩ := quarantineDone_spec hreset
    refine ⟨quarantineDone g s, rfl, ?_, ?_, fun sl => ?_, fun k => ?_, ?_, hbut, hothers, hrest⟩
    · rw [hgal]
      rfl
    · rw [hgal]
      rfl
    · rw [State.slot, hgal]
      rfl
    · rw [State.token, hgal]
      exact Bool.or_true _
    · rw [hgal]
      rfl

end Sys2Proof.Machine
end

section
/-! Microcode registers and micro-fetches: writes of patch entries and match registers, and which word a fetch takes
(R252 to R262). -/

namespace Sys2Proof.Machine

/-! ### Where the registers of the images lie -/

theorem rowsAt_ucode {off : Nat} (hlo : 0x3f00000 ≤ off) (hhi : off < 0x4000000) : rowsAt off = rows_casc := by
  unfold rowsAt
  iterate 16 rw [if_neg (by omega)]
  rw [if_pos hhi]

theorem dimIndex_one {k st i : Nat} (hst : 0 < st) (h : i < k) : dimIndex [(k, st)] (i * st) = some [i] := by
  simp [dimIndex, Nat.mul_div_cancel _ hst, h]

theorem dimIndex_two {k st l su i j : Nat} (hsu : 0 < su) (hi : i < k) (hj : j < l) (hfit : l * su ≤ st) :
    dimIndex [(k, st), (l, su)] (i * st + j * su) = some [i, j] := by
  have hlt : j * su < st := (Nat.mul_lt_mul_of_pos_right hj hsu).trans_le hfit
  have hdiv : (i * st + j * su) / st = i := by
    rw [Nat.mul_comm, Nat.mul_add_div (by omega), Nat.div_eq_of_lt hlt, Nat.add_zero]
  have hmod : (i * st + j * su) % st = j * su := by
    rw [Nat.add_comm, Nat.add_mul_mod_self_right, Nat.mod_eq_of_lt hlt]
  rw [dimIndex, hdiv, hmod, if_pos hi, dimIndex_one hsu hj]
  rfl

theorem dimIndex_beyond {k st d : Nat} {ds : List (Nat × Nat)} (h : k ≤ d / st) : dimIndex ((k, st) :: ds) d = none :=
  if_neg (Nat.not_lt.mpr h)

theorem findRow_cons_past {r : RegRow} {rs : List RegRow} {off : Nat} (h : dimIndex r.dims (off - r.base) = none) :
    findRow (r :: rs) off = findRow rs off := by
  rw [findRow, h]
  exact ite_self _

/-- The fields of a match register: ROMA, PADDR and EN. -/
def matchFields : List FieldRow := [⟨0, 13, .rwl, 0⟩, ⟨13, 10, .rwl, 0⟩, ⟨23, 1, .rwl, 0⟩]

/-- The one field of a patch entry: UWORD. -/
def patchFields : List FieldRow := [⟨0, 24, .rwl, 0⟩]

section place
variable {n e k : Nat}

theorem regAt_UC_LPATCH (hn : n < 16) (he : e < 512) :
    regAt (R.UC_LPATCH n e) = some (⟨0x3f80000, [(16, 2048), (512, 4)], patchFields⟩, [n, e]) := by
  rw [regAt, rowsAt_ucode (by unfold R.UC_LPATCH; omega) (by unfold R.UC_LPATCH; omega)]
  refine findRow_cons_hit (by unfold R.UC_LPATCH; dsimp only; omega) ?_
  have hoff : R.UC_LPATCH n e - 0x3f80000 = n * 2048 + e * 4 := by unfold R.UC_LPATCH; omega
  exact (congrArg _ hoff).trans (dimIndex_two (by decide) hn he (by decide))

theorem regAt_UC_LMATCH (hn : n < 16) (hk : k < 16) :
    regAt (R.UC_LMATCH n k) = some (⟨0x3f88000, [(16, 64), (16, 4)], matchFields⟩, [n, k]) := by
  rw [regAt, rowsAt_ucode (by unfold R.UC_LMATCH; omega) (by unfold R.UC_LMATCH; omega)]
  refine (findRow_cons_past (dimIndex_beyond (by unfold R.UC_LMATCH; dsimp only; omega))).trans ?_
  refine findRow_cons_hit (by unfold R.UC_LMATCH; dsimp only; omega) ?_
  have hoff : R.UC_LMATCH n k - 0x3f88000 = n * 64 + k * 4 := by unfold R.UC_LMATCH; omega
  exact (congrArg _ hoff).trans (dimIndex_two (by decide) hn hk (by decide))

theorem regAt_UC_GPATCH (he : e < 1024) :
    regAt (R.UC_GPATCH e) = some (⟨0x3f89000, [(1024, 4)], patchFields⟩, [e]) := by
  rw [regAt, rowsAt_ucode (by unfold R.UC_GPATCH; omega) (by unfold R.UC_GPATCH; omega)]
  refine (findRow_cons_past (dimIndex_beyond (by unfold R.UC_GPATCH; dsimp only; omega))).trans ?_
  refine (findRow_cons_past (dimIndex_beyond (by unfold R.UC_GPATCH; dsimp only; omega))).trans ?_
  refine findRow_cons_hit (by unfold R.UC_GPATCH; dsimp only; omega) ?_
  have hoff : R.UC_GPATCH e - 0x3f89000 = e * 4 := by unfold R.UC_GPATCH; omega
  exact (congrArg _ hoff).trans (dimIndex_one (by decide) he)

theorem regAt_UC_GMATCH (hk : k < 16) :
    regAt (R.UC_GMATCH k) = some (⟨0x3f8a000, [(16, 4)], matchFields⟩, [k]) := by
  rw [regAt, rowsAt_ucode (by unfold R.UC_GMATCH; omega) (by unfold R.UC_GMATCH; omega)]
  refine (findRow_cons_past (dimIndex_beyond (by unfold R.UC_GMATCH; dsimp only; omega))).trans ?_
  refine (findRow_cons_past (dimIndex_beyond (by unfold R.UC_GMATCH; dsimp only; omega))).trans ?_
  refine (findRow_cons_past (dimIndex_beyond (by unfold R.UC_GMATCH; dsimp only; omega))).trans ?_
  refine findRow_cons_hit (by unfold R.UC_GMATCH; dsimp only; omega) ?_
  have hoff : R.UC_GMATCH k - 0x3f8a000 = k * 4 := by unfold R.UC_GMATCH; omega
  exact (congrArg _ hoff).trans (dimIndex_one (by decide) hk)

/-- The image registers of a core. -/
theorem ucOwner_lantern (hn : n < 16) : (e < 512 → ucOwner (R.UC_LPATCH n e) = some n)
    ∧ (k < 16 → ucOwner (R.UC_LMATCH n k) = some n) := by
  unfold ucOwner R.UC_LPATCH R.UC_LMATCH R.UC_GPATCH
  refine ⟨fun he => ?_, fun hk => ?_⟩
  · rw [if_pos (by omega)]
    exact congrArg some (by omega)
  · rw [if_neg (by omega), if_pos (by omega)]
    exact congrArg some (by omega)

/-- The galleries' image belongs to no core. -/
theorem ucOwner_galUcode {off : Nat} (h : isGalUcode off = true) : ucOwner off = none := by
  obtain ⟨hlo, hhi⟩ := Bool.and_eq_true_iff.mp h
  replace hlo := of_decide_eq_true hlo
  replace hhi := of_decide_eq_true hhi
  simp only [R.UC_GPATCH, R.UC_STAT] at hlo hhi
  unfold ucOwner R.UC_LPATCH R.UC_LMATCH R.UC_GPATCH
  rw [if_neg (by omega), if_neg (by omega)]

end place

/-! ### What a write of an image register comes to, R258 to R262 -/

section write
variable {m : Nat} {lv : Level} {off v : Nat} {s : State}

/-- A master that may not write the images is answered TREF, R259. -/
theorem ucRow_refused (h : mayWriteUcode m lv = false) : ucRow m lv off v s
    = .next (respond m (0x300_0000_0000 + off) true (evalAddr m (0x300_0000_0000 + off)) { st := .tref }
        (logCairn .ucode 0x03 [dfOff off, dfMaster m, ⟨2, lvlCode lv⟩] s)) := by
  simp [ucRow, ucWrite, h, ok]

variable (h : mayWriteUcode m lv = true)
include h

/-- With MLOCK set nothing is stored, R262. -/
theorem ucRow_locked (himage : isUcImage off = true) (hlock : s.mlock = true) : ucRow m lv off v s
    = .next (logCairn .ucode 0x02 [dfOff off, dfMaster m] (s.setFld R.UC_STAT F.UC_STAT_WLOCK 1)) := by
  simp [ucRow, ucWrite, h, himage, hlock, ok]

variable (hlock : s.mlock = false)
include hlock

/-- While a slot is busy the galleries' image keeps what it holds, R261. -/
theorem ucRow_busy (hgal : isGalUcode off = true) (hbusy : s.allSlotsFree = false) : ucRow m lv off v s
    = .next (logCairn .ucode 0x01 [dfOff off] (s.setFld R.UC_STAT F.UC_STAT_WREJ 1)) := by
  simp [ucRow, ucWrite, h, hlock, hgal, hbusy, ok]

theorem ucRow_stores (hgal : isGalUcode off = true → s.allSlotsFree = true) : ucRow m lv off v s
    = .next ((ucHold off s).writeCodes lv off v) := by
  have hgo : (isGalUcode off && !s.allSlotsFree) = false := by
    cases hg : isGalUcode off with
    | false => rfl
    | true => rw [hgal hg]; rfl
  simp [ucRow, ucWrite, h, hlock, hgo, ok]

end write

/-! ### The value that a core inside an instruction keeps, R260 -/

theorem lookup_append_new {α : Type} {l : List (Nat × α)} {k : Nat} (h : l.lookup k = none) (x : α) :
    (l ++ [(k, x)]).lookup k = some x := by
  simp [List.lookup_append, h]

theorem ucHold_rest (off : Nat) (s : State) : ∃ c, ucHold off s = { s with cores := c } := by
  unfold ucHold
  split
  · exact ⟨s.cores, rfl⟩
  · dsimp only
    split
    · exact ⟨s.cores, rfl⟩
    · exact ⟨_, rfl⟩

theorem ucHold_unowned {off : Nat} {s : State} (h : ucOwner off = none) : ucHold off s = s := by
  rw [ucHold, h]

section hold
variable {n off : Nat} {s : State} (h : ucOwner off = some n)
include h

theorem ucHold_boundary (hb : (s.core n).atBoundaryNow = true) : ucHold off s = s := by
  simp [ucHold, h, hb]

/-- Inside an instruction the core holds the value that it had, whatever the register then takes. -/
theorem ucHold_inside (hb : (s.core n).atBoundaryNow = false) :
    (((ucHold off s).core n).ucHeld.lookup off) = some (s.ucReg n off) := by
  unfold ucHold State.ucReg
  rw [h]
  dsimp only
  cases hl : ((s.core n).ucHeld.lookup off) with
  | some x => simp [hb, hl]
  | none =>
    rw [if_neg (by simp [hb]), State.setCore_core, if_pos rfl]
    exact lookup_append_new hl _

end hold

/-! ### What a store leaves -/

/-- The 24 bits of a match register are its three fields. -/
theorem bits24_eq_fields (x : Nat) : bits x 0 24 = bits x 0 13 + 2 ^ 13 * bits x 13 10 + 2 ^ 23 * bits x 23 1 := by
  unfold bits
  omega

section stored
variable {s : State} (hlock : s.mlock = false) (lv : Level) (v : Nat) {off base : Nat} {dims : List (Nat × Nat)}
  {ix : List Nat}
include hlock

theorem writeCodes_patch (h : regAt off = some (⟨base, dims, patchFields⟩, ix)) :
    bits ((s.writeCodes lv off v).regN off) 0 24 = v % 2 ^ 24 := by
  have hfld := s.writeCodes_field lv v h (f := ⟨0, 24, .rwl, 0⟩) (List.mem_singleton_self _)
  simp only [codeWrites, hlock] at hfld
  exact hfld.trans (by simp [bits])

theorem writeCodes_match (h : regAt off = some (⟨base, dims, matchFields⟩, ix)) :
    bits ((s.writeCodes lv off v).regN off) 0 24 = v % 2 ^ 24 := by
  have hfld := fun f hf => s.writeCodes_field lv v h (f := f) hf
  simp only [matchFields, List.forall_mem_cons, codeWrites, hlock] at hfld
  obtain ⟨hroma, hpaddr, hen, -⟩ := hfld
  simp only [Bool.false_eq_true, if_false] at hroma hpaddr hen
  rw [bits24_eq_fields, hroma, hpaddr, hen, ← bits24_eq_fields]
  simp [bits]

end stored

/-- A row of an image register that is not refused stores the 24 bits, and nothing else but what a core keeps. -/
theorem ucRow_spec {m : Nat} {lv : Level} {off v : Nat} {s : State} (h : mayWriteUcode m lv = true)
    (hlock : s.mlock = false) (hgal : isGalUcode off = true → s.allSlotsFree = true) {base : Nat}
    {dims : List (Nat × Nat)} {fs : List FieldRow} {ix : List Nat} (hreg : regAt off = some (⟨base, dims, fs⟩, ix))
    (hfs : fs = patchFields ∨ fs = matchFields) :
    ∃ t, ucRow m lv off v s = .next t ∧ t.cores = (ucHold off s).cores ∧ bits (t.regN off) 0 24 = v % 2 ^ 24
      ∧ s.regsBut t [off] ∧ t = { s with regs := t.regs, cores := t.cores } := by
  obtain ⟨c, hhold⟩ := ucHold_rest off s
  have hlock' : (ucHold off s).mlock = false := by rw [hhold]; exact hlock
  have hframe := (ucHold off s).writeCodes_frame lv v hreg
  refine ⟨_, ucRow_stores h hlock hgal, by rw [hframe], ?_, fun k hk => ?_, ?_⟩
  · rcases hfs with rfl | rfl
    · exact writeCodes_patch hlock' lv v hreg
    · exact writeCodes_match hlock' lv v hreg
  · rw [(ucHold off s).writeCodes_reg_ne lv v hreg (List.ne_of_not_mem_cons hk), hhold]
    rfl
  · rw [hframe, hhold]

/-- The register of a core's image that a row names. -/
def lanternImageReg (n : Nat) (mt : Bool) (x : Nat) : Nat := if mt then R.UC_LMATCH n (x % 16) else R.UC_LPATCH n x

/-- The register of the galleries' image that a row names. -/
def galleryImageReg (mt : Bool) (y : Nat) : Nat := if mt then R.UC_GMATCH (y % 16) else R.UC_GPATCH y

theorem lanternImageReg_patch (n x : Nat) : lanternImageReg n false x = R.UC_LPATCH n x := rfl
theorem lanternImageReg_match (n x : Nat) : lanternImageReg n true x = R.UC_LMATCH n (x % 16) := rfl
theorem galleryImageReg_patch (y : Nat) : galleryImageReg false y = R.UC_GPATCH y := rfl
theorem galleryImageReg_match (y : Nat) : galleryImageReg true y = R.UC_GMATCH (y % 16) := rfl

section rows
variable {m : Fin 48} {lv : Level} {mt : Bool} {v : Payload} {s : State}

theorem lanternImageReg_isUcImage {n x : Nat} (hn : n < 16) (hx : x < 512) :
    isUcImage (lanternImageReg n mt x) = true ∧ isGalUcode (lanternImageReg n mt x) = false
      ∧ ucOwner (lanternImageReg n mt x) = some n := by
  obtain ⟨hpatch, hmatch⟩ := ucOwner_lantern (e := x) (k := x % 16) hn
  simp only [isUcImage, isGalUcode, Bool.and_eq_true, decide_eq_true_eq, Bool.and_eq_false_iff,
    decide_eq_false_iff_not]
  cases mt with
  | false =>
    rw [lanternImageReg_patch]
    refine ⟨?_, .inl ?_, hpatch hx⟩ <;> simp only [R.UC_LPATCH, R.UC_GPATCH, R.UC_STAT] <;> omega
  | true =>
    rw [lanternImageReg_match]
    refine ⟨?_, .inl ?_, hmatch (by omega)⟩ <;> simp only [R.UC_LPATCH, R.UC_LMATCH, R.UC_GPATCH, R.UC_STAT] <;> omega

theorem galleryImageReg_isGalUcode {y : Nat} (hy : y < 1024) :
    isUcImage (galleryImageReg mt y) = true ∧ isGalUcode (galleryImageReg mt y) = true := by
  simp only [isUcImage, isGalUcode, Bool.and_eq_true, decide_eq_true_eq]
  cases mt with
  | false => simp only [galleryImageReg_patch, R.UC_LPATCH, R.UC_GPATCH, R.UC_STAT]; omega
  | true => simp only [galleryImageReg_match, R.UC_LPATCH, R.UC_GPATCH, R.UC_GMATCH, R.UC_STAT]; omega

theorem lanternImageReg_regAt {n x : Nat} (hn : n < 16) (hx : x < 512) : ∃ base dims fs ix,
    regAt (lanternImageReg n mt x) = some (⟨base, dims, fs⟩, ix) ∧ (fs = patchFields ∨ fs = matchFields) := by
  cases mt with
  | false => exact ⟨_, _, _, _, regAt_UC_LPATCH hn hx, .inl rfl⟩
  | true => exact ⟨_, _, _, _, regAt_UC_LMATCH hn (Nat.mod_lt x (by decide)), .inr rfl⟩

theorem galleryImageReg_regAt {y : Nat} (hy : y < 1024) : ∃ base dims fs ix,
    regAt (galleryImageReg mt y) = some (⟨base, dims, fs⟩, ix) ∧ (fs = patchFields ∨ fs = matchFields) := by
  cases mt with
  | false => exact ⟨_, _, _, _, regAt_UC_GPATCH hy, .inl rfl⟩
  | true => exact ⟨_, _, _, _, regAt_UC_GMATCH (Nat.mod_lt y (by decide)), .inr rfl⟩

theorem exec_ucLanternPatchWrite_row (n : Fin 16) (x : Fin 512) :
    exec (.ucLanternPatchWrite m lv n mt x v) s = ucRow m lv (lanternImageReg n mt x) v.toNat s := rfl

theorem exec_ucGalleryPatchWrite_row (y : Fin 1024) :
    exec (.ucGalleryPatchWrite m lv mt y v) s = ucRow m lv (galleryImageReg mt y) v.toNat s := rfl

/-- Each of the two rows writes a register of an image. -/
theorem exec_image_row (n : Fin 16) (x : Fin 512) (y : Fin 1024) {c : Instr}
    (hc : c ∈ [Instr.ucLanternPatchWrite m lv n mt x v, .ucGalleryPatchWrite m lv mt y v]) :
    ∃ off, exec c s = ucRow m lv off v.toNat s ∧ isUcImage off = true := by
  simp only [List.mem_cons, List.not_mem_nil, or_false] at hc
  rcases hc with rfl | rfl
  · exact ⟨_, exec_ucLanternPatchWrite_row n x, (lanternImageReg_isUcImage n.isLt x.isLt).1⟩
  · exact ⟨_, exec_ucGalleryPatchWrite_row y, (galleryImageReg_isGalUcode y.isLt).1⟩

/-- A core's image written: the core goes on with what its control store had where it is inside an instruction. -/
theorem exec_ucLanternPatchWrite_stores (n : Fin 16) (x : Fin 512) (h : mayWriteUcode m lv = true)
    (hlock : s.mlock = false) : ∃ t, exec (.ucLanternPatchWrite m lv n mt x v) s = .next t
      ∧ (if (s.core n).atBoundaryNow = true then t.cores = s.cores
        else t.ucReg n (lanternImageReg n mt x) = s.ucReg n (lanternImageReg n mt x))
      ∧ bits (t.regN (lanternImageReg n mt x)) 0 24 = v.toNat % 2 ^ 24 ∧ s.regsBut t [lanternImageReg n mt x]
      ∧ t = { s with regs := t.regs, cores := t.cores } := by
  obtain ⟨_, hgal, howner⟩ := lanternImageReg_isUcImage (mt := mt) n.isLt x.isLt
  obtain ⟨base, dims, fs, ix, hreg, hfs⟩ := lanternImageReg_regAt (mt := mt) n.isLt x.isLt
  obtain ⟨t, hrow, hcores, hbits, hbut, hrest⟩ := ucRow_spec h hlock (by simp [hgal]) hreg hfs (v := v.toNat)
  refine ⟨t, hrow, ?_, hbits, hbut, hrest⟩
  split
  · next hb => rw [hcores, ucHold_boundary howner hb]
  · next hb =>
    rw [State.ucReg, State.core_congr hcores, ucHold_inside howner (eq_false_of_ne_true hb)]
    rfl

theorem exec_ucGalleryPatchWrite_stores (y : Fin 1024) (h : mayWriteUcode m lv = true) (hlock : s.mlock = false)
    (hfree : s.allSlotsFree = true) : ∃ t, exec (.ucGalleryPatchWrite m lv mt y v) s = .next t
      ∧ bits (t.regN (galleryImageReg mt y)) 0 24 = v.toNat % 2 ^ 24 ∧ s.regsBut t [galleryImageReg mt y]
      ∧ t = { s with regs := t.regs } := by
  obtain ⟨_, hgal⟩ := galleryImageReg_isGalUcode (mt := mt) y.isLt
  obtain ⟨base, dims, fs, ix, hreg, hfs⟩ := galleryImageReg_regAt (mt := mt) y.isLt
  obtain ⟨t, hrow, hcores, hbits, hbut, hrest⟩ := ucRow_spec h hlock (fun _ => hfree) hreg hfs (v := v.toNat)
  refine ⟨t, hrow, hbits, hbut, ?_⟩
  rw [ucHold_unowned (ucOwner_galUcode hgal)] at hcores
  rw [hcores] at hrest
  exact hrest

end rows

/-! ### Rejections -/

/-- A flag of UC.STAT set, with an entry in the log. -/
theorem ucStat_logged (s : State) {f : Fld} (hw : f.w = 1) (hlo : f.lo ≤ 47) (code : Nat) (fs : List DF) :
    (logCairn .ucode code fs (s.setFld R.UC_STAT f 1)).flag R.UC_STAT f = true
      ∧ s.regsBut (logCairn .ucode code fs (s.setFld R.UC_STAT f 1)) [R.UC_STAT, R.CAIRN_DROPCNT]
      ∧ logCairn .ucode code fs (s.setFld R.UC_STAT f 1) = { s with
          regs := (logCairn .ucode code fs (s.setFld R.UC_STAT f 1)).regs
          cairn := (logCairn .ucode code fs (s.setFld R.UC_STAT f 1)).cairn } := by
  refine ⟨?_, (s.setFld_regsBut R.UC_STAT f 1).trans (logCairn_regsBut _ .ucode code fs), ?_⟩
  · rw [State.flag_of_reg (logCairn_reg_ne _ .ucode code fs (by decide)), State.flag,
      State.setFld_fld_same _ _ _ _ (by omega), hw]
    rfl
  · obtain ⟨r, c, hlog⟩ := logCairn_rest (s.setFld R.UC_STAT f 1) .ucode code fs
    rw [hlog]
    rfl

/-- A master that may not write: it receives TREF, and an entry goes to the log. -/
theorem ucRow_refused_spec {m : Nat} {lv : Level} (h : mayWriteUcode m lv = false) (off v : Nat) (s : State) :
    ∃ t r, ucRow m lv off v s = .next t ∧ t.junc.rsps = s.junc.rsps ++ [r] ∧ r.m = m ∧ r.st = .tref ∧ r.wr = true
      ∧ s.regsBut t [R.CAIRN_DROPCNT]
      ∧ t = { s with regs := t.regs, cairn := t.cairn, junc := { s.junc with rsps := t.junc.rsps } } := by
  have hbut := logCairn_regsBut s .ucode 0x03 [dfOff off, dfMaster m, ⟨2, lvlCode lv⟩]
  obtain ⟨r, c, hlog⟩ := logCairn_rest s .ucode 0x03 [dfOff off, dfMaster m, ⟨2, lvlCode lv⟩]
  rw [ucRow_refused h]
  rw [hlog] at hbut ⊢
  exact ⟨_, _, rfl, rfl, rfl, rfl, rfl, hbut, rfl⟩

/-! ### Micro-fetches, R255 to R257 -/

section fetch
variable {s : State} {u : UcUnit} {a : Nat}

theorem microFetch_beyond (h : u.rom + u.patches ≤ a) : s.microFetch u a = none := by
  simp [State.microFetch, UcUnit.has, h]

theorem microFetch_patch (hlo : u.rom ≤ a) (hhi : a < u.rom + u.patches) :
    s.microFetch u a = some (a, microword (s.patchWord u (a - u.rom))) := by
  simp [State.microFetch, UcUnit.has, hlo, hhi]

theorem ucMatches_rom (h : a < u.rom) (k : Nat) :
    s.ucMatches u a k = true ↔ (s.matchReg u k).1 = true ∧ (s.matchReg u k).2.1 = a := by
  simp [State.ucMatches, h]

variable (h : a < u.rom)
include h

theorem UcUnit.has_rom : u.has a = true := by
  simp only [UcUnit.has, decide_eq_true_eq]
  omega

theorem microFetch_replaced {e : Nat} (he : s.ucMatch u a = some e) :
    s.microFetch u a = some (u.rom + e, microword (s.patchWord u e)) := by
  simp [State.microFetch, UcUnit.has_rom h, Nat.not_le.mpr h, he]

theorem microFetch_rom (he : s.ucMatch u a = none) :
    s.microFetch u a = some (a, microword (Config.microRom u.isSeq a)) := by
  simp [State.microFetch, UcUnit.has_rom h, Nat.not_le.mpr h, he]

theorem microFetch_unmatched (hno : ∀ j, j < 16 → (s.matchReg u j).1 = true → (s.matchReg u j).2.1 ≠ a) :
    s.microFetch u a = some (a, microword (Config.microRom u.isSeq a)) := by
  have hnone : (List.range 16).find? (s.ucMatches u a) = none := by
    refine List.find?_eq_none.mpr fun j hj hm => ?_
    obtain ⟨hen, hroma⟩ := (ucMatches_rom h j).mp hm
    exact hno j (List.mem_range.mp hj) hen hroma
  exact microFetch_rom h (by rw [State.ucMatch, hnone, Option.map_none])

/-- The lowest-numbered register that matches replaces the word, R257. -/
theorem microFetch_matched {k p : Nat} (hk : k < 16) (hreg : s.matchReg u k = (true, a, p))
    (hno : ∀ j, j < k → (s.matchReg u j).1 = true → (s.matchReg u j).2.1 ≠ a) :
    s.microFetch u a = some (u.rom + p % u.patches, microword (s.patchWord u (p % u.patches))) := by
  have hfind : (List.range 16).find? (s.ucMatches u a) = some k := by
    refine List.find?_range_eq_some.mpr ⟨(ucMatches_rom h k).mpr (by simp [hreg]), List.mem_range.mpr hk, fun j hj => ?_⟩
    cases hm : s.ucMatches u a j with
    | false => rfl
    | true =>
      obtain ⟨hen, hroma⟩ := (ucMatches_rom h j).mp hm
      exact absurd hroma (hno j hj hen)
  exact microFetch_replaced h (by rw [State.ucMatch, hfind, Option.map_some, hreg])

end fetch

/-- Settles O42: the write of an image register goes one of four ways, which MLOCK, the slots and the master decide, and
a fetch goes by the range of its micro-address and the lowest register that matches. -/
theorem microcodeWrites : Obligations.MicrocodeWrites := by
  unfold Obligations.MicrocodeWrites
  refine ⟨fun m lv n mt x y v s => ⟨fun h hlock => ⟨?_, fun hfree => ?_, fun hbusy => ?_⟩, fun c hc => ?_⟩,
    fun s u a p k rom patches hsize => ?_⟩
  · obtain ⟨t, hnext, hkept, hbits, hbut, hrest⟩ := exec_ucLanternPatchWrite_stores (mt := mt) (v := v) n x h hlock
    refine ⟨t, hnext, hkept, ?_, ?_, hrest⟩
    · rintro rfl
      exact ⟨hbits, hbut⟩
    · rintro rfl
      exact ⟨hbits, hbut⟩
  · obtain ⟨t, hnext, hbits, hbut, hrest⟩ := exec_ucGalleryPatchWrite_stores (mt := mt) (v := v) y h hlock hfree
    refine ⟨t, hnext, ?_, ?_, hrest⟩
    · rintro rfl
      exact ⟨hbits, hbut⟩
    · rintro rfl
      exact ⟨hbits, hbut⟩
  · obtain ⟨_, hgal⟩ := galleryImageReg_isGalUcode (mt := mt) y.isLt
    exact ⟨_, ucRow_busy h hlock hgal hbusy, ucStat_logged s rfl (by decide) _ _⟩
  · obtain ⟨off, hrow, himage⟩ := exec_image_row n x y (s := s) hc
    rw [hrow]
    exact ⟨fun h hlock => ⟨_, ucRow_locked h himage hlock, ucStat_logged s rfl (by decide) _ _⟩,
      fun h => ucRow_refused_spec h off v.toNat s⟩
  · obtain ⟨rfl, rfl⟩ : rom = u.rom ∧ patches = u.patches := by
      cases u <;> exact Prod.mk.inj hsize
    exact ⟨microFetch_beyond, microFetch_patch, fun h hno => ⟨_, microFetch_unmatched h hno⟩,
      fun h hk hreg hno => microFetch_matched h hk hreg hno⟩

end Sys2Proof.Machine
end

section
/-! The boot ROM, MLOCK, core starts, attestations, debug and the sideband ports (R617, R621, R626 to R634, R637). -/

namespace Sys2Proof.Machine

variable {s : State}

/-! ### Bytes laid out over registers -/

section putBytes
variable (reg : Nat → Nat) (n : Nat) (bs : List (BitVec 8)) (s : State)

theorem putBytes_rest : ∃ r, putBytes reg n bs s = { s with regs := r } := by
  refine List.foldlRecOn (motive := fun t : State => ∃ r, t = { s with regs := r }) _ _ ⟨s.regs, rfl⟩ ?_
  rintro _ ⟨r, rfl⟩ _ _
  exact State.setRegN_rest ..

theorem putBytes_regsBut : s.regsBut (putBytes reg n bs s) ((List.range n).map reg) := fun k hk =>
  foldl_keeps (State.reg · k) (fun t j hj => t.setRegN_reg_ne (fun e => hk (List.mem_map.mpr ⟨j, hj, e.symm⟩)) _) s

/-- Each register holds its six bytes of the string. -/
theorem putBytes_regN {j : Nat} (hj : j < n) (hreg : ∀ i, i < n → reg j = reg i → i = j) :
    (putBytes reg n bs s).regN (reg j) = numOf ((bs.drop (6 * j)).take 6) % 2 ^ 48 := by
  obtain ⟨u, -, -, hu⟩ := foldl_own_step (fun _ _ => True) (fun _ => trivial) (fun _ _ => trivial)
    (State.regN · (reg j)) (step := fun s j => s.setRegN (reg j) (numOf ((bs.drop (6 * j)).take 6)))
    List.nodup_range (List.mem_range.mpr hj) (fun _ _ _ => trivial)
    (fun t i hi hne => t.setRegN_regN_ne (fun e => hne (hreg i (List.mem_range.mp hi) e)) _) s
  refine hu.trans ?_
  rw [State.regN, State.setRegN, State.setReg_reg_same, BitVec.toNat_ofNat]

end putBytes

/-! ### MLOCK, R626 -/

theorem State.onlyRegs_trans {t u : State} (h : ∃ r, t = { s with regs := r }) (h' : ∃ r, u = { t with regs := r }) :
    ∃ r, u = { s with regs := r } := by
  obtain ⟨r, rfl⟩ := h
  exact h'

/-- MLOCK and its mirror set. -/
def State.locking (s : State) : State := (s.setFld R.SEC_LOCK F.SEC_LOCK_MLOCK 1).setFld R.UC_STAT F.UC_STAT_LOCKED 1

/-- The patch digest taken. -/
def State.digesting (s : State) : State := putBytes R.UC_PDIG 11 (shake256 s.patchBytes 64) s

/-- The registers that the setting of MLOCK writes. -/
def mlockRegs : List Nat :=
  [R.SEC_LOCK] ++ [R.UC_STAT] ++ (List.range 11).map R.UC_PDIG ++ (List.range 11).map R.SEC_IDIG

theorem mlockSet_set (h : s.mlock = true) (d : Bool) : mlockSet d s = s := if_pos h

theorem mlockSet_bare (h : s.mlock = false) : mlockSet false s = s.locking := if_neg (by rw [h]; decide)

/-- With the digests: that of the patches, and that of the image where one was verified. -/
theorem mlockSet_digests (h : s.mlock = false) : mlockSet true s = if s.locking.digesting.sec.verified then
    putBytes R.SEC_IDIG 11 s.locking.digesting.sec.digest s.locking.digesting else s.locking.digesting :=
  if_neg (by rw [h]; decide)

theorem State.locking_regsBut (s : State) : s.regsBut s.locking ([R.SEC_LOCK] ++ [R.UC_STAT]) :=
  (s.setFld_regsBut _ _ _).trans (State.setFld_regsBut _ _ _ _)

theorem State.digesting_rest (s : State) : ∃ r, s.locking.digesting = { s with regs := r } :=
  State.onlyRegs_trans ⟨_, rfl⟩ (putBytes_rest _ _ _ _)

/-- MLOCK leaves what `digesting` left, but at the registers of the image's digest. -/
theorem mlockSet_after_digesting (h : s.mlock = false) :
    s.locking.digesting.regsBut (mlockSet true s) ((List.range 11).map R.SEC_IDIG) := by
  rw [mlockSet_digests h]
  split
  · exact putBytes_regsBut _ _ _ _
  · exact fun _ _ => rfl

theorem mlockSet_regsBut (d : Bool) (s : State) : s.regsBut (mlockSet d s) mlockRegs := by
  cases h : s.mlock with
  | true => rw [mlockSet_set h]; exact fun _ _ => rfl
  | false => cases d with
    | false =>
      rw [mlockSet_bare h]
      exact s.locking_regsBut.mono (by decide)
    | true =>
      exact (s.locking_regsBut.trans (putBytes_regsBut _ _ _ _)).trans (mlockSet_after_digesting h)

theorem mlockSet_rest (d : Bool) (s : State) : ∃ r, mlockSet d s = { s with regs := r } := by
  cases h : s.mlock with
  | true => exact ⟨s.regs, mlockSet_set h d⟩
  | false => cases d with
    | false => exact ⟨_, mlockSet_bare h⟩
    | true =>
      rw [mlockSet_digests h]
      split
      · exact State.onlyRegs_trans s.digesting_rest (putBytes_rest _ _ _ _)
      · exact s.digesting_rest

/-- The flag that a write of one sets. -/
theorem State.setFld_flag_set (s : State) (o : Nat) {f : Fld} (hw : f.w = 1) (hlo : f.lo ≤ 47) :
    (s.setFld o f 1).flag o f = true := by
  rw [State.flag, State.setFld_fld_same _ _ _ _ (by omega), hw]
  rfl

theorem State.setFld_flag_clear (s : State) (o : Nat) {f : Fld} (h : f.lo + f.w ≤ 48) :
    (s.setFld o f 0).flag o f = false := by
  rw [State.flag, State.setFld_fld_same _ _ _ _ h, Nat.zero_mod]
  rfl

theorem State.locking_mlock (s : State) : s.locking.mlock = true :=
  (State.flag_of_reg (State.setFld_reg_ne _ _ (by decide) _) _).trans (s.setFld_flag_set _ rfl (by decide))

theorem State.locking_locked (s : State) : s.locking.flag R.UC_STAT F.UC_STAT_LOCKED = true :=
  State.setFld_flag_set _ _ rfl (by decide)

/-- The registers of MLOCK and of its mirror stay as `locking` left them. -/
theorem mlockSet_locking (h : s.mlock = false) (d : Bool) {k : Nat} (hk : k ∈ [R.SEC_LOCK, R.UC_STAT]) :
    (mlockSet d s).reg k = s.locking.reg k := by
  cases d with
  | false => rw [mlockSet_bare h]
  | true =>
    have hapart : k ∉ (List.range 11).map R.UC_PDIG ∧ k ∉ (List.range 11).map R.SEC_IDIG := by
      revert k; decide
    rw [mlockSet_after_digesting h k hapart.2]
    exact putBytes_regsBut _ _ _ _ k hapart.1

theorem mlockSet_mlock (d : Bool) (s : State) : (mlockSet d s).mlock = true := by
  cases h : s.mlock with
  | true => rw [mlockSet_set h, h]
  | false => exact (State.flag_of_reg (mlockSet_locking h d (by decide)) _).trans s.locking_mlock

/-- The string that the digest is taken over has the patch entries and match registers alone. -/
theorem State.patchBytes_congr {t : State} (h : ∀ k, isUcImage k = true → t.reg k = s.reg k) :
    t.patchBytes = s.patchBytes := by
  have hemit (k : Nat) (hlo : 0x3f80000 ≤ k) (hhi : k < 0x3f8a100) : t.emit3 k = s.emit3 k := by
    unfold State.emit3 State.regN
    rw [h k (by simp [isUcImage, R.UC_LPATCH, R.UC_STAT, hlo, hhi])]
  unfold State.patchBytes
  have hflat {n : Nat} {f g : Nat → List (BitVec 8)} (hfg : ∀ i, i < n → f i = g i) :
      (List.range n).flatMap f = (List.range n).flatMap g :=
    List.flatMap_congr fun i hi => hfg i (List.mem_range.mp hi)
  rw [hflat (n := 16) fun n hn => congrArg₂ (· ++ ·)
      (hflat (n := 512) fun e he => hemit _ (by unfold R.UC_LPATCH; omega) (by unfold R.UC_LPATCH; omega))
      (hflat (n := 16) fun m hm => hemit _ (by unfold R.UC_LMATCH; omega) (by unfold R.UC_LMATCH; omega)),
    hflat (n := 1024) fun e he => hemit _ (by unfold R.UC_GPATCH; omega) (by unfold R.UC_GPATCH; omega),
    hflat (n := 16) fun m hm => hemit _ (by unfold R.UC_GMATCH; omega) (by unfold R.UC_GMATCH; omega)]

theorem State.locking_patchBytes (s : State) : s.locking.patchBytes = s.patchBytes := by
  refine State.patchBytes_congr fun k hk => s.locking_regsBut k ?_
  simp only [isUcImage, Bool.and_eq_true, decide_eq_true_eq] at hk
  intro hmem
  simp only [List.cons_append, List.nil_append, List.mem_cons, List.not_mem_nil, or_false] at hmem
  rcases hmem with rfl | rfl
  · exact absurd hk (by decide)
  · exact absurd hk (by decide)

/-- MLOCK takes the digest of what the patches were. -/
theorem mlockSet_patchDigest (h : s.mlock = false) {j : Nat} (hj : j < 11) : (mlockSet true s).regN (R.UC_PDIG j)
    = numOf (((shake256 s.patchBytes 64).drop (6 * j)).take 6) % 2 ^ 48 := by
  have hapart : R.UC_PDIG j ∉ (List.range 11).map R.SEC_IDIG := by
    simp only [List.mem_map, List.mem_range, R.UC_PDIG, R.SEC_IDIG]
    rintro ⟨i, hi, e⟩
    omega
  rw [State.regN, mlockSet_after_digesting h _ hapart]
  refine (putBytes_regN _ _ _ _ hj fun i _ e => ?_).trans (by rw [s.locking_patchBytes])
  simp only [R.UC_PDIG] at e
  omega

/-! ### Boot halts, R627 -/

theorem bootCode_regsBut (c : Nat) (s : State) : s.regsBut (bootCode c s) ([R.SEC_BOOT] ++ [R.HOST_BOOT]) := by
  unfold bootCode
  dsimp only
  split
  · exact (s.setFld_regsBut _ _ _).trans (State.setFld_regsBut _ _ _ _)
  · exact (s.setFld_regsBut _ _ _).mono (by decide)

theorem bootCode_rest (c : Nat) (s : State) : ∃ r, bootCode c s = { s with regs := r } := by
  unfold bootCode
  dsimp only
  split
  · exact ⟨_, rfl⟩
  · exact ⟨_, rfl⟩

theorem bootCode_code (c : Nat) (s : State) :
    (bootCode c s).fld R.SEC_BOOT F.SEC_BOOT_CODE = c % 2 ^ F.SEC_BOOT_CODE.w := by
  have hcode := s.setFld_fld_same R.SEC_BOOT F.SEC_BOOT_CODE c (by decide)
  unfold bootCode
  dsimp only
  split
  · exact (State.fld_of_reg (State.setFld_reg_ne _ _ (by decide) _) _).trans hcode
  · exact hcode

theorem bootHalt_halted (c : Nat) (s : State) : (bootHalt c s).sec.boot = .halted ∧ (bootHalt c s).mlock = true
    ∧ (bootHalt c s).fld R.SEC_BOOT F.SEC_BOOT_CODE = c % 2 ^ F.SEC_BOOT_CODE.w := by
  refine ⟨rfl, mlockSet_mlock (c != 11) (logCairn .security 0x01 [⟨8, c⟩, ⟨2, s.sec.src⟩] (bootCode c s)), ?_⟩
  refine (State.fld_of_reg (mlockSet_regsBut _ _ _ (by decide)) _).trans ?_
  exact (State.fld_of_reg (logCairn_reg_ne _ _ _ _ (by decide)) _).trans (bootCode_code c s)

/-- A failed self-test takes no digest. -/
theorem bootHalt_selfTest_pdig (h : s.mlock = false) {j : Nat} (hj : j < 11) :
    (bootHalt 11 s).reg (R.UC_PDIG j) = s.reg (R.UC_PDIG j) := by
  have hlog := (bootCode_regsBut 11 s).trans (logCairn_regsBut _ .security 0x01 [⟨8, 11⟩, ⟨2, s.sec.src⟩])
  have hopen : (logCairn .security 0x01 [⟨8, 11⟩, ⟨2, s.sec.src⟩] (bootCode 11 s)).mlock = false :=
    (State.flag_of_reg (hlog _ (by decide)) _).trans h
  have hbut := hlog.trans ((mlockSet_bare hopen).symm ▸ State.locking_regsBut _)
  exact hbut _ (by unfold R.UC_PDIG; revert hj; revert j; decide)

/-! ### Training, R621 and R285 -/

theorem linkUp_rest (l : Nat) (s : State) : ∃ r c, linkUp l s = { s with regs := r, cairn := c } := by
  unfold linkUp
  split
  · exact ⟨s.regs, s.cairn, rfl⟩
  · exact logCairn_rest (s.setFld (R.PLINK_STAT l) F.PLINK_STAT_UP 1) ..

theorem linkUp_regsBut (l : Nat) (s : State) : s.regsBut (linkUp l s) ([R.PLINK_STAT l] ++ [R.CAIRN_DROPCNT]) := by
  unfold linkUp
  split
  · exact fun _ _ => rfl
  · exact (s.setFld_regsBut _ _ _).trans (logCairn_regsBut _ _ _ _)

theorem linksTrain_rest (s : State) : ∃ r c, linksTrain s = { s with regs := r, cairn := c } := by
  refine List.foldlRecOn (motive := fun t : State => ∃ r c, t = { s with regs := r, cairn := c }) _ _
    ⟨s.regs, s.cairn, rfl⟩ ?_
  rintro _ ⟨r, c, rfl⟩ l _
  exact linkUp_rest l _

theorem linksTrain_reg (s : State) {k : Nat} (hlink : ∀ l, l < 11 → k ≠ R.PLINK_STAT l) (hlog : k ≠ R.CAIRN_DROPCNT) :
    (linksTrain s).reg k = s.reg k :=
  foldl_keeps (State.reg · k)
    (fun t l hl => linkUp_regsBut l t k (by simp [hlink l (List.mem_range.mp hl), hlog])) s

theorem identity_reg (s : State) {k : Nat} (h : ∀ j, k ≠ R.SEC_IDPUB j) : (identity s).reg k = s.reg k :=
  putBytes_regsBut _ _ _ _ k (by simp only [List.mem_map]; rintro ⟨j, -, e⟩; exact h j e.symm)

theorem identity_idpub (s : State) {j : Nat} (hj : j < 10) : (identity s).regN (R.SEC_IDPUB j)
    = numOf (((ed448Public s.idKey).drop (6 * j)).take 6) % 2 ^ 48 :=
  putBytes_regN _ _ _ _ hj fun i _ e => by unfold R.SEC_IDPUB at e; omega

theorem hbmTrain_rest (st : Nat) (s : State) : ∃ r, hbmTrain st s = { s with regs := r } := by
  refine List.foldlRecOn (motive := fun t : State => ∃ r, t = { s with regs := r }) _ _ ⟨_, rfl⟩ ?_
  rintro _ ⟨r, rfl⟩ _ _
  exact ⟨_, rfl⟩

theorem hbmTrain_reg (st : Nat) (s : State) {k : Nat} (h : ∀ q, q < 32 → k ≠ R.PC_SPARE st q) :
    (hbmTrain st s).reg k = (s.setFld (R.HBM_STAT st) F.HBM_STAT_TRAINED 1).reg k :=
  foldl_keeps (State.reg · k) (fun t q hq => t.setFld_reg_ne _ (h q (List.mem_range.mp hq)) _) _

/-- The spare rows of a stack are told apart from every stack's status. -/
theorem HBM_STAT_ne_PC_SPARE {st k q : Nat} : R.HBM_STAT k ≠ R.PC_SPARE st q := by
  unfold R.HBM_STAT R.PC_SPARE
  omega

theorem hbmTrain_trained (st : Nat) (s : State) :
    (hbmTrain st s).flag (R.HBM_STAT st) F.HBM_STAT_TRAINED = true :=
  (State.flag_of_reg (hbmTrain_reg st s fun _ _ => HBM_STAT_ne_PC_SPARE) _).trans
    (s.setFld_flag_set _ rfl (by decide))

theorem hbmTrain_trained_ne {st k : Nat} (h : k ≠ st) (s : State) :
    (hbmTrain st s).flag (R.HBM_STAT k) F.HBM_STAT_TRAINED = s.flag (R.HBM_STAT k) F.HBM_STAT_TRAINED :=
  State.flag_of_reg ((hbmTrain_reg st s fun _ _ => HBM_STAT_ne_PC_SPARE).trans
    (s.setFld_reg_ne _ (by unfold R.HBM_STAT; omega) _)) _

theorem bit_toNat_eq_getLsbD {n : Nat} (v : BitVec n) (k : Nat) : bit v.toNat k = v.getLsbD k :=
  (Nat.testBit_eq_decide_div_mod_eq ..).symm

/-- A stack that trains now, or none. -/
def trainOne (t : Nat) (s : State) (st : Nat) : State := if bit t st then hbmTrain st s else s

theorem trainAll_eq (t : Nat) (s : State) : trainAll t s = (List.range 6).foldl (trainOne t) s := rfl

theorem trainAll_rest (t : Nat) (s : State) : ∃ r, trainAll t s = { s with regs := r } := by
  rw [trainAll_eq]
  refine List.foldlRecOn (motive := fun t : State => ∃ r, t = { s with regs := r }) _ _ ⟨s.regs, rfl⟩ ?_
  rintro _ ⟨r, rfl⟩ st _
  unfold trainOne
  split
  · exact hbmTrain_rest st _
  · exact ⟨r, rfl⟩

/-- Training writes the registers of the stacks alone. -/
theorem trainAll_reg (t : Nat) (s : State) {k : Nat} (h : 0x3000000 ≤ k) : (trainAll t s).reg k = s.reg k := by
  refine foldl_keeps (State.reg · k) (fun u st hst => ?_) s
  have hst := List.mem_range.mp hst
  split
  · exact (hbmTrain_reg st u fun q hq => by unfold R.PC_SPARE; omega).trans
      (u.setFld_reg_ne _ (by unfold R.HBM_STAT; omega) _)
  · rfl

theorem trainAll_trained (t : Nat) (s : State) {k : Nat} (hk : k < 6) :
    (trainAll t s).flag (R.HBM_STAT k) F.HBM_STAT_TRAINED
      = (bit t k || s.flag (R.HBM_STAT k) F.HBM_STAT_TRAINED) := by
  rw [trainAll_eq]
  obtain ⟨u, -, hu, hfold⟩ := foldl_own_step (fun _ _ => True) (fun _ => trivial) (fun _ _ => trivial)
    (State.flag · (R.HBM_STAT k) F.HBM_STAT_TRAINED) (step := trainOne t) List.nodup_range (List.mem_range.mpr hk)
    (fun _ _ _ => trivial) (fun u st _ hne => by
      unfold trainOne
      split
      · exact hbmTrain_trained_ne hne.symm u
      · rfl) s
  rw [hfold, trainOne]
  cases bit t k with
  | true => exact hbmTrain_trained k u
  | false => exact hu

/-- Train and identity key: what the ROM has done before it tries a source. -/
def State.prepared (s : State) (tr : BitVec 6) : State := trainAll tr.toNat (identity (linksTrain s))

section prepared
variable (s : State) (tr : BitVec 6)

theorem prepared_rest : ∃ r c, s.prepared tr = { s with regs := r, cairn := c } := by
  obtain ⟨r, c, hlinks⟩ := linksTrain_rest s
  obtain ⟨r', hid⟩ := putBytes_rest R.SEC_IDPUB 10 (ed448Public (linksTrain s).idKey) (linksTrain s)
  obtain ⟨r'', htrain⟩ := trainAll_rest tr.toNat (identity (linksTrain s))
  refine ⟨r'', c, ?_⟩
  rw [State.prepared, htrain, identity, hid, hlinks]

theorem prepared_mlock : (s.prepared tr).mlock = s.mlock := by
  refine State.flag_of_reg ?_ _
  rw [State.prepared, trainAll_reg _ _ (by decide), identity_reg _ (fun j => by unfold R.SEC_LOCK R.SEC_IDPUB; omega),
    linksTrain_reg _ (fun l hl => by unfold R.SEC_LOCK R.PLINK_STAT; omega) (by decide)]

theorem prepared_trained {k : Nat} (hk : k < 6) : (s.prepared tr).flag (R.HBM_STAT k) F.HBM_STAT_TRAINED
    = (tr.getLsbD k || s.flag (R.HBM_STAT k) F.HBM_STAT_TRAINED) := by
  have hreg : (identity (linksTrain s)).reg (R.HBM_STAT k) = s.reg (R.HBM_STAT k) := by
    rw [identity_reg _ (fun j => by unfold R.HBM_STAT R.SEC_IDPUB; omega),
      linksTrain_reg _ (fun l _ => by unfold R.HBM_STAT R.PLINK_STAT; omega)
        (by unfold R.HBM_STAT R.CAIRN_DROPCNT; omega)]
  rw [State.prepared, trainAll_trained _ _ hk, State.flag_of_reg hreg, bit_toNat_eq_getLsbD]

theorem prepared_idpub {j : Nat} (hj : j < 10) : (s.prepared tr).regN (R.SEC_IDPUB j)
    = numOf (((ed448Public s.idKey).drop (6 * j)).take 6) % 2 ^ 48 := by
  obtain ⟨r, c, hlinks⟩ := linksTrain_rest s
  have hkey : (linksTrain s).idKey = s.idKey := by rw [hlinks]; rfl
  rw [← hkey, ← identity_idpub _ hj, State.regN, State.prepared, trainAll_reg _ _ (by unfold R.SEC_IDPUB; omega)]
  rfl

end prepared

theorem allTrain {k : Nat} (hk : k < 6) : (0x3F : BitVec 6).getLsbD k = true := by
  revert hk
  revert k
  decide

section start
variable {tr : BitVec 6} {fl good : Bool} {fm : BitVec 16} {sr : BitVec 4}

theorem bootStart_untested : bootStart ⟨false, tr, fl, fm, sr, good⟩ s = bootHalt 11 s := rfl

theorem bootStart_untrained {k : Nat} (hk : k < 6) (htr : tr.getLsbD k = false)
    (h : s.flag (R.HBM_STAT k) F.HBM_STAT_TRAINED = false) :
    bootStart ⟨true, tr, fl, fm, sr, good⟩ s = bootHalt 10 (s.prepared tr) := by
  have hall : (s.prepared tr).allTrained = false := by
    refine List.all_eq_false.mpr ⟨k, List.mem_range.mpr hk, ?_⟩
    rw [prepared_trained s tr hk, htr, h]
    decide
  unfold bootStart
  simp only [Bool.not_true, Bool.false_eq_true, if_false]
  rw [← State.prepared, hall]
  rfl

theorem bootStart_pcie (hsel : s.sec.bootsel = 1) : bootStart ⟨true, 0x3F, fl, fm, sr, good⟩ s
    = awaitGo (trySource 2 (s.prepared 0x3F)) := by
  have hall : (s.prepared 0x3F).allTrained = true := by
    refine List.all_eq_true.mpr fun k hk => ?_
    have hk := List.mem_range.mp hk
    rw [prepared_trained s _ hk, allTrain hk, Bool.true_or]
  have hflash : (s.prepared 0x3F).bootsFlash = false := by
    obtain ⟨r, c, e⟩ := prepared_rest s 0x3F
    rw [e, State.bootsFlash]
    simp [hsel]
  unfold bootStart
  simp only [Bool.not_true, Bool.false_eq_true, if_false]
  rw [← State.prepared, hall, hflash]
  rfl

end start

/-- The ROM waits for an image over PCIe, which the boot registers show. -/
theorem awaitGo_shows (s : State) : (awaitGo s).flag R.HOST_BOOT F.HOST_BOOT_WAITING = true
    ∧ s.regsBut (awaitGo s) [R.HOST_BOOT] ∧ (awaitGo s).sec = { s.sec with boot := .waitGo, go := false }
    ∧ (awaitGo s).mem = s.mem :=
  ⟨State.setFld_flag_set s _ rfl (by decide), s.setFld_regsBut R.HOST_BOOT F.HOST_BOOT_WAITING 1, rfl, rfl⟩

theorem awaitPcie (s : State) : (awaitGo (trySource 2 s)).fld R.SEC_BOOT F.SEC_BOOT_SRC = 2
    ∧ s.regsBut (awaitGo (trySource 2 s)) ([R.SEC_BOOT] ++ [R.HOST_BOOT]) := by
  obtain ⟨-, hbut, -⟩ := awaitGo_shows (trySource 2 s)
  have hsrc : (trySource 2 s).fld R.SEC_BOOT F.SEC_BOOT_SRC = 2 :=
    s.setFld_fld_same R.SEC_BOOT F.SEC_BOOT_SRC 2 (by decide)
  have hbut' : s.regsBut (trySource 2 s) [R.SEC_BOOT] := s.setFld_regsBut R.SEC_BOOT F.SEC_BOOT_SRC 2
  exact ⟨(State.fld_of_reg (hbut _ (by decide)) _).trans hsrc, hbut'.trans hbut⟩

/-- With PCIe the only source, the ROM ends its start waiting with all stacks trained and the identity key laid out. -/
theorem bootStart_waits {fl good : Bool} {fm : BitVec 16} {sr : BitVec 4} (hsel : s.sec.bootsel = 1)
    (hlock : s.mlock = false) : ∃ t, bootStart ⟨true, 0x3F, fl, fm, sr, good⟩ s = t ∧ t.sec.boot = .waitGo
      ∧ t.mlock = false ∧ t.flag R.HOST_BOOT F.HOST_BOOT_WAITING = true ∧ t.fld R.SEC_BOOT F.SEC_BOOT_SRC = 2
      ∧ (∀ k, k < 6 → t.flag (R.HBM_STAT k) F.HBM_STAT_TRAINED = true)
      ∧ (∀ j, j < 10 → t.regN (R.SEC_IDPUB j) = numOf (((ed448Public s.idKey).drop (6 * j)).take 6) % 2 ^ 48)
      ∧ t.mem = s.mem := by
  obtain ⟨r, c, hprep⟩ := prepared_rest s 0x3F
  obtain ⟨hwait, -, hsec, hmem⟩ := awaitGo_shows (trySource 2 (s.prepared 0x3F))
  obtain ⟨hsrc, hbut⟩ := awaitPcie (s.prepared 0x3F)
  refine ⟨_, bootStart_pcie hsel, by rw [hsec], ?_, hwait, hsrc, fun k hk => ?_, fun j hj => ?_, ?_⟩
  · exact (State.flag_of_reg (hbut _ (by decide)) _).trans ((prepared_mlock s _).trans hlock)
  · have hreg := hbut (R.HBM_STAT k) (by revert hk; revert k; decide)
    rw [State.flag_of_reg hreg, prepared_trained s _ hk, allTrain hk, Bool.true_or]
  · have hreg := hbut (R.SEC_IDPUB j) (by revert hj; revert j; decide)
    rw [State.regN, hreg, ← prepared_idpub s 0x3F hj]
    rfl
  · rw [hmem, trySource, hprep]
    rfl

/-! ### Starting cores, R628 -/

/-- A core at M at an address, with the table base of reset. -/
def Core.started (pc : Nat) (c : Core) : Core :=
  { c with
    pc := BitVec.ofNat 48 pc
    sr := tset srReset (tset srReset c.sr 0 (srReset 0)) 5 (srReset 5)
    statPend := []
    inRom := false }

theorem startCore_core (pc n : Nat) (s : State) (k : Nat) :
    (startCore pc n s).core k = if k = n then (s.core n).started pc else s.core k := State.setCore_core ..

theorem startCore_rest (pc n : Nat) (s : State) : ∃ r, startCore pc n s = { s with cores := r } := State.setCore_rest ..

theorem Core.started_stat (pc : Nat) (c : Core) : (c.started pc).stat = 2 := by
  simp [Core.stat, Core.srN, Core.srW, Core.started, tget_tset_ne, srReset, Word.int]

theorem Core.started_srW (pc : Nat) (c : Core) : (c.started pc).srW 5 = srReset 5 := by
  simp [Core.srW, Core.started]

section startCores
variable (pc : Nat) (l : List Nat) (s : State)

theorem startCores_rest : ∃ r, l.foldl (fun s n => startCore pc n s) s = { s with cores := r } := by
  refine List.foldlRecOn (motive := fun t : State => ∃ r, t = { s with cores := r }) _ _ ⟨s.cores, rfl⟩ ?_
  rintro _ ⟨r, rfl⟩ n _
  exact startCore_rest pc n _

theorem startCores_core (hl : l.Nodup) (k : Nat) : (l.foldl (fun s n => startCore pc n s) s).core k
    = if k ∈ l then (s.core k).started pc else s.core k :=
  foldl_update_distinct State.core _ (fun _ => Core.started pc) hl (fun t n _ j => startCore_core pc n t j) s k

end startCores

/-! ### The release, R626 and R628 -/

/-- The machine locked and the port open. -/
def State.opened (s : State) : State :=
  ((mlockSet true s).setFld R.HOST_CTL F.HOST_CTL_OPEN 1).setFld R.SEC_BOOT F.SEC_BOOT_OK 1

theorem State.opened_flags (s : State) : s.opened.mlock = true ∧ s.opened.flag R.HOST_CTL F.HOST_CTL_OPEN = true
    ∧ s.opened.flag R.SEC_BOOT F.SEC_BOOT_OK = true := by
  refine ⟨?_, ?_, State.setFld_flag_set _ _ rfl (by decide)⟩
  · refine Eq.trans (State.flag_of_reg ?_ _) (mlockSet_mlock true s)
    rw [State.opened, State.setFld_reg_ne _ _ (by decide), State.setFld_reg_ne _ _ (by decide)]
  · exact (State.flag_of_reg (State.setFld_reg_ne _ _ (by decide) _) _).trans
      (State.setFld_flag_set _ _ rfl (by decide))

/-- An entry logged once cores have started leaves the registers but the discard counter. -/
theorem logCairn_reg_of_cores {u : State} (hu : ∃ r, u = { s with cores := r }) (src : Src) (code : Nat) (fs : List DF)
    {k : Nat} (hk : k ≠ R.CAIRN_DROPCNT) : (logCairn src code fs u).reg k = s.reg k := by
  obtain ⟨_, rfl⟩ := hu
  exact logCairn_reg_ne _ src code fs hk

/-- The last step: the cores of the image started on the opened machine, an entry logged, the ROM done. -/
theorem releaseStep_ok {h : List Word} {v : State} (hv : releaseStep h s = .ok v) : ∃ fs w,
    w = logCairn .security 0x02 fs (((List.range 16).filter fun n => n == 0 || bit (hdr h 11) n).foldl
      (fun s n => startCore (bits (hdr h 10) 0 42) n s) s.opened)
    ∧ v = { w with sec := { w.sec with boot := .released } } :=
  ⟨_, _, rfl, (Stg.ok.inj hv).symm⟩

/-- What the machine is once the last step of the ROM has passed. -/
theorem releaseStep_releases {h : List Word} {v : State} (hv : releaseStep h s = .ok v) : v.sec.boot = .released
    ∧ v.mlock = true ∧ v.flag R.HOST_CTL F.HOST_CTL_OPEN = true ∧ v.flag R.SEC_BOOT F.SEC_BOOT_OK = true
    ∧ (v.core 0).inRom = false ∧ (v.core 0).stat = 2 ∧ (v.core 0).statPend = [] := by
  obtain ⟨fs, w, hw, rfl⟩ := releaseStep_ok hv
  obtain ⟨hlock, hopen, hok⟩ := s.opened_flags
  have hreg {k : Nat} (hk : k ≠ R.CAIRN_DROPCNT) : w.reg k = s.opened.reg k := by
    rw [hw]
    exact logCairn_reg_of_cores (startCores_rest _ _ _) _ _ _ hk
  have hcore : w.core 0 = (s.opened.core 0).started (bits (hdr h 10) 0 42) := by
    rw [hw, State.core_congr (logCairn_cores ..), startCores_core _ _ _ (List.nodup_range.filter _), if_pos (by simp)]
  refine ⟨rfl, (State.flag_of_reg (hreg (by decide)) _).trans hlock,
    (State.flag_of_reg (hreg (by decide)) _).trans hopen, (State.flag_of_reg (hreg (by decide)) _).trans hok, ?_⟩
  change (w.core 0).inRom = false ∧ (w.core 0).stat = 2 ∧ (w.core 0).statPend = []
  rw [hcore]
  exact ⟨rfl, Core.started_stat _ _, rfl⟩

/-- A sequence of steps passes where its last one does. -/
theorem steps_concat_ok {fs : List (State → Stg)} {f : State → Stg} {v : State} (h : steps (fs ++ [f]) s = .ok v) :
    ∃ u, f u = .ok v := by
  rw [steps, List.foldl_append] at h
  simp only [List.foldl_cons, List.foldl_nil] at h
  generalize fs.foldl Stg.andThen (.ok s) = r at h
  cases r with
  | wait u => exact Stg.noConfusion h
  | fail c u => exact Stg.noConfusion h
  | ok u => exact ⟨u, h⟩

theorem bootImage_releases {b : BootHw} {v : State} (h : bootImage b s = .ok v) :
    ∃ hd u, releaseStep hd u = .ok v := by
  unfold bootImage at h
  split at h
  · exact Stg.noConfusion h
  · next hd u _ => exact ⟨hd, steps_concat_ok (fs := [_, _, _, _, _, _]) h⟩

/-! ### The image over PCIe, R617 and R627 -/

section image
variable {b : BootHw} {u : State}

/-- An image that fails before Configure leaves its code, and the ROM waits again. -/
theorem bootPcie_failed {c : Nat} (h : verifyStep s = .fail c u) : ∃ t, bootPcie b s = t
    ∧ t.sec = { u.sec with boot := .waitGo, go := false } ∧ t.flag R.HOST_BOOT F.HOST_BOOT_WAITING = true
    ∧ t.fld R.SEC_BOOT F.SEC_BOOT_CODE = c % 2 ^ F.SEC_BOOT_CODE.w := by
  obtain ⟨hwait, hbut, hsec, -⟩ := awaitGo_shows (bootCode c u)
  have hcode := (State.fld_of_reg (hbut R.SEC_BOOT (by decide)) F.SEC_BOOT_CODE).trans (bootCode_code c u)
  obtain ⟨r, hrest⟩ := bootCode_rest c u
  refine ⟨_, by rw [bootPcie, h], ?_, hwait, hcode⟩
  rw [hsec, hrest]

theorem bootPcie_passed {v : State} (h : verifyStep s = .ok u)
    (himage : bootImage b { u with sec := { u.sec with go := false } } = .ok v) : bootPcie b s = v := by
  rw [bootPcie, h]
  dsimp only
  rw [himage]
  rfl

end image

/-! ### Writes of the block, R626, R628, R630 and R637 -/

section block
variable {m : Nat} {lv : Level}

theorem secWrite_refused (h : lv ≠ .m) (off v : Nat) : secWrite m lv off v s = secRefuse off m s := if_pos h

theorem secWrite_lock : secWrite m .m R.SEC_LOCK 2 s = mlockSet true s := by
  rw [secWrite, if_neg (by decide), if_pos rfl, if_pos (by decide)]

theorem secWrite_csgo (v : Nat) : secWrite m .m R.SEC_CSGO v s = csgoWrite m v s := by
  rw [secWrite, if_neg (by decide), if_neg (by decide), if_pos rfl]

theorem secWrite_att (v : Nat) : secWrite m .m R.SEC_ATT v s = attWrite m .m v s := by
  rw [secWrite, if_neg (by decide), if_neg (by decide), if_neg (by decide), if_pos rfl]

theorem mlockSet_locked (h : s.mlock = false) (d : Bool) : (mlockSet d s).flag R.UC_STAT F.UC_STAT_LOCKED = true :=
  (State.flag_of_reg (mlockSet_locking h d (by decide)) _).trans s.locking_locked

/-- The cores that a word names. -/
def namedCores (v : Nat) : List Nat := (List.range 16).filter (bit v ·)

theorem mem_namedCores (v : Payload) {n : Nat} : n ∈ namedCores v.toNat ↔ n < 16 ∧ v.getLsbD n = true := by
  rw [namedCores, List.mem_filter, List.mem_range, bit_toNat_eq_getLsbD]

theorem namedCores_nodup (v : Nat) : (namedCores v).Nodup := List.nodup_range.filter _

theorem csgoWrite_eq (v : Nat) : csgoWrite m v s = if (namedCores v).all (s.coreWaits ·) = true then
    (namedCores v).foldl (fun t n => startCore (t.fld R.SEC_CSPC F.SEC_CSPC_PC) n t) s
    else secRefuse R.SEC_CSGO m s := rfl

/-- A core that starts does not move the address that the next one starts at. -/
theorem startCores_cspc (l : List Nat) (s : State) :
    l.foldl (fun t n => startCore (t.fld R.SEC_CSPC F.SEC_CSPC_PC) n t) s
      = l.foldl (fun t n => startCore (s.fld R.SEC_CSPC F.SEC_CSPC_PC) n t) s := by
  induction l generalizing s with
  | nil => rfl
  | cons n l ih =>
    rw [List.foldl_cons, List.foldl_cons, ih]
    rfl

theorem csgoWrite_starts {v : Payload} (h : ∀ n, n < 16 → v.getLsbD n = true → s.coreWaits n = true) :
    csgoWrite m v.toNat s
      = (namedCores v.toNat).foldl (fun t n => startCore (s.fld R.SEC_CSPC F.SEC_CSPC_PC) n t) s := by
  rw [csgoWrite_eq, if_pos (List.all_eq_true.mpr fun n hn => ?_), startCores_cspc]
  obtain ⟨hlt, hbit⟩ := (mem_namedCores v).mp hn
  exact h n hlt hbit

theorem csgoWrite_refused {v : Payload} {n : Nat} (hn : n < 16) (hv : v.getLsbD n = true)
    (h : s.coreWaits n = false) : csgoWrite m v.toNat s = secRefuse R.SEC_CSGO m s := by
  rw [csgoWrite_eq, if_neg fun hall => ?_]
  have := List.all_eq_true.mp hall n ((mem_namedCores v).mpr ⟨hn, hv⟩)
  rw [h] at this
  exact Bool.false_ne_true this

theorem csgoWrite_core {v : Payload} (h : ∀ n, n < 16 → v.getLsbD n = true → s.coreWaits n = true) {n : Nat}
    (hn : n < 16) : (csgoWrite m v.toNat s).core n
      = if v.getLsbD n then (s.core n).started (s.fld R.SEC_CSPC F.SEC_CSPC_PC) else s.core n := by
  rw [csgoWrite_starts h, startCores_core _ _ _ (namedCores_nodup _)]
  simp only [mem_namedCores, hn, true_and]

/-- A row of the register table writes at most its register. -/
theorem State.writeCodes_rest (s : State) (lv : Level) (off v : Nat) : ∃ r, s.writeCodes lv off v = { s with regs := r }
    ∧ s.regsBut (s.writeCodes lv off v) [off] := by
  cases h : regAt off with
  | none => exact ⟨s.regs, by rw [State.writeCodes, h], by rw [State.writeCodes, h]; exact fun _ _ => rfl⟩
  | some p => exact ⟨_, s.writeCodes_frame lv v h, fun k hk => s.writeCodes_reg_ne lv v h (List.ne_of_not_mem_cons hk)⟩

/-- An attestation over registers starts while none is busy. -/
theorem attWrite_starts (h : s.flag R.SEC_ATT F.SEC_ATT_BUSY = false) : ∃ t, attWrite m lv 1 s = t
    ∧ t.flag R.SEC_ATT F.SEC_ATT_BUSY = true
    ∧ t.sec = { s.sec with att := some ⟨.reg, (s.reg R.SEC_ATTDST).setWidth 42, s.reg (R.SEC_NONCE 0),
        s.reg (R.SEC_NONCE 1), 0, false⟩ }
    ∧ t = { s with regs := t.regs, sec := t.sec } := by
  obtain ⟨r, hrest, hbut⟩ := s.writeCodes_rest lv R.SEC_ATT 1
  have hstart : attWrite m lv 1 s = { (s.writeCodes lv R.SEC_ATT 1).setFld R.SEC_ATT F.SEC_ATT_BUSY 1 with
      sec := { (s.writeCodes lv R.SEC_ATT 1).sec with att := some ⟨.reg,
        ((s.writeCodes lv R.SEC_ATT 1).reg R.SEC_ATTDST).setWidth 42, (s.writeCodes lv R.SEC_ATT 1).reg (R.SEC_NONCE 0),
        (s.writeCodes lv R.SEC_ATT 1).reg (R.SEC_NONCE 1), 0, false⟩ } } := by
    simp [attWrite, h]
  rw [hbut _ (by decide), hbut _ (by decide), hbut _ (by decide)] at hstart
  refine ⟨_, hstart, State.setFld_flag_set (s.writeCodes lv R.SEC_ATT 1) R.SEC_ATT rfl (by decide), ?_, ?_⟩
  · rw [hrest]
  · rw [hrest]
    rfl

end block

/-! ### Debug and the sideband ports, R632 to R634 -/

section debug
variable {ins : Nat}

theorem debugSelect_refused (h : s.debugOpen = false) : debugSelect ins s
    = logCairn .security 0x05 [⟨16, ins⟩] { s with dbg := { s.dbg with locked := true } } :=
  if_neg (by rw [h]; decide)

/-- A session opened. -/
def State.session (s : State) : State :=
  { s.setFld R.SEC_DBG F.SEC_DBG_ACTIVE 1 with dbg := { s.dbg with locked := false } }

theorem State.session_active (s : State) : s.session.flag R.SEC_DBG F.SEC_DBG_ACTIVE = true :=
  State.setFld_flag_set s R.SEC_DBG rfl (by decide)

theorem debugSelect_opens (h : s.debugOpen = true) : debugSelect ins s
    = if s.flag R.SEC_DBG F.SEC_DBG_ACTIVE = true then s.session else raise 753 s.session := if_pos h

theorem debugSelect_open (h : s.debugOpen = true) : ∃ t, debugSelect ins s = t
    ∧ t.flag R.SEC_DBG F.SEC_DBG_ACTIVE = true ∧ t.dbg.locked = false
    ∧ (s.flag R.SEC_DBG F.SEC_DBG_ACTIVE = false → t.isPending 753 = true)
    ∧ t = { s with regs := t.regs, cores := t.cores, dbg := t.dbg } := by
  refine ⟨_, debugSelect_opens h, ?_⟩
  cases hact : s.flag R.SEC_DBG F.SEC_DBG_ACTIVE with
  | true => exact ⟨s.session_active, rfl, fun e => absurd e (by decide), rfl⟩
  | false =>
    rw [if_neg (by decide)]
    refine ⟨(State.flag_of_reg (raise_reg_ne _ _ (by decide)) _).trans s.session_active, ?_,
      fun _ => raise_isPending_hub _ (by decide), ?_⟩
    · rw [raise_dbg]
      rfl
    · obtain ⟨r, c, e⟩ := raise_rest s.session 753
      rw [e]
      rfl

end debug

/-- The parts of the identification code: the manufacturer below bit 12, the part number, the stepping. -/
theorem State.idcode_parts (s : State) : bits s.idcode 12 16 = 0x4806 ∧ s.idcode % 2 = 1
    ∧ bits s.idcode 28 4 = s.fld R.ID1 F.ID1_STEPL % 16 := by
  have hjmfr : s.fld R.ID0 F.ID0_JMFR < 2 ^ 11 := bits_lt ..
  unfold State.idcode bits
  generalize s.fld R.ID0 F.ID0_JMFR = j at *
  generalize s.fld R.ID1 F.ID1_STEPL = d at *
  omega

/-! ### The rows -/

section rows
variable {lv : Level} {m : Fin 48} {v : Payload} {test fl good : Bool} {tr : BitVec 6} {fm : BitVec 16} {sr : BitVec 4}

/-- Below M each row of the block is refused with an entry in the log. -/
theorem exec_block_refused (h : lv ≠ .m) {p : Instr × Nat}
    (hp : p ∈ [(Instr.mlockSet m lv, R.SEC_LOCK), (.csgo m lv v, R.SEC_CSGO), (.attGo m lv, R.SEC_ATT)]) :
    exec p.1 s = .next (logCairn .security 0x06 [⟨26, p.2⟩, ⟨6, m⟩] s) := by
  simp only [List.mem_cons, List.not_mem_nil, or_false] at hp
  rcases hp with rfl | rfl | rfl
  · exact congrArg ok (secWrite_refused h _ _)
  · exact congrArg ok (secWrite_refused h _ _)
  · exact congrArg ok (secWrite_refused h _ _)

theorem exec_bootRom_fromReset (h : s.sec.boot = .notRun) :
    exec (.bootRom test tr fl fm sr good) s = .next (bootStart ⟨test, tr, fl, fm, sr, good⟩ s) := by
  simp [execBootRom, h, ok]

theorem exec_bootRom_image (h : s.sec.boot = .waitGo) (hgo : s.sec.go = true) :
    exec (.bootRom test tr fl fm sr good) s = .next (bootPcie ⟨test, tr, fl, fm, sr, good⟩ s) := by
  simp [execBootRom, h, hgo, ok]

/-- A ROM that has halted or released the machine, or that waits for an image, does nothing. -/
theorem exec_bootRom_idle
    (h : s.sec.boot = .halted ∨ s.sec.boot = .released ∨ (s.sec.boot = .waitGo ∧ s.sec.go = false)) :
    exec (.bootRom test tr fl fm sr good) s = .next s := by
  rcases h with h | h | ⟨h, hgo⟩
  · simp [execBootRom, h, ok]
  · simp [execBootRom, h, ok]
  · simp [execBootRom, h, hgo, ok]

end rows

/-- From reset: the three ends that the start of the ROM can come to without an image. -/
theorem exec_bootRom_starts (tr : BitVec 6) (fl : Bool) (fm : BitVec 16) (sr : BitVec 4) (good : Bool) (s : State)
    (h : s.sec.boot = .notRun) (hlock : s.mlock = false) :
    (∃ t, exec (.bootRom false tr fl fm sr good) s = .next t ∧ t.sec.boot = .halted ∧ t.mlock = true
      ∧ t.fld R.SEC_BOOT F.SEC_BOOT_CODE = 11 ∧ ∀ j, j < 11 → t.reg (R.UC_PDIG j) = s.reg (R.UC_PDIG j))
    ∧ ((∃ k, k < 6 ∧ tr.getLsbD k = false ∧ s.flag (R.HBM_STAT k) F.HBM_STAT_TRAINED = false) →
      ∃ t, exec (.bootRom true tr fl fm sr good) s = .next t ∧ t.sec.boot = .halted ∧ t.mlock = true
        ∧ t.fld R.SEC_BOOT F.SEC_BOOT_CODE = 10) := by
  refine ⟨?_, fun ⟨k, hk, htr, huntrained⟩ => ?_⟩
  · obtain ⟨hhalt, hmlock, hcode⟩ := bootHalt_halted 11 s
    exact ⟨_, exec_bootRom_fromReset h, hhalt, hmlock, hcode, fun j hj => bootHalt_selfTest_pdig hlock hj⟩
  · rw [exec_bootRom_fromReset h, bootStart_untrained hk htr huntrained]
    exact ⟨_, rfl, bootHalt_halted 10 _⟩

theorem verifyCode_magic {h : List Word} (hm : bits (hdr h 0) 0 48 ≠ 0x5A4E5354) (s : State) :
    verifyCode h s = some 1 := by
  have hword : hdr h 0 ≠ 0x5A4E5354 := fun e => hm (by rw [e]; decide)
  exact if_pos (.inl hword)

/-- Settles O60: each end of the ROM is one lemma above, as is each write of the security block and each port. -/
theorem bootAndSecurity : Obligations.BootAndSecurity := by
  unfold Obligations.BootAndSecurity
  refine ⟨fun tr fl fm sr good s h hlock => ?_, fun test tr fl fm sr good c hd s u v => ⟨exec_bootRom_idle,
    fun h hgo hfail => ?_, fun h hgo hpass himage => ?_, fun hm => verifyCode_magic hm s⟩,
    fun m lv v s => ⟨fun h p hp => exec_block_refused h hp, ?_, ?_, ?_, ?_, ?_⟩,
    fun ins s av hav => ⟨?_, ?_, ?_, ?_, rfl, ?_, rfl, rfl, rfl⟩⟩
  · obtain ⟨htest, htrain⟩ := exec_bootRom_starts tr fl fm sr good s h hlock
    refine ⟨htest, htrain, ?_⟩
    rintro rfl hsel
    rw [exec_bootRom_fromReset h]
    obtain ⟨t, ht, hwaits⟩ := bootStart_waits (fl := fl) (fm := fm) (sr := sr) (good := good) hsel hlock
    exact ⟨t, congrArg ok ht, hwaits⟩
  · obtain ⟨t, ht, hwaits⟩ := bootPcie_failed (b := ⟨test, tr, fl, fm, sr, good⟩) hfail
    exact ⟨t, (exec_bootRom_image h hgo).trans (congrArg ok ht), hwaits⟩
  · obtain ⟨hd, w, hrel⟩ := bootImage_releases himage
    exact ⟨(exec_bootRom_image h hgo).trans (congrArg ok (bootPcie_passed hpass himage)),
      releaseStep_releases hrel⟩
  · rintro rfl hlock
    exact congrArg ok (secWrite_lock.trans (mlockSet_set hlock true))
  · rintro rfl hlock
    exact ⟨_, congrArg ok secWrite_lock, mlockSet_mlock true s, mlockSet_locked hlock true,
      fun j hj => mlockSet_patchDigest hlock hj, by obtain ⟨r, e⟩ := mlockSet_rest true s; rw [e]⟩
  · rintro rfl hwaits
    refine ⟨_, congrArg ok (secWrite_csgo _), fun n hn => ?_, ?_⟩
    · rw [csgoWrite_core hwaits hn]
      split
      · exact ⟨rfl, Core.started_stat _ _, rfl, Core.started_srW _ _⟩
      · rfl
    · rw [csgoWrite_starts hwaits]
      obtain ⟨r, e⟩ := startCores_rest (s.fld R.SEC_CSPC F.SEC_CSPC_PC) (namedCores v.toNat) s
      rw [e]
  · rintro rfl ⟨n, hn, hbit, hbusy⟩
    exact congrArg ok ((secWrite_csgo _).trans (csgoWrite_refused hn hbit hbusy))
  · rintro rfl hbusy
    obtain ⟨t, ht, hstarted⟩ := attWrite_starts (m := m) (lv := .m) hbusy
    exact ⟨t, congrArg ok ((secWrite_att 1).trans ht), hstarted⟩
  · intro hopen
    obtain ⟨t, ht, hsession⟩ := debugSelect_open (ins := ins.toNat) (hav.symm.trans hopen)
    exact ⟨t, congrArg ok ht, hsession⟩
  · intro hclosed
    exact congrArg ok (debugSelect_refused (hav.symm.trans hclosed))
  · exact ⟨_, rfl, s.setFld_flag_clear R.SEC_DBG (by decide), fun k hk => s.setFld_reg_ne _ hk _, rfl⟩
  · exact ⟨_, rfl, rfl, s.idcode_parts.1, s.idcode_parts.2.1, s.idcode_parts.2.2, rfl⟩
  · exact ⟨_, rfl, rfl, rfl⟩

end Sys2Proof.Machine
end

section
/-! Trap entry at a boundary, inside a routine and at an instruction (R459 to R470, R478, R486 and R488). -/

namespace Sys2Proof.Machine

/-! ### States whose core has the same registers -/

theorem Core.sameRegs.det {c d : Core} (h : c.sameRegs d) : d.det = c.det := by
  unfold Core.det
  rw [h.stat]

/-- A trap of a core with the registers of core n of s, in a state that is s beside it, is a trap of s. -/
theorem State.trapped.of_sameRegs {s v t : State} {n : Nat} {k : Trap} (h : v.trapped t n k)
    (hsame : (s.core n).sameRegs (v.core n)) (hniche : v.niche = s.niche) (hmem : v.mem = s.mem)
    (hothers : ∀ m, m ≠ n → v.core m = s.core m)
    (hrest : k.ev = none → k.hidx ∉ [0x0D, 0x12, 0x20, 0x21, 0x22] → v = s.coresOf v ∧ s.regsBut v (countRegs n)) :
    s.trapped t n k := by
  have hstat := hsame.stat
  have hestat := hsame.estatOf k
  have hwords := frameWords_sameRegs hsame k
  have hdet := hsame.det
  have h5 := hsame.srN (j := 5) (by decide)
  obtain ⟨hw, hv, hb, hsr, h19⟩ := hsame
  unfold State.trapped State.frameAt State.nicheBut at h ⊢
  simp only [hw, hv, hb, hstat, hestat, hwords, hdet, h5, h19, hniche] at h
  obtain ⟨h1, h2, h3, h4, h5, h6, h7, h8, h9, h10, h11, h12, h13, h14, h15, h16, h17, hd⟩ := h
  refine ⟨h1, h2, h3, h4, h5, h6, h7, h8, h9, h10, h11, h12, h13, fun j hj h16 h17 h18 h19 h21 =>
    (h14 j hj h16 h17 h18 h19 h21).trans (hsr j h19), h15, h16, h17, fun hdet => ?_⟩
  obtain ⟨hmem', hothers', hrest'⟩ := hd hdet
  refine ⟨hmem'.trans hmem, fun m hm => (hothers' m hm).trans (hothers m hm), fun he hl => ?_⟩
  obtain ⟨hall, hregs⟩ := hrest' he hl
  obtain ⟨hv, hvregs⟩ := hrest he hl
  refine ⟨?_, fun o ho => (hregs o ho).trans (hvregs o ho)⟩
  rw [hv] at hall
  exact hall

/-- A frame finds room as well. -/
theorem State.framed_of_sameRegs {s v : State} {n : Nat} {lv : Level} (h : s.framed n lv)
    (hsame : (s.core n).sameRegs (v.core n)) : v.framed n lv := by
  obtain ⟨hw, -⟩ := hsame
  unfold State.framed State.frameAt at h ⊢
  rw [hw]
  exact h

/-! ### What stays pending -/

/-- The exceptions that wait for a boundary. -/
def Core.dues (c : Core) : Bool × List MCheck × List Payload × Option (Payload × Nat) × List (Payload × Nat) :=
  (c.pfail, c.mcheck, c.pteloc, c.astore, c.linkFault)

theorem Core.dues_of_frame {c d : Core} (h : d.frame = c.frame) : d.dues = c.dues := by
  have hdues : d.frame.dues = c.frame.dues := congrArg Core.dues h
  exact hdues

/-- An advancing cycle of an idle core moves registers alone. -/
theorem Core.idle.endCycle_frame {c : Core} (h : c.idle) : c.endCycle.frame = c.frame := by
  have hend : c.endCycle = { (c.addFlags {}) with
      inflight := [], branches := c.branches, slot0 := none, divLeft := c.divLeft - 1 } := by
    simp only [Core.endCycle, h.inflight, h.branches, resolveDue, landDue]
    rfl
  rw [hend]
  rfl

theorem Core.idle.cycles_frame {c : Core} (h : c.idle) (k : Nat) : (c.cycles k).frame = c.frame := by
  induction k generalizing c with
  | zero => rfl
  | succ k ih =>
    obtain ⟨hidle, -⟩ := h.endCycle
    exact (ih hidle).trans h.endCycle_frame

/-- The core before an entry has what the idle core had pending. -/
theorem Core.idle.quiet_dues {c : Core} (h : c.idle) : c.quiet.dues = c.dues := by
  have hland : c.landAll = c := by
    rw [Core.landAll, Core.busy, h.inflight]
    rfl
  obtain ⟨hidle, -⟩ := h.cycles 12
  have hframe := h.cycles_frame 12
  unfold Core.quiet
  rw [hland]
  generalize c.cycles 12 = x at hidle hframe
  rw [hidle.flush]
  have hdues : x.dues = c.dues := Core.dues_of_frame hframe
  exact hdues

/-! ### The registers at entry, whatever the trap -/

/-- The trap of the same cause, level and return address at an instruction boundary and without an event. -/
def Trap.bare (k : Trap) : Trap := { k with ev := none, micro := none }

section entered
variable (f : Nat) (c : Core) (k : Trap)

theorem emAtEntry_srW {j : Nat} (h16 : j ≠ 16) (h17 : j ≠ 17) (h18 : j ≠ 18) :
    (emAtEntry k c).srW j = c.srW j := by
  unfold emAtEntry
  split
  · simp [Core.setSr, Core.putSr_srW, h16]
  · simp [Core.setSr, Core.putSr_srW, h16, h17, h18]

theorem Core.putW_srN (c : Core) (i : Nat) (x : Word) (j : Nat) : (c.putW i x).srN j = c.srN j := by
  obtain ⟨w, hput⟩ := c.putW_rest i x
  rw [hput]
  rfl

/-- What a micro-trap saves. -/
theorem emAtEntry_micro {m : Nat × Word × Word} (h : k.micro = some m) :
    (emAtEntry k c).srW 16 = ⟨(srReset 16).tag, BitVec.ofNat 48 (m.1 % 2 ^ 13 + 2 ^ 13)⟩
      ∧ (emAtEntry k c).srW 17 = m.2.1 ∧ (emAtEntry k c).srW 18 = m.2.2 := by
  unfold emAtEntry
  rw [h]
  simp [Core.setSr, Core.putSr_srW]

theorem emAtEntry_boundary (h : k.micro = none) :
    (emAtEntry k c).srW 16 = ⟨(srReset 16).tag, BitVec.ofNat 48 (setBits (c.srN 16) 13 1 0)⟩ := by
  unfold emAtEntry
  rw [h]
  simp [Core.setSr, Core.putSr_srW]

/-- The special registers that an entry writes; EMSTATE and the micro-temporaries are `emAtEntry`'s. -/
theorem entered_srW_of_em (j : Nat) : (entered f k c).srW j = if j = 21 then ⟨(srReset 21).tag, BitVec.ofNat 48 0⟩
    else if j = 0 then ⟨(srReset 0).tag, BitVec.ofNat 48 (statAtEntry c k)⟩
    else if j = 4 then ⟨(srReset 4).tag, BitVec.ofNat 48 k.eval⟩
    else if j = 3 then ⟨(srReset 3).tag, BitVec.ofNat 48 (k.hidx + k.sub % 2 ^ 16 * 2 ^ 11)⟩
    else if j = 2 then ⟨(srReset 2).tag, BitVec.ofNat 48 (estatOf c k)⟩
    else if j = 1 then ⟨(srReset 1).tag, BitVec.ofNat 48 k.ra.toNat⟩
    else (emAtEntry k (c.putW (31 + lvlCode k.lvl) (Word.addr (BitVec.ofNat 48 f)))).srW j := by
  simp only [entered, Core.setSr, Core.putSr, Core.srW, tget_tset]

theorem entered_micro {m : Nat × Word × Word} (h : k.micro = some m) :
    (entered f k c).srW 16 = ⟨(srReset 16).tag, BitVec.ofNat 48 (m.1 % 2 ^ 13 + 2 ^ 13)⟩
      ∧ (entered f k c).srW 17 = m.2.1 ∧ (entered f k c).srW 18 = m.2.2 := by
  simp only [entered_srW_of_em]
  exact emAtEntry_micro _ k h

/-- Of the special registers only STAT, ESTAT, EMSTATE and the micro-temporaries depend on the event and on where the
trap is taken. -/
theorem entered_bare_srW {j : Nat} (hj : j ∉ [0, 2, 16, 17, 18]) :
    (entered f k c).srW j = (entered f k.bare c).srW j := by
  simp only [List.mem_cons, List.not_mem_nil, or_false, not_or] at hj
  obtain ⟨h0, h2, h16, h17, h18⟩ := hj
  rw [entered_srW_of_em, entered_srW_of_em, if_neg (c := j = 0) h0, if_neg (c := j = 0) h0, if_neg (c := j = 2) h2,
    if_neg (c := j = 2) h2, emAtEntry_srW _ _ h16 h17 h18, emAtEntry_srW _ _ h16 h17 h18]
  rfl

theorem entered_dues : (entered f k c).dues = c.dues := by
  obtain ⟨w, hput⟩ := c.putW_rest (31 + lvlCode k.lvl) (Word.addr (BitVec.ofNat 48 f))
  unfold entered emAtEntry
  rw [hput]
  split
  · rfl
  · rfl

end entered

/-! ### Logging and clearing the event -/

theorem logTrap_rest (n : Nat) (k : Trap) (s : State) : ∃ r c, logTrap n k s = { s with regs := r, cairn := c } := by
  unfold logTrap
  split
  · exact logCairn_rest ..
  · exact logCairn_rest ..
  · exact logCairn_rest ..
  · exact logCairn_rest ..
  · exact logCairn_rest ..
  · exact ⟨s.regs, s.cairn, rfl⟩

theorem logTrap_cores (n : Nat) (k : Trap) (s : State) : (logTrap n k s).cores = s.cores := by
  obtain ⟨r, c, h⟩ := logTrap_rest n k s
  rw [h]

theorem logTrap_niche (n : Nat) (k : Trap) (s : State) : (logTrap n k s).niche = s.niche := by
  obtain ⟨r, c, h⟩ := logTrap_rest n k s
  rw [h]

theorem logTrap_mem (n : Nat) (k : Trap) (s : State) : (logTrap n k s).mem = s.mem := by
  obtain ⟨r, c, h⟩ := logTrap_rest n k s
  rw [h]

theorem unraise_rest (e : Nat) (s : State) : ∃ r, unraise e s = { s with regs := r } := by
  unfold unraise
  split
  · exact ⟨s.regs, rfl⟩
  · exact ⟨_, rfl⟩

theorem State.isPending_of_regs {s t : State} (h : t.regs = s.regs) (k : Nat) : t.isPending k = s.isPending k := by
  rw [State.isPending, State.regN_congr h, State.isPending]

theorem State.holdsPending_of_regs {s t : State} (h : t.regs = s.regs) (k : Nat) :
    t.holdsPending k = s.holdsPending k := by
  rw [State.holdsPending, State.regN_congr h, State.holdsPending]

/-- An event cleared is pending no more, and no other one changes. -/
theorem unraise_isPending {e : Nat} {s : State} (h : s.holdsPending e = false) :
    (unraise e s).isPending e = false ∧ ∀ k, k ≠ e → (unraise e s).isPending k = s.isPending k := by
  rw [unraise, if_neg (by rw [h]; decide)]
  have hlt : setBits (s.regN (R.EVC_PEND (e / 32))) (e % 32) 1 0 < 2 ^ 48 :=
    setBits_lt _ _ _ _ _ (s.regN_lt _) (by omega)
  refine ⟨?_, fun k hk => ?_⟩
  · rw [State.isPending, State.setRegN_regN_same _ _ _ hlt, bit_eq_bits, bits_setBits_same]
    rfl
  · unfold State.isPending
    by_cases hg : k / 32 = e / 32
    · rw [hg, State.setRegN_regN_same _ _ _ hlt, bit_setBits_ne _ _ (by omega)]
    · rw [State.setRegN_regN_ne _ (by unfold R.EVC_PEND; omega)]

/-- What an entry does to the pending bits. -/
def Trap.clear (k : Trap) (s : State) : State :=
  match k.ev with
  | some e => unraise e.src s
  | none => s

theorem Trap.clear_rest (k : Trap) (s : State) : ∃ r, k.clear s = { s with regs := r } := by
  unfold Trap.clear
  split
  · exact unraise_rest _ s
  · exact ⟨s.regs, rfl⟩

/-! ### The entry -/

section entry
variable {v : State} {n : Nat} {k : Trap}

/-- The state that an entry stores its frame in. -/
def State.stillState (v : State) (n : Nat) (k : Trap) : State :=
  logTrap n k ((wrongPath n v).setCore n (v.stilled n))

/-- The state after an entry, before the event is cleared. -/
def State.enteredState (v : State) (n : Nat) (k : Trap) : State :=
  ((v.stillState n k).setNiche (v.frameIn n k)).setCore n (entered (v.frameAt n k.lvl) k (v.stilled n))

theorem State.stillState_core (v : State) (n : Nat) (k : Trap) (m : Nat) :
    (v.stillState n k).core m = if m = n then v.stilled n else (wrongPath n v).core m := by
  rw [State.stillState, State.core_congr (logTrap_cores ..), State.setCore_core]

theorem State.stillState_niche (v : State) (n : Nat) (k : Trap) : (v.stillState n k).niche = v.niche := by
  rw [State.stillState, logTrap_niche, State.setCore_niche, (wrongPath_strayed v n).niche]

/-- A frame that finds room is pushed. -/
theorem pushFrame_framed {c : Core} (hsame : (v.core n).sameRegs c) (hframed : v.framed n k.lvl) {u : State}
    (hniche : u.niche = v.niche) :
    pushFrame n (v.frameAt n k.lvl) (frameWords c k) u = .got none (u.setNiche (v.frameIn n k)) := by
  obtain ⟨_, hal, hlo, hhi⟩ := hframed
  have hpush := pushFrame_niche (n := n) hal hlo (fun j => (frameWords (v.core n) k).getD j Word.uni0) (i := 0)
    (k := 12) (by omega) u
  have hwords := map_getD_range (frameWords (v.core n) k) Word.uni0
  rw [frameWords_length] at hwords
  rw [hwords, hniche, Nat.mul_zero, Nat.add_zero] at hpush
  rw [frameWords_sameRegs hsame k]
  exact hpush

/-- A quiet core whose frame finds room enters at once, and the event is cleared. -/
theorem enterOnce_enters {c : Core} (hsame : (v.core n).sameRegs c) (hframed : v.framed n k.lvl) {u : State}
    (hu : u.core n = c) (hniche : u.niche = v.niche) : enterOnce n k u
      = .got none (k.clear ((u.setNiche (v.frameIn n k)).setCore n (entered (v.frameAt n k.lvl) k c))) := by
  have hpush := pushFrame_framed (k := k) hsame hframed hniche
  have hw : c.wAt (31 + lvlCode k.lvl) = (v.core n).wAt (31 + lvlCode k.lvl) := by
    obtain ⟨hw, _⟩ := hsame
    exact hw _
  obtain ⟨htag, _⟩ := hframed
  have haddr : ¬ (((v.core n).wAt (31 + lvlCode k.lvl)).tag ≠ Tags.addr
      ∧ ((v.core n).wAt (31 + lvlCode k.lvl)).tag ≠ Tags.raw) := by
    simpa [addrTags, or_iff_not_imp_left] using htag
  have hcore : (u.setNiche (v.frameIn n k)).core n = c := (State.core_congr (State.setNiche_cores ..) n).trans hu
  obtain ⟨P, hP⟩ : ∃ P, pushFrame = P := ⟨_, rfl⟩
  unfold enterOnce
  rw [hP] at hpush ⊢
  simp only [hu, hw, if_neg haddr]
  rw [← State.frameAt, hpush]
  dsimp only
  rw [hcore]
  rfl

theorem enterTrap_enters (hidle : (v.core n).idle) (hframed : v.framed n k.lvl) :
    enterTrap n k v = .got () (k.clear (v.enteredState n k)) := by
  have honce := enterOnce_enters (v.stilled_sameRegs hidle) hframed (u := v.stillState n k)
    ((v.stillState_core n k n).trans (if_pos rfl)) (v.stillState_niche n k)
  unfold enterTrap
  dsimp only
  rw [← State.stilled, ← State.stillState, honce]
  rfl

theorem Trap.clear_cores (k : Trap) (s : State) : (k.clear s).cores = s.cores := by
  obtain ⟨r, h⟩ := k.clear_rest s
  rw [h]

theorem Trap.clear_niche (k : Trap) (s : State) : (k.clear s).niche = s.niche := by
  obtain ⟨r, h⟩ := k.clear_rest s
  rw [h]

theorem Trap.clear_mem (k : Trap) (s : State) : (k.clear s).mem = s.mem := by
  obtain ⟨r, h⟩ := k.clear_rest s
  rw [h]

theorem State.enteredState_core (v : State) (n : Nat) (k : Trap) (m : Nat) : (v.enteredState n k).core m
    = if m = n then entered (v.frameAt n k.lvl) k (v.stilled n) else (wrongPath n v).core m := by
  rw [State.enteredState, State.setCore_core, State.core_congr (State.setNiche_cores ..), v.stillState_core]
  split
  · rfl
  · rfl

theorem State.enteredState_niche (v : State) (n : Nat) (k : Trap) : (v.enteredState n k).niche = v.frameIn n k := by
  rw [State.enteredState, State.setCore_niche, State.setNiche]

theorem State.enteredState_mem (v : State) (n : Nat) (k : Trap) : (v.enteredState n k).mem = (wrongPath n v).mem := by
  rw [State.enteredState, State.setCore_mem, State.setNiche_mem, State.stillState, logTrap_mem, State.setCore_mem]

/-- The core that an entry leaves. -/
theorem clear_entered_core (v : State) (n : Nat) (k : Trap) :
    (k.clear (v.enteredState n k)).core n = entered (v.frameAt n k.lvl) k (v.stilled n) := by
  rw [State.core_congr (k.clear_cores _), v.enteredState_core, if_pos rfl]

theorem enteredState_rest (h : (v.core n).det = true) (hlog : k.hidx ∉ [0x0D, 0x12, 0x20, 0x21, 0x22]) :
    ∃ r m, v.enteredState n k = { v with cores := r, niche := m } := by
  have hstill : v.stillState n k = v.setCore n (v.stilled n) := by
    rw [State.stillState, logTrap_none hlog, wrongPath_det v n h]
  rw [State.enteredState, hstill]
  exact (v.setNiche_rest n _ _ _).imp fun _ h => ⟨_, h⟩

/-- In deterministic mode an entry leaves the memories and the other cores; one that neither logs nor takes an event
changes the core and the niche memories alone. -/
theorem clear_entered_det (h : (v.core n).det = true) : (k.clear (v.enteredState n k)).mem = v.mem
    ∧ (∀ m, m ≠ n → (k.clear (v.enteredState n k)).core m = v.core m)
    ∧ (k.ev = none → k.hidx ∉ [0x0D, 0x12, 0x20, 0x21, 0x22] →
      k.clear (v.enteredState n k) = v.nicheOf (k.clear (v.enteredState n k))
        ∧ v.regsBut (k.clear (v.enteredState n k)) (countRegs n)) := by
  refine ⟨?_, fun m hm => ?_, fun hev hlog => ?_⟩
  · rw [k.clear_mem, v.enteredState_mem, wrongPath_det v n h]
  · rw [State.core_congr (k.clear_cores _), v.enteredState_core, if_neg hm, wrongPath_det v n h]
  · obtain ⟨r, m, hrest⟩ := enteredState_rest h hlog
    have hclear : k.clear (v.enteredState n k) = v.enteredState n k := by rw [Trap.clear, hev]
    rw [hclear, hrest]
    exact ⟨rfl, fun _ _ => rfl⟩

theorem estatOf_lt_of_src {c : Core} (h : ∀ e, k.ev = some e → e.src < 1024) : estatOf c k < 2 ^ 48 := by
  cases hev : k.ev with
  | none => exact estatOf_lt hev
  | some e =>
    have hsrc := h e hev
    have hcpri : c.cpri < 2 ^ 6 := bits_lt ..
    have hpl := lvlCode_le c.pl
    have hlv := lvlCode_le k.lvl
    have hb (b : Bool) : b2n b ≤ 1 := by cases b <;> decide
    have hds := hb k.ds
    have hie := hb c.ie
    unfold estatOf
    rw [hev]
    dsimp only
    omega

theorem statAtEntry_lt_any (c : Core) (k : Trap) : statAtEntry c k < 2 ^ 48 := by
  have hlvl : setBits (setBits c.stat 0 2 (lvlCode k.lvl)) 2 2 0 < 2 ^ 48 :=
    setBits_lt _ _ _ _ _ (setBits_lt _ _ _ _ _ (c.srN_lt 0) (by decide)) (by decide)
  unfold statAtEntry
  dsimp only
  split
  · exact setBits_lt _ _ _ _ _ hlvl (by decide)
  · exact hlvl

/-- The level and IE of STAT lie apart from CPRI. -/
theorem setBits_cpri_apart (x l p : Nat) :
    setBits (setBits (setBits x 0 2 l) 2 2 0) 6 6 p = setBits (setBits (setBits x 6 6 p) 0 2 l) 2 2 0 := by
  have hlvl (y : Nat) : setBits (setBits y 0 2 l) 6 6 p = setBits (setBits y 6 6 p) 0 2 l := by
    unfold setBits
    norm_num
    omega
  have hie (y : Nat) : setBits (setBits y 2 2 0) 6 6 p = setBits (setBits y 6 6 p) 2 2 0 := by
    unfold setBits
    norm_num
    omega
  rw [hie, hlvl]

/-- An entry is the trap of R467 to R470, wherever it is taken. -/
theorem State.entered_trapped (hidle : (v.core n).idle) (hframed : v.framed n k.lvl) (hhidx : k.hidx < 2 ^ 11)
    (hsrc : ∀ e, k.ev = some e → e.src < 1024) : v.trapped (k.clear (v.enteredState n k)) n k := by
  have hsame := v.stilled_sameRegs hidle
  have hbare := State.entry_trapped (k := k.bare) hidle hframed rfl rfl hhidx
  have hniche : (k.clear (v.enteredState n k)).niche = (v.entry n k.bare).niche := by
    rw [k.clear_niche, v.enteredState_niche, v.entry_niche]
    rfl
  have hcore := clear_entered_core v n k
  have hbareCore := v.entry_core n k.bare
  have hdet := clear_entered_det (v := v) (n := n) (k := k)
  have hsr := fun j => entered_srW_of_em (v.frameAt n k.lvl) (v.stilled n) k j
  have hagree : ∀ j, j ∉ [0, 2, 16, 17, 18] → (entered (v.frameAt n k.lvl) k (v.stilled n)).srW j
      = (entered (v.frameAt n k.bare.lvl) k.bare (v.stilled n)).srW j :=
    fun j hj => entered_bare_srW (v.frameAt n k.lvl) (v.stilled n) k hj
  obtain ⟨hdelay, hwaiting, hv, hb, hw, hpc⟩ := entered_rest (v.frameAt n k.lvl) (v.stilled n) k
  obtain ⟨hdelay', hwaiting', hv', hb', hw', hpc'⟩ := entered_rest (v.frameAt n k.bare.lvl) (v.stilled n) k.bare
  rw [← hcore] at hdelay hwaiting hv hb hw hpc hsr hagree
  rw [← hbareCore] at hdelay' hwaiting' hv' hb' hw' hpc' hagree
  generalize k.clear (v.enteredState n k) = t at *
  generalize v.entry n k.bare = u at *
  unfold State.trapped State.nicheBut State.nicheCont at hbare ⊢
  obtain ⟨h1, -, h3, -, h5, h6, h7, h8, h9, h10, h11, h12, h13, h14, h15, h16, h17, -⟩ := hbare
  have hsrN {j : Nat} (hj : j ∉ [0, 2, 16, 17, 18]) : (t.core n).srN j = (u.core n).srN j := by
    rw [Core.srN, hagree j hj]
    rfl
  have hwAt (i : Nat) : (t.core n).wAt i = (u.core n).wAt i := by
    unfold Core.wAt
    rw [hw, hw']
    rfl
  have hgetV (i : RegNo) (j : Nat) : (t.core n).getV i j = (u.core n).getV i j := by
    unfold Core.getV
    rw [hv, hv']
  have hgetB (j : Nat) : (t.core n).getB j = (u.core n).getB j := by
    unfold Core.getB
    rw [hb, hb']
  refine ⟨?_, ?_, (hsrN (by decide)).trans h3, ?_, (hsrN (by decide)).trans h5, (hsrN (by decide)).trans h6, ?_,
    hdelay.trans (hdelay'.symm.trans h8), hwaiting.trans (hwaiting'.symm.trans h9), (hwAt _).trans h10,
    fun i hi => (hwAt i).trans (h11 i hi), fun i j => (hgetV i j).trans (h12 i j), fun j => (hgetB j).trans (h13 j),
    fun j hj hj16 hj17 hj18 hj19 hj21 => ?_, (hsrN (by decide)).trans h15, fun i hi => ?_, fun i hi => ?_, hdet⟩
  · rw [hpc, hsrN (by decide)]
    exact hpc'.symm.trans h1
  · rw [Core.srN_of_srW (hsr 0) (statAtEntry_lt_any _ _), hsame.statAtEntry, statAtEntry]
    cases k.ev with
    | none => rfl
    | some e => exact setBits_cpri_apart ..
  · rw [Core.srN_of_srW (hsr 2) (estatOf_lt_of_src hsrc), hsame.estatOf]
  · rw [Core.depth, hsrN (by decide)]
    exact h7
  · exact (hagree j (by simp only [List.mem_cons, List.not_mem_nil, or_false]; omega)).trans
      (h14 j hj hj16 hj17 hj18 hj19 hj21)
  · rw [hniche]
    exact h16 i hi
  · rw [hniche]
    exact h17 i hi

end entry

theorem trapTo_enters {v : State} {n : Nat} {k : Trap} (hidle : (v.core n).idle) (hframed : v.framed n k.lvl)
    (s0 : State) : trapTo n k s0 v = k.clear (v.enteredState n k) := by rw [trapTo, enterTrap_enters hidle hframed]

/-! ### What is due at a boundary, R464 and R465 -/

theorem Ev.first_mem {l : List Ev} {e : Ev} (h : Ev.first l = some e) : e ∈ l := by
  induction l generalizing e with
  | nil => cases h
  | cons a l ih =>
    unfold Ev.first at h
    split at h
    · exact List.mem_cons.mpr (.inl (Option.some.inj h).symm)
    · next f hf =>
      have hmem := List.mem_cons_of_mem a (ih hf)
      split at h
      · exact List.mem_cons.mpr (.inl (Option.some.inj h).symm)
      · split at h
        · exact Option.some.inj h ▸ hmem
        · split at h
          · exact List.mem_cons.mpr (.inl (Option.some.inj h).symm)
          · exact Option.some.inj h ▸ hmem

theorem State.pendingSources_lt {s : State} {k : Nat} (h : k ∈ s.pendingSources) : k < 1024 := by
  simp only [State.pendingSources, List.mem_flatMap, List.mem_range] at h
  obtain ⟨g, hg, hk⟩ := h
  split at hk
  · cases hk
  · obtain ⟨b, hb, rfl⟩ := List.mem_map.mp hk
    have hlt := List.mem_range.mp (List.mem_of_mem_filter hb)
    omega

theorem State.offered_src {s : State} {n k : Nat} {e : Ev} (h : s.offered n k = some e) : e.src = k := by
  unfold State.offered at h
  dsimp only at h
  split at h
  · rw [← Option.some.inj h]
  · cases h

/-- The event that a boundary takes is offered to the core, and the core may take it. -/
theorem State.dueEvent_some {s : State} {n : Nat} {e : Ev} (h : s.dueEvent n = some e) : e.src < 1024
    ∧ s.offered n e.src = some e ∧ e.may (s.core n).pl (s.core n).ie (s.core n).cpri = true := by
  obtain ⟨hmem, hmay⟩ := List.mem_filter.mp (Ev.first_mem h)
  obtain ⟨k, hk, hoff⟩ := List.mem_filterMap.mp hmem
  have hsrc := State.offered_src hoff
  rw [hsrc]
  exact ⟨State.pendingSources_lt hk, hoff, hmay⟩

/-- Of the pending exceptions the first is taken. -/
theorem Core.dueExc_first (c : Core) (m : MCheck) (ms : List MCheck) (va : Payload) (st : Nat) :
    (c.pfail = true → c.dueExc = some { code := 0x24 })
    ∧ (c.pfail = false → c.mcheck = m :: ms → c.dueExc = some { code := 0x21, sub := m.sub, eval := m.eval.toNat })
    ∧ (c.pfail = false → c.mcheck = [] → c.pteloc = [] → c.astore = some (va, st) →
        c.dueExc = some { code := 0x12, sub := st, eval := va.toNat }) := by
  refine ⟨fun hp => ?_, fun hp hm => ?_, fun hp hm hl ha => ?_⟩
  · rw [Core.dueExc, if_pos hp]
  · rw [Core.dueExc, if_neg (by rw [hp]; decide), hm]
  · rw [Core.dueExc, if_neg (by rw [hp]; decide), hm, hl, ha]

/-- The cause of a pending exception is one of five. -/
theorem Core.dueExc_code {c : Core} {e : Exc} (h : c.dueExc = some e) : e.code < 2 ^ 11 := by
  unfold Core.dueExc at h
  split at h
  · cases h; exact Nat.le_of_ble_eq_true rfl
  · split at h
    · cases h; exact Nat.le_of_ble_eq_true rfl
    · split at h
      · cases h; exact Nat.le_of_ble_eq_true rfl
      · split at h
        · cases h; exact Nat.le_of_ble_eq_true rfl
        · split at h
          · cases h; exact Nat.le_of_ble_eq_true rfl
          · cases h

theorem Core.dropDue_sameRegs (c : Core) : c.sameRegs c.dropDue := by
  unfold Core.dropDue
  refine ite_cases (P := c.sameRegs) (fun _ => Core.sameRegs.refl c) fun _ => ?_
  refine ite_cases (P := c.sameRegs) (fun _ => Core.sameRegs.refl c) fun _ => ?_
  refine ite_cases (P := c.sameRegs) (fun _ => Core.sameRegs.refl c) fun _ => ?_
  exact ite_cases (P := c.sameRegs) (fun _ => Core.sameRegs.refl c) fun _ => Core.sameRegs.refl c

theorem Core.idle.dropDue {c : Core} (h : c.idle) : c.dropDue.idle := by
  have hidle (p : Bool) (m : List MCheck) (l : List Payload) (a : Option (Payload × Nat)) (x : List (Payload × Nat)) :
      ({ c with pfail := p, mcheck := m, pteloc := l, astore := a, linkFault := x } : Core).idle :=
    ⟨h.delay, h.slot0, h.inflight, h.statPend, h.branches, h.atBoundary, h.ucHeld, h.resume, h.divLeft⟩
  unfold Core.dropDue
  refine ite_cases (P := Core.idle) (fun _ => hidle ..) fun _ => ?_
  refine ite_cases (P := Core.idle) (fun _ => hidle ..) fun _ => ?_
  refine ite_cases (P := Core.idle) (fun _ => hidle ..) fun _ => ?_
  exact ite_cases (P := Core.idle) (fun _ => hidle ..) fun _ => hidle ..

/-- What is still pending once the first exception has been taken. -/
theorem Core.dropDue_dues (c : Core) : c.dropDue.dues =
    if c.pfail then (false, c.mcheck, c.pteloc, c.astore, c.linkFault)
    else if c.mcheck ≠ [] then (false, c.mcheck.drop 1, c.pteloc, c.astore, c.linkFault)
    else if c.pteloc ≠ [] then (false, [], c.pteloc.drop 1, c.astore, c.linkFault)
    else if c.astore.isSome then (false, [], [], none, c.linkFault)
    else (false, [], [], none, c.linkFault.drop 1) := by
  have hnil {α : Type} {l : List α} (h : ¬ l ≠ []) : l = [] := not_not.mp h
  unfold Core.dropDue
  by_cases hp : c.pfail = true
  · simp only [if_pos hp]
    rfl
  have hp' : c.pfail = false := eq_false_of_ne_true hp
  by_cases hm : c.mcheck ≠ []
  · simp only [if_neg hp, if_pos hm]
    simp only [Core.dues, hp']
  by_cases hl : c.pteloc ≠ []
  · simp only [if_neg hp, if_neg hm, if_pos hl]
    simp only [Core.dues, hp', hnil hm]
  by_cases ha : c.astore.isSome = true
  · simp only [if_neg hp, if_neg hm, if_neg hl, if_pos ha]
    simp only [Core.dues, hp', hnil hm, hnil hl]
  · simp only [if_neg hp, if_neg hm, if_neg hl, if_neg ha]
    simp only [Core.dues, hp', hnil hm, hnil hl, Option.not_isSome_iff_eq_none.mp ha]

/-! ### Traps at a boundary, R465 to R470 -/

section boundary
variable {s : State} {n : Fin 16} (h : s.calm n = true)
include h

theorem State.calm_takes : ¬ ((s.core n).shut = true ∨ s.heldAtTs n = true) := by
  simp only [State.calm, Bool.and_eq_true, Bool.not_eq_true'] at h
  obtain ⟨⟨⟨⟨⟨⟨⟨⟨⟨⟨hshut, hheld⟩, _⟩, _⟩, _⟩, _⟩, _⟩, _⟩, _⟩, _⟩, _⟩ := h
  simp [hshut, hheld]

theorem exec_trapEntry_boundary : exec (.trapEntry n .boundary) s = .next (boundaryTrap n s) :=
  congrArg ok (if_neg (State.calm_takes h))

theorem exec_trapEntry_micro (mpc : BitVec 13) (m0 m1 : Word) :
    exec (.trapEntry n (.micro mpc m0 m1)) s = .next (microTrap n mpc.toNat m0 m1 s) :=
  congrArg ok (if_neg (State.calm_takes h))

theorem exec_trapEntry_microFault (check : Bool) (mpc : BitVec 13) : exec (.trapEntry n (.microFault check mpc)) s
    = .next (if check ∨ ¬ (UcUnit.lantern n).has mpc.toNat then microFaultTrap n check mpc.toNat s else s) :=
  congrArg ok (if_neg (State.calm_takes h))

theorem boundaryTrap_due (hdue : s.trapDue n = true) :
    boundaryTrap n s = takeDue n none (s.setCore n (s.core n)) := by
  have hidle := State.calm_idle h
  have hcore : (s.setCore n (s.core n)).core n = s.core n := by rw [State.setCore_core, if_pos rfl]
  have hdue' : (s.setCore n (s.core n)).trapDue n = true := by
    simpa [State.trapDue, State.dueEvent, hcore, State.setCore_eventFor] using hdue
  unfold boundaryTrap
  rw [hidle.dueStat]
  simp [hcore, hidle.delay, hdue']

end boundary

/-! ### An exception that waited for the boundary -/

section due
variable {s : State} {n : Nat}

theorem takeDue_exc (hidle : (s.core n).idle) {e : Exc} (hexc : (s.core n).dueExc = some e) :
    takeDue n none s = trapTo n (s.faultTrap n e) s (s.setCore n (s.core n).dropDue) := by
  simp only [takeDue, hexc, Core.faultRa, hidle.delay]
  rfl

/-- The trap of an event. -/
theorem takeDue_event (hidle : (s.core n).idle) (hexc : (s.core n).dueExc = none) {e : Ev} (hev : s.dueEvent n = some e)
    (micro : Option (Nat × Word × Word)) : takeDue n micro s
      = trapTo n { eventTrap e (s.core n).pc false with micro := micro } s s := by
  simp only [takeDue, hexc, hev, Core.faultRa, hidle.delay]

theorem State.stilled_dues (hidle : (s.core n).idle) (hdet : (s.core n).det = true) :
    (s.stilled n).dues = (s.core n).dues := by
  rw [State.stilled, wrongPath_det s n hdet]
  exact hidle.quiet_dues

end due

section boundary
variable {s : State} {n : Fin 16} (h : s.calm n = true)
include h

/-- The boundary takes the first pending exception, which is then pending no more. -/
theorem boundary_takes_exc {e : Exc} (hexc : (s.core n).dueExc = some e)
    (hframed : s.framed n (s.causeLevel n e.code)) : ∃ t, exec (.trapEntry n .boundary) s = .next t ∧ s.trapped t n (s.faultTrap n e)
      ∧ ((s.core n).det = true → (t.core n).dues = (s.core n).dropDue.dues) := by
  have hidle := State.calm_idle h
  have hdrop := (s.core n).dropDue_sameRegs
  have hcore : (s.setCore n (s.core n).dropDue).core n = (s.core n).dropDue := by rw [State.setCore_core, if_pos rfl]
  have haside : s.aside (s.setCore n (s.core n)) n := s.setCore_aside ⟨(s.core n).fbuf, rfl⟩
  have hself : (s.setCore n (s.core n)).core n = s.core n := by rw [State.setCore_core, if_pos rfl]
  have hidle' : ((s.setCore n (s.core n).dropDue).core n).idle := hcore.symm ▸ hidle.dropDue
  have hsame : (s.core n).sameRegs ((s.setCore n (s.core n).dropDue).core n) := hcore.symm ▸ hdrop
  have hframed' : (s.setCore n (s.core n).dropDue).framed n (s.faultTrap n e).lvl :=
    State.framed_of_sameRegs hframed hsame
  have hentry : boundaryTrap n s = (s.faultTrap n e).clear ((s.setCore n (s.core n).dropDue).enteredState n
      (s.faultTrap n e)) := by
    rw [boundaryTrap_due h (by simp [State.trapDue, hexc]), takeDue_exc (hself.symm ▸ hidle) (hself.symm ▸ hexc),
      haside.faultTrap, hself, State.setCore_setCore, trapTo_enters hidle' hframed']
  have htrapped := State.entered_trapped (k := s.faultTrap n e) hidle' hframed' (Core.dueExc_code hexc)
    (fun _ he => nomatch he)
  refine ⟨_, (exec_trapEntry_boundary h).trans (congrArg ok hentry), htrapped.of_sameRegs hsame rfl rfl
    (fun m hm => by rw [State.setCore_core, if_neg hm]) (fun _ _ => ⟨rfl, fun _ _ => rfl⟩), fun hdet => ?_⟩
  rw [clear_entered_core, entered_dues, State.stilled_dues hidle' (hcore.symm ▸ hdrop.det.trans hdet), hcore]

end boundary

/-! ### An event -/

/-- The trap of an event at a micro-state, which is the one of the boundary for all but EMSTATE. -/
theorem State.trapped.of_micro {s t : State} {n : Nat} {k k' : Trap} {m : Option (Nat × Word × Word)}
    (h : s.trapped t n k) (hk : k = { k' with micro := m }) : s.trapped t n k' := by
  subst hk
  exact h

section event
variable {s : State} {n : Nat} {e : Ev} (hidle : (s.core n).idle) (hexc : (s.core n).dueExc = none)
  (hev : s.dueEvent n = some e) (hframed : s.framed n e.lvl)
include hidle hexc hev hframed

/-- An event that a boundary takes, inside a routine or between instructions. -/
theorem takeDue_event_trapped (m : Option (Nat × Word × Word)) {k : Trap}
    (hk : k = { eventTrap e (s.core n).pc false with micro := m }) :
    takeDue n m s = k.clear (s.enteredState n k) ∧ s.trapped (takeDue n m s) n k := by
  obtain ⟨hsrc, -⟩ := State.dueEvent_some hev
  have hframed' : s.framed n k.lvl := by rw [hk]; exact hframed
  have hhidx : k.hidx < 2 ^ 11 := by rw [hk]; exact Nat.lt_of_lt_of_le (Nat.add_lt_add_left hsrc 64) (by decide)
  have hsrc' : ∀ e', k.ev = some e' → e'.src < 1024 := by
    rw [hk]
    rintro _ ⟨⟩
    exact hsrc
  have hentry : takeDue n m s = k.clear (s.enteredState n k) := by
    rw [takeDue_event hidle hexc hev, ← hk, trapTo_enters hidle hframed']
  exact ⟨hentry, hentry ▸ State.entered_trapped hidle hframed' hhidx hsrc'⟩

omit hidle hexc hev hframed

/-- In deterministic mode an event taken clears its own pending bit. -/
theorem clear_event_isPending {k : Trap} (hk : k.ev = some e) (hlog : k.hidx ∉ [0x0D, 0x12, 0x20, 0x21, 0x22])
    (hdet : (s.core n).det = true) (hheld : s.holdsPending e.src = false) :
    (k.clear (s.enteredState n k)).isPending e.src = false
      ∧ ∀ j, j ≠ e.src → (k.clear (s.enteredState n k)).isPending j = s.isPending j := by
  obtain ⟨r, m, hrest⟩ := enteredState_rest (k := k) hdet hlog
  have hclear : k.clear (s.enteredState n k) = unraise e.src (s.enteredState n k) := by rw [Trap.clear, hk]
  have hregs : (s.enteredState n k).regs = s.regs := by rw [hrest]
  obtain ⟨hcleared, hothers⟩ := unraise_isPending ((State.holdsPending_of_regs hregs e.src).trans hheld)
  rw [hclear]
  exact ⟨hcleared, fun j hj => (hothers j hj).trans (State.isPending_of_regs hregs j)⟩

/-- EMSTATE after an entry at a boundary. -/
theorem clear_entered_emstate {k : Trap} (hk : k.micro = none) (hidle : (s.core n).idle) :
    ((k.clear (s.enteredState n k)).core n).srN 16 = setBits ((s.core n).srN 16) 13 1 0 := by
  have hsr : ((k.clear (s.enteredState n k)).core n).srW 16
      = ⟨(srReset 16).tag, BitVec.ofNat 48 (setBits ((s.stilled n).srN 16) 13 1 0)⟩ := by
    rw [clear_entered_core, entered_srW_of_em]
    iterate 6 rw [if_neg (by decide)]
    rw [emAtEntry_boundary _ k hk, Core.putW_srN]
  rw [Core.srN_of_srW hsr (setBits_lt _ _ _ _ _ (Core.srN_lt _ _) (by decide)),
    (s.stilled_sameRegs hidle).srN (by decide)]

/-- What a micro-trap leaves in EMSTATE and the micro-temporaries. -/
theorem clear_entered_micro {k : Trap} {mpc : BitVec 13} {m0 m1 : Word} (hk : k.micro = some (mpc.toNat, m0, m1)) :
    ((k.clear (s.enteredState n k)).core n).srN 16 = mpc.toNat + 2 ^ 13
      ∧ ((k.clear (s.enteredState n k)).core n).srW 17 = m0 ∧ ((k.clear (s.enteredState n k)).core n).srW 18 = m1 := by
  obtain ⟨h16, h17, h18⟩ := entered_micro (s.frameAt n k.lvl) (s.stilled n) k hk
  rw [← clear_entered_core] at h16 h17 h18
  have hmpc := mpc.isLt
  refine ⟨?_, h17, h18⟩
  rw [Core.srN_of_srW h16 (by omega), Nat.mod_eq_of_lt hmpc]

end event

section boundary
variable {s : State} {n : Fin 16} (h : s.calm n = true) {e : Ev} (hexc : (s.core n).dueExc = none)
  (hev : s.dueEvent n = some e) (hframed : s.framed n e.lvl)
include h hexc hev hframed

theorem boundary_takes_event : ∃ t, exec (.trapEntry n .boundary) s = .next t
    ∧ s.trapped t n { hidx := 64 + e.src, lvl := e.lvl, ev := some e, ra := (s.core n).pc }
    ∧ ((s.core n).det = true → s.holdsPending e.src = false → t.isPending e.src = false
      ∧ ∀ k, k < 1024 → k ≠ e.src → t.isPending k = s.isPending k)
    ∧ (t.core n).srN 16 = setBits ((s.core n).srN 16) 13 1 0 := by
  have hidle := State.calm_idle h
  have haside : s.aside (s.setCore n (s.core n)) n := s.setCore_aside ⟨(s.core n).fbuf, rfl⟩
  have hself : (s.setCore n (s.core n)).core n = s.core n := by rw [State.setCore_core, if_pos rfl]
  have hev' : (s.setCore n (s.core n)).dueEvent n = some e := by
    rw [← hev, State.dueEvent, hself]
    rfl
  obtain ⟨hentry, htrapped⟩ := takeDue_event_trapped (hself.symm ▸ hidle) (hself.symm ▸ hexc) hev'
    (haside.framed hframed) none rfl
  have hdue := boundaryTrap_due h (by simp [State.trapDue, hexc, hev])
  have hlog : 64 + e.src ∉ [0x0D, 0x12, 0x20, 0x21, 0x22] := by
    simp only [List.mem_cons, List.not_mem_nil, or_false]
    omega
  refine ⟨_, (exec_trapEntry_boundary h).trans (congrArg ok hdue), ?_, fun hdet hheld => ?_, ?_⟩
  · have htrap := haside.trapped htrapped
    rw [hself] at htrap
    exact htrap
  · rw [hentry]
    obtain ⟨hcleared, hothers⟩ := clear_event_isPending (k := { eventTrap e ((s.setCore n (s.core n)).core n).pc false
      with micro := none }) (s := s.setCore n (s.core n)) (n := n) rfl hlog (hself.symm ▸ hdet) hheld
    exact ⟨hcleared, fun k _ hk => hothers k hk⟩
  · rw [hentry, clear_entered_emstate rfl (hself.symm ▸ hidle), hself]

/-- Inside RET the event is taken at the micro-address, and the micro-state is saved. -/
theorem micro_takes_event {mpc : BitVec 13} (m0 m1 : Word) (hmpc : mpc.toNat < 0x1200)
    (hret : s.instrNow n = some (.ret n)) : ∃ t, exec (.trapEntry n (.micro mpc m0 m1)) s = .next t
      ∧ s.trapped t n { hidx := 64 + e.src, lvl := e.lvl, ev := some e, ra := (s.core n).pc }
      ∧ (t.core n).srN 16 = mpc.toNat + 2 ^ 13 ∧ (t.core n).srW 17 = m0 ∧ (t.core n).srW 18 = m1 := by
  have hidle := State.calm_idle h
  have hhas : (UcUnit.lantern n).has mpc.toNat = true := decide_eq_true hmpc
  have hdue : s.trapDue n = true := by simp [State.trapDue, hexc, hev]
  have hmicro : microTrap n mpc.toNat m0 m1 s = takeDue n (some (mpc.toNat, m0, m1)) s := by
    simp [microTrap, hdue, hidle.delay, hhas, hret, microPart]
  obtain ⟨hentry, htrapped⟩ := takeDue_event_trapped hidle hexc hev hframed (some (mpc.toNat, m0, m1)) rfl
  refine ⟨_, (exec_trapEntry_micro h mpc m0 m1).trans (congrArg ok hmicro), htrapped.of_micro rfl, ?_⟩
  rw [hentry]
  exact clear_entered_micro rfl

end boundary

section boundary
variable {s : State} {n : Fin 16} (h : s.calm n = true)
include h

/-- DADD is no routine: a micro-trap command finds no boundary inside it. -/
theorem micro_outside_routine (mpc : BitVec 13) (m0 m1 : Word) {d a b : RegNo}
    (hdadd : s.instrNow n = some (.dadd n d a b)) : exec (.trapEntry n (.micro mpc m0 m1)) s = .next s := by
  rw [exec_trapEntry_micro h]
  simp [microTrap, hdadd, microPart]

/-! ### A failed micro-fetch -/

omit h

/-- The causes from 0x20 on are taken at M. -/
theorem State.causeLevel_async {code : Nat} (hcode : 0x20 ≤ code) : s.causeLevel n code = .m :=
  if_neg fun ⟨hlt, _⟩ => absurd hlt (Nat.not_lt.mpr hcode)

/-- The entry for the log and the free values leave the cores, the memories and all else but registers. -/
def microFaulted (check : Bool) (mpc : Nat) (s : State) : State :=
  (logMicroFault check mpc s).freeNat.2.freeNat.2.freeNat.2

theorem microFaulted_same (check : Bool) (mpc : Nat) (s : State) : (microFaulted check mpc s).cores = s.cores
    ∧ (microFaulted check mpc s).niche = s.niche ∧ (microFaulted check mpc s).mem = s.mem := by
  simp [microFaulted, logMicroFault]

/-- The machine check of a failed micro-fetch, at its micro-address. -/
def State.microFaultOf (s : State) (n mpc : Nat) (m0 m1 : Word) : Trap :=
  { s.faultTrap n { code := 0x21, sub := 2, eval := mpc } with micro := some (mpc, m0, m1) }

theorem microFaultTrap_eq (check : Bool) (mpc : Nat) (hidle : (s.core n).idle) : ∃ m0 m1,
    microFaultTrap n check mpc s = trapTo n (s.microFaultOf n mpc m0 m1) s (microFaulted check mpc s) := by
  have hcore : (logMicroFault check mpc s).core n = s.core n := State.core_congr (by simp [logMicroFault]) n
  have htrap : excTrap n (excMicro mpc) ((logMicroFault check mpc s).core n).faultRa.1
      ((logMicroFault check mpc s).core n).faultRa.2 (logMicroFault check mpc s)
        = s.faultTrap n { code := 0x21, sub := 2, eval := mpc } := by
    have hm (u : State) : u.causeLevel n (excMicro mpc).code = .m := State.causeLevel_async (Nat.le_succ 32)
    have hm' : s.causeLevel n ({ code := 0x21, sub := 2, eval := mpc } : Exc).code = .m := hm s
    rw [hcore, Core.faultRa, hidle.delay, State.faultTrap, excTrap, excTrap, hm, hm']
    rfl
  refine ⟨freeMt (logMicroFault check mpc s).freeNat.2.freeNat.1,
    freeMt (logMicroFault check mpc s).freeNat.2.freeNat.2.freeNat.1, ?_⟩
  rw [microFaultTrap, microExc]
  dsimp only
  rw [htrap]
  rfl

include h

theorem exec_microFault_none {check : Bool} {mpc : BitVec 13} (hcheck : check = false) (hmpc : mpc.toNat < 0x1200) :
    exec (.trapEntry n (.microFault check mpc)) s = .next s := by
  have hhas : (UcUnit.lantern n).has mpc.toNat = true := decide_eq_true hmpc
  rw [exec_trapEntry_microFault h, if_neg (by simp [hcheck, hhas])]

theorem exec_microFault_traps {check : Bool} {mpc : BitVec 13} (hfail : check = true ∨ 0x1200 ≤ mpc.toNat)
    (hframed : s.framed n .m) : ∃ t, exec (.trapEntry n (.microFault check mpc)) s = .next t
      ∧ s.trapped t n (s.faultTrap n { code := 0x21, sub := 2, eval := mpc.toNat })
      ∧ (t.core n).srN 16 = mpc.toNat + 2 ^ 13 := by
  have hidle := State.calm_idle h
  have hfault : check = true ∨ ¬ (UcUnit.lantern n).has mpc.toNat = true :=
    hfail.imp_right fun hge hhas => absurd (of_decide_eq_true hhas) (Nat.not_lt.mpr hge)
  obtain ⟨hcores, hniche, hmem⟩ := microFaulted_same check mpc.toNat s
  have hcore := fun m => State.core_congr hcores m
  have hsame : (s.core n).sameRegs ((microFaulted check mpc.toNat s).core n) := hcore n ▸ Core.sameRegs.refl _
  have hidle' : ((microFaulted check mpc.toNat s).core n).idle := hcore n ▸ hidle
  obtain ⟨m0, m1, htrap⟩ := microFaultTrap_eq check mpc.toNat hidle
  generalize hk : s.microFaultOf n mpc.toNat m0 m1 = k at htrap
  replace hk := hk.symm
  have hlvl : k.lvl = .m := by
    rw [hk]
    exact State.causeLevel_async (s := s) (n := n) (code := 0x21) (by decide)
  have hhidx : k.hidx = 0x21 := by rw [hk]; rfl
  have hev : k.ev = none := by rw [hk]; rfl
  have hmicro : k.micro = some (mpc.toNat, m0, m1) := by rw [hk]; rfl
  have hframed' : (microFaulted check mpc.toNat s).framed n k.lvl :=
    hlvl ▸ State.framed_of_sameRegs hframed hsame
  have htrapped := State.entered_trapped (k := k) hidle' hframed' (by rw [hhidx]; decide)
    (fun e he => by simp [hev] at he)
  have hs := htrapped.of_sameRegs hsame hniche hmem (fun m _ => hcore m) (fun _ hlog => absurd (by simp [hhidx]) hlog)
  refine ⟨_, (exec_trapEntry_microFault h check mpc).trans (congrArg ok ((if_pos hfault).trans htrap)), ?_⟩
  rw [trapTo_enters hidle' hframed']
  obtain ⟨hem, -⟩ := clear_entered_micro (s := microFaulted check mpc.toNat s) (n := n) hmicro
  exact ⟨hs.of_micro hk, hem⟩

end boundary

/-! ### The fetch of the instruction at the boundary, R387 to R389 and R478 -/

/-- An exception of the instruction at the PC of an idle core. -/
theorem raiseExc_trapped {s u : State} {n : Nat} (hu : s.aside u n) (hidle : (s.core n).idle) {e : Exc}
    (hcode : e.code < 2 ^ 11) (hframed : s.framed n (s.causeLevel n e.code)) (s0 : State) :
    s.trapped (raiseExc n e s0 u) n (s.faultTrap n e) := by
  have hidle' := hu.idle hidle
  have htrap : excTrap n e (u.core n).pc false u = s.faultTrap n e := hu.faultTrap e
  have hframed' : u.framed n (s.faultTrap n e).lvl := hu.framed hframed
  rw [raiseExc, Core.faultRa, hidle'.delay]
  dsimp only
  rw [htrap, trapTo_enters hidle' hframed']
  exact hu.trapped (State.entered_trapped hidle' hframed' hcode fun _ he => nomatch he)

section fetch
variable {s : State} {n : Fin 16} (h : s.calm n = true) (hdue : s.trapDue n = false) (hw : (s.core n).waiting = false)
include h hdue hw

/-- With nothing due a boundary only fetches. -/
theorem boundaryTrap_fetched {u : State} (hp : fetchProbe n (s.setCore n (s.core n)) = .got none u) :
    boundaryTrap n s = u := by
  have hcore : (s.setCore n (s.core n)).core n = s.core n := by rw [State.setCore_core, if_pos rfl]
  have hdue' : (s.setCore n (s.core n)).trapDue n = false := by
    simpa [State.trapDue, State.dueEvent, hcore, State.setCore_eventFor] using hdue
  unfold boundaryTrap
  rw [(State.calm_idle h).dueStat]
  simp [hcore, hdue', hw, hp]

theorem boundaryTrap_fault {e : Exc} {u : State} (hp : fetchProbe n (s.setCore n (s.core n)) = .got (some e) u) :
    boundaryTrap n s = fetchTrap n e (s.setCore n (s.core n)) u := by
  have hcore : (s.setCore n (s.core n)).core n = s.core n := by rw [State.setCore_core, if_pos rfl]
  have hdue' : (s.setCore n (s.core n)).trapDue n = false := by
    simpa [State.trapDue, State.dueEvent, hcore, State.setCore_eventFor] using hdue
  unfold boundaryTrap
  rw [(State.calm_idle h).dueStat]
  simp [hcore, hdue', hw, hp]

variable (hte : (s.core n).te = false) (hcopy : (s.core n).copyOf ((s.core n).pc.toNat / 4 * 4) 0 = none)
include hte hcopy

/-- Untranslated, a PC above the physical addresses is an address fault at M. -/
theorem boundary_addressFault (hpl : (s.core n).pl = .m) (hentered : (s.core n).entered = none)
    (hpc : 2 ^ 42 ≤ (s.core n).pc.toNat) (hframed : s.framed n (s.causeLevel n 7)) :
    ∃ t, exec (.trapEntry n .boundary) s = .next t
      ∧ s.trapped t n (s.faultTrap n { code := 7, eval := (s.core n).pc.toNat }) := by
  have hcore : (s.setCore n (s.core n)).core n = s.core n := by rw [State.setCore_core, if_pos rfl]
  have haside : s.aside (s.setCore n (s.core n)) n := s.setCore_aside ⟨(s.core n).fbuf, rfl⟩
  have hhigh : 2 ^ 42 ≤ (s.core n).pc.toNat / 4 * 4 := by omega
  have htr : translate n .fetch ((s.core n).pc.toNat / 4 * 4) (s.setCore n (s.core n))
      = .exc { code := 7, eval := (s.core n).pc.toNat / 4 * 4 } (s.setCore n (s.core n)) := by
    simp [translate, untranslated, hcore, hte, hpl]
    exact hhigh
  have hprobe : fetchProbe n (s.setCore n (s.core n))
      = .got (some { code := 7, eval := (s.core n).pc.toNat }) (s.setCore n (s.core n)) := by
    simp [fetchProbe, hcore, hcopy, htr]
  have hfetch : fetchTrap n { code := 7, eval := (s.core n).pc.toNat } (s.setCore n (s.core n)) (s.setCore n (s.core n))
      = raiseExc n { code := 7, eval := (s.core n).pc.toNat } (s.setCore n (s.core n)) (s.setCore n (s.core n)) := by
    simp [fetchTrap, hcore, hentered]
  exact ⟨_, (exec_trapEntry_boundary h).trans (congrArg ok ((boundaryTrap_fault h hdue hw hprobe).trans hfetch)),
    raiseExc_trapped (e := { code := 7, eval := (s.core n).pc.toNat }) haside (State.calm_idle h)
      (Nat.le_of_ble_eq_true rfl) hframed _⟩

omit hte in
/-- From niche memory an instruction is fetched, and its word kept. -/
theorem boundary_fetches {w : Word} (hniche : s.nicheAt n ((s.core n).pc.toNat / 4 * 4) = true)
    (hclean : decodeContainer (s.nicheCont n ((s.core n).pc.toNat / 4 * 4)) = .clean w) (htag : w.tag = Tags.code)
    (hdecode : (decodeAt n false ((s.core n).pc.toNat % 4 == 2) w.pay.toNat).isSome = true) :
    ∃ l, exec (.trapEntry n .boundary) s = .next (s.setCore n { s.core n with fbuf := l }) := by
  have hcore : (s.setCore n (s.core n)).core n = s.core n := by rw [State.setCore_core, if_pos rfl]
  have haside : s.aside (s.setCore n (s.core n)) n := s.setCore_aside ⟨(s.core n).fbuf, rfl⟩
  have hfetch : fetchWord n (nichePath ((s.core n).pc.toNat / 4 * 4)) (s.setCore n (s.core n))
      = .got { st := .ok, w := w } (s.setCore n (s.core n)) := by
    simp [fetchWord, nichePath, nicheOp, nicheRead_clean ((congrArg decodeContainer (haside.nicheCont _)).trans hclean)]
  have hcheck : codeCheck n (s.core n).pc.toNat { st := .ok, w := w } = none := by
    simp [codeCheck, htag, Option.isSome_iff_ne_none.mp hdecode]
  have hprobe : fetchProbe n (s.setCore n (s.core n)) = .got none
      (readCopy n (s.core n).pc.toNat { st := .ok, w := w } (s.setCore n (s.core n))) := by
    simp [fetchProbe, hcore, hcopy, translate_niche hniche haside, hfetch, hcheck]
  have hkeep : ∃ l, readCopy n (s.core n).pc.toNat { st := .ok, w := w } (s.setCore n (s.core n))
      = s.setCore n { s.core n with fbuf := l } := by
    unfold readCopy
    rw [if_neg (by simp)]
    dsimp only
    rw [State.setCore_setCore, hcore]
    split
    · exact ⟨_, rfl⟩
    · exact ⟨_, rfl⟩
  obtain ⟨l, hl⟩ := hkeep
  exact ⟨l, (exec_trapEntry_boundary h).trans (congrArg ok ((boundaryTrap_fetched h hdue hw hprobe).trans hl))⟩

end fetch

/-! ### Exceptions at the instruction, R459 -/

section instr
variable {s : State} {n : Nat} {i : Shape} {e : Exc}

/-- An instruction that issues at once and whose work raises an exception. -/
theorem runInstr_traps (h : s.ready n i.sz = true) (hi : i.plain) (hlog : e.code ∉ [0x0D, 0x12, 0x20, 0x21, 0x22])
    (hcode : e.code < 2 ^ 11) (hframed : s.framed n (s.causeLevel n e.code)) {go : State → Out}
    (hgo : ∀ u, s.aside u n → go u = .exc e u) : s.trapped (runInstr n i go s) n (s.faultTrap n e) := by
  have hu := openCycle_aside h i.kind
  have hroutine : i.routine = none := by rw [hi]
  rw [runInstr_ready h hi, hgo _ hu]
  exact instrExc_trapped hu (State.ready_idle h) hroutine hlog hcode hframed s

theorem runReg_traps (h : s.ready n i.sz = true) (hi : i.plain) (hlog : e.code ∉ [0x0D, 0x12, 0x20, 0x21, 0x22])
    (hcode : e.code < 2 ^ 11) (hframed : s.framed n (s.causeLevel n e.code)) {go : Core → Chk Eff}
    (hgo : ∀ f, go ((s.core n).withCopies f) = .error e) : s.trapped (runReg n i go s) n (s.faultTrap n e) := by
  refine runInstr_traps h hi hlog hcode hframed fun u hu => ?_
  obtain ⟨f, hf⟩ := hu.own
  rw [hf, hgo f]

end instr

section operands
variable {ok : List Tag} {x y : Word}

theorem operand_not_mem (h : x.tag ∉ ok) (k : Nat) : operand ok k x = .error (excTag k x.tag) := if_neg h

theorem intOp_first_bad (h : x.tag ∉ ok) (dist : Nat) (f : Payload → Payload → Payload) (d : RegNo) (c : Core) :
    intOp ok dist f d x y c = .error (excTag 0 x.tag) := by
  rw [intOp, operand_not_mem h]
  rfl

theorem intOp_second_bad (hx : x.tag ∈ ok) (h : y.tag ∉ ok) (dist : Nat) (f : Payload → Payload → Payload) (d : RegNo)
    (c : Core) : intOp ok dist f d x y c = .error (excTag 1 y.tag) := by
  rw [intOp, operand_mem hx, operand_not_mem h]
  rfl

end operands

section rows
variable {s : State} {n : Fin 16}

/-- AND of an operand that is no word. -/
theorem exec_and_tagFault (h : s.ready n 2 = true) (hframed : s.framed n (s.causeLevel n 5)) (d a b : RegNo) :
    (((s.core n).getW a).tag ∉ wordTags → ∃ t, exec (.and n d a b) s = .next t
      ∧ s.trapped t n (s.faultTrap n { code := 5, sub := ((s.core n).getW a).tag.toNat }))
    ∧ (((s.core n).getW a).tag ∈ wordTags → ((s.core n).getW b).tag ∉ wordTags → ∃ t, exec (.and n d a b) s = .next t
      ∧ s.trapped t n (s.faultTrap n { code := 5, sub := ((s.core n).getW b).tag.toNat + 16 })) :=
  ⟨fun ha => ⟨_, rfl, runReg_traps (i := alu24) (e := excTag 0 ((s.core n).getW a).tag) h rfl (by simp [excTag])
      (Nat.le_of_ble_eq_true rfl) hframed fun _ => intOp_first_bad ha _ _ _ _⟩,
    fun ha hb => ⟨_, rfl, runReg_traps (i := alu24) (e := excTag 1 ((s.core n).getW b).tag) h rfl (by simp [excTag])
      (Nat.le_of_ble_eq_true rfl) hframed fun _ => intOp_second_bad ha hb _ _ _ _⟩⟩

/-- LW of a misaligned address. -/
theorem exec_lw_alignFault (h : s.ready n 2 = true) (d : RegNo) {a : RegNo} {k : BitVec 5}
    (htag : ((s.core n).getW a).tag ∈ addrTags) (hal : addrOf ((s.core n).getW a).pay (4 * k.toNat) % 4 ≠ 0)
    (hframed : s.framed n (s.causeLevel n 6)) : ∃ t, exec (.lw n (.short d a k)) s = .next t
      ∧ s.trapped t n (s.faultTrap n { code := 6, eval := addrOf ((s.core n).getW a).pay (4 * k.toNat) }) := by
  refine ⟨_, rfl, runInstr_traps (i := mem24) (e := excAlign (addrOf ((s.core n).getW a).pay (4 * k.toNat))) h rfl
    (by simp [excAlign]) (Nat.le_of_ble_eq_true rfl) hframed fun u hu => ?_⟩
  obtain ⟨f, hf⟩ := hu.own
  have haddr : baseAddr (u.core n) a (4 * k.toNat) = .ok (addrOf ((s.core n).getW a).pay (4 * k.toNat)) := by
    rw [hf]
    exact baseAddr_mem htag _
  simp [haddr, loadInstr, hal]

/-- A cycle opens for an instruction that may issue on an idle core. -/
theorem openCycle_idle_aside (hidle : (s.core n).idle) (k : Kind) :
    s.aside (codeFreeze n (openCycle n k (s.setCore n (s.core n)))) n := by
  have hcore : (s.setCore n (s.core n)).core n = s.core n := by rw [State.setCore_core, if_pos rfl]
  refine State.aside.trans ?_ (codeFreeze_aside n _)
  unfold openCycle
  rw [hcore, hidle.dueStat, hidle.slotFor]
  exact ((s.setCore_aside ⟨_, rfl⟩).trans (State.bump_aside _ (by simp [countRegs]) _ _)).trans
    (State.setCore_aside _ ⟨(s.core n).fbuf, by simp [Core.withCopies]⟩)

/-- An instruction that its checks refuse. -/
theorem issueWith_refused {i : Shape} (hidle : (s.core n).idle) (hmay : (s.setCore n (s.core n)).mayIssue n = true)
    (hstat : i.takeStat (s.core n) = s.core n) {e : Exc} (hcheck : i.check (s.core n) = some e) {α : Type}
    (go : State → α) (fin : α → State → State) :
    ∃ u, s.aside u n ∧ issueWith n i noEarly go fin s = raiseExc n e s u := by
  have hcore : (s.setCore n (s.core n)).core n = s.core n := by rw [State.setCore_core, if_pos rfl]
  refine ⟨_, (openCycle_idle_aside hidle i.kind).trans (countIssue_aside n
    ((codeFreeze n (openCycle n i.kind (s.setCore n (s.core n)))).core n).slot0.isSome _), ?_⟩
  unfold issueWith
  simp [hstat, hmay, hcore, Core.annulled, hidle.delay, noEarly, hcheck]

theorem runReg_refused {i : Shape} (hidle : (s.core n).idle) (hmay : (s.setCore n (s.core n)).mayIssue n = true)
    (hstat : i.takeStat (s.core n) = s.core n) {e : Exc} (hcheck : i.check (s.core n) = some e) (go : Core → Chk Eff) :
    ∃ u, s.aside u n ∧ runReg n i go s = raiseExc n e s u := issueWith_refused hidle hmay hstat hcheck _ _

theorem State.calm_mayIssue (h : s.calm n = true) (hdue : s.trapDue n = false) (hw : (s.core n).waiting = false) :
    (s.setCore n (s.core n)).mayIssue n = true := by
  have hcore : (s.setCore n (s.core n)).core n = s.core n := by rw [State.setCore_core, if_pos rfl]
  obtain ⟨hshut, hheld⟩ : (s.core n).shut = false ∧ s.heldAtTs n = false := by
    simpa [not_or] using State.calm_takes h
  have hdue' : (s.setCore n (s.core n)).trapDue n = false := by
    simpa [State.trapDue, State.dueEvent, hcore, State.setCore_eventFor] using hdue
  have hheld' : (s.setCore n (s.core n)).heldAtTs n = false := by simpa [State.heldAtTs, hcore] using hheld
  simp [State.mayIssue, hcore, hshut, hw, hheld', hdue']

/-- A 48-bit instruction where only a 24-bit one may stand. -/
theorem exec_li_pcFault (h : s.calm n = true) (hdue : s.trapDue n = false) (hw : (s.core n).waiting = false)
    (hpc : (s.core n).pc.toNat % 4 ≠ 0) (hframed : s.framed n (s.causeLevel n 1)) (d : RegNo) (imm : BitVec 34) :
    ∃ t, exec (.li n d imm) s = .next t
      ∧ s.trapped t n (s.faultTrap n { code := 1, eval := (s.core n).pc.toNat }) := by
  have hidle := State.calm_idle h
  have hcheck : alu48.check (s.core n) = some (excIll (s.core n).pc.toNat) := if_pos ⟨rfl, hpc⟩
  obtain ⟨u, hu, hrun⟩ := runReg_refused hidle (State.calm_mayIssue h hdue hw) (i := alu48) hidle.dueStat hcheck
    fun c => .ok { writes := resW c d (Word.int (imm.signExtend 48)) }
  exact ⟨_, congrArg ok hrun, raiseExc_trapped (e := excIll (s.core n).pc.toNat) hu hidle (Nat.le_of_ble_eq_true rfl)
    hframed s⟩

end rows

/-- Settles O54: a trap at a boundary is an entry whose frame finds room, which `State.entered_trapped` says once for
every trap; what remains is which trap a command takes, and from which state. -/
theorem trapEntries : Obligations.TrapEntries := by
  unfold Obligations.TrapEntries
  refine ⟨?_, Core.dueExc_first, ?_, ?_, ?_, ?_, ?_⟩
  · rintro n e s c rfl h hexc hframed
    obtain ⟨t, hnext, htrapped, hdues⟩ := boundary_takes_exc h hexc hframed
    exact ⟨t, hnext, htrapped, fun hdet => (hdues hdet).trans (s.core n).dropDue_dues⟩
  · rintro n e mpc m0 m1 s c rfl h hexc hev hframed
    obtain ⟨-, hoffered, hmay⟩ := State.dueEvent_some hev
    exact ⟨hoffered, hmay, boundary_takes_event h hexc hev hframed,
      fun hmpc hret => micro_takes_event h hexc hev hframed m0 m1 hmpc hret,
      fun _ _ _ hdadd => micro_outside_routine h mpc m0 m1 hdadd⟩
  · exact fun n check mpc s h => ⟨exec_microFault_none h, exec_microFault_traps h⟩
  · rintro n s c rfl h hdue hw hte hcopy
    exact ⟨boundary_addressFault h hdue hw hte hcopy, fun w => boundary_fetches h hdue hw hcopy⟩
  · rintro n d a b s c rfl h hframed
    exact exec_and_tagFault h hframed d a b
  · rintro n d a k imm s c rfl
    exact ⟨fun h htag hal hframed => exec_lw_alignFault h d htag hal hframed,
      fun h hdue hw hpc hframed => exec_li_pcFault h hdue hw hpc hframed d imm⟩

end Sys2Proof.Machine
end
